-- ==== Sys2Proof/Word.lean ====
section
/-! DEFINITION. The word and byte types (R33, R40) and their plainest reading. -/

namespace Sys2Proof

/-- A register word: 18 bits (R33). -/
abbrev Word := BitVec 18

/-- A byte of the host buses and of the MRAM. -/
abbrev Byte := BitVec 8

/-- The word that holds a count, taken modulo 2^18. -/
def Word.ofNat (n : Nat) : Word := BitVec.ofNat 18 n

/-- The word that holds a signed number in two's complement. -/
def Word.ofInt (n : Int) : Word := BitVec.ofInt 18 n

end Sys2Proof
end

