-- ==== Sys2Proof/Machine/Ids.lean ====
section
/-! DEFINITION. The names of the machine's parts: lanes, host interfaces, timers, qualifying counts, faults' raising sites. Fixed sets of names, used by State. -/

namespace Sys2Proof.Machine

/-- The two control lanes (R322). -/
inductive LaneId where
  | a | b
  deriving DecidableEq, Repr

/-- The other lane. -/
def LaneId.other : LaneId → LaneId
  | .a => .b
  | .b => .a

/-- The holder code of LANE.AUTH (R343), and the initiator code of a lane (R361). -/
def LaneId.code : LaneId → Nat
  | .a => 1
  | .b => 2

/-- The two host targets (R393). -/
inductive Port where
  | twoWire | spi
  deriving DecidableEq, Repr

/-- The initiator code of a host interface (R361), used in records too (R381). -/
def Port.code : Port → Nat
  | .twoWire => 3
  | .spi => 4

/-- What a host target is asked to do (R396, R407): a word of the selected context or page read or written, one named register read or written by its address, a block at the pointer, or a staging code. -/
inductive HostOp where
  | wordRead (code : Nat)
  | wordWrite (code : Nat) (b0 b1 b2 : Byte) (pec : Option Byte)
  | regRead (a : Nat)
  | regWrite (a : Nat) (w : Word)
  | blockRead (n : Nat)
  | blockWrite (n : Nat) (data : List Byte) (pec : Option Byte)
  | stageWrite (code : Nat) (data : List Byte) (pec : Option Byte)
  | stageRead
  deriving DecidableEq, Repr

/-- Timers kept in shelf time: what each measures is said by the register its expiry compares with. The number is a context, a channel, a port, a pin or a graph. -/
inductive Timer where
  | softStart (c : Nat)      -- GRP.SSTO, R151
  | hiccup (c : Nat)         -- GRP.HICCUP, R151
  | pgHeld (c : Nat)         -- 1 s of power-good, R152
  | dwell (c : Nat)          -- GRP.DWELL, R161
  | stopLow (c : Nat)        -- PARAM of safe state 0x01, R353
  | inrush (ch : Nat)        -- BR.ITO or BAT.DHITO, R181
  | limit (ch : Nat)         -- BR.TFLT or BAT.DHTFLT, R181
  | gateOff (ch : Nat)       -- 10 us from a pull-down, R189
  | qualify (c : Nat)        -- FEED.TQUAL, R186
  | disqualify (c : Nat)     -- FEED.TDQ, R186
  | dead                     -- FSEL.DEAD, R189
  | slowOn                   -- 50 ms, R189
  | cool (c : Nat)           -- BR.COOLMIN, R201; BAT.DHCOOL, R216
  | brPgHeld (c : Nat)       -- 1 s of branch power-good, R202
  | dhHeld (c : Nat)         -- 1 s of full enhancement, R216
  | hollow                   -- start of the Hollow, R220
  | satDwell                 -- 20 ms in Battery, R226
  | stable                   -- SAD.TSTABLE, R226
  | susp (c : Nat)           -- 10 s inside the inner window, R241
  | chgA (c : Nat)           -- qualifying times of a charge phase, R243
  | chgB (c : Nat)
  | rest (c : Nat)           -- EST.TREST, R265
  | lrnPeriod                -- 60 s, R271
  | shareErr (c : Nat)       -- 1 s, R282
  | thrHold (n : Nat)        -- THR.THOLD, R292
  | thrRel (n : Nat)         -- THR.TREL, R292
  | allocAge                 -- 300 us and 10 ms, R296
  | reportAge (n : Nat)      -- 300 us, R297
  | thrGap                   -- THR.TREL between two releases, R292
  | rail (c : Nat)           -- RAIL.TON, TRISE, TFALL, R307, R308
  | railOff (c : Nat)        -- RAIL.TOFF, R308
  | cycle (port : Nat)       -- 35 ms and 1 s of a segment power cycle, R313
  | discharge (c : Nat)      -- RAIL.TDIS, R309
  | graphOff (g : Nat)       -- SEQ.TOFFMIN, R310
  | press                    -- PB.TLONG, R315
  | seqFlt                   -- SEQ.TFLT, R316
  | fltPulse                 -- 10 us, R355
  | dieLeave                 -- 10 ms, R366
  | freeze                   -- BB.FRZTO, R388
  | autoRestart              -- LANE.ARTIME, R340
  | poll (port : Nat)        -- DS.POLL, R422
  | probe (port addr : Nat)  -- 100 ms, R423
  | alert (port : Nat)       -- 1 ms, R424
  | segment (port : Nat)     -- 1 ms, 35 ms, 100 ms, R426
  | linkUp (down : Bool)     -- 10 ms, R438
  | echo                     -- 100 ms, R439
  | remote                   -- 1 ms, R441
  | rstN                     -- 20 us, R453
  | gate (n : Nat)           -- 10 s, R451
  | trial                    -- UPD.TRIAL, R478
  | fallback                 -- 1 s, R479
  | xtal                     -- XTAL_DLY and 100 us, R448
  deriving DecidableEq, Repr

/-- Whether a timer goes with state that only the lane holds, so that a restore takes it from the checkpoint. The others run on in the core's keeping: those of states that the core shows and a restore does not move back (a group's, a branch's, a string's CTX.STATE) among them (log 90). -/
def Timer.ofLane : Timer → Bool
  | .softStart _ | .hiccup _ | .pgHeld _ | .dwell _ | .cool _ | .brPgHeld _ | .dhHeld _ => false
  | .qualify _ | .disqualify _ | .dead | .slowOn => true
  | .satDwell | .stable | .susp _ | .chgA _ | .chgB _ | .rest _ | .lrnPeriod | .shareErr _ => true
  | .rail _ | .railOff _ | .cycle _ | .discharge _ | .graphOff _ | .press | .seqFlt => true
  | .stopLow _ | .inrush _ | .limit _ | .gateOff _ | .hollow | .thrHold _ | .thrRel _ | .thrGap | .allocAge | .reportAge _ => false
  | .fltPulse | .dieLeave | .freeze | .autoRestart | .poll _ | .probe _ _ | .alert _ | .segment _ | .linkUp _ => false
  | .echo | .remote | .rstN | .gate _ | .trial | .fallback | .xtal => false

/-- Runs of consecutive frames, samples or measurements that qualify a condition. -/
inductive Count where
  | pgUp (c : Nat)           -- frames at or above GRP.VPG, R150
  | pgDown (c : Nat)         -- frames below GRP.VPG - 0.01 pu, R150
  | enhUp (ch : Nat)         -- frames at or above 11.0 V, R178
  | enhDown (ch : Nat)       -- frames below 10.5 V, R178
  | limOff (ch : Nat)        -- frames without regulation, R199, R216
  | diode (c : Nat)          -- frames with VDS at or above FEED.VON, R194
  | brPg (c : Nat)           -- frames with a branch output at or above BR.VPG, R202
  | brPgLow (c : Nat)        -- frames below the branch power-good level
  | cutLow (c : Nat)         -- frames at or below BAT.VCUT, R213
  | cutHigh (c : Nat)        -- frames at or above VCUT + VCUTHYS, R213
  | hollowLow                -- bus below the Hollow threshold, R220
  | hollowHigh               -- bus above the end level, R220
  | uv (c : Nat)             -- rail samples, R303
  | ov (c : Nat)
  | up (c : Nat)
  | offLow (c : Nat)
  | warn (c : Nat)           -- zone samples, R373
  | trip (c : Nat)
  | warnOff (c : Nat)
  | tripOff (c : Nat)
  | sensorBad (c : Nat)
  | sensorGood (c : Nat)
  | excl (n : Nat)           -- die sensor measurements, R364
  | level (n : Nat)          -- die level measurements, R366
  | hard                     -- frames of the hard throttle cause, R291
  deriving DecidableEq, Repr

/-- What one gate channel's front end measures over a 1 us frame (R175, R178): the shunt voltage ISP - ISN, the voltages of ISN and SRC against AGND, the gate drive GATE - SRC, and whether its limit or ideal-diode amplifier regulates (R176). Voltages in uV, the shunt in nV. -/
structure GateIn where
  shunt : Int
  visn : Int
  vsrc : Int
  vgs : Int
  regulating : Bool
  deriving DecidableEq, Repr

/-- What the core's converters deliver at the end of a 1 us frame (R106, R140, R175, R255): the instant, the average of each of the eight output voltage converters (uV) with the lowest of its 320 ns averages in the frame (uV, R220), of each of the 24 phase sense inputs (nV), the 16 gate channels, and of each of the eight coulomb front ends the average of CCN - CCP (nV) and the voltage of CCN against AGND (uV), and the voltages of the 32 tapped cells (uV, cell k of string s at 16 s + k, R250). -/
structure FrameIn where
  t : Nat
  vout : List Int
  vlow : List Int
  phase : List Int
  gate : List GateIn
  coulomb : List Int
  ccn : List Int
  cells : List Int
  deriving DecidableEq, Repr

/-- What the comparator of a tapped cell sees over its 64 us: the cell of its string and the lowest voltage in uV (R249, R250). -/
structure CellIn where
  cell : Nat
  uv : Int
  deriving DecidableEq, Repr

/-- The end of a lane's restore: the checkpoint buffers in which SECDED has flagged a double-bit error (R21), and the instant. -/
structure RestoreIn where
  badA : Bool
  badB : Bool
  t : Nat
  deriving DecidableEq, Repr

end Sys2Proof.Machine
end

