-- ==== Sys2Proof/Syntax.lean ====
section
/-! DEFINITION. The commands of the block: one constructor per row of spec/opcode_table.json. Each carries what reaches the block with it: the host interface and bytes of a transaction, the reading of a converter, the level of a pin, the answer of another device; and the instant t in 5 ns ticks of shelf time at which it happens. -/

namespace Sys2Proof

open Machine

/-- The commands (rows of the opcode table, in its order). -/
inductive Instr where
  /-- WORD_WRITE (R398). -/
  | wordWrite (p : Port) (code : Nat) (b0 : Byte) (b1 : Byte) (b2 : Byte) (pec : Option Byte) (t : Nat)
  /-- WORD_READ (R398). -/
  | wordRead (p : Port) (code : Nat) (t : Nat)
  /-- WIDE_VALUE_FIRST_READ (R38). -/
  | wideValueFirstRead (p : Port) (code : Nat) (t : Nat)
  /-- PTR_WRITE (R396). -/
  | ptrWrite (p : Port) (lo : Byte) (hi : Byte) (pec : Option Byte) (t : Nat)
  /-- PTR_READ (R396). -/
  | ptrRead (p : Port) (t : Nat)
  /-- BLOCK_READ (R399). -/
  | blockRead (p : Port) (n : Nat) (t : Nat)
  /-- BLOCK_WRITE (R399). -/
  | blockWrite (p : Port) (n : Nat) (data : List Byte) (pec : Option Byte) (t : Nat)
  /-- CPAGE_WRITE (R397). -/
  | cpageWrite (p : Port) (v : Byte) (pec : Option Byte) (t : Nat)
  /-- CPAGE_READ (R396). -/
  | cpageRead (p : Port) (t : Nat)
  /-- GPAGE_WRITE (R397). -/
  | gpageWrite (p : Port) (v : Byte) (pec : Option Byte) (t : Nat)
  /-- GPAGE_READ (R396). -/
  | gpageRead (p : Port) (t : Nat)
  /-- FREEZE (R389). -/
  | freeze (p : Port) (pec : Option Byte) (t : Nat)
  /-- THAW (R389). -/
  | thaw (p : Port) (pec : Option Byte) (t : Nat)
  /-- FREEZE_READ (R396). -/
  | freezeRead (p : Port) (t : Nat)
  /-- SUMMARY (R401). -/
  | summary (p : Port) (t : Nat)
  /-- RECEIVE_WITHOUT_COMMAND (R396). -/
  | receiveWithoutCommand (t : Nat)
  /-- ADDRESS_PROBE (R396). -/
  | addressProbe (t : Nat)
  /-- SPI_NOOP (R407). -/
  | spiNoop (t : Nat)
  /-- ALERT_RESPONSE (R414). -/
  | alertResponse (won : Bool) (t : Nat)
  /-- OPEN (R473). -/
  | openSession (p : Port) (data : List Byte) (pec : Option Byte) (t : Nat)
  /-- DATA (R474). -/
  | dataFrame (p : Port) (data : List Byte) (pec : Option Byte) (t : Nat)
  /-- STAGING_COMMIT_DONE (R474). -/
  | stagingCommitDone (t : Nat)
  /-- CLOSE_CHECK (R475). -/
  | closeCheck (p : Port) (pec : Option Byte) (t : Nat)
  /-- STAGING_CHECK_DONE (R475). -/
  | stagingCheckDone (t : Nat)
  /-- CLOSE_ABANDON (R475). -/
  | closeAbandon (p : Port) (pec : Option Byte) (t : Nat)
  /-- STATUS (R472). -/
  | status (p : Port) (t : Nat)
  /-- HOST_PROTOCOL_VIOLATION (R411). -/
  | hostProtocolViolation (p : Port) (code : Nat) (cmd : Byte) (idx : Nat) (t : Nat)
  /-- HOST_BUS_TIMEOUT (R411). -/
  | hostBusTimeout (p : Port) (cmd : Byte) (idx : Nat) (t : Nat)
  /-- SYS_DORMANT_REQUEST (R25). -/
  | sysDormantRequest (p : Port) (w : Word) (t : Nat)
  /-- DORMANT_ENTRY_ABORT (R28). -/
  | dormantEntryAbort (src : Nat) (t : Nat)
  /-- WAKE (R29). -/
  | wake (src : Nat) (t : Nat)
  /-- FRAME (R106). -/
  | frame (inp : FrameIn)
  /-- SAMPLE_INSTANT (R125), with the slots whose evaluation overran (R127). -/
  | sampleInstant (c : Nat) (v : Int) (cur : Int) (late : List Nat) (t : Nat)
  /-- SHELF_TICK (R105), with the slots whose evaluation overran (R127). -/
  | shelfTick (late : List Nat) (t : Nat)
  /-- GOVERNOR_CHANGE (R120). -/
  | governorChange (g : Nat) (t : Nat)
  /-- FAB_CDATA_WRITE (R115). -/
  | fabCdataWrite (p : Port) (w : Word) (t : Nat)
  /-- FAB_SLOT_WRITE (R115). -/
  | fabSlotWrite (p : Port) (w : Word) (t : Nat)
  /-- FAB_COEF_APPLY (R114). -/
  | fabCoefApply (p : Port) (w : Word) (t : Nat)
  /-- FAB_COEF_DISCARD (R114). -/
  | fabCoefDiscard (p : Port) (w : Word) (t : Nat)
  /-- SLOT_SET_WRITE (R122). -/
  | slotSetWrite (p : Port) (slot : Nat) (w : Word) (t : Nat)
  /-- SLOT_ENABLE (R122). -/
  | slotEnable (slot : Nat) (t : Nat)
  /-- EPOCH_BOUNDARY (R330). -/
  | epochBoundary (t : Nat)
  /-- CHECKPOINT_COMMIT_DONE (R331). -/
  | checkpointCommitDone (t : Nat)
  /-- HEARTBEAT_TIMEOUT (R331). -/
  | heartbeatTimeout (t : Nat)
  /-- LANE_HANDBACK (R327). -/
  | laneHandback (t : Nat)
  /-- AUTHORITY_CONFLICT (R328). -/
  | authorityConflict (l : LaneId) (holder : Nat) (gen : Nat) (acc : Nat) (addr : Nat) (t : Nat)
  /-- LANE_POWERED (R334). -/
  | lanePowered (t : Nat)
  /-- LANE_RESTORE_COMPLETE (R334). -/
  | laneRestoreComplete (inp : RestoreIn)
  /-- FIRST_STAMPED_COMMAND (R334). -/
  | firstStampedCommand (t : Nat)
  /-- RESTORE_FAIL (R336). -/
  | restoreFail (conflict : Bool) (t : Nat)
  /-- LANE_SWAP (R341). -/
  | laneSwap (p : Port) (w : Word) (t : Nat)
  /-- LANE_RESTART_START (R340). -/
  | laneRestartStart (p : Port) (w : Word) (t : Nat)
  /-- LANE_CLRBAD (R343). -/
  | laneClrbad (p : Port) (w : Word) (t : Nat)
  /-- LANE_AUTO_RESTART (R340). -/
  | laneAutoRestart (t : Nat)
  /-- LANE_WATCHDOG_EXPIRY (R455). -/
  | laneWatchdogExpiry (l : LaneId) (t : Nat)
  /-- IMG_CHECK (R98). -/
  | imgCheck (p : Port) (w : Word) (t : Nat)
  /-- IMG_SWITCH (R99). -/
  | imgSwitch (p : Port) (w : Word) (t : Nat)
  /-- LOADER_CHECK_DONE (R93). -/
  | loaderCheckDone (t : Nat)
  /-- GROUP_ENABLE (R151). -/
  | groupEnable (c : Nat) (t : Nat)
  /-- GROUP_DISABLE (R151). -/
  | groupDisable (c : Nat) (t : Nat)
  /-- GRP_FSW_WRITE (R158). -/
  | grpFswWrite (p : Port) (c : Nat) (w : Word) (t : Nat)
  /-- GROUP_POWER_GOOD (R150). -/
  | groupPowerGood (c : Nat) (t : Nat)
  /-- GROUP_POWER_GOOD_LOST (R151). -/
  | groupPowerGoodLost (c : Nat) (t : Nat)
  /-- SOFT_START_TIMEOUT (R151). -/
  | softStartTimeout (c : Nat) (t : Nat)
  /-- HICCUP_END (R151). -/
  | hiccupEnd (c : Nat) (t : Nat)
  /-- GROUP_RETRYCNT_CLEAR (R152). -/
  | groupRetrycntClear (c : Nat) (t : Nat)
  /-- PHASE_TRIP (R154). -/
  | phaseTrip (ph : Nat) (nv : Int) (t : Nat)
  /-- PHASE_TRIP_REPEAT (R155). -/
  | phaseTripRepeat (ph : Nat) (t : Nat)
  /-- PHASE_IMBALANCE_BLOCK_END (R142). -/
  | phaseImbalanceBlockEnd (c : Nat) (t : Nat)
  /-- SYNC_ACQUIRE (R156). -/
  | syncAcquire (c : Nat) (hz : Nat) (t : Nat)
  /-- SYNC_ALIGNED (R156). -/
  | syncAligned (c : Nat) (t : Nat)
  /-- SYNC_LOSS (R157). -/
  | syncLoss (c : Nat) (t : Nat)
  /-- SHED_TRANSITION_END (R162). -/
  | shedTransitionEnd (c : Nat) (t : Nat)
  /-- GATE_TRIP (R180). -/
  | gateTrip (ch : Nat) (nv : Int) (t : Nat)
  /-- CHANNEL_ENHANCED (R178). -/
  | channelEnhanced (ch : Nat) (t : Nat)
  /-- CHANNEL_ENHANCEMENT_LOST (R178). -/
  | channelEnhancementLost (ch : Nat) (t : Nat)
  /-- ATTEMPT_TIMER_EXPIRY (R181). -/
  | attemptTimerExpiry (ch : Nat) (t : Nat)
  /-- FEED_ENABLE_WRITE (R185). -/
  | feedEnableWrite (p : Port) (c : Nat) (w : Word) (t : Nat)
  /-- FEED_QUALIFIED (R186). -/
  | feedQualified (c : Nat) (t : Nat)
  /-- FEED_QUALIFICATION_LOST (R186). -/
  | feedQualificationLost (c : Nat) (t : Nat)
  /-- FEED_OLD_GATE_OFF (R189). -/
  | feedOldGateOff (t : Nat)
  /-- FEED_SLOW_OFF (R189). -/
  | feedSlowOff (t : Nat)
  /-- FEED_DEAD_TIME_END (R189). -/
  | feedDeadTimeEnd (t : Nat)
  /-- FEED_SLOW_ON (R189). -/
  | feedSlowOn (t : Nat)
  /-- IDEAL_DIODE_TURN_ON (R194). -/
  | idealDiodeTurnOn (c : Nat) (t : Nat)
  /-- BRANCH_ENABLE (R201). -/
  | branchEnable (c : Nat) (t : Nat)
  /-- BRANCH_DISABLE (R201). -/
  | branchDisable (c : Nat) (t : Nat)
  /-- BRANCH_POWER_GOOD (R200). -/
  | branchPowerGood (c : Nat) (t : Nat)
  /-- BRANCH_POWER_GOOD_DROP (R200). -/
  | branchPowerGoodDrop (c : Nat) (t : Nat)
  /-- BRANCH_LIMIT_START (R201). -/
  | branchLimitStart (c : Nat) (t : Nat)
  /-- BRANCH_LIMIT_END (R201). -/
  | branchLimitEnd (c : Nat) (t : Nat)
  /-- BRANCH_OVERTEMP (R201). -/
  | branchOvertemp (c : Nat) (t : Nat)
  /-- BRANCH_COOLDOWN_END (R201). -/
  | branchCooldownEnd (c : Nat) (t : Nat)
  /-- BR_COOLREM_UPDATE (R198). -/
  | brCoolremUpdate (c : Nat) (t : Nat)
  /-- BRANCH_RETRYCNT_CLEAR (R202). -/
  | branchRetrycntClear (c : Nat) (t : Nat)
  /-- STRING_ENABLE (R213). -/
  | stringEnable (c : Nat) (t : Nat)
  /-- STRING_DISABLE (R216). -/
  | stringDisable (c : Nat) (t : Nat)
  /-- STRING_CUTOFF (R213). -/
  | stringCutoff (c : Nat) (t : Nat)
  /-- STRING_CUTOFF_EXIT (R213). -/
  | stringCutoffExit (c : Nat) (t : Nat)
  /-- DH_COOLDOWN_END (R216). -/
  | dhCooldownEnd (c : Nat) (t : Nat)
  /-- DH_RETRYCNT_CLEAR (R216). -/
  | dhRetrycntClear (c : Nat) (t : Nat)
  /-- HOLLOW_START (R220). -/
  | hollowStart (v : Int) (t : Nat)
  /-- HOLLOW_END (R220). -/
  | hollowEnd (t : Nat)
  /-- HOLLOW_TLOSS (R224). -/
  | hollowTloss (t : Nat)
  /-- HREF_FORMED (R220). -/
  | hrefFormed (t : Nat)
  /-- SAD_CMD_SADDLE (R230). -/
  | sadCmdSaddle (p : Port) (w : Word) (t : Nat)
  /-- SAD_CMD_RETURN (R230). -/
  | sadCmdReturn (p : Port) (w : Word) (t : Nat)
  /-- SADDLE_FEEDS_OFF (R225). -/
  | saddleFeedsOff (t : Nat)
  /-- SADDLE_COMPLETE (R225). -/
  | saddleComplete (t : Nat)
  /-- SADDLE_DWELL_END (R226). -/
  | saddleDwellEnd (t : Nat)
  /-- SADDLE_STABLE (R226). -/
  | saddleStable (t : Nat)
  /-- RETURN_MATCH_DONE (R225). -/
  | returnMatchDone (t : Nat)
  /-- RETURN_CLOSE_DONE (R225). -/
  | returnCloseDone (t : Nat)
  /-- RETURN_UNLOAD_DONE (R225). -/
  | returnUnloadDone (t : Nat)
  /-- CHARGE_EVALUATION (R243). -/
  | chargeEvaluation (c : Nat) (t : Nat)
  /-- CHARGE_SUSPEND_END (R241). -/
  | chargeSuspendEnd (c : Nat) (t : Nat)
  /-- CHARGE_TERMINATION (R243). -/
  | chargeTermination (c : Nat) (t : Nat)
  /-- TOPOFF_END (R243). -/
  | topoffEnd (c : Nat) (t : Nat)
  /-- CHARGE_SAFETY_TIMEOUT (R246). -/
  | chargeSafetyTimeout (c : Nat) (t : Nat)
  /-- PRECHARGE_TIMEOUT (R243). -/
  | prechargeTimeout (c : Nat) (t : Nat)
  /-- RECHARGE_START (R243). -/
  | rechargeStart (c : Nat) (t : Nat)
  /-- SUPERVISED_FULL (R251). -/
  | supervisedFull (c : Nat) (t : Nat)
  /-- CELL_OV_TRIP (R249). -/
  | cellOvTrip (n : Nat) (k : CellIn) (t : Nat)
  /-- ESTIMATOR_EVALUATION (R263). -/
  | estimatorEvaluation (t : Nat)
  /-- REST_CORRECTION (R266). -/
  | restCorrection (c : Nat) (t : Nat)
  /-- EST_QCLR (R257). -/
  | estQclr (p : Port) (c : Nat) (w : Word) (t : Nat)
  /-- EST_RELEARN (R258). -/
  | estRelearn (p : Port) (c : Nat) (w : Word) (t : Nat)
  /-- EST_COMMIT (R271). -/
  | estCommit (p : Port) (c : Nat) (w : Word) (t : Nat)
  /-- LEARNED_COMMIT_PERIODIC (R271). -/
  | learnedCommitPeriodic (t : Nat)
  /-- LEARNED_COMMIT_DONE (R271). -/
  | learnedCommitDone (t : Nat)
  /-- RECT_SHARE_ERROR (R282). -/
  | rectShareError (c : Nat) (t : Nat)
  /-- THROTTLE_RELEASE (R292). -/
  | throttleRelease (n : Nat) (t : Nat)
  /-- THR_FORCE_WRITE (R292). -/
  | thrForceWrite (p : Port) (w : Word) (t : Nat)
  /-- CASCADE_REPORT_SEND (R294). -/
  | cascadeReportSend (t : Nat)
  /-- CASCADE_ALLOC_SEND (R440). -/
  | cascadeAllocSend (t : Nat)
  /-- ALLOC_TIMEOUT (R296). -/
  | allocTimeout (t : Nat)
  /-- FBALLOC_APPLY (R296). -/
  | fballocApply (t : Nat)
  /-- REPORT_TIMEOUT (R297). -/
  | reportTimeout (n : Nat) (t : Nat)
  /-- SCAN_COMPLETE (R300). -/
  | scanComplete (raw : List Int) (t : Nat)
  /-- RAIL_TON_EXPIRY (R307). -/
  | railTonExpiry (c : Nat) (t : Nat)
  /-- RAIL_RISE_TIMEOUT (R311). -/
  | railRiseTimeout (c : Nat) (t : Nat)
  /-- RAIL_TOFF_EXPIRY (R308). -/
  | railToffExpiry (c : Nat) (t : Nat)
  /-- RAIL_FALL_TIMEOUT (R311). -/
  | railFallTimeout (c : Nat) (t : Nat)
  /-- RAIL_DISCHARGE_END (R309). -/
  | railDischargeEnd (c : Nat) (t : Nat)
  /-- GRAPH_OFF_WAIT_END (R306). -/
  | graphOffWaitEnd (g : Nat) (t : Nat)
  /-- SEQ_ON (R310). -/
  | seqOn (p : Port) (w : Word) (t : Nat)
  /-- SEQ_OFF (R310). -/
  | seqOff (p : Port) (w : Word) (t : Nat)
  /-- SEQ_FORCE (R312). -/
  | seqForce (p : Port) (w : Word) (t : Nat)
  /-- INPUT_ACCEPT (R314). -/
  | inputAccept (pin : Nat) (level : Bool) (t : Nat)
  /-- INPUT_INTERVAL_END (R314). -/
  | inputIntervalEnd (pin : Nat) (t : Nat)
  /-- PB_LONG_PRESS (R315). -/
  | pbLongPress (t : Nat)
  /-- SEQ_FLT_DRIVE_RELEASE (R316). -/
  | seqFltDriveRelease (t : Nat)
  /-- FAULT_RAISE (R349). -/
  | faultRaise (cls : Nat) (c : Nat) (sev : Option Nat) (site : Nat) (init : Nat) (acc : Nat) (addr : Nat) (t : Nat)
  /-- FLT_PULSE_END (R355). -/
  | fltPulseEnd (t : Nat)
  /-- FLTOUT_WRITE (R355). -/
  | fltoutWrite (p : Port) (w : Word) (t : Nat)
  /-- FAULT_ACK (R360). -/
  | faultAck (p : Port) (w : Word) (t : Nat)
  /-- FAULT_INJECT (R361). -/
  | faultInject (p : Port) (w : Word) (t : Nat)
  /-- FE_CLEAR (R359). -/
  | feClear (p : Port) (w : Word) (t : Nat)
  /-- DIE_SENSOR_MEASURE (R363). -/
  | dieSensorMeasure (temps : List Int) (t : Nat)
  /-- SENSOR_READMIT (R364). -/
  | sensorReadmit (p : Port) (second : Bool) (w : Word) (t : Nat)
  /-- DIE_LEVEL_LEAVE (R368). -/
  | dieLevelLeave (t : Nat)
  /-- RECORD_OFFER (R387). -/
  | recordOffer (code : Nat) (c : Nat) (payload : List Byte) (t : Nat)
  /-- RECORD_WRITE (R386). -/
  | recordWrite (code : Nat) (c : Nat) (payload : List Byte) (t : Nat)
  /-- BUCKET_REFILL (R387). -/
  | bucketRefill (n : Nat) (t : Nat)
  /-- BB_CLEAR (R384). -/
  | bbClear (p : Port) (w : Word) (t : Nat)
  /-- FREEZE_EXPIRY (R388). -/
  | freezeExpiry (t : Nat)
  /-- BB_PDATA_READ (R390). -/
  | bbPdataRead (p : Port) (t : Nat)
  /-- BB_REBUILD_DONE (R385). -/
  | bbRebuildDone (t : Nat)
  /-- DS_TRANSACTION_COMPLETE (R420). -/
  | dsTransactionComplete (port : Nat) (data : List Byte) (t : Nat)
  /-- DS_TRANSACTION_FAIL (R423). -/
  | dsTransactionFail (port : Nat) (pec : Bool) (t : Nat)
  /-- DS_STRETCH_TIMEOUT (R423). -/
  | dsStretchTimeout (port : Nat) (t : Nat)
  /-- POLL_CYCLE (R422). -/
  | pollCycle (port : Nat) (t : Nat)
  /-- DS_PROBE (R423). -/
  | dsProbe (port : Nat) (addr : Nat) (t : Nat)
  /-- DS_ALERT (R424). -/
  | dsAlert (port : Nat) (t : Nat)
  /-- DS_ALERT_REPEAT (R424). -/
  | dsAlertRepeat (port : Nat) (t : Nat)
  /-- POL_EN_WRITE (R418). -/
  | polEnWrite (p : Port) (c : Nat) (w : Word) (t : Nat)
  /-- POL_VSET_WRITE (R418). -/
  | polVsetWrite (p : Port) (c : Nat) (w : Word) (t : Nat)
  /-- SEGMENT_STUCK (R426). -/
  | segmentStuck (port : Nat) (t : Nat)
  /-- SEGMENT_REQUALIFY (R427). -/
  | segmentRequalify (port : Nat) (t : Nat)
  /-- SEGMENT_CYCLE_FAIL (R426). -/
  | segmentCycleFail (port : Nat) (t : Nat)
  /-- DSP_REQUAL (R426). -/
  | dspRequal (p : Port) (port : Nat) (w : Word) (t : Nat)
  /-- LINK_FRAME_RECEIVE (R434). -/
  | linkFrameReceive (down : Bool) (frame : List Byte) (violations : Nat) (t : Nat)
  /-- HELLO (R437). -/
  | hello (down : Bool) (payload : List Byte) (t : Nat)
  /-- HELLO_SEND (R437). -/
  | helloSend (down : Bool) (t : Nat)
  /-- ECHO_REQUEST_SEND (R439). -/
  | echoRequestSend (t : Nat)
  /-- ECHO_REQUEST (R436). -/
  | echoRequest (down : Bool) (payload : List Byte) (t : Nat)
  /-- ECHO_REPLY (R439). -/
  | echoReply (payload : List Byte) (t : Nat)
  /-- TIME_SEND (R439). -/
  | timeSend (t : Nat)
  /-- TIME (R439). -/
  | time (payload : List Byte) (t : Nat)
  /-- REPORT (R440). -/
  | report (src : Nat) (payload : List Byte) (t : Nat)
  /-- ALLOC (R295). -/
  | alloc (payload : List Byte) (t : Nat)
  /-- REMOTE_READ (R441). -/
  | remoteRead (src : Nat) (payload : List Byte) (t : Nat)
  /-- REMOTE_WRITE (R441). -/
  | remoteWrite (src : Nat) (payload : List Byte) (t : Nat)
  /-- REMOTE_ANSWER (R441). -/
  | remoteAnswer (src : Nat) (payload : List Byte) (t : Nat)
  /-- RESET (R442). -/
  | reset (src : Nat) (payload : List Byte) (t : Nat)
  /-- LINK_TRAINED (R437). -/
  | linkTrained (down : Bool) (t : Nat)
  /-- LINK_LOSS_OF_LOCK (R437). -/
  | linkLossOfLock (down : Bool) (violations : Nat) (t : Nat)
  /-- LINK_UP_TIMEOUT (R438). -/
  | linkUpTimeout (down : Bool) (t : Nat)
  /-- CASC_PORT_ENABLE_WRITE (R437). -/
  | cascPortEnableWrite (p : Port) (w : Word) (t : Nat)
  /-- CASC_REMOTE_READ (R441). -/
  | cascRemoteRead (p : Port) (w : Word) (t : Nat)
  /-- CASC_REMOTE_WRITE (R441). -/
  | cascRemoteWrite (p : Port) (w : Word) (t : Nat)
  /-- CASC_REMOTE_RESET (R442). -/
  | cascRemoteReset (p : Port) (w : Word) (t : Nat)
  /-- REMOTE_ACCESS_TIMEOUT (R441). -/
  | remoteAccessTimeout (t : Nat)
  /-- POWER_ON (R462). -/
  | powerOn
  /-- VIN_BROWN_OUT (R452). -/
  | vinBrownOut (t : Nat)
  /-- RST_N_LOW (R453). -/
  | rstNLow (ticks : Nat) (t : Nat)
  /-- RST_N_RELEASE (R453). -/
  | rstNRelease (t : Nat)
  /-- RST_SW (R452). -/
  | rstSw (p : Port) (w : Word) (t : Nat)
  /-- RST_BLK (R457). -/
  | rstBlk (p : Port) (w : Word) (t : Nat)
  /-- BLOCK_RESET_END (R457). -/
  | blockResetEnd (blk : Nat) (t : Nat)
  /-- FUSE_MAP_READ (R462). -/
  | fuseMapRead (t : Nat)
  /-- VREG5_IN_REGULATION (R493). -/
  | vreg5InRegulation (straps : Nat) (t : Nat)
  /-- VREG5_OUT_OF_REGULATION (R493). -/
  | vreg5OutOfRegulation (t : Nat)
  /-- VREG5_LOST (R493). -/
  | vreg5Lost (t : Nat)
  /-- VIO_LOSS (R491). -/
  | vioLoss (t : Nat)
  /-- VIO_RETURN (R506). -/
  | vioReturn (t : Nat)
  /-- PLL_ENABLE (R448). -/
  | pllEnable (t : Nat)
  /-- CLOCKS_RELEASE (R462). -/
  | clocksRelease
  /-- FIRMWARE_CHECKED (R468). -/
  | firmwareChecked (t : Nat)
  /-- START_LANE_FAIL (R464). -/
  | startLaneFail (t : Nat)
  /-- FCNT_START (R451). -/
  | fcntStart (p : Port) (w : Word) (t : Nat)
  /-- FCNT_STOP (R451). -/
  | fcntStop (p : Port) (w : Word) (t : Nat)
  /-- FCNT_GATE_COMPLETE (R451). -/
  | fcntGateComplete (count : Nat) (t : Nat)
  /-- FCNT_TIMEOUT (R451). -/
  | fcntTimeout (t : Nat)
  /-- FW_ACTIVATE (R477). -/
  | fwActivate (p : Port) (w : Word) (t : Nat)
  /-- FW_ACTIVATE_READY (R477). -/
  | fwActivateReady (t : Nat)
  /-- TRIAL_CONFIRM (R478). -/
  | trialConfirm (p : Port) (w : Word) (t : Nat)
  /-- TRIAL_WINDOW_END (R478). -/
  | trialWindowEnd (t : Nat)
  /-- FALLBACK_RETRY (R479). -/
  | fallbackRetry (t : Nat)
  /-- SETTINGS_SAVE (R481). -/
  | settingsSave (p : Port) (w : Word) (t : Nat)
  /-- SWITCHING_PERIOD (R137). -/
  | switchingPeriod (c : Nat) (av : Int) (ai : Int) (t : Nat)
  /-- CELL_OV_RELEASE (R249). -/
  | cellOvRelease (n : Nat) (k : CellIn) (t : Nat)
  /-- DH_LIMIT_START (R216). -/
  | dhLimitStart (c : Nat) (charge : Bool) (t : Nat)
  /-- DH_LIMIT_END (R216). -/
  | dhLimitEnd (c : Nat) (t : Nat)
  /-- VRES_RESERVE_LOW (R345). -/
  | vresReserveLow (t : Nat)
  /-- VRES_CHARGED (R23). -/
  | vresCharged (t : Nat)
  /-- VDD08_REGULATOR_FAULT (R345). -/
  | vdd08RegulatorFault (t : Nat)
  /-- REFERENCE_CLOCK_LOSS (R449). -/
  | referenceClockLoss (t : Nat)
  /-- LANE_STOP (R331). -/
  | laneStop (t : Nat)
  /-- TEST_ACCESS_PORT_TCK (R487). -/
  | testAccessPortTck (tms : Bool) (tdi : Bool) (t : Nat)
  /-- TRST_N_CHANGE (R487). -/
  | trstNChange (level : Bool) (t : Nat)
  deriving DecidableEq, Repr

end Sys2Proof
end

