-- ==== Sys2Proof/Decode.lean ====
section
/-! DEFINITION. What a word of the opcode table's bits spells. No row of the table gives bits: a command is a transaction, an event or an elapsed time, not a word. -/

namespace Sys2Proof

/-- The command that a table word spells: none, since no row has bits. -/
def decodeTableWord (_nbits _w : Nat) : Option Instr := none

end Sys2Proof
end

