-- ==== Sys2Proof/Config.lean ====
section
/-! DEFINITION. What the spec leaves open: each is a constant without a body, so that no proof can lean on a value of it. -/

namespace Sys2Proof

/-- FREE VALUE. Which of the two adjacent 2^-32 pu steps the fabric keeps of an exact value that falls between them (R111 fixes the 32 fraction bits, not the narrowing): true keeps the upper one. Log 20. -/
opaque Config.narrowUp : Rat → Bool

/-- FREE VALUE. The 16-bit cause code of the n-th raising site of the model (R358, R381 give the field; no chapter lists codes). Log 21. -/
opaque Config.causeCode : Nat → BitVec 16

/-- FREE VALUE. The class that the record of a Note without a class names (R346: such a Note writes a record; R380 lists no code for it). The argument numbers the raising site. Log 85. -/
opaque Config.noteClass : Nat → BitVec 4

/-- FREE VALUE. A yes or no that the spec leaves open, drawn by a counter of State (R453: a low on RST_N between the two bounds; R487: bits the test access port captures). Log 22. -/
opaque Config.freeBit : Nat → Bool

/-- FREE VALUE. The event code, less 1, of a change of an Utwiesk port's state that is neither Up nor a loss of lock (R438: every change of port state offers a record with one of the event codes of its table, which lists none for these). The argument is 4 times the old state and the new one. Log 137. -/
opaque Config.linkChange : Nat → BitVec 3

/-- FREE VALUE. The status bit that the event code of an offered record names where the rule that offers it sets no status bit (R229, R252 and R309 offer such records; R380 gives codes by status bit). The argument numbers the rule. Log 25. -/
opaque Config.recordBit : Nat → BitVec 4

/-- FREE VALUE. The length of the test access port's instruction register and of its boundary-scan chain, and the instruction a shifted code names (bypass 0, sample and preload 1, extest 2, idcode 3, modulo 4): R487 names the instructions and gives no codes, lengths or cell order. Log 27. -/
opaque Config.irLength : Nat

/-- FREE VALUE. See Config.irLength. -/
opaque Config.chainLength : Nat

/-- FREE VALUE. See Config.irLength. -/
opaque Config.irCode : List Bool → Nat

end Sys2Proof
end

