-- ==== Sys2Proof/Machine/Numbers.lean ====
section
/-! DEFINITION. The five word formats as exact numbers, and the way back: rounding, saturation and canonical forms (R33 to R37, R43, R49). A quantity is computed exactly as a rational and narrowed once at its end. -/

namespace Sys2Proof.Machine

/-! ### Bit fields -/

/-- Bits [hi:lo] of a word, as a number (R8). -/
def bits (w : Word) (hi lo : Nat) : Nat := w.toNat / 2 ^ lo % 2 ^ (hi + 1 - lo)

/-- Bit n of a word. -/
def bit (w : Word) (n : Nat) : Bool := w.getLsbD n

/-- The word with bits [hi:lo] replaced by the low bits of v. -/
def putBits (w : Word) (hi lo v : Nat) : Word :=
  let m := 2 ^ (hi + 1 - lo)
  Word.ofNat (w.toNat - bits w hi lo * 2 ^ lo + v % m * 2 ^ lo)

/-- The word with bit n set to b. -/
def putBit (w : Word) (n : Nat) (b : Bool) : Word := putBits w n n (if b then 1 else 0)

/-- 1 for true, 0 for false. -/
def b2n (b : Bool) : Nat := if b then 1 else 0

/-! ### Rounding -/

/-- The nearest integer, ties away from zero (R34). -/
def roundAway (q : Rat) : Int := if 0 ≤ q then (q + 1/2).floor else -((-q + 1/2).floor)

/-- A number kept between two bounds. -/
def clampInt (lo hi x : Int) : Int := if x < lo then lo else if hi < x then hi else x

/-- The upper ends in uV of the ranges, from 0 on, of a group converter, the scanning converter and a cell tap (R494). -/
abbrev groupTop : Int := 65532000
abbrev scanTop : Int := 65535000
abbrev cellTop : Int := 5000000

/-- Whether an input lies outside a range from 0 on. -/
def beyond (top uv : Int) : Bool := decide (uv < 0) || decide (top < uv)

/-- A rational kept between two bounds. -/
def clampRat (lo hi x : Rat) : Rat := if x < lo then lo else if hi < x then hi else x

/-! ### PU18 -/

/-- The number a PU18 word stands for (R34). -/
def pu (w : Word) : Rat := (w.toInt : Rat) / 65536

/-- The PU18 word of a count of LSBs, saturated (R34). -/
def puRaw (n : Int) : Word := Word.ofInt (clampInt (-131072) 131071 n)

/-- The PU18 word of a number: rounded to the nearest LSB, ties away from zero, then saturated (R34). -/
def toPU (q : Rat) : Word := puRaw (roundAway (q * 65536))

/-- Whether a number lies outside the PU18 range once rounded (R47). -/
def puOver (q : Rat) : Bool := roundAway (q * 65536) < -131072 || 131071 < roundAway (q * 65536)

/-- 1.0 pu. -/
def onePU : Word := 0x10000

/-! ### EF18 -/

/-- Ten to a signed power. -/
def pow10 (e : Int) : Rat := if 0 ≤ e then (10 : Rat) ^ e.toNat else 1 / (10 : Rat) ^ (-e).toNat

/-- The power-of-ten exponent of an EF18 word, -16 to 15 (R33). -/
def efExp (w : Word) : Int :=
  let e := bits w 17 13
  if e < 16 then (e : Int) else (e : Int) - 32

/-- The mantissa of an EF18 word, 0 to 8191 (R33). -/
def efMant (w : Word) : Nat := bits w 12 0

/-- The value an EF18 word stands for, in SI units (R33). -/
def ef (w : Word) : Rat := (efMant w : Rat) * pow10 (efExp w)

/-- An EF18 word from a mantissa and an exponent. -/
def efWord (m : Nat) (e : Int) : Word := Word.ofNat (((e % 32).toNat) * 8192 + m % 8192)

/-- The mantissa raised while it stays at most 8191 and the exponent can fall (R35). At most four steps are ever needed. -/
def efRaise : Nat → Nat → Int → Word
  | 0, m, e => efWord m e
  | n + 1, m, e => if m * 10 ≤ 8191 ∧ -16 < e then efRaise n (m * 10) (e - 1) else efWord m e

/-- The canonical form of a mantissa and exponent: the largest mantissa not above 8191; zero is 0 with exponent 0 (R35). -/
def efNorm (m : Nat) (e : Int) : Word := if m = 0 then 0 else efRaise 4 m e

/-- The canonical form of an EF18 word (R35). -/
def efCanon (w : Word) : Word := efNorm (efMant w) (efExp w)

/-- The EF18 word nearest a non-negative number: rounded, ties away from zero, to a multiple of the smallest power of ten whose rounded mantissa is at most 8191 (the rule of R49), and stored in canonical form. A number above the format reads as its largest word (R47). -/
def toEF (q : Rat) : Word :=
  match (List.range 32).find? (fun k : Nat => decide (roundAway (q / pow10 ((k : Int) - 16)) ≤ 8191)) with
  | some k => efNorm (roundAway (q / pow10 ((k : Int) - 16))).toNat ((k : Int) - 16)
  | none => efWord 8191 15

/-! ### T18 -/

/-- The kelvin a T18 word stands for (R36). -/
def temp (w : Word) : Rat := (w.toNat : Rat) / 256

/-- The T18 word of a temperature in kelvin: rounded, and held at the nearer limit of the format (R36, R47). -/
def toTemp (q : Rat) : Word := Word.ofNat (clampInt 0 0x3FFFF (roundAway (q * 256))).toNat

/-! ### Durations -/

/-- Ticks of 5 ns in one second (R19). -/
def ticksPerSecond : Nat := 200000000

/-- Ticks of 5 ns in one microsecond. -/
def us (n : Nat) : Nat := n * 200

/-- Ticks of 5 ns in one millisecond. -/
def ms (n : Nat) : Nat := n * 200000

/-- Whether an EF18 duration in seconds has passed between two instants in ticks. -/
def elapsed (w : Word) (start now : Nat) : Bool := decide (ef w * ticksPerSecond ≤ ((now - start : Nat) : Rat))

/-- The EF18 word of a span of ticks, in seconds. -/
def toSeconds (ticks : Nat) : Word := toEF ((ticks : Rat) / ticksPerSecond)

/-! ### Counts -/

/-- A U18 count one higher, held at its maximum. -/
def satInc (w : Word) : Word := if w = 0x3FFFF then w else w + 1

/-- A U18 count n higher, held at its maximum. -/
def satAdd (w : Word) (n : Nat) : Word := Word.ofNat (min 262143 (w.toNat + n))

/-! ### Bytes -/

/-- A number as n bytes, low byte first (R64). -/
def leBytes : Nat → Nat → List Byte
  | 0, _ => []
  | n + 1, v => BitVec.ofNat 8 v :: leBytes n (v / 256)

/-- The number that bytes spell, low byte first (R64). -/
def ofLe : List Byte → Nat
  | [] => 0
  | b :: r => b.toNat + 256 * ofLe r

/-- A word and its quality code as the three bytes of R40. -/
def wordBytes (w : Word) (q : Nat) : List Byte :=
  [BitVec.ofNat 8 (bits w 7 0), BitVec.ofNat 8 (bits w 15 8), BitVec.ofNat 8 (bits w 17 16 + 4 * q)]

/-- The word that three written bytes carry; bits [7:2] of byte 2 are ignored (R40). -/
def bytesWord (b0 b1 b2 : Byte) : Word := Word.ofNat (b0.toNat + 256 * b1.toNat + 65536 * (b2.toNat % 4))

/-- A number as bytes, high byte first (R64, trailer). -/
def ofBe (bs : List Byte) : Nat := ofLe bs.reverse

/-! ### Checks -/

/-- One bit of the SMBus CRC-8, polynomial 0x07, not reflected (R402). -/
def crc8Step (c : Byte) : Byte := if c.getLsbD 7 then (c <<< 1) ^^^ 0x07 else c <<< 1

/-- The SMBus PEC of a list of bytes (R402). -/
def crc8 (bs : List Byte) : Byte :=
  bs.foldl (fun c b => (List.range 8).foldl (fun c _ => crc8Step c) (c ^^^ b)) 0

/-- One bit of the IEEE 802.3 CRC-32, reflected (R68). -/
def crc32Step (c : BitVec 32) : BitVec 32 := if c.getLsbD 0 then (c >>> 1) ^^^ 0xEDB88320 else c >>> 1

/-- The CRC-32 of R68. -/
def crc32 (bs : List Byte) : Nat :=
  ((bs.foldl (fun c b => (List.range 8).foldl (fun c _ => crc32Step c) (c ^^^ b.setWidth 32)) 0xFFFFFFFF)
    ^^^ 0xFFFFFFFF).toNat

end Sys2Proof.Machine
end

