-- ==== Sys2Proof/Machine/Store.lean ====
section
/-! DEFINITION. Sparse data by key, in one canonical form: keys strictly rising and no entry at the default. The register words, the MRAM and the update times are all held so, and equal contents are equal lists. -/

namespace Sys2Proof.Machine

/-- The value at a key; an unlisted key holds the default. -/
def lookup {α : Type} (d : α) : List (Nat × α) → Nat → α
  | [], _ => d
  | (k, v) :: r, a => if a < k then d else if a = k then v else lookup d r a

/-- The list with the value at one key replaced; the default is never listed. -/
def assign {α : Type} [DecidableEq α] (d : α) : List (Nat × α) → Nat → α → List (Nat × α)
  | [], a, v => if v = d then [] else [(a, v)]
  | (k, w) :: r, a, v =>
    if a < k then (if v = d then (k, w) :: r else (a, v) :: (k, w) :: r)
    else if a = k then (if v = d then r else (a, v) :: r)
    else (k, w) :: assign d r a v

/-- The canonical form: every key of the list is above b, keys strictly rise, and no value is the default. -/
def canonicalFrom {α : Type} [DecidableEq α] (d : α) : Nat → List (Nat × α) → Bool
  | _, [] => true
  | b, (k, v) :: r => decide (b ≤ k) && decide (v ≠ d) && canonicalFrom d (k + 1) r

/-- The canonical form of a whole list. -/
def canonical {α : Type} [DecidableEq α] (d : α) (l : List (Nat × α)) : Bool := canonicalFrom d 0 l

/-- The list with consecutive keys, from a on, set to the values given. -/
def assignAll {α : Type} [DecidableEq α] (d : α) : List (Nat × α) → Nat → List α → List (Nat × α)
  | l, _, [] => l
  | l, a, v :: vs => assignAll d (assign d l a v) (a + 1) vs

/-- The values at n consecutive keys from a on. -/
def lookupAll {α : Type} (d : α) (l : List (Nat × α)) (a n : Nat) : List α :=
  (List.range n).map fun i => lookup d l (a + i)

/-! ### Lists in a stated order -/

/-- One element put before the first whose key is larger. -/
def insertBy {α : Type} (key : α → Nat) (x : α) : List α → List α
  | [] => [x]
  | y :: r => if key x < key y then x :: y :: r else y :: insertBy key x r

/-- The list by ascending key; equal keys keep their order. -/
def sortBy {α : Type} (key : α → Nat) (l : List α) : List α := l.foldl (fun acc x => insertBy key x acc) []

/-- The element of smallest key, the first of equals. -/
def minBy {α : Type} (key : α → Int) : List α → Option α
  | [] => none
  | x :: r => some (r.foldl (fun m y => if key y < key m then y else m) x)

/-! ### Keyed lists of the machine's timers and counters -/

/-- The value filed under a key, if any. -/
def find {κ α : Type} [DecidableEq κ] (l : List (κ × α)) (k : κ) : Option α := (l.find? (fun p => p.1 = k)).map (·.2)

/-- The list without a key. -/
def dropKey {κ α : Type} [DecidableEq κ] (l : List (κ × α)) (k : κ) : List (κ × α) := l.filter (fun p => p.1 ≠ k)

/-- The list with a key filed anew, at its end. -/
def putKey {κ α : Type} [DecidableEq κ] (l : List (κ × α)) (k : κ) (v : α) : List (κ × α) := dropKey l k ++ [(k, v)]

end Sys2Proof.Machine
end

