-- ==== Sys2Proof/Machine/Image.lean ====
section
/-! DEFINITION. The Synhatal image as data: one structure per record of its sections (R67 to R89), and source identifiers (R75). -/

namespace Sys2Proof.Machine

/-- The type of a context (R51). -/
inductive CtxType where
  | shelf | feed | rectifier | string | group | branch | pol | rail | zone
  deriving DecidableEq, Repr

/-- The type code of R51. -/
def CtxType.code : CtxType → Nat
  | .shelf => 1 | .feed => 2 | .rectifier => 3 | .string => 4 | .group => 5
  | .branch => 6 | .pol => 7 | .rail => 8 | .zone => 9

/-- The type a code of R51 names. -/
def CtxType.ofCode : Nat → Option CtxType
  | 1 => some .shelf | 2 => some .feed | 3 => some .rectifier | 4 => some .string | 5 => some .group
  | 6 => some .branch | 7 => some .pol | 8 => some .rail | 9 => some .zone
  | _ => none

/-- Every context type, in the order of its code. -/
def CtxType.all : List CtxType := [.shelf, .feed, .rectifier, .string, .group, .branch, .pol, .rail, .zone]

/-- The largest number of contexts of a type (R51). -/
def CtxType.maxCount : CtxType → Nat
  | .shelf => 1 | .feed => 6 | .rectifier => 24 | .string => 8 | .group => 8
  | .branch => 16 | .pol => 64 | .rail => 64 | .zone => 32

/-- A source identifier (R75). -/
inductive Src where
  | word (ctx w : Nat)
  | scan (n : Nat)
  | slot (n : Nat)
  | group (n : Nat)
  | none
  deriving DecidableEq, Repr

/-- A context record (R72, R73). -/
structure CtxRec where
  ctx : Nat
  typ : CtxType
  inst : Nat
  enabled : Bool
  vbase : Word
  ibase : Word
  prigrp : Nat
  dormant : Nat
  a0 : Nat
  a1 : Nat
  a2 : Nat
  a3 : Nat
  deriving DecidableEq, Repr

/-- A slot program record and its coefficients record (R76, R77). -/
structure SlotRec where
  slot : Nat
  law : Nat
  group : Nat
  ref : Src
  fb : Src
  ff : Src
  words : List Word
  coef : List Word
  deriving DecidableEq, Repr

/-- A min-select group record (R78). -/
structure GroupRec where
  group : Nat
  tkind : Nat
  tindex : Nat
  owner : Nat
  fallback : Word
  deriving DecidableEq, Repr

/-- A sequencing graph record (R80): pred holds the instance numbers of the predecessor rails. -/
structure GraphRec where
  rail : Nat
  graph : Nat
  discharge : Bool
  segment : Option Nat
  pred : List Nat
  disch : Nat
  deriving DecidableEq, Repr

/-- A fault-reaction matrix record (R82). -/
structure ReactRec where
  typ : Nat
  cls : Nat
  sev : Nat
  react : Nat
  deriving DecidableEq, Repr

/-- A safe-state record (R83). -/
structure SafeRec where
  ctx : Nat
  menu : Nat
  param : Word
  deriving DecidableEq, Repr

/-- A pin function record (R85). -/
structure PinRec where
  pin : Nat
  func : Nat
  ctx : Nat
  invert : Bool
  deriving DecidableEq, Repr

/-- A fallback compensation record (R86). -/
structure FbRec where
  grp : Nat
  gm : Nat
  fz : Word
  fp : Word
  ilim : Word
  deriving DecidableEq, Repr

/-- A reset-state override record (R87). -/
structure OvrRec where
  pin : Nat
  state : Nat
  deriving DecidableEq, Repr

/-- An initial value record (R88). -/
structure InitRec where
  addr : Nat
  value : Word
  deriving DecidableEq, Repr

/-- A migration record (R89). -/
structure MigRec where
  kind : Nat
  op : Nat
  fromVer : Nat
  old : Nat
  new : Nat
  const : Word
  deriving DecidableEq, Repr

/-- A whole image: the header fields a running shelf uses (R67) and its sections (R71). -/
structure Image where
  rollback : Nat
  keySlot : Nat
  imgVer : Nat
  minFw : Nat
  ckptVer : Nat
  setVer : Nat
  contexts : List CtxRec
  slots : List SlotRec
  groups : List GroupRec
  graphs : List GraphRec
  matrix : List ReactRec
  safe : List SafeRec
  pins : List PinRec
  fallback : List FbRec
  overrides : List OvrRec
  init : List InitRec
  migration : List MigRec
  deriving DecidableEq, Repr

/-- The context record of a number. -/
def Image.ctx? (im : Image) (c : Nat) : Option CtxRec := im.contexts.find? (·.ctx = c)

/-- The context numbers of a type, ascending. -/
def Image.ofType (im : Image) (t : CtxType) : List CtxRec :=
  sortBy (·.ctx) (im.contexts.filter (·.typ = t))

/-- The context of an instance of a type. -/
def Image.inst? (im : Image) (t : CtxType) (i : Nat) : Option CtxRec :=
  im.contexts.find? (fun r => r.typ = t ∧ r.inst = i)

/-- The program of a slot. -/
def Image.slot? (im : Image) (n : Nat) : Option SlotRec := im.slots.find? (·.slot = n)

/-- The record of a min-select group. -/
def Image.group? (im : Image) (n : Nat) : Option GroupRec := im.groups.find? (·.group = n)

/-- The number of phases of a group context, from its 24-bit phase mask (R73). -/
def CtxRec.phaseMask (r : CtxRec) : Nat := r.a0 + 256 * r.a1 + 65536 * r.a2

/-- The phases of a group context, ascending. -/
def CtxRec.phases (r : CtxRec) : List Nat := (List.range 24).filter (fun p => r.phaseMask.testBit p)

/-- The members of a min-select group, ascending by slot number. -/
def Image.members (im : Image) (g : Nat) : List SlotRec :=
  sortBy (·.slot) (im.slots.filter (·.group = g))

/-- Whether a slot is fast: its group has TKIND 0x01 (R105). -/
def Image.fast (im : Image) (r : SlotRec) : Bool := (im.group? r.group).any (·.tkind = 1)

/-- The words that migration records of a kind and old version write, in record order (R90, R91): old is the old area, ratio gives old base over new base of a context for an operation. -/
def migrated (im : Image) (kind ver : Nat) (old : Nat → Option Word) (ratio : Nat → Nat → Rat) : List (Nat × Word) :=
  (im.migration.filter (fun m => m.kind = kind ∧ m.fromVer = ver)).filterMap fun m =>
    if m.op = 0 then (old m.old).map (fun w => (m.new, w))
    else if m.op = 1 then some (m.new, m.const)
    else if 4 < m.op then none
    else (old m.old).map (fun w => (m.new, toPU (pu w * ratio m.op (bits m.const 6 0))))

/-- The coefficient count of a law (R107). -/
def ncoef : Nat → Nat
  | 1 => 5 | 2 => 4 | 3 => 6 | 4 => 8 | _ => 0

/-- The slice cycles of a law (R107). -/
def lawCost : Nat → Nat
  | 1 => 9 | 2 => 7 | 3 => 9 | 4 => 11 | _ => 0

end Sys2Proof.Machine
end

