-- ==== Sys2Proof/Machine/Regs.lean ====
section
/-! DEFINITION. The register map: one name per register (the address of a global-page word, the word number inside a context block, the offset inside a loop slot) and one description per register saying what a write of it may store. Global page p begins at 0x40 * p (R509), context block n at 0x1000 + 0x40 * n (R510), loop slot s at 0x3000 + 8 * s (R101). Names are the manual's BLOCK.NAME with the dot written as an underscore. -/

namespace Sys2Proof.Machine

/-- The access codes of R9, for one field. -/
inductive Access where
  | rw | ro | w1c | wt
  deriving DecidableEq, Repr

/-- How a value written to a field is made legal: any value, the nearer end of a range (R43), or a safe code for an illegal code (R44). -/
inductive FieldRule where
  | any
  | range (lo hi : Nat)
  | codes (illegal : List Nat) (safe : Nat)
  deriving DecidableEq, Repr

/-- One field of a fields word (R9): bits [hi:lo], its access and its rule. -/
structure FieldDesc where
  hi : Nat
  lo : Nat
  access : Access
  rule : FieldRule
  deriving DecidableEq, Repr

/-- What a write of a word stores: nothing (RO), an action (WT), a number kept inside its documented range (R43), the whole word, or a set of fields each under its own access (R45). -/
inductive Shape where
  | readOnly
  | trigger
  | pu (lo hi : Int)
  | ef (lo hi : Nat)
  | temp (lo hi : Nat)
  | count (lo hi : Nat)
  | raw
  | fields (fs : List FieldDesc)
  deriving DecidableEq, Repr

/-- A run of registers of one description: first offset, how many words, shape. -/
structure RegDesc where
  off : Nat
  n : Nat
  shape : Shape
  deriving DecidableEq, Repr

/-! ### page0 -/

abbrev HOST_DEVID : Nat := 0x0000 -- R415
abbrev HOST_CFG : Nat := 0x0001 -- R415
abbrev HOST_STS : Nat := 0x0002 -- R415
abbrev HOST_ALERT : Nat := 0x0003 -- R415
abbrev HOST_ALERTEN : Nat := 0x0004 -- R415
abbrev HOST_VIOLCNT : Nat := 0x0005 -- R415
abbrev HOST_LASTVIOL : Nat := 0x0006 -- R415
abbrev HOST_ID : Nat := 0x0007 -- R415
abbrev SYS_STATE : Nat := 0x0008 -- R32
abbrev SYS_DORMANT : Nat := 0x0009 -- R32
abbrev SYS_DSTAT : Nat := 0x000A -- R32
abbrev SYS_WAKEEN : Nat := 0x000B -- R32
abbrev BB_PPTR : Nat := 0x000C -- R391
abbrev BB_PDATA : Nat := 0x000D -- R391
abbrev LANE_AUTH : Nat := 0x0010 -- R343
abbrev LANE_HEALTH : Nat := 0x0011 -- R343
abbrev LANE_SWAP : Nat := 0x0012 -- R343
abbrev LANE_RESTART : Nat := 0x0013 -- R343
abbrev LANE_STS : Nat := 0x0014 -- R343
abbrev LANE_COLCNT : Nat := 0x0015 -- R343
abbrev LANE_COLLAST : Nat := 0x0016 -- R343
abbrev LANE_SWAPCNT : Nat := 0x0017 -- R343
abbrev LANE_EPOCH : Nat := 0x0018 -- 4 words (R343)
abbrev LANE_ARTIME : Nat := 0x001C -- R343
abbrev LANE_ARMAX : Nat := 0x001D -- R343
abbrev LANE_ARCNT : Nat := 0x001E -- R343
abbrev FLT_CTL : Nat := 0x0020 -- R361
abbrev FLT_ACK : Nat := 0x0021 -- R361
abbrev FLT_SUM : Nat := 0x0022 -- R361
abbrev FLT_CLSPEND : Nat := 0x0023 -- R361
abbrev FLT_CNT : Nat := 0x0024 -- R361
abbrev FLT_ESCCNT : Nat := 0x0025 -- R361
abbrev FLT_LOGOVF : Nat := 0x0026 -- R361
abbrev FLT_INJECT : Nat := 0x0027 -- R361
abbrev FE_INFO : Nat := 0x0028 -- R361
abbrev FE_SRC : Nat := 0x0029 -- R361
abbrev FE_ADDR : Nat := 0x002A -- R361
abbrev FE_TIME : Nat := 0x002B -- 4 words (R361)
abbrev BB_CLR : Nat := 0x0030 -- R391
abbrev BB_STS : Nat := 0x0031 -- R391
abbrev BB_STATE : Nat := 0x0032 -- R391
abbrev BB_FRZTO : Nat := 0x0033 -- R391
abbrev BB_RLDEPTH : Nat := 0x0034 -- R391
abbrev BB_RLPER : Nat := 0x0035 -- R391
abbrev BB_BFILL : Nat := 0x0036 -- R391
abbrev BB_CHEAD : Nat := 0x0037 -- R391
abbrev BB_RSEQ : Nat := 0x0038 -- 2 words (R391)
abbrev BB_CLRSEQ : Nat := 0x003A -- 2 words (R391)
abbrev BB_DROPCNT : Nat := 0x003C -- R391
abbrev BB_MISSCNT : Nat := 0x003D -- R391
abbrev BB_WBASE : Nat := 0x003E -- R391
abbrev BB_CLRCNT : Nat := 0x003F -- R391

/-! ### page1 -/

abbrev SEQ_CMD : Nat := 0x0040 -- R319
abbrev SEQ_STS : Nat := 0x0041 -- R319
abbrev SEQ_TOFFMIN : Nat := 0x0042 -- R319
abbrev SEQ_TFLT : Nat := 0x0043 -- R319
abbrev PB_TLONG : Nat := 0x0044 -- R319
abbrev GPIN_DEB : Nat := 0x0045 -- R319
abbrev SEQ_SNAPCNT : Nat := 0x0046 -- R319
abbrev SEQ_GCFG : Nat := 0x0048 -- 8 words (R319)
abbrev SEQ_GSTATE : Nat := 0x0050 -- 8 words (R319)
abbrev SCAN_SEL : Nat := 0x0058 -- R319
abbrev SCAN_RD : Nat := 0x0059 -- R319
abbrev IN_PBCNT : Nat := 0x005A -- R319
abbrev IN_SFCNT : Nat := 0x005B -- R319
abbrev IN_GPCNT : Nat := 0x005C -- R319

/-! ### page2 -/

abbrev TDIE_S : Nat := 0x0080 -- 24 words (R370)
abbrev TDIE_TJ : Nat := 0x0098 -- R370
abbrev TDIE_STS : Nat := 0x0099 -- R370
abbrev TDIE_EXCL0 : Nat := 0x009A -- R370
abbrev TDIE_EXCL1 : Nat := 0x009B -- R370
abbrev TDIE_PEAK : Nat := 0x009C -- R370
abbrev TDIE_PHLIFE : Nat := 0x009D -- R370
abbrev TDIE_HSLIFE : Nat := 0x009E -- R370
abbrev TS_NRSER : Nat := 0x00A0 -- R370
abbrev TS_NR25 : Nat := 0x00A1 -- R370
abbrev TS_NBETA : Nat := 0x00A2 -- R370
abbrev TS_DV25 : Nat := 0x00A3 -- R370
abbrev TS_DSLOPE : Nat := 0x00A4 -- R370

/-! ### page3 -/

abbrev FAB_CTL : Nat := 0x00C0 -- R120
abbrev FAB_SLOT : Nat := 0x00C1 -- R114
abbrev FAB_CDATA : Nat := 0x00C2 -- R114
abbrev FAB_CAPPLY : Nat := 0x00C3 -- R114
abbrev FAB_LOAD : Nat := 0x00C4 -- R120
abbrev FAB_OVRCNT : Nat := 0x00C5 -- R120
abbrev FAB_GRES : Nat := 0x0100 -- 64 words (R121)
abbrev FAB_GGOV : Nat := 0x0140 -- 64 words (R121)
abbrev FAB_GMARG : Nat := 0x0180 -- 64 words (R121)

/-! ### page7 -/

abbrev PH_IMEAS : Nat := 0x01C0 -- 24 words (R143)
abbrev PH_STS : Nat := 0x01D8 -- 24 words (R143)

/-! ### page8 -/

abbrev GCH_STS : Nat := 0x0200 -- 16 words (R183)
abbrev GCH_OWNER : Nat := 0x0210 -- 16 words (R183)

/-! ### page9 -/

abbrev FSEL_CTL : Nat := 0x0240 -- R192
abbrev FSEL_DEAD : Nat := 0x0241 -- R192
abbrev FSEL_ACTIVE : Nat := 0x0242 -- R192
abbrev FSEL_CHGCNT : Nat := 0x0243 -- R192
abbrev FSEL_STS : Nat := 0x0244 -- R192

/-! ### page10 -/

abbrev SAD_CFG : Nat := 0x0280 -- R230
abbrev SAD_CMD : Nat := 0x0281 -- R230
abbrev SAD_STATE : Nat := 0x0282 -- R230
abbrev SAD_STS : Nat := 0x0283 -- R230
abbrev SAD_VSOFS : Nat := 0x0284 -- R230
abbrev SAD_VHOLD : Nat := 0x0285 -- R230
abbrev SAD_TLOSS : Nat := 0x0286 -- R230
abbrev SAD_TSTABLE : Nat := 0x0287 -- R230
abbrev SAD_HTHR : Nat := 0x0288 -- R230
abbrev SAD_HHYST : Nat := 0x0289 -- R230
abbrev SAD_HREF : Nat := 0x028A -- R230
abbrev SAD_HDEPTH : Nat := 0x028B -- R230
abbrev SAD_HDUR : Nat := 0x028C -- R230
abbrev SAD_HCNT : Nat := 0x028D -- R230
abbrev SAD_CNT : Nat := 0x028E -- R230

/-! ### page11 -/

abbrev CELL_V : Nat := 0x02C0 -- 32 words (R250)
abbrev CELL_CFG : Nat := 0x02E0 -- 2 words (R250)
abbrev CELL_OVTH : Nat := 0x02E2 -- 2 words (R250)
abbrev CELL_OVSTS : Nat := 0x02E4 -- 2 words (R250)

/-! ### page12 -/

abbrev EST_OCV : Nat := 0x0300 -- 64 words (R260)

/-! ### page13 -/

abbrev LRN_STS : Nat := 0x0340 -- R274
abbrev LRN_SEQ : Nat := 0x0341 -- R274
abbrev LRN_CNT : Nat := 0x0342 -- R274

/-! ### page14 -/

abbrev THR_THOLD : Nat := 0x0380 -- R293
abbrev THR_TREL : Nat := 0x0381 -- R293
abbrev THR_LIVE : Nat := 0x0382 -- R293
abbrev THR_HARDEN : Nat := 0x0383 -- R293
abbrev THR_FORCE : Nat := 0x0384 -- R293
abbrev THR_STS : Nat := 0x0385 -- R293
abbrev THR_CNT : Nat := 0x0390 -- 16 words (R293)

/-! ### page15 -/

abbrev IMG_ACTIVE : Nat := 0x03C0 -- R97
abbrev IMG_SWITCH : Nat := 0x03C1 -- R97
abbrev IMG_LDSTAT : Nat := 0x03C2 -- R97
abbrev IMG_LDERR : Nat := 0x03C3 -- R97
abbrev IMG_LDREC : Nat := 0x03C4 -- R97
abbrev IMG_CKPTVER : Nat := 0x03C5 -- R97
abbrev IMG_SETVER : Nat := 0x03C6 -- R97
abbrev UPD_CTL : Nat := 0x03C7 -- R483
abbrev UPD_STS : Nat := 0x03C8 -- R483
abbrev UPD_STAGE : Nat := 0x03C9 -- R483
abbrev UPD_FWACT : Nat := 0x03CA -- R483
abbrev UPD_CONFIRM : Nat := 0x03CB -- R483
abbrev UPD_TRIAL : Nat := 0x03CC -- R483
abbrev UPD_TREM : Nat := 0x03CD -- R483
abbrev UPD_WBASE : Nat := 0x03CE -- R483
abbrev UPD_FWVER : Nat := 0x03CF -- 2 words (R483)
abbrev UPD_ARB : Nat := 0x03D1 -- R483
abbrev UPD_SAVE : Nat := 0x03D2 -- R483
abbrev RST_CAUSE : Nat := 0x03F0 -- R466
abbrev RST_STRAP : Nat := 0x03F1 -- R466
abbrev RST_SW : Nat := 0x03F2 -- R466
abbrev RST_BLK : Nat := 0x03F3 -- R466
abbrev RST_BLKSTS : Nat := 0x03F4 -- R466
abbrev RST_ISOCNT : Nat := 0x03F5 -- R466
abbrev CLK_STS : Nat := 0x03F6 -- R466
abbrev FCNT_CTL : Nat := 0x03F7 -- R466
abbrev FCNT_CMD : Nat := 0x03F8 -- R466
abbrev FCNT_GATE : Nat := 0x03F9 -- 2 words (R466)
abbrev FCNT_RES : Nat := 0x03FB -- 2 words (R466)
abbrev FCNT_STS : Nat := 0x03FD -- R466

/-! ### page16 -/

abbrev DSP_CFG : Nat := 0x0400 -- 4 words (R429)
abbrev DSP_STS : Nat := 0x0404 -- 4 words (R429)
abbrev DSP_STATE : Nat := 0x0408 -- 4 words (R429)
abbrev DSP_TXCNT : Nat := 0x040C -- 4 words (R429)
abbrev DSP_ERRCNT : Nat := 0x0410 -- 4 words (R429)
abbrev DS_POLL : Nat := 0x0414 -- R429

/-! ### page17 -/

abbrev CASC_CFG : Nat := 0x0440 -- R443
abbrev CASC_STATE : Nat := 0x0441 -- R443
abbrev CASC_STS : Nat := 0x0442 -- R443
abbrev CASC_REACH : Nat := 0x0443 -- R443
abbrev CASC_TOFS : Nat := 0x0444 -- 4 words (R443)
abbrev CASC_HOPDLY : Nat := 0x0448 -- R443
abbrev CASC_CVCNT : Nat := 0x0449 -- R443
abbrev CASC_CRCCNT : Nat := 0x044A -- R443
abbrev CASC_RCMD : Nat := 0x044B -- R443
abbrev CASC_RADDR : Nat := 0x044C -- R443
abbrev CASC_RDATA : Nat := 0x044D -- R443
abbrev CASC_RSTS : Nat := 0x044E -- R443

/-! ### header -/

abbrev CTX_TYPE : Nat := 0x0000 -- R57
abbrev CTX_VBASE : Nat := 0x0001 -- R54
abbrev CTX_IBASE : Nat := 0x0002 -- R54
abbrev CTX_PBASE : Nat := 0x0003 -- R54
abbrev CTX_STATE : Nat := 0x0004 -- R58
abbrev CTX_STS : Nat := 0x0005 -- R59
abbrev CTX_SEV : Nat := 0x0006 -- R60
abbrev CTX_GOV : Nat := 0x0007 -- R61
abbrev CTX_VMEAS : Nat := 0x0008 -- R54
abbrev CTX_IMEAS : Nat := 0x0009 -- R54
abbrev CTX_PMEAS : Nat := 0x000A -- R54
abbrev CTX_TMEAS : Nat := 0x000B -- R54

/-! ### shelf -/

abbrev SHELF_CCTL : Nat := 0x0010 -- R284
abbrev SHELF_PINCAP : Nat := 0x0011 -- R284
abbrev SHELF_RACKCAP : Nat := 0x0012 -- R284
abbrev SHELF_FBALLOC : Nat := 0x0013 -- R284
abbrev SHELF_PCAPEFF : Nat := 0x0014 -- R284
abbrev SHELF_PSRC : Nat := 0x0015 -- R284
abbrev SHELF_PBAT : Nat := 0x0016 -- R284
abbrev SHELF_ALLOW : Nat := 0x0017 -- R284
abbrev SHELF_PBAVAIL : Nat := 0x0018 -- R284
abbrev SHELF_HEAD : Nat := 0x0019 -- R284
abbrev SHELF_HARD : Nat := 0x001A -- R284
abbrev SHELF_RFLOOR : Nat := 0x001B -- R284
abbrev SHELF_RWEIGHT : Nat := 0x001C -- R284
abbrev SHELF_RACKLIM : Nat := 0x001D -- R284
abbrev SHELF_CAPLIVE : Nat := 0x001E -- R284

/-! ### feed -/

abbrev FEED_CTL : Nat := 0x0010 -- R185
abbrev FEED_RSHUNT : Nat := 0x0011 -- R185
abbrev FEED_VIN : Nat := 0x0012 -- R185
abbrev FEED_VQMIN : Nat := 0x0013 -- R185
abbrev FEED_VQMAX : Nat := 0x0014 -- R185
abbrev FEED_TQUAL : Nat := 0x0015 -- R185
abbrev FEED_TDQ : Nat := 0x0016 -- R185
abbrev FEED_ITRIP : Nat := 0x0017 -- R185
abbrev FEED_IREV : Nat := 0x0018 -- R185
abbrev FEED_VFWD : Nat := 0x0019 -- R185
abbrev FEED_VON : Nat := 0x001A -- R185
abbrev FEED_PRIO : Nat := 0x001B -- R185

/-! ### rectifier -/

abbrev RECT_CTL : Nat := 0x0010 -- R277
abbrev RECT_IREF : Nat := 0x0011 -- R277
abbrev RECT_SHERR : Nat := 0x0012 -- R277
abbrev RECT_SHTOL : Nat := 0x0013 -- R277
abbrev RECT_TRIM : Nat := 0x0014 -- R277
abbrev RECT_VSPAN : Nat := 0x0015 -- R277

/-! ### string -/

abbrev BAT_CTL : Nat := 0x0010 -- R210
abbrev BAT_DHRSHUNT : Nat := 0x0011 -- R210
abbrev BAT_IDMAX : Nat := 0x0012 -- R210
abbrev BAT_IDPERM : Nat := 0x0013 -- R210
abbrev BAT_VCUT : Nat := 0x0014 -- R210
abbrev BAT_VCUTHYS : Nat := 0x0015 -- R210
abbrev BAT_DHILIM : Nat := 0x0016 -- R210
abbrev BAT_DHICHG : Nat := 0x0017 -- R210
abbrev BAT_DHPSOA : Nat := 0x0018 -- R210
abbrev BAT_DHIREV : Nat := 0x0019 -- R210
abbrev BAT_DHITO : Nat := 0x001A -- R210
abbrev BAT_DHTFLT : Nat := 0x001B -- R210
abbrev BAT_DHRETRY : Nat := 0x001C -- R210
abbrev BAT_DHRETRYCNT : Nat := 0x001D -- R210
abbrev BAT_DHCOOL : Nat := 0x001E -- R210
abbrev BAT_PSTS : Nat := 0x001F -- R210
abbrev CHG_CTL : Nat := 0x0020 -- R234
abbrev CHG_STATE : Nat := 0x0021 -- R234
abbrev CHG_ICC : Nat := 0x0022 -- R234
abbrev CHG_VCV : Nat := 0x0023 -- R234
abbrev CHG_ITERM : Nat := 0x0024 -- R234
abbrev CHG_VPRE : Nat := 0x0025 -- R234
abbrev CHG_VRCH : Nat := 0x0026 -- R234
abbrev CHG_TTOP : Nat := 0x0027 -- R234
abbrev CHG_TSAFE : Nat := 0x0028 -- R234
abbrev CHG_TELAP : Nat := 0x0029 -- R234
abbrev CHG_TCLO : Nat := 0x002A -- R234
abbrev CHG_TCHI : Nat := 0x002B -- R234
abbrev CHG_TDHI : Nat := 0x002C -- R234
abbrev CHG_NDV : Nat := 0x002D -- R234
abbrev CHG_ICREQ : Nat := 0x002E -- R234
abbrev CHG_NDTDT : Nat := 0x002F -- R234
abbrev EST_CTL : Nat := 0x0030 -- R258
abbrev EST_RSHUNT : Nat := 0x0031 -- R258
abbrev EST_QNET : Nat := 0x0032 -- 4 words (R258)
abbrev EST_QNOM : Nat := 0x0036 -- R258
abbrev EST_QCAP : Nat := 0x0037 -- R258
abbrev EST_SOC : Nat := 0x0038 -- R258
abbrev EST_SOCRAW : Nat := 0x0039 -- R258
abbrev EST_UNC : Nat := 0x003A -- R258
abbrev EST_IREST : Nat := 0x003B -- R258
abbrev EST_TREST : Nat := 0x003C -- R258
abbrev EST_RINT : Nat := 0x003D -- R258
abbrev EST_IDLIM : Nat := 0x003E -- R258
abbrev EST_STS : Nat := 0x003F -- R258

/-! ### group -/

abbrev GRP_CTL : Nat := 0x0010 -- R148
abbrev GRP_FSW : Nat := 0x0011 -- R133
abbrev GRP_SYNCPH : Nat := 0x0012 -- R133
abbrev GRP_FMEAS : Nat := 0x0013 -- R133
abbrev GRP_VCMD : Nat := 0x0014 -- R133
abbrev GRP_ICMD : Nat := 0x0015 -- R133
abbrev GRP_IPKMAX : Nat := 0x0016 -- R133
abbrev GRP_PHTRIP : Nat := 0x0017 -- R133
abbrev GRP_SLOPE : Nat := 0x0018 -- R133
abbrev GRP_RSENSE : Nat := 0x0019 -- R133
abbrev GRP_VPG : Nat := 0x001A -- R133
abbrev GRP_SSTO : Nat := 0x001B -- R133
abbrev GRP_HICCUP : Nat := 0x001C -- R133
abbrev GRP_RETRY : Nat := 0x001D -- R133
abbrev GRP_RETRYCNT : Nat := 0x001E -- R133
abbrev GRP_NACT : Nat := 0x001F -- R133
abbrev GRP_NMIN : Nat := 0x0020 -- R133
abbrev GRP_DWELL : Nat := 0x0021 -- R133
abbrev GRP_FADE : Nat := 0x0022 -- R133
abbrev GRP_HOLDEPTH : Nat := 0x0023 -- R133
abbrev GRP_RECALLCNT : Nat := 0x0024 -- R133
abbrev STEPPE_ADD : Nat := 0x0025 -- 11 words (R133)
abbrev STEPPE_SHED : Nat := 0x0030 -- 11 words (R133)

/-! ### branch -/

abbrev BR_CTL : Nat := 0x0010 -- R196
abbrev BR_RSHUNT : Nat := 0x0011 -- R196
abbrev BR_ILIM : Nat := 0x0012 -- R196
abbrev BR_PSOA : Nat := 0x0013 -- R196
abbrev BR_ILIMEFF : Nat := 0x0014 -- R196
abbrev BR_VDS : Nat := 0x0015 -- R196
abbrev BR_VPG : Nat := 0x0016 -- R196
abbrev BR_ITO : Nat := 0x0017 -- R196
abbrev BR_TFLT : Nat := 0x0018 -- R196
abbrev BR_IREV : Nat := 0x0019 -- R196
abbrev BR_RETRY : Nat := 0x001A -- R196
abbrev BR_RETRYCNT : Nat := 0x001B -- R196
abbrev BR_COOLMIN : Nat := 0x001C -- R196
abbrev BR_COOLREM : Nat := 0x001D -- R196
abbrev BR_TJMAX : Nat := 0x001E -- R196
abbrev BR_TJRESTART : Nat := 0x001F -- R196
abbrev BR_TREF : Nat := 0x0020 -- R196
abbrev BR_RTH1 : Nat := 0x0021 -- R196
abbrev BR_RTH2 : Nat := 0x0022 -- R196
abbrev BR_RTH3 : Nat := 0x0023 -- R196
abbrev BR_TAU1 : Nat := 0x0024 -- R196
abbrev BR_TAU2 : Nat := 0x0025 -- R196
abbrev BR_TAU3 : Nat := 0x0026 -- R196
abbrev BR_LIVE : Nat := 0x0027 -- R196
abbrev BR_EATT : Nat := 0x0028 -- R196

/-! ### pol -/

abbrev POL_CTL : Nat := 0x0010 -- R428
abbrev POL_VSET : Nat := 0x0011 -- R428
abbrev POL_VIN : Nat := 0x0012 -- R428
abbrev POL_STSWORD : Nat := 0x0013 -- R428
abbrev POL_VOUTMODE : Nat := 0x0014 -- R428
abbrev POL_ERRCNT : Nat := 0x0015 -- R428
abbrev POL_ADDR : Nat := 0x0016 -- R428

/-! ### rail -/

abbrev RAIL_CTL : Nat := 0x0010 -- R302
abbrev RAIL_VUV : Nat := 0x0011 -- R302
abbrev RAIL_VOV : Nat := 0x0012 -- R302
abbrev RAIL_VOFF : Nat := 0x0013 -- R302
abbrev RAIL_VHYS : Nat := 0x0014 -- R302
abbrev RAIL_FILT : Nat := 0x0015 -- R302
abbrev RAIL_TON : Nat := 0x0016 -- R302
abbrev RAIL_TRISE : Nat := 0x0017 -- R302
abbrev RAIL_TOFF : Nat := 0x0018 -- R302
abbrev RAIL_TFALL : Nat := 0x0019 -- R302
abbrev RAIL_TDIS : Nat := 0x001A -- R302
abbrev RAIL_TRISEM : Nat := 0x001B -- R302
abbrev RAIL_TFALLM : Nat := 0x001C -- R302

/-! ### zone -/

abbrev ZONE_TWARN : Nat := 0x0010 -- R372
abbrev ZONE_TSD : Nat := 0x0011 -- R372
abbrev ZONE_HYS : Nat := 0x0012 -- R372
abbrev ZONE_FILT : Nat := 0x0013 -- R372
abbrev ZONE_SRC : Nat := 0x0014 -- R372
abbrev ZONE_TPEAK : Nat := 0x0015 -- R372

/-! ### slot -/

abbrev SLOT_CTL : Nat := 0x0000 -- R101
abbrev SLOT_SET : Nat := 0x0001 -- R101
abbrev SLOT_RATE : Nat := 0x0002 -- R101
abbrev SLOT_RREF : Nat := 0x0003 -- R101
abbrev SLOT_OMAX : Nat := 0x0004 -- R101
abbrev SLOT_OMIN : Nat := 0x0005 -- R101
abbrev SLOT_OUT : Nat := 0x0006 -- R101
abbrev SLOT_STS : Nat := 0x0007 -- R121

/-- Global page 0 (R509). -/
def descPage0 : List RegDesc :=
  [⟨HOST_DEVID, 1, .readOnly⟩,
   ⟨HOST_CFG, 1, .fields [⟨0, 0, .rw, .any⟩, ⟨1, 1, .rw, .any⟩, ⟨2, 2, .rw, .any⟩]⟩,
   ⟨HOST_STS, 1, .fields [⟨6, 0, .w1c, .any⟩]⟩,
   ⟨HOST_ALERT, 1, .fields [⟨5, 0, .w1c, .any⟩]⟩,
   ⟨HOST_ALERTEN, 1, .fields [⟨5, 0, .rw, .any⟩]⟩,
   ⟨HOST_VIOLCNT, 1, .readOnly⟩,
   ⟨HOST_LASTVIOL, 1, .readOnly⟩,
   ⟨HOST_ID, 1, .readOnly⟩,
   ⟨SYS_STATE, 1, .readOnly⟩,
   ⟨SYS_DORMANT, 1, .trigger⟩,
   ⟨SYS_DSTAT, 1, .fields [⟨0, 0, .w1c, .any⟩, ⟨1, 1, .w1c, .any⟩, ⟨5, 2, .ro, .any⟩]⟩,
   ⟨SYS_WAKEEN, 1, .fields [⟨0, 0, .rw, .any⟩, ⟨1, 1, .rw, .any⟩, ⟨2, 2, .rw, .any⟩]⟩,
   ⟨BB_PPTR, 1, .count 0 262143⟩,
   ⟨BB_PDATA, 1, .readOnly⟩,
   ⟨LANE_AUTH, 1, .readOnly⟩,
   ⟨LANE_HEALTH, 1, .readOnly⟩,
   ⟨LANE_SWAP, 1, .trigger⟩,
   ⟨LANE_RESTART, 1, .trigger⟩,
   ⟨LANE_STS, 1, .fields [⟨6, 0, .w1c, .any⟩]⟩,
   ⟨LANE_COLCNT, 1, .readOnly⟩,
   ⟨LANE_COLLAST, 1, .readOnly⟩,
   ⟨LANE_SWAPCNT, 1, .readOnly⟩,
   ⟨LANE_EPOCH, 4, .readOnly⟩,
   ⟨LANE_ARTIME, 1, .ef 0x00000 0x00E10⟩] ++
  [⟨LANE_ARMAX, 1, .count 0 15⟩,
   ⟨LANE_ARCNT, 1, .readOnly⟩,
   ⟨FLT_CTL, 1, .fields [⟨0, 0, .rw, .any⟩, ⟨1, 1, .rw, .any⟩]⟩,
   ⟨FLT_ACK, 1, .trigger⟩,
   ⟨FLT_SUM, 1, .readOnly⟩,
   ⟨FLT_CLSPEND, 1, .readOnly⟩,
   ⟨FLT_CNT, 1, .readOnly⟩,
   ⟨FLT_ESCCNT, 1, .readOnly⟩,
   ⟨FLT_LOGOVF, 1, .readOnly⟩,
   ⟨FLT_INJECT, 1, .trigger⟩,
   ⟨FE_INFO, 1, .fields [⟨0, 0, .w1c, .any⟩, ⟨15, 1, .ro, .any⟩]⟩,
   ⟨FE_SRC, 1, .readOnly⟩,
   ⟨FE_ADDR, 1, .readOnly⟩,
   ⟨FE_TIME, 4, .readOnly⟩,
   ⟨BB_CLR, 1, .trigger⟩,
   ⟨BB_STS, 1, .fields [⟨7, 0, .w1c, .any⟩]⟩,
   ⟨BB_STATE, 1, .readOnly⟩,
   ⟨BB_FRZTO, 1, .count 1 500⟩,
   ⟨BB_RLDEPTH, 1, .count 1 255⟩,
   ⟨BB_RLPER, 1, .ef 0x363E8 0x00E10⟩,
   ⟨BB_BFILL, 1, .readOnly⟩,
   ⟨BB_CHEAD, 1, .readOnly⟩,
   ⟨BB_RSEQ, 2, .readOnly⟩,
   ⟨BB_CLRSEQ, 2, .readOnly⟩] ++
  [⟨BB_DROPCNT, 1, .readOnly⟩,
   ⟨BB_MISSCNT, 1, .readOnly⟩,
   ⟨BB_WBASE, 1, .count 0 1023⟩,
   ⟨BB_CLRCNT, 1, .readOnly⟩]

/-- Global page 1 (R509). -/
def descPage1 : List RegDesc :=
  [⟨SEQ_CMD, 1, .trigger⟩,
   ⟨SEQ_STS, 1, .fields [⟨8, 0, .w1c, .any⟩]⟩,
   ⟨SEQ_TOFFMIN, 1, .ef 0x343E8 0x3C3E8⟩,
   ⟨SEQ_TFLT, 1, .ef 0x323E8 0x3A3E8⟩,
   ⟨PB_TLONG, 1, .ef 0x3AFA0 0x3C640⟩,
   ⟨GPIN_DEB, 1, .ef 0x303E8 0x383E8⟩,
   ⟨SEQ_SNAPCNT, 1, .readOnly⟩,
   ⟨SEQ_GCFG, 8, .fields [⟨0, 0, .rw, .any⟩, ⟨1, 1, .rw, .any⟩, ⟨2, 2, .rw, .any⟩, ⟨3, 3, .rw, .any⟩, ⟨4, 4, .rw, .any⟩, ⟨5, 5, .rw, .any⟩]⟩,
   ⟨SEQ_GSTATE, 8, .readOnly⟩,
   ⟨SCAN_SEL, 1, .fields [⟨6, 0, .rw, .any⟩, ⟨7, 7, .rw, .any⟩]⟩,
   ⟨SCAN_RD, 1, .readOnly⟩,
   ⟨IN_PBCNT, 1, .readOnly⟩,
   ⟨IN_SFCNT, 1, .readOnly⟩,
   ⟨IN_GPCNT, 1, .readOnly⟩]

/-- Global page 2 (R509). -/
def descPage2 : List RegDesc :=
  [⟨TDIE_S, 24, .readOnly⟩,
   ⟨TDIE_TJ, 1, .readOnly⟩,
   ⟨TDIE_STS, 1, .fields [⟨1, 0, .ro, .any⟩, ⟨2, 2, .w1c, .any⟩, ⟨3, 3, .w1c, .any⟩, ⟨4, 4, .w1c, .any⟩, ⟨5, 5, .ro, .any⟩]⟩,
   ⟨TDIE_EXCL0, 1, .fields [⟨11, 0, .w1c, .any⟩]⟩,
   ⟨TDIE_EXCL1, 1, .fields [⟨11, 0, .w1c, .any⟩]⟩,
   ⟨TDIE_PEAK, 1, .readOnly⟩,
   ⟨TDIE_PHLIFE, 1, .readOnly⟩,
   ⟨TDIE_HSLIFE, 1, .readOnly⟩,
   ⟨TS_NRSER, 1, .ef 0x003E8 0x063E8⟩,
   ⟨TS_NR25, 1, .ef 0x003E8 0x063E8⟩,
   ⟨TS_NBETA, 1, .ef 0x003E8 0x01770⟩,
   ⟨TS_DV25, 1, .ef 0x38BB8 0x3A384⟩,
   ⟨TS_DSLOPE, 1, .ef 0x343E8 0x34BB8⟩]

/-- Global pages 3 to 6: the fabric words and the group results, governors and margins (R509). -/
def descPage3 : List RegDesc :=
  [⟨FAB_CTL, 1, .fields [⟨0, 0, .ro, .any⟩, ⟨6, 1, .rw, .range 1 63⟩]⟩,
   ⟨FAB_SLOT, 1, .fields [⟨7, 0, .rw, .any⟩, ⟨10, 8, .rw, .any⟩]⟩,
   ⟨FAB_CDATA, 1, .raw⟩,
   ⟨FAB_CAPPLY, 1, .trigger⟩,
   ⟨FAB_LOAD, 1, .readOnly⟩,
   ⟨FAB_OVRCNT, 1, .readOnly⟩,
   ⟨FAB_GRES, 64, .readOnly⟩,
   ⟨FAB_GGOV, 64, .readOnly⟩,
   ⟨FAB_GMARG, 64, .pu 0 16384⟩]

/-- Global page 7 (R509). -/
def descPage7 : List RegDesc :=
  [⟨PH_IMEAS, 24, .readOnly⟩,
   ⟨PH_STS, 24, .fields [⟨2, 0, .ro, .any⟩, ⟨3, 3, .ro, .any⟩, ⟨4, 4, .ro, .any⟩, ⟨5, 5, .w1c, .any⟩, ⟨6, 6, .w1c, .any⟩, ⟨7, 7, .w1c, .any⟩]⟩]

/-- Global page 8 (R509). -/
def descPage8 : List RegDesc :=
  [⟨GCH_STS, 16, .fields [⟨1, 0, .ro, .any⟩, ⟨2, 2, .ro, .any⟩, ⟨3, 3, .w1c, .any⟩, ⟨4, 4, .w1c, .any⟩, ⟨5, 5, .w1c, .any⟩, ⟨6, 6, .w1c, .any⟩, ⟨7, 7, .ro, .any⟩]⟩,
   ⟨GCH_OWNER, 16, .readOnly⟩]

/-- Global page 9 (R509). -/
def descPage9 : List RegDesc :=
  [⟨FSEL_CTL, 1, .fields [⟨0, 0, .rw, .any⟩, ⟨1, 1, .rw, .any⟩]⟩,
   ⟨FSEL_DEAD, 1, .ef 0x2E3E8 0x323E8⟩,
   ⟨FSEL_ACTIVE, 1, .readOnly⟩,
   ⟨FSEL_CHGCNT, 1, .readOnly⟩,
   ⟨FSEL_STS, 1, .fields [⟨2, 0, .w1c, .any⟩]⟩]

/-- Global page 10 (R509). -/
def descPage10 : List RegDesc :=
  [⟨SAD_CFG, 1, .fields [⟨0, 0, .rw, .any⟩, ⟨1, 1, .rw, .any⟩]⟩,
   ⟨SAD_CMD, 1, .trigger⟩,
   ⟨SAD_STATE, 1, .readOnly⟩,
   ⟨SAD_STS, 1, .fields [⟨6, 0, .w1c, .any⟩]⟩,
   ⟨SAD_VSOFS, 1, .pu 131 655⟩,
   ⟨SAD_VHOLD, 1, .pu 52429 72090⟩,
   ⟨SAD_TLOSS, 1, .ef 0x31388 0x383E8⟩,
   ⟨SAD_TSTABLE, 1, .ef 0x383E8 0x3CBB8⟩,
   ⟨SAD_HTHR, 1, .pu 66 6554⟩,
   ⟨SAD_HHYST, 1, .pu 0 655⟩,
   ⟨SAD_HREF, 1, .readOnly⟩,
   ⟨SAD_HDEPTH, 1, .readOnly⟩,
   ⟨SAD_HDUR, 1, .readOnly⟩,
   ⟨SAD_HCNT, 1, .readOnly⟩,
   ⟨SAD_CNT, 1, .readOnly⟩]

/-- Global page 11 (R509). -/
def descPage11 : List RegDesc :=
  [⟨CELL_V, 32, .readOnly⟩,
   ⟨CELL_CFG, 2, .fields [⟨4, 0, .rw, .range 1 16⟩]⟩,
   ⟨CELL_OVTH, 2, .pu 13107 62915⟩,
   ⟨CELL_OVSTS, 2, .fields [⟨15, 0, .w1c, .any⟩]⟩]

/-- Global page 12 (R509). -/
def descPage12 : List RegDesc :=
  [⟨EST_OCV, 64, .pu 0 98304⟩]

/-- Global page 13 (R509). -/
def descPage13 : List RegDesc :=
  [⟨LRN_STS, 1, .fields [⟨4, 0, .ro, .any⟩, ⟨5, 5, .w1c, .any⟩]⟩,
   ⟨LRN_SEQ, 1, .readOnly⟩,
   ⟨LRN_CNT, 1, .readOnly⟩]

/-- Global page 14 (R509). -/
def descPage14 : List RegDesc :=
  [⟨THR_THOLD, 1, .ef 0x303E8 0x3C3E8⟩,
   ⟨THR_TREL, 1, .ef 0x323E8 0x3C3E8⟩,
   ⟨THR_LIVE, 1, .readOnly⟩,
   ⟨THR_HARDEN, 1, .fields [⟨15, 0, .rw, .any⟩]⟩,
   ⟨THR_FORCE, 1, .fields [⟨15, 0, .rw, .any⟩]⟩,
   ⟨THR_STS, 1, .fields [⟨15, 0, .w1c, .any⟩]⟩,
   ⟨THR_CNT, 16, .readOnly⟩]

/-- Global page 15 (R509). -/
def descPage15 : List RegDesc :=
  [⟨IMG_ACTIVE, 1, .readOnly⟩,
   ⟨IMG_SWITCH, 1, .trigger⟩,
   ⟨IMG_LDSTAT, 1, .fields [⟨0, 0, .ro, .any⟩, ⟨4, 1, .w1c, .any⟩]⟩,
   ⟨IMG_LDERR, 1, .readOnly⟩,
   ⟨IMG_LDREC, 1, .readOnly⟩,
   ⟨IMG_CKPTVER, 1, .readOnly⟩,
   ⟨IMG_SETVER, 1, .readOnly⟩,
   ⟨UPD_CTL, 1, .fields [⟨0, 0, .rw, .any⟩]⟩,
   ⟨UPD_STS, 1, .fields [⟨0, 0, .ro, .any⟩, ⟨1, 1, .ro, .any⟩, ⟨2, 2, .w1c, .any⟩, ⟨3, 3, .w1c, .any⟩, ⟨4, 4, .ro, .any⟩, ⟨5, 5, .w1c, .any⟩, ⟨6, 6, .w1c, .any⟩, ⟨7, 7, .w1c, .any⟩, ⟨8, 8, .ro, .any⟩]⟩,
   ⟨UPD_STAGE, 1, .fields [⟨5, 0, .ro, .any⟩, ⟨6, 6, .w1c, .any⟩, ⟨7, 7, .w1c, .any⟩, ⟨11, 8, .ro, .any⟩]⟩,
   ⟨UPD_FWACT, 1, .trigger⟩,
   ⟨UPD_CONFIRM, 1, .trigger⟩,
   ⟨UPD_TRIAL, 1, .ef 0x3B388 0x3F770⟩,
   ⟨UPD_TREM, 1, .readOnly⟩,
   ⟨UPD_WBASE, 1, .count 0 1023⟩,
   ⟨UPD_FWVER, 2, .readOnly⟩,
   ⟨UPD_ARB, 1, .readOnly⟩,
   ⟨UPD_SAVE, 1, .trigger⟩,
   ⟨RST_CAUSE, 1, .readOnly⟩,
   ⟨RST_STRAP, 1, .readOnly⟩,
   ⟨RST_SW, 1, .trigger⟩,
   ⟨RST_BLK, 1, .trigger⟩,
   ⟨RST_BLKSTS, 1, .readOnly⟩,
   ⟨RST_ISOCNT, 1, .readOnly⟩] ++
  [⟨CLK_STS, 1, .readOnly⟩,
   ⟨FCNT_CTL, 1, .fields [⟨10, 0, .rw, .any⟩]⟩,
   ⟨FCNT_CMD, 1, .trigger⟩,
   ⟨FCNT_GATE, 1, .raw⟩,
   ⟨FCNT_GATE + 1, 1, .fields [⟨13, 0, .rw, .any⟩]⟩,
   ⟨FCNT_RES, 2, .readOnly⟩,
   ⟨FCNT_STS, 1, .fields [⟨0, 0, .ro, .any⟩, ⟨3, 1, .w1c, .any⟩]⟩]

/-- Global page 16 (R509). -/
def descPage16 : List RegDesc :=
  [⟨DSP_CFG, 4, .fields [⟨1, 0, .rw, .codes [3] 0⟩, ⟨2, 2, .rw, .any⟩, ⟨3, 3, .rw, .any⟩, ⟨4, 4, .wt, .any⟩]⟩,
   ⟨DSP_STS, 4, .fields [⟨9, 0, .w1c, .any⟩]⟩,
   ⟨DSP_STATE, 4, .readOnly⟩,
   ⟨DSP_TXCNT, 4, .readOnly⟩,
   ⟨DSP_ERRCNT, 4, .readOnly⟩,
   ⟨DS_POLL, 1, .ef 0x343E8 0x3A3E8⟩]

/-- Global page 17 (R509). -/
def descPage17 : List RegDesc :=
  [⟨CASC_CFG, 1, .fields [⟨3, 0, .rw, .range 1 8⟩, ⟨4, 4, .rw, .any⟩, ⟨5, 5, .rw, .any⟩, ⟨6, 6, .rw, .any⟩]⟩,
   ⟨CASC_STATE, 1, .readOnly⟩,
   ⟨CASC_STS, 1, .fields [⟨3, 0, .w1c, .any⟩]⟩,
   ⟨CASC_REACH, 1, .readOnly⟩,
   ⟨CASC_TOFS, 4, .readOnly⟩,
   ⟨CASC_HOPDLY, 1, .readOnly⟩,
   ⟨CASC_CVCNT, 1, .readOnly⟩,
   ⟨CASC_CRCCNT, 1, .readOnly⟩,
   ⟨CASC_RCMD, 1, .trigger⟩,
   ⟨CASC_RADDR, 1, .fields [⟨15, 0, .rw, .any⟩]⟩,
   ⟨CASC_RDATA, 1, .fields [⟨17, 0, .rw, .any⟩]⟩,
   ⟨CASC_RSTS, 1, .fields [⟨0, 0, .ro, .any⟩, ⟨1, 1, .w1c, .any⟩, ⟨4, 2, .ro, .any⟩]⟩]

/-- The context header (R54). -/
def descHeader : List RegDesc :=
  [⟨CTX_TYPE, 1, .readOnly⟩,
   ⟨CTX_VBASE, 1, .readOnly⟩,
   ⟨CTX_IBASE, 1, .readOnly⟩,
   ⟨CTX_PBASE, 1, .readOnly⟩,
   ⟨CTX_STATE, 1, .readOnly⟩,
   ⟨CTX_STS, 1, .fields [⟨17, 0, .w1c, .any⟩]⟩,
   ⟨CTX_SEV, 1, .readOnly⟩,
   ⟨CTX_GOV, 1, .readOnly⟩,
   ⟨CTX_VMEAS, 1, .readOnly⟩,
   ⟨CTX_IMEAS, 1, .readOnly⟩,
   ⟨CTX_PMEAS, 1, .readOnly⟩,
   ⟨CTX_TMEAS, 1, .readOnly⟩]

/-- Words 0x10 onwards of a shelf block (R510). -/
def descShelf : List RegDesc :=
  [⟨SHELF_CCTL, 1, .fields [⟨2, 0, .rw, .any⟩]⟩,
   ⟨SHELF_PINCAP, 1, .pu 0 131071⟩,
   ⟨SHELF_RACKCAP, 1, .readOnly⟩,
   ⟨SHELF_FBALLOC, 1, .pu 0 131071⟩,
   ⟨SHELF_PCAPEFF, 1, .readOnly⟩,
   ⟨SHELF_PSRC, 1, .readOnly⟩,
   ⟨SHELF_PBAT, 1, .readOnly⟩,
   ⟨SHELF_ALLOW, 1, .readOnly⟩,
   ⟨SHELF_PBAVAIL, 1, .readOnly⟩,
   ⟨SHELF_HEAD, 1, .readOnly⟩,
   ⟨SHELF_HARD, 1, .pu 655 32768⟩,
   ⟨SHELF_RFLOOR, 1, .pu 0 131071⟩,
   ⟨SHELF_RWEIGHT, 1, .count 1 255⟩,
   ⟨SHELF_RACKLIM, 1, .ef 0x00000 0x083E8⟩,
   ⟨SHELF_CAPLIVE, 1, .readOnly⟩]

/-- Words 0x10 onwards of a feed block (R510). -/
def descFeed : List RegDesc :=
  [⟨FEED_CTL, 1, .fields [⟨0, 0, .rw, .any⟩, ⟨4, 1, .rw, .any⟩]⟩,
   ⟨FEED_RSHUNT, 1, .ef 0x323E8 0x383E8⟩,
   ⟨FEED_VIN, 1, .readOnly⟩,
   ⟨FEED_VQMIN, 1, .pu 0 81920⟩,
   ⟨FEED_VQMAX, 1, .pu 0 98304⟩,
   ⟨FEED_TQUAL, 1, .ef 0x343E8 0x3CBB8⟩,
   ⟨FEED_TDQ, 1, .ef 0x2E7D0 0x363E8⟩,
   ⟨FEED_ITRIP, 1, .pu 16384 131071⟩,
   ⟨FEED_IREV, 1, .pu 256 65536⟩,
   ⟨FEED_VFWD, 1, .ef 0x35388 0x383E8⟩,
   ⟨FEED_VON, 1, .ef 0x00000 0x39388⟩,
   ⟨FEED_PRIO, 1, .readOnly⟩]

/-- Words 0x10 onwards of a rectifier block (R510). -/
def descRectifier : List RegDesc :=
  [⟨RECT_CTL, 1, .fields [⟨0, 0, .rw, .any⟩]⟩,
   ⟨RECT_IREF, 1, .readOnly⟩,
   ⟨RECT_SHERR, 1, .readOnly⟩,
   ⟨RECT_SHTOL, 1, .pu 328 32768⟩,
   ⟨RECT_TRIM, 1, .readOnly⟩,
   ⟨RECT_VSPAN, 1, .ef 0x363E8 0x3C3E8⟩]

/-- Words 0x10 onwards of a string block (R510). -/
def descString : List RegDesc :=
  [⟨BAT_CTL, 1, .fields [⟨0, 0, .rw, .any⟩, ⟨4, 1, .rw, .any⟩]⟩,
   ⟨BAT_DHRSHUNT, 1, .ef 0x323E8 0x383E8⟩,
   ⟨BAT_IDMAX, 1, .pu 0 81920⟩,
   ⟨BAT_IDPERM, 1, .readOnly⟩,
   ⟨BAT_VCUT, 1, .pu 32768 65536⟩,
   ⟨BAT_VCUTHYS, 1, .pu 0 16384⟩,
   ⟨BAT_DHILIM, 1, .pu 0 81920⟩,
   ⟨BAT_DHICHG, 1, .pu 0 81920⟩,
   ⟨BAT_DHPSOA, 1, .ef 0x3A3E8 0x023E8⟩,
   ⟨BAT_DHIREV, 1, .pu 256 65536⟩,
   ⟨BAT_DHITO, 1, .ef 0x343E8 0x3C3E8⟩,
   ⟨BAT_DHTFLT, 1, .ef 0x303E8 0x3E3E8⟩,
   ⟨BAT_DHRETRY, 1, .count 0 15⟩,
   ⟨BAT_DHRETRYCNT, 1, .readOnly⟩,
   ⟨BAT_DHCOOL, 1, .ef 0x363E8 0x3F770⟩,
   ⟨BAT_PSTS, 1, .readOnly⟩,
   ⟨CHG_CTL, 1, .fields [⟨0, 0, .rw, .any⟩, ⟨3, 1, .rw, .codes [6, 7] 0⟩, ⟨4, 4, .rw, .any⟩, ⟨5, 5, .rw, .any⟩]⟩,
   ⟨CHG_STATE, 1, .readOnly⟩,
   ⟨CHG_ICC, 1, .pu 0 81920⟩,
   ⟨CHG_VCV, 1, .pu 32768 81920⟩,
   ⟨CHG_ITERM, 1, .pu 66 81920⟩,
   ⟨CHG_VPRE, 1, .pu 0 81920⟩,
   ⟨CHG_VRCH, 1, .pu 0 81920⟩,
   ⟨CHG_TTOP, 1, .ef 0x00000 0x025A0⟩] ++
  [⟨CHG_TSAFE, 1, .ef 0x3F770 0x046C0⟩,
   ⟨CHG_TELAP, 1, .readOnly⟩,
   ⟨CHG_TCLO, 1, .temp 0x0FD26 0x12026⟩,
   ⟨CHG_TCHI, 1, .temp 0x12F26 0x15726⟩,
   ⟨CHG_TDHI, 1, .temp 0x12A26 0x16626⟩,
   ⟨CHG_NDV, 1, .pu 66 1311⟩,
   ⟨CHG_ICREQ, 1, .readOnly⟩,
   ⟨CHG_NDTDT, 1, .temp 0x00040 0x00400⟩,
   ⟨EST_CTL, 1, .fields [⟨0, 0, .rw, .any⟩, ⟨1, 1, .rw, .any⟩, ⟨4, 2, .wt, .any⟩]⟩,
   ⟨EST_RSHUNT, 1, .ef 0x323E8 0x383E8⟩,
   ⟨EST_QNET, 4, .readOnly⟩,
   ⟨EST_QNOM, 1, .ef 0x00E10 0x08E10⟩,
   ⟨EST_QCAP, 1, .readOnly⟩,
   ⟨EST_SOC, 1, .readOnly⟩,
   ⟨EST_SOCRAW, 1, .readOnly⟩,
   ⟨EST_UNC, 1, .readOnly⟩,
   ⟨EST_IREST, 1, .pu 33 1311⟩,
   ⟨EST_TREST, 1, .ef 0x3D770 0x025A0⟩,
   ⟨EST_RINT, 1, .ef 0x323E8 0x3C3E8⟩,
   ⟨EST_IDLIM, 1, .readOnly⟩,
   ⟨EST_STS, 1, .readOnly⟩]

/-- Words 0x10 onwards of a group block (R510). -/
def descGroup : List RegDesc :=
  [⟨GRP_CTL, 1, .fields [⟨0, 0, .rw, .any⟩, ⟨2, 1, .rw, .codes [3] 0⟩, ⟨3, 3, .rw, .any⟩, ⟨4, 4, .rw, .any⟩, ⟨5, 5, .rw, .any⟩, ⟨6, 6, .rw, .any⟩]⟩,
   ⟨GRP_FSW, 1, .ef 0x043E8 0x067D0⟩,
   ⟨GRP_SYNCPH, 1, .count 0 255⟩,
   ⟨GRP_FMEAS, 1, .readOnly⟩,
   ⟨GRP_VCMD, 1, .readOnly⟩,
   ⟨GRP_ICMD, 1, .readOnly⟩,
   ⟨GRP_IPKMAX, 1, .pu 0 131071⟩,
   ⟨GRP_PHTRIP, 1, .pu 16384 131071⟩,
   ⟨GRP_SLOPE, 1, .pu 0 65536⟩,
   ⟨GRP_RSENSE, 1, .ef 0x323E8 0x383E8⟩,
   ⟨GRP_VPG, 1, .pu 0 81920⟩,
   ⟨GRP_SSTO, 1, .ef 0x343E8 0x3C3E8⟩,
   ⟨GRP_HICCUP, 1, .ef 0x343E8 0x3C3E8⟩,
   ⟨GRP_RETRY, 1, .count 0 15⟩,
   ⟨GRP_RETRYCNT, 1, .readOnly⟩,
   ⟨GRP_NACT, 1, .readOnly⟩,
   ⟨GRP_NMIN, 1, .count 1 12⟩,
   ⟨GRP_DWELL, 1, .ef 0x323E8 0x3C3E8⟩,
   ⟨GRP_FADE, 1, .count 8 64⟩,
   ⟨GRP_HOLDEPTH, 1, .pu 0 16384⟩,
   ⟨GRP_RECALLCNT, 1, .readOnly⟩,
   ⟨STEPPE_ADD, 11, .pu 0 81920⟩,
   ⟨STEPPE_SHED, 11, .pu 0 81920⟩]

/-- Words 0x10 onwards of a branch block (R510). -/
def descBranch : List RegDesc :=
  [⟨BR_CTL, 1, .fields [⟨0, 0, .rw, .any⟩, ⟨4, 1, .rw, .any⟩, ⟨5, 5, .rw, .any⟩]⟩,
   ⟨BR_RSHUNT, 1, .ef 0x323E8 0x383E8⟩,
   ⟨BR_ILIM, 1, .pu 0 81920⟩,
   ⟨BR_PSOA, 1, .ef 0x3A3E8 0x023E8⟩,
   ⟨BR_ILIMEFF, 1, .readOnly⟩,
   ⟨BR_VDS, 1, .readOnly⟩,
   ⟨BR_VPG, 1, .pu 0 81920⟩,
   ⟨BR_ITO, 1, .ef 0x343E8 0x3C3E8⟩,
   ⟨BR_TFLT, 1, .ef 0x303E8 0x3C3E8⟩,
   ⟨BR_IREV, 1, .pu 256 65536⟩,
   ⟨BR_RETRY, 1, .count 0 15⟩,
   ⟨BR_RETRYCNT, 1, .readOnly⟩,
   ⟨BR_COOLMIN, 1, .ef 0x363E8 0x3F770⟩,
   ⟨BR_COOLREM, 1, .readOnly⟩,
   ⟨BR_TJMAX, 1, .temp 0x15C26 0x1D926⟩,
   ⟨BR_TJRESTART, 1, .temp 0x12A26 0x3FFFF⟩,
   ⟨BR_TREF, 1, .temp 0x0E926 0x1A726⟩,
   ⟨BR_RTH1, 1, .ef 0x343E8 0x3E3E8⟩,
   ⟨BR_RTH2, 1, .ef 0x343E8 0x3E3E8⟩,
   ⟨BR_RTH3, 1, .ef 0x343E8 0x3E3E8⟩,
   ⟨BR_TAU1, 1, .ef 0x303E8 0x3E3E8⟩,
   ⟨BR_TAU2, 1, .ef 0x303E8 0x3E3E8⟩,
   ⟨BR_TAU3, 1, .ef 0x303E8 0x3E3E8⟩,
   ⟨BR_LIVE, 1, .readOnly⟩] ++
  [⟨BR_EATT, 1, .readOnly⟩]

/-- Words 0x10 onwards of a pol block (R510). -/
def descPol : List RegDesc :=
  [⟨POL_CTL, 1, .fields [⟨0, 0, .rw, .any⟩]⟩,
   ⟨POL_VSET, 1, .pu 0 81920⟩,
   ⟨POL_VIN, 1, .readOnly⟩,
   ⟨POL_STSWORD, 1, .readOnly⟩,
   ⟨POL_VOUTMODE, 1, .readOnly⟩,
   ⟨POL_ERRCNT, 1, .readOnly⟩,
   ⟨POL_ADDR, 1, .readOnly⟩]

/-- Words 0x10 onwards of a rail block (R510). -/
def descRail : List RegDesc :=
  [⟨RAIL_CTL, 1, .fields [⟨0, 0, .rw, .any⟩, ⟨1, 1, .rw, .any⟩]⟩,
   ⟨RAIL_VUV, 1, .pu 0 81920⟩,
   ⟨RAIL_VOV, 1, .pu 0 131071⟩,
   ⟨RAIL_VOFF, 1, .pu 0 131071⟩,
   ⟨RAIL_VHYS, 1, .pu 0 6554⟩,
   ⟨RAIL_FILT, 1, .count 1 16⟩,
   ⟨RAIL_TON, 1, .ef 0x00000 0x3C3E8⟩,
   ⟨RAIL_TRISE, 1, .ef 0x323E8 0x3C3E8⟩,
   ⟨RAIL_TOFF, 1, .ef 0x00000 0x3C3E8⟩,
   ⟨RAIL_TFALL, 1, .ef 0x323E8 0x3D770⟩,
   ⟨RAIL_TDIS, 1, .ef 0x343E8 0x3C3E8⟩,
   ⟨RAIL_TRISEM, 1, .readOnly⟩,
   ⟨RAIL_TFALLM, 1, .readOnly⟩]

/-- Words 0x10 onwards of a zone block (R510). -/
def descZone : List RegDesc :=
  [⟨ZONE_TWARN, 1, .temp 0x12A26 0x3FFFF⟩,
   ⟨ZONE_TSD, 1, .temp 0x00000 0x1D926⟩,
   ⟨ZONE_HYS, 1, .temp 0x00000 0x01400⟩,
   ⟨ZONE_FILT, 1, .count 1 16⟩,
   ⟨ZONE_SRC, 1, .count 0 255⟩,
   ⟨ZONE_TPEAK, 1, .readOnly⟩]

/-- The eight words of a loop slot (R101). -/
def descSlot : List RegDesc :=
  [⟨SLOT_CTL, 1, .fields [⟨0, 0, .rw, .any⟩, ⟨3, 1, .ro, .any⟩, ⟨5, 4, .ro, .any⟩, ⟨7, 6, .rw, .codes [3] 0⟩, ⟨8, 8, .ro, .any⟩, ⟨9, 9, .ro, .any⟩, ⟨10, 10, .rw, .any⟩, ⟨11, 11, .ro, .any⟩]⟩,
   ⟨SLOT_SET, 1, .pu (-131072) 131071⟩,
   ⟨SLOT_RATE, 1, .ef 0x383E8 0x043E8⟩,
   ⟨SLOT_RREF, 1, .readOnly⟩,
   ⟨SLOT_OMAX, 1, .pu (-131072) 131071⟩,
   ⟨SLOT_OMIN, 1, .pu (-131072) 131071⟩,
   ⟨SLOT_OUT, 1, .readOnly⟩,
   ⟨SLOT_STS, 1, .fields [⟨3, 0, .ro, .any⟩, ⟨7, 4, .w1c, .any⟩]⟩]

/-- Reset values of the global words that do not reset to zero, addresses rising; the runs FAB.GGOV, FAB.GMARG and GCH.OWNER are given by rule in State.reset (the field tables of each register's chapter). -/
def globalReset : List (Nat × Word) :=
  [(0x0000, 0x08127), (0x0001, 0x00004), (0x0004, 0x00005), (0x000B, 0x00005), (0x001C, 0x3C3E8), (0x001D, 0x00003), (0x0033, 0x001F4), (0x0034, 0x00008), (0x0035, 0x3A3E8), (0x0042, 0x383E8), (0x0043, 0x363E8), (0x0044, 0x3BF40), (0x0045, 0x343E8), (0x0048, 0x0000E), (0x0049, 0x0000E), (0x004A, 0x0000E), (0x004B, 0x0000E), (0x004C, 0x0000E), (0x004D, 0x0000E), (0x004E, 0x0000E), (0x004F, 0x0000E), (0x00A0, 0x023E8), (0x00A1, 0x023E8), (0x00A2, 0x00D6B), (0x00A3, 0x39770), (0x00A4, 0x347D0), (0x00C0, 0x00010), (0x0240, 0x00001), (0x0241, 0x303E8), (0x0242, 0x00008), (0x0280, 0x00003), (0x0284, 0x00148)] ++
  [(0x0285, 0x0F333), (0x0286, 0x343E8), (0x0287, 0x3A7D0), (0x0288, 0x00106), (0x0289, 0x00083), (0x02E0, 0x00010), (0x02E1, 0x00010), (0x02E2, 0x0DC29), (0x02E3, 0x0DC29), (0x0380, 0x343E8), (0x0381, 0x363E8), (0x03C4, 0x3FFFF), (0x03CC, 0x3D770), (0x03F9, 0x061A8), (0x03FA, 0x061A8), (0x0400, 0x0000D), (0x0401, 0x0000D), (0x0402, 0x0000D), (0x0403, 0x0000D), (0x0414, 0x363E8), (0x0440, 0x00071)]

/-- Values a shelf block takes at a cold start where the image's initial-value section sets none (the layout table of the block); words at zero are left out. -/
def defaultShelf : List (Nat × Word) :=
  [(0x0010, 0x00007), (0x0011, 0x10000), (0x0012, 0x1FFFF), (0x0013, 0x08000), (0x001A, 0x04000), (0x001C, 0x00001)]

/-- Values a feed block takes at a cold start where the image's initial-value section sets none (the layout table of the block); words at zero are left out. -/
def defaultFeed : List (Nat × Word) :=
  [(0x0010, 0x0001E), (0x0011, 0x343E8), (0x0013, 0x0E666), (0x0014, 0x1199A), (0x0015, 0x383E8), (0x0016, 0x307D0), (0x0017, 0x18000), (0x0018, 0x00CCD), (0x0019, 0x367D0), (0x001A, 0x37388)]

/-- Values a rectifier block takes at a cold start where the image's initial-value section sets none (the layout table of the block); words at zero are left out. -/
def defaultRectifier : List (Nat × Word) :=
  [(0x0013, 0x00CCD), (0x0015, 0x3A3E8)]

/-- Values a string block takes at a cold start where the image's initial-value section sets none (the layout table of the block); words at zero are left out. -/
def defaultString : List (Nat × Word) :=
  [(0x0010, 0x00006), (0x0011, 0x343E8), (0x0012, 0x10000), (0x0014, 0x0CCCD), (0x0015, 0x00CCD), (0x0016, 0x10000), (0x0017, 0x0199A), (0x0018, 0x3F388), (0x0019, 0x04CCD), (0x001A, 0x383E8), (0x001B, 0x3A3E8), (0x001C, 0x00003), (0x001E, 0x3A3E8), (0x0020, 0x00031), (0x0022, 0x0199A), (0x0023, 0x10000), (0x0024, 0x0028F), (0x0026, 0x0F852), (0x0027, 0x00708), (0x0028, 0x02708), (0x002A, 0x11126), (0x002B, 0x13E26), (0x002C, 0x14D26), (0x002D, 0x00148), (0x002F, 0x00100), (0x0030, 0x00003), (0x0031, 0x343E8), (0x0036, 0x04E10), (0x003A, 0x10000), (0x003B, 0x00083), (0x003C, 0x00708), (0x003D, 0x363E8)]

/-- Values a group block takes at a cold start where the image's initial-value section sets none (the layout table of the block); words at zero are left out. -/
def defaultGroup : List (Nat × Word) :=
  [(0x0010, 0x00040), (0x0011, 0x05388), (0x0016, 0x14000), (0x0017, 0x18000), (0x0018, 0x04000), (0x0019, 0x343E8), (0x001A, 0x0E666), (0x001B, 0x367D0), (0x001C, 0x383E8), (0x001D, 0x00003), (0x0020, 0x00001), (0x0021, 0x363E8), (0x0022, 0x00010), (0x0023, 0x0051F)]

/-- Values a branch block takes at a cold start where the image's initial-value section sets none (the layout table of the block); words at zero are left out. -/
def defaultBranch : List (Nat × Word) :=
  [(0x0010, 0x00006), (0x0011, 0x343E8), (0x0012, 0x10000), (0x0013, 0x3E7D0), (0x0016, 0x0E666), (0x0017, 0x383E8), (0x0018, 0x347D0), (0x0019, 0x00CCD), (0x001A, 0x00003), (0x001C, 0x383E8), (0x001E, 0x1A726), (0x001F, 0x16126), (0x0020, 0x12A26), (0x0021, 0x37388), (0x0022, 0x387D0), (0x0023, 0x39388), (0x0024, 0x323E8), (0x0025, 0x363E8), (0x0026, 0x3A3E8)]

/-- Values a pol block takes at a cold start where the image's initial-value section sets none (the layout table of the block); words at zero are left out. -/
def defaultPol : List (Nat × Word) :=
  [(0x0011, 0x10000)]

/-- Values a rail block takes at a cold start where the image's initial-value section sets none (the layout table of the block); words at zero are left out. -/
def defaultRail : List (Nat × Word) :=
  [(0x0010, 0x00002), (0x0011, 0x0E666), (0x0012, 0x1199A), (0x0013, 0x0199A), (0x0014, 0x0028F), (0x0015, 0x00004), (0x0017, 0x363E8), (0x0019, 0x37388), (0x001A, 0x383E8)]

/-- Values a zone block takes at a cold start where the image's initial-value section sets none (the layout table of the block); words at zero are left out. -/
def defaultZone : List (Nat × Word) :=
  [(0x0010, 0x16626), (0x0011, 0x17526), (0x0012, 0x00500), (0x0013, 0x00008), (0x0014, 0x000FF)]

end Sys2Proof.Machine
end

