-- ==== Sys2Proof/Machine/State.lean ====
section
/-! DEFINITION. The state of the block as plain data, what a stop is called, and the state right after reset. Every register word lives in regs at its address (R507); what the chapters describe beside the registers has a field of its own. INVENTORY.md lists each with its rule and reset value. -/

namespace Sys2Proof.Machine

/-- Why the machine would stop. No command of this model ends so: every rule of the spec gives an effect. -/
inductive Fault where
  /-- Raised by no meaning; kept because the interface asks for a type. Safe. -/
  | none
  deriving DecidableEq, Repr

/-- Why a command would be turned away. -/
inductive Refusal where
  /-- Raised by Dispatch for a command that has no meaning yet. Safe. -/
  | notModelled (mnemonic : String)
  deriving DecidableEq, Repr

/-- The 2 MiB of MRAM as sparse bytes (R22). -/
abbrev Memory := List Host.Cell

/-- What a byte of MRAM reads as that nothing has written. DESIGN CHOICE, log 3: the spec gives no content. -/
def freshByte : Byte := 0

/-- The canonical form of the MRAM: addresses strictly rising, no entry equal to the fresh byte. -/
def Memory.wf (m : Memory) : Bool := canonical freshByte m

/-! ### Host targets (R393) -/

/-- The state of one host target: selections, pointer, wide-value copies, the result code of SPI, the times of its violations, the bytes of its last answer and whether it acknowledged, and the transaction it holds back (R404, R474). -/
structure Iface where
  ctx : Nat := 0
  page : Nat := 0
  ptr : Nat := 0
  shadow : Option (Nat × List Word) := none
  holding : List (Nat × Word) := []
  result : Byte := 0x5A
  violations : List Nat := []
  resp : List Byte := []
  acked : Bool := true
  waiting : Option HostOp := none
  deriving DecidableEq, Repr

/-! ### The black box (R376 to R391) -/

/-- A record before its commit. -/
structure Rec where
  code : Nat
  ctx : Nat
  time : Nat
  origin : Nat
  replay : Bool
  payload : List Byte
  written : Bool
  deriving DecidableEq, Repr

/-- A token bucket (R387). -/
structure Bucket where
  code : Nat
  tokens : Nat
  dropped : Nat
  firstDrop : Nat
  refilled : Nat
  shared : Bool
  deriving DecidableEq, Repr

/-- The recorder: staging, the buckets taken and those of the others whose tokens have changed since reset (tokens, last token), freeze and its counts of missed and lost records, the records lost to a full staging outside a freeze, whether the Basin is full, a clear that waits for the rebuild, and the last expiry of a freeze with BB.STS.FRZEXP, the HOST.ALERT bit and the alert mask before it (R389). -/
structure Recorder where
  staging : List Rec := []
  buckets : List Bucket := []
  spare : List (Nat × Nat × Nat) := []
  frozenAt : Option Nat := none
  missed : List (Nat × Nat) := []
  frozenLost : List (Nat × Nat) := []
  overflow : List (Nat × Nat) := []
  ovfAt : Option Nat := none
  basinFull : Bool := false
  clearDue : Option Nat := none
  expiry : Option (Nat × Bool × Bool × Bool) := none
  deriving DecidableEq, Repr

/-! ### The fault collector (R349 to R360) -/

/-- One unacknowledged class of one context, with its level, and the severity and instant of its last raise (R349, R360); the list is in order of the first raise. -/
structure Pending where
  ctx : Nat
  cls : Nat
  level : Nat
  sev : Nat := 0
  time : Nat := 0
  deriving DecidableEq, Repr

/-- One entry of the raise log (R357), with the access and the address that the capture shows (R361), the epoch whose checkpoint holds its record, and whether a record of it has ever been written. -/
structure LogEntry where
  cls : Nat
  ctx : Nat
  level : Nat
  sev : Nat
  react : Nat
  flags : Nat
  site : Nat
  init : Nat
  acc : Nat := 0
  addr : Nat := 0
  time : Nat
  epoch : Nat
  recorded : Option Nat
  written : Bool := false
  deriving DecidableEq, Repr

/-- The collector: unacknowledged faults, log, the match list of R358 (context, class, site), the raises of the running lane by epoch, contexts whose safe state the lane still owes (R352), contexts a hard stop forced (R354), and the instant of the last write that cleared the capture (R359). -/
structure Collector where
  pending : List Pending := []
  log : List LogEntry := []
  laneRaises : List (Nat × Nat × Nat × Nat) := []
  matches_ : List (Nat × Nat × Nat) := []
  safeDue : List Nat := []
  hardStopped : List Nat := []
  shelfMenu : List Nat := []
  pulse : Bool := false
  injected : Bool := false
  clearedAt : Option Nat := none
  deriving DecidableEq, Repr

/-! ### The loop fabric of a lane (R101 to R132) -/

/-- The dynamic state of a slot, values in units of 2^-32 pu (R111): the integral and derivative terms, past errors and past unscaled values (newest first), the ramped reference, and whether the ramp restarts, the state is initialised, or the slot has left its group at its next evaluation. -/
structure SlotDyn where
  i : Int := 0
  d : Int := 0
  es : List Int := []
  vs : List Int := []
  rref : Int := 0
  restart : Bool := false
  start : Bool := true
  left : Bool := false
  deriving DecidableEq, Repr

/-- The shadow coefficient bank (R115). -/
structure Shadow where
  slot : Nat
  vals : List (Nat × Word)
  apply : Bool
  deriving DecidableEq, Repr

/-- The thermal model of a branch's FET (R198): the three pole temperatures, and how much of the channel's energy count they have taken in. -/
structure Foster where
  d1 : Rat := 0
  d2 : Rat := 0
  d3 : Rat := 0
  used : Rat := 0
  deriving DecidableEq, Repr

/-! ### Converter groups (R133 to R174) -/

/-- What the analog amplifiers of a group take in (R144): reference and feedback of the voltage amplifier in charge and of the current amplifier (2^-16 pu of the group's bases), and the compensation values of the image (R86). -/
structure AmpIn where
  vref : Int := 0
  vfb : Int := 0
  iref : Int := 0
  ifb : Int := 0
  gm : Nat := 0
  fz : Word := 0
  fp : Word := 0
  deriving DecidableEq, Repr

/-- What the PWM time base and the lane keep of a group beside its registers: the switching frequency in Hz, the SYNC_IN frequency while it is valid, whether phase 0 is aligned to it and how far behind its edge (1/256 of a period), the phase in a shed transition, the periods it has run and when they were all run, the phases to start at the next period, EN as latched at the last frame (R148), the MODE and DIR in use, GRP.PHTRIP as it acts since the last period (R174), the amplifiers' inputs, the peak-current command and the slope compensation per period on the phase base (2^-16 pu), the sum of the currents of a tick's frames (2^-16 pu), the imbalance block, power-good, whether the core stopped the group at cut-off (R213), and whether that stop has acted and no member has left cut-off since (R252). -/
structure GroupVar where
  freq : Rat := 0
  sync : Option Rat := none
  aligned : Bool := false
  turnOn : Nat := 0
  fading : Option Nat := none
  faded : Nat := 0
  shedAt : Option Nat := none
  amp : AmpIn := {}
  slope : Int := 0
  starting : List Nat := []
  en : Bool := false
  mode : Nat := 0
  dir : Bool := false
  phTrip : Word := 0
  peak : Int := 0
  sumI : Int := 0
  nI : Nat := 0
  blockTicks : Nat := 0
  blockSum : List (Nat × Rat) := []
  cutStop : Bool := false
  cutDone : Bool := false
  powerGood : Bool := false
  deriving DecidableEq, Repr

/-- The output level of a phase (R135). -/
inductive Level where
  | hiZ | low | switching
  deriving DecidableEq, Repr

/-- What the core keeps of a phase: its level, the place of its turn-on in the period (a fraction, R138), its own peak-current command (R145, R162), whether it tripped in this period, whether this period is the one skipped after a trip, the count of R155, and whether its fault was raised for this occurrence (R346). -/
structure PhaseVar where
  level : Level := .hiZ
  pos : Rat := 0
  peak : Rat := 0
  tripped : Bool := false
  skipping : Bool := false
  trips : Nat := 0
  raised : Bool := false
  deriving DecidableEq, Repr

/-! ### Feeds, branches and gate channels (R175 to R205) -/

/-- What the core keeps of a gate channel: its measurements of the last frame, the sourcing current (uA), the effective limits formed at the last frame in pu of the owner's IBASE (discharge or forward, and charge), the energy dissipated in the FET, counted without end, and that of the present attempt (J), whether the limit amplifier regulates in the charge direction, and when the gate was last pulled down and last tripped. -/
structure ChanVar where
  vgs : Int := 0
  vds : Rat := 0
  cur : Rat := 0
  source : Nat := 0
  limit : Rat := 0
  limitRev : Rat := 0
  energy : Rat := 0
  attempt : Rat := 0
  reverse : Bool := false
  downAt : Option Nat := none
  tripAt : Option Nat := none
  deriving DecidableEq, Repr

/-- Where a change of feed stands: the old gate is going off, the dead time runs, or the target's gate sources (R189). -/
inductive ChangePhase where
  | opening | dead | closing
  deriving DecidableEq, Repr

/-- A change of native feed between t0 and t4 (R189). -/
structure Change where
  forced : Bool
  old : Option Nat
  target : Option Nat
  phase : ChangePhase
  deriving DecidableEq, Repr

/-- The Hollow detector (R220): the watched group, the means of its output over the last 100 ticks (uV, newest first) with the running tick's sum and number, whether SAD.HREF is formed, the last frame average and the lowest average of the present Hollow in uV, and whether a Hollow that has lasted SAD.TLOSS still waits for a tick of a lane (R224, R233). -/
structure Hollow where
  watched : Option Nat := none
  ticks : List Rat := []
  part : Int := 0
  partN : Nat := 0
  formed : Bool := false
  last : Int := 0
  lowest : Int := 0
  tlossDue : Bool := false
  deriving DecidableEq, Repr

/-! ### Strings (R206 to R276) -/

/-- What the lane keeps of a string beside its registers. The running millisecond's sums of the voltage and current words with their number; the 1 ms values of the last second, newest first (pu); the temperature words with the times they were taken; the accumulator at the last evaluation (C) and its time; state of charge, uncertainty and the zero of the last evaluation; whether SOCRAW still waits for a first 1-s mean; whether class 8 is not to be raised before the next anchor (R264); the learning discharge; whether the empty anchor of the present cut-off was applied, and whether one is owed for a cut-off that has ended (R275); the accumulator and the zero of an empty anchor that ended a learning discharge, until the next evaluation judges it (R268, R276); the time of the last full or empty anchor of this run; EST.QNOM under which EST.QCAP was learned (R270); SOCRAW at the last learned-data commit; the learnings accepted and the time of the last anchor; TELAP in seconds; the temperature factor; the highest 1-s mean of Bulk, the start of the hold-off, the evaluations counted in Top-off, the start of Precharge, and, of a supervised string, whether it charges outside its temperature window and whether its safety timer has expired (R251). -/
structure StringVar where
  sumV : Int := 0
  sumI : Int := 0
  n : Nat := 0
  vs : List Rat := []
  is : List Rat := []
  temps : List (Nat × Word) := []
  acc : Rat := 0
  evalAt : Nat := 0
  soc : Rat := 0
  unc : Rat := 1
  socz : Option Rat := none
  fresh : Bool := true
  uncRaised : Bool := true
  qstart : Rat := 0
  qret : Rat := 0
  emptied : Bool := false
  emptyOwed : Bool := false
  emptyAt : Option (Rat × Rat) := none
  anchored : Option Nat := none
  qnom : Word := 0
  committed : Rat := 0
  lrnCnt : Nat := 0
  ancht : Nat := 0
  telap : Rat := 0
  fc : Rat := 1
  peak : Rat := 0
  holdOff : Nat := 0
  topped : Nat := 0
  preAt : Nat := 0
  hot : Bool := false
  late : Bool := false
  deriving DecidableEq, Repr

/-- A coulomb counter of the core (R255 to R257): the 64-bit accumulator of VCCN - VCCP (LSB 1 nV us, DESIGN CHOICE, log 118), the charge it stands for under the EST.RSHUNT in force when it was integrated, and the charge since EST.QNET was cleared, both in coulombs. -/
structure Coulomb where
  raw : BitVec 64 := 0
  acc : Rat := 0
  net : Rat := 0
  deriving DecidableEq, Repr

/-- Learned-data commits (R271): the content being committed and the one that waits, and the slot kept for a trial (R273; true is B). -/
structure Learned where
  busy : Option (List Byte) := none
  next : Option (List Byte) := none
  kept : Option Bool := none
  deriving DecidableEq, Repr

/-! ### Downstream ports (R417 to R427) -/

/-- One pending command of a port's table (R421). -/
structure DsCmd where
  ctx : Nat
  code : Nat
  data : Nat
  safe : Bool
  deriving DecidableEq, Repr

/-- What a transaction on a port is for. -/
inductive TxKind where
  | command | page | alertAddress | alertStatus | probe | poll
  deriving DecidableEq, Repr

/-- A transaction on a port: its target context (none for the Alert Response Address), address, command code, the value it carries, whether its run has ended at a lane switch-over (R418), whether it carries PEC (R417), and, for a PAGE write, what it goes ahead of. -/
structure DsTx where
  kind : TxKind
  ctx : Option Nat
  addr : Nat
  code : Nat
  data : Nat
  safe : Bool
  cut : Bool := false
  pec : Bool := false
  ahead : TxKind := .command
  deriving DecidableEq, Repr

/-- The engine of a port: the transaction on the wire, the POL whose page is placed, the rest of the poll cycle and whether the next one is due, the alert service (its address read due, its target, services run), contexts to probe, whether the segment is isolated, whether a power cycle is still to be requested and whether one asked for has not ended yet (R426), failed cycles, the result of a transaction that ended without a lane, and whether the port's reset waits for the transaction on the wire to end (R457). -/
structure DsPort where
  cur : Option DsTx := none
  runFor : Option Nat := none
  polls : List (Nat × Nat) := []
  pollDue : Bool := false
  alertDue : Bool := false
  alertFor : Option Nat := none
  alertRuns : Nat := 0
  probes : List Nat := []
  isolated : Bool := false
  needCycle : Bool := false
  cycling : Bool := false
  failed : Nat := 0
  held : Option (DsTx × List Byte) := none
  resetDue : Bool := false
  deriving DecidableEq, Repr

/-- What is kept of a downstream target: consecutive failures, its VOUT_MODE once read, the set-point and trim last acknowledged, and when a trim was last sent (R280). -/
structure DsTarget where
  fails : Nat := 0
  mode : Option Nat := none
  ackV : Option Word := none
  ackTrim : Option Word := none
  trimAt : Option Nat := none
  deriving DecidableEq, Repr

/-! ### Lanes (R322 to R344) -/

/-- What the last step of a Dormant entry changes, as it stood before: the instant, the register words, the gate channels, timers and counts (R26, R28). -/
structure EntryKeep where
  at_ : Nat
  regs : List (Nat × Word)
  channels : List (Nat × ChanVar)
  timers : List (Timer × Nat)
  counts : List (Count × Nat)
  deriving DecidableEq, Repr

/-- The outputs of the sequencer as the last stamped command left them: rails enabled, rails whose discharge output is asserted, and whether SEQ_FLT_N is driven (R17, R320). -/
structure RailHold where
  on : List Nat
  discharge : List Nat
  seqFlt : Bool
  deriving DecidableEq, Repr

/-- Why a lane takes over (R326, R334, R336, R340): the causes of a Col with the return after a failed restore, and the starts that are none. -/
inductive ColKind where
  | timeout | handback | swap | imageSwitch | ret | restart | wake | abort | startUp
  deriving DecidableEq, Repr

/-- What the arbiter keeps beside LANE.AUTH and LANE.HEALTH: the take-over in progress, whether the holder has issued its first stamped command, the boundary of the last accepted heartbeat and the instant it came, the instant of the token change with the coulomb counters as they stood then (R266), the lane that last held the token, the lane whose mark was set first, a swap or image switch that waits for its boundary with the instant it was asked for, whether the holder has stopped silently, the start and cause of the Plain hold, whether the incoming lane is powered and has restored, a Dormant entry that waits for idle targets, whether the second start lane is being tried (R464), what a Dormant entry changed at the instant of its last step, and the sequencer outputs held while no lane is in charge. -/
structure Arbiter where
  col : Option ColKind := none
  stamped : Bool := false
  lastBeat : Nat := 0
  beatAt : Nat := 0
  colStart : Nat := 0
  colCharge : List (Nat × Coulomb) := []
  lastHolder : Option LaneId := none
  firstBad : Option LaneId := none
  swapAsked : Bool := false
  imgAsked : Bool := false
  askedAt : Nat := 0
  silent : Bool := false
  holdStart : Nat := 0
  holdCause : Nat := 0
  powered : Bool := false
  restored : Bool := false
  entryWait : Bool := false
  startTried : Bool := false
  entryFrom : Option EntryKeep := none
  railHold : Option RailHold := none
  deriving DecidableEq, Repr

/-- One entry of the host-write journal (R332): address, word, the initiator code of its interface (R361), when the lane applied it, and how many checkpoints have committed since. -/
structure JournalEntry where
  addr : Nat
  word : Word
  via : Nat
  applied : Nat
  commits : Nat
  deriving DecidableEq, Repr

/-- What the lane keeps of the sequencer (R306 to R316): faulted graphs that keep SEQ_FLT_N low and have not yet reached Off-wait or Off, whether the line is driven (R316), rails whose Fallen condition has stood since before their power-down (R309), rails refused in the present power-up (R354), the last SEQ.CMD word of the present tick, when PB_N was pressed and whether its long press has been acted on, and the segment power cycles by port with their phase: 0 asked, 1 going down, 2 waiting, 3 coming up. -/
structure SeqVar where
  driving : List Nat := []
  drives : Bool := false
  low : List Nat := []
  refused : List Nat := []
  cmd : Option Word := none
  press : Option Nat := none
  long : Bool := false
  cycles : List (Nat × Nat) := []
  deriving DecidableEq, Repr

/-- What a lane keeps to itself and commits with its checkpoint, beside the register words it serves. -/
structure LaneVars where
  slots : List (Nat × SlotDyn) := []
  coefs : List (Nat × List Word) := []
  shadow : Option Shadow := none
  govRun : List (Nat × Nat × Nat) := []
  resumeGroups : List Nat := []
  change : Option Change := none
  feedQual : List Nat := []
  qualAt : List (Nat × Nat) := []
  releasedAt : Option Nat := none
  saddleCmd : Bool := false
  returnCmd : Bool := false
  stdbyUsed : Word := 0
  stdbyAt : Option Nat := none
  stdbyDue : Bool := true
  stableFor : Option Nat := none
  dwellEnd : Nat := 0
  supOn : List Nat := []
  thrNeg : List Nat := []
  sherrDone : List Nat := []
  seq : SeqVar := {}
  foster : List (Nat × Foster) := []
  strings : List (Nat × StringVar) := []
  heldEn : List (Nat × Bool) := []
  deriving DecidableEq, Repr

/-- A checkpoint buffer of the shared state RAM (R21): its epoch number and its contents. -/
structure Ckpt where
  epoch : Nat
  regs : List (Nat × Word)
  clamped : List (Nat × Bool)
  timers : List (Timer × Nat)
  lane : LaneVars
  deriving DecidableEq, Repr

/-! ### Update (R467 to R484) -/

/-- A staging frame acknowledged and not yet committed (R474). -/
structure StageFrame where
  target : Nat
  slot : Nat
  off : Nat
  data : List Byte
  deriving DecidableEq, Repr

/-- A check of an image slot: at start-up, a dry check or a switch (R96, R98). -/
inductive CheckKind where
  | start | dry | switch
  deriving DecidableEq, Repr

/-- A trial: of an image or of firmware, its slot, whether a condition of R478 is broken, its window, and the lane that ran when it began. -/
structure Trial where
  image : Bool
  slot : Nat
  broken : Bool
  window : Word
  lane : LaneId
  deriving DecidableEq, Repr

/-- A confirmation as it stood before: its instant, the trial, UPD.STS.CONF, LRN.STS.KEEP, UPD.ARB with the eight bytes of the anti-rollback counter, the copies kept, the lanes' memories, and when the window began (R484). -/
structure Confirmed where
  at_ : Nat
  trial : Trial
  conf : Bool
  keep : Bool
  arb : Word
  count : List Byte
  settings : Option Nat
  learned : Option Bool
  mem : List (LaneId × Nat)
  progs : List (LaneId × Nat)
  began : Nat
  deriving DecidableEq, Repr

/-- What the lane keeps of updates beside the registers: the staging frame being committed, the image check that runs with its slot, the CLOSE check (target and slot), the firmware slot being activated and whether its code is copied, the trial, the running firmware slot, the slots still to be tried at start-up, the settings slot kept for a trial, the changes of slot states that wait for a lane in authority (R20), the firmware slot whose code each lane's SRAM holds, the image slot whose fabric programs each lane's SRAM holds (R323), a save of the settings that waits for a lane in authority (R20), and the last confirmation, which a fault of the same instant takes back (R484). -/
structure Update where
  frame : Option StageFrame := none
  check : Option (CheckKind × Nat) := none
  closing : Option (Nat × Nat) := none
  act : Option Nat := none
  copied : Bool := false
  trial : Option Trial := none
  fw : Option Nat := none
  toTry : List Nat := []
  kept : Option Nat := none
  bootDue : List (Nat × Nat) := []
  mem : List (LaneId × Nat) := []
  progs : List (LaneId × Nat) := []
  saveDue : Bool := false
  confirmed : Option Confirmed := none
  deriving DecidableEq, Repr

/-! ### Cascade (R431 to R444) -/

/-- A REPORT as taken in: demand, floor and fallback in watts (EF18), weight, when it came, and the allocation last sent (none for no limit). -/
structure CascReport where
  d : Word
  f : Word
  fb : Word
  w : Nat
  time : Nat
  given : Option Word
  deriving DecidableEq, Repr

/-- A port: frames sent, the SEQ last received, the one-way delay measured (2.5 ns units), and whether its 10 ms fault was raised. -/
structure CascPort where
  sent : Nat := 0
  seen : Option Nat := none
  delay : Option Nat := none
  raised : Bool := false
  deriving DecidableEq, Repr

/-- The cascade: both ports, times of discarded frames, reports by position, the cap to apply at the next tick, the remote access in progress (position, tag, operation) with the tag counter, NCHIP as it acts since the last reset, the instant of the last allocation, the frames the last command of this family sent (true is the down port), the holding and the shadow copy of remote accesses (R38, R39), a remote write held back while the journal is full (R332), and whether the loss of the rack allocation was marked (R296). -/
structure Casc where
  up : CascPort := {}
  down : CascPort := {}
  discards : List Nat := []
  reports : List (Nat × CascReport) := []
  capDue : Option Word := none
  remote : Option (Nat × Nat × Nat) := none
  tag : Nat := 0
  nchip : Nat := 1
  lastAlloc : Option Nat := none
  out : List (Bool × List Byte) := []
  holding : List (Nat × Word) := []
  shadow : Option (Nat × List Word) := none
  held : Option (List Byte) := none
  lost : Bool := false
  deriving DecidableEq, Repr

/-! ### Supplies, clocks and test access -/

/-- Supplies and clocks (R445 to R466, R491 to R493): VIN above the power-on threshold, RST_N holding the reset, whether XTAL_DLY is to be waited, whether the fuse map is read, VREG5 in regulation, VREG5 lost, VIO present, the PLL enabled, the reference present, the image's reset-state overrides in force and the OTP bytes as the fuse map was read (R459), whether the straps have been sampled (R458), the FCNT.CTL word that the running gate uses, and the first epoch after a wake, from which shelf time is exact to the tick again (R19). -/
structure Clk where
  vin : Bool := false
  held : Bool := false
  xtal : Bool := true
  fuses : Bool := false
  vreg5 : Bool := false
  lost : Bool := true
  vio : Bool := true
  pll : Bool := false
  ref : Bool := true
  overrides : List OvrRec := []
  fuseMap : List (Nat × Byte) := []
  strapped : Bool := false
  gate : Word := 0
  exactAt : Option Nat := none
  deriving DecidableEq, Repr

/-- The states of the test access port's controller (IEEE 1149.1, R487). -/
inductive TapState where
  | reset | idle | selectDR | captureDR | shiftDR | exit1DR | pauseDR | exit2DR | updateDR
  | selectIR | captureIR | shiftIR | exit1IR | pauseIR | exit2IR | updateIR
  deriving DecidableEq, Repr

/-- The instructions of the test access port (R487). -/
inductive TapInstr where
  | bypass | sample | extest | idcode
  deriving DecidableEq, Repr

/-- The test access port: TRST_N high, controller state, instruction, the shift register (the bit nearest TDO first), the boundary cells' output latches, and TDO (none at high impedance). -/
structure Tap where
  run : Bool := false
  st : TapState := .reset
  instr : TapInstr := .idcode
  shift : List Bool := []
  latch : List Bool := []
  tdo : Option Bool := none
  deriving DecidableEq, Repr

/-! ### Pins -/

/-- The state of a general, trim, throttle or SYNC_OUT pin (R461, R87): a weak pull, high impedance, driven low or high, or under its function's clock or duty. -/
inductive PinLevel where
  | weakDown | hiZ | low | high | weakUp | clocked
  deriving DecidableEq, Repr

/-- The levels the block drives at its outputs, each given by the registers and states named: HALERT_N (R413), FLT_N (R355), SEQ_FLT_N (R316), EN_G0 to EN_G7 (R149), THR0_N to THR15_N (R292), true where asserted or high; the 65 pins with a reset state, by pin identifier (R84, R459); and, while EXTEST is selected, the boundary cells that drive the pins of the chain in place of these levels, all but EN_G0 to EN_G7, each cell a pin that the spec does not name (R487). -/
structure Outs where
  halert : Bool
  flt : Bool
  seqFlt : Bool
  enG : List Bool
  thr : List Bool
  pins : List PinLevel
  cells : Option (List Bool)
  deriving DecidableEq, Repr

/-- The state of the block. -/
structure State where
  /-- The commands waiting, first in, first out. -/
  pending : List Instr
  /-- Shelf time in 5 ns ticks (R19), and whether the clocks run (R462). -/
  now : Nat
  clocks : Bool
  /-- The register words, the clamped marks (R45) and the times of measured words (R41). -/
  regs : List (Nat × Word)
  clamped : List (Nat × Bool)
  updated : List (Nat × Nat)
  /-- Words whose source is offline or not valid (R41). -/
  staleMark : List (Nat × Bool)
  /-- The measured words that read as stale at the last frame: the model's own field, by which a word that becomes stale is known (R59). -/
  staleSeen : List Nat
  /-- The quality code a remote read brought with CASC.RDATA (R441). -/
  remoteQ : Nat
  /-- Running timers and qualifying counts. -/
  timers : List (Timer × Nat)
  counts : List (Count × Nat)
  /-- The MRAM, the commits waiting for charge on VRES (R23), and whether that charge is sufficient. -/
  mram : Memory
  vresOk : Bool
  /-- The active image, and the one an image switch is loading. -/
  image : Option Image
  nextImage : Option Image
  /-- MRAM commits accepted that wait for charge on VRES, in order (R23), and the OTP by byte offset (R469). -/
  commits : List (Nat × List Byte)
  otp : List (Nat × Byte)
  /-- The host targets. -/
  tw : Iface
  spi : Iface
  alertMask : Bool
  alertSet : List (Nat × Nat)
  /-- Recorder and fault collector. -/
  rcd : Recorder
  flt : Collector
  /-- Arbiter, journal, checkpoint buffers, and the running lane's own variables. -/
  arb : Arbiter
  journal : List JournalEntry
  ckptA : Option Ckpt
  ckptB : Option Ckpt
  commit : Option Ckpt
  /-- The state of the last committed epoch that a halted lane has kept (R322, R336). -/
  halted : Option Ckpt
  lane : LaneVars
  /-- Converter groups by context number, phases by number. -/
  groups : List (Nat × GroupVar)
  phases : List (Nat × PhaseVar)
  /-- Accepted levels of the control inputs by pin identifier (R314); 0x80 is PB_N, 0x81 SEQ_FLT_N, 0x90 to 0x93 the downstream alert lines (R424). -/
  inputs : List (Nat × Bool)
  /-- Levels accepted but perhaps not yet acted on, when each input was last acted on, the changes of PB_N and SEQ_FLT_N acted on since the oldest checkpoint with their instants (R314, R320), and the snapshot buffer of the scan readings in uV with whether one was taken (R318). -/
  accepted : List (Nat × Bool)
  actedAt : List (Nat × Nat)
  inputQueue : List (Nat × Bool × Nat)
  snapshot : List (Nat × Int)
  snapTaken : Bool
  /-- Rail conditions already reported (2 * context, + 1 for over-voltage), rails that owe a fault-down, rails that owe a snapshot of the next scan (R311, R318), and whether SEQ_FLT_N must be seen high before a low may act (R316). -/
  railSeen : List Nat
  downDue : List Nat
  snapDue : List Nat
  sfBlocked : Bool
  /-- SHELF.ALLOW and SHELF.HARD of the last completed tick (R291). -/
  hardLatched : Option (Int × Int)
  /-- Ideal-diode feeds held off (R228), and the Hollow detector. -/
  inhibit : List Nat
  hollow : Hollow
  /-- Coulomb counters by string context, cells whose over-voltage comparator has tripped (16 per string, R249), strings of which one tripped while no lane worked (R243), and learned-data commits. -/
  coulomb : List (Nat × Coulomb)
  cellTripped : List Nat
  cellDue : List Nat
  learned : Learned
  /-- Gate channels by number. -/
  channels : List (Nat × ChanVar)
  /-- Readings of the scan inputs in uV (R300). -/
  scan : List (Nat × Int)
  /-- Duty of the trim outputs (R119), and the pins that their function has driven since the last device reset or hard stop (R459). -/
  trim : List (Nat × Word)
  driven : List Nat
  /-- Pending commands of the downstream ports, by port (R421). -/
  dsTable : List (Nat × List DsCmd)
  dsPorts : List (Nat × DsPort)
  dsTargets : List (Nat × DsTarget)
  /-- Graphs that owe an off request because the fault path forced one of their rails (R321). -/
  graphOffDue : List Nat
  /-- The variant (R1): true for the GQ8127-BE. -/
  variantBE : Bool
  /-- The counter that free values are drawn by: the model's own field, log 22. -/
  freeCtr : Nat
  /-- Update, cascade, supplies and clocks, test access port. -/
  upd : Update
  casc : Casc
  clk : Clk
  tap : Tap
  outs : Outs
  deriving DecidableEq, Repr

/-! ### Reset -/

/-- The register words after reset: the table of globalReset, the governors and margins of the min-select groups, and every gate channel without an owner. -/
def resetRegs : List (Nat × Word) :=
  (globalReset ++ (List.range 64).map (fun g => (FAB_GGOV + g, (0x00200 : Word))) ++ (List.range 64).map (fun g => (FAB_GMARG + g, (0x0051F : Word))) ++
    (List.range 16).map (fun g => (GCH_OWNER + g, (0x000FF : Word)))).foldl (fun l p => assign 0 l p.1 p.2) []

/-- The state right after a power-on reset (R452, R454, R462): every register at its reset value, nothing queued, MRAM with nothing listed, the clocks not released. -/
def State.reset : State where
  pending := []
  now := 0
  clocks := false
  regs := resetRegs
  clamped := []
  updated := []
  staleMark := [(0x0448, true)]
  staleSeen := []
  remoteQ := 0
  timers := []
  counts := []
  mram := []
  vresOk := false
  image := none
  nextImage := none
  commits := []
  otp := []
  tw := {}
  spi := {}
  alertMask := false
  alertSet := []
  rcd := {}
  flt := {}
  arb := {}
  journal := []
  ckptA := none
  ckptB := none
  commit := none
  halted := none
  lane := {}
  groups := []
  phases := []
  inputs := []
  accepted := []
  actedAt := []
  inputQueue := []
  snapshot := []
  snapTaken := false
  railSeen := []
  downDue := []
  snapDue := []
  sfBlocked := false
  hardLatched := none
  inhibit := []
  hollow := {}
  coulomb := []
  cellTripped := []
  cellDue := []
  learned := {}
  channels := []
  scan := []
  trim := []
  driven := []
  dsTable := []
  dsPorts := []
  dsTargets := []
  graphOffDue := []
  variantBE := false
  freeCtr := 0
  upd := {}
  casc := {}
  clk := {}
  tap := {}
  outs := { halert := false, flt := false, seqFlt := false, enG := List.replicate 8 false, thr := List.replicate 16 false, pins := List.replicate 65 .weakDown, cells := none }

end Sys2Proof.Machine
end

