-- ==== Sys2Proof/Machine/Ops.lean ====
section
/-! DEFINITION. The named operations on the state: register words and fields, context words, measured words, timers and counts, the token and the operating state, sticky status, and the end of every command. -/

namespace Sys2Proof.Machine

/-! ### Register words -/

/-- The address of a word of a context block (R510). -/
def ctxAddr (c k : Nat) : Nat := 0x1000 + 0x40 * c + k

/-- The address of a word of a loop slot (R101). -/
def slotAddr (s k : Nat) : Nat := 0x3000 + 8 * s + k

/-- The word at an address. -/
def State.reg (s : State) (a : Nat) : Word := lookup 0 s.regs a

/-- The state with the word at an address replaced. -/
def State.setReg (s : State) (a : Nat) (w : Word) : State := { s with regs := assign 0 s.regs a w }

/-- The word as a count. -/
def State.regN (s : State) (a : Nat) : Nat := (s.reg a).toNat

/-- A word of a context block. -/
def State.cw (s : State) (c k : Nat) : Word := s.reg (ctxAddr c k)

/-- The state with a word of a context block replaced. -/
def State.setC (s : State) (c k : Nat) (w : Word) : State := s.setReg (ctxAddr c k) w

/-- A word of a loop slot. -/
def State.sw (s : State) (n k : Nat) : Word := s.reg (slotAddr n k)

/-- The state with a word of a loop slot replaced. -/
def State.setS (s : State) (n k : Nat) (w : Word) : State := s.setReg (slotAddr n k) w

/-- A field of a word. -/
def State.fld (s : State) (a hi lo : Nat) : Nat := bits (s.reg a) hi lo

/-- The state with a field of a word replaced. -/
def State.setFld (s : State) (a hi lo v : Nat) : State := s.setReg a (putBits (s.reg a) hi lo v)

/-- A bit of a word. -/
def State.flag (s : State) (a n : Nat) : Bool := bit (s.reg a) n

/-- The state with a bit of a word set or cleared. -/
def State.setFlag (s : State) (a n : Nat) (b : Bool) : State := s.setReg a (putBit (s.reg a) n b)

/-- The state with a saturating count one higher. -/
def State.inc (s : State) (a : Nat) : State := s.setReg a (satInc (s.reg a))

/-- The state with a wide value stored over n consecutive words, low word first (R37). -/
def State.setWide (s : State) : Nat → Nat → Nat → State
  | _, 0, _ => s
  | a, n + 1, v => State.setWide (s.setReg a (Word.ofNat v)) (a + 1) n (v / 262144)

/-- The number n consecutive words spell, low word first (R37). -/
def State.wide (s : State) : Nat → Nat → Nat
  | _, 0 => 0
  | a, n + 1 => s.regN a + 262144 * s.wide (a + 1) n

/-! ### Applying a step only under a condition, and to many -/

/-- The state changed by f where b holds, else as it was. -/
def State.onlyIf (s : State) (b : Bool) (f : State → State) : State := if b then f s else s

/-- The state changed for each element of a list in turn. -/
def State.forEach {α : Type} (s : State) (l : List α) (f : α → State → State) : State := l.foldl (fun s x => f x s) s

/-! ### Measured words (R41, R47) -/

/-- The state with a measured word replaced and its time noted. -/
def State.measure (s : State) (a : Nat) (w : Word) : State :=
  { s.setReg a w with updated := assign 0 s.updated a s.now }

/-- When a measured word was last replaced. -/
def State.updatedAt (s : State) (a : Nat) : Nat := lookup 0 s.updated a

/-- Whether a word is marked as clamped by its last write (R45). -/
def State.isClamped (s : State) (a : Nat) : Bool := lookup false s.clamped a

/-- The state with the clamped mark of a word replaced. -/
def State.markClamped (s : State) (a : Nat) (b : Bool) : State := { s with clamped := assign false s.clamped a b }

/-- Whether a word is marked as having an offline or invalid source. -/
def State.isStaleMarked (s : State) (a : Nat) : Bool := lookup false s.staleMark a

/-- The state with the stale mark of a word replaced. -/
def State.markStale (s : State) (a : Nat) (b : Bool) : State := { s with staleMark := assign false s.staleMark a b }

/-! ### Sticky status of a context (R59) -/

/-- The state with a bit of CTX.STS of a context set. -/
def State.sts (s : State) (c b : Nat) : State := s.setFlag (ctxAddr c CTX_STS) b true

/-- CTX.STATE.CODE of a context (R58). -/
def State.code (s : State) (c : Nat) : Nat := bits (s.cw c CTX_STATE) 7 0

/-- The state with CTX.STATE.CODE of a context replaced. -/
def State.setCode (s : State) (c v : Nat) : State := s.setFld (ctxAddr c CTX_STATE) 7 0 v

/-- The engine of a downstream port. -/
def State.port (s : State) (p : Nat) : DsPort := (find s.dsPorts p).getD {}

/-- The state with the engine of a downstream port changed. -/
def State.setPort (s : State) (p : Nat) (f : DsPort → DsPort) : State := { s with dsPorts := putKey s.dsPorts p (f (s.port p)) }

/-- CTX.STATE.OFFLINE of a context. -/
def State.offline (s : State) (c : Nat) : Bool := bit (s.cw c CTX_STATE) 8

/-- CTX.STATE.HELD of a context. -/
def State.held (s : State) (c : Nat) : Bool := bit (s.cw c CTX_STATE) 9

/-- The state with CTX.STATE.HELD of a context replaced. -/
def State.setHeld (s : State) (c : Nat) (b : Bool) : State := s.setFlag (ctxAddr c CTX_STATE) 9 b

/-- CTX.STATE.SAFE of a context. -/
def State.safe (s : State) (c : Nat) : Bool := bit (s.cw c CTX_STATE) 10

/-- The state with CTX.STATE.SAFE of a context replaced. -/
def State.setSafe (s : State) (c : Nat) (b : Bool) : State := s.setFlag (ctxAddr c CTX_STATE) 10 b

/-! ### Shelf time, timers and counts -/

/-- The epoch number of the present instant (R329). -/
def State.epoch (s : State) : Nat := s.now / 1000

/-- The state with a timer started now. -/
def State.start (s : State) (k : Timer) : State := { s with timers := putKey s.timers k s.now }

/-- The state with a timer started now unless it already runs. -/
def State.startOnce (s : State) (k : Timer) : State := if (find s.timers k).isSome then s else s.start k

/-- The state with a timer started at an instant. -/
def State.startAt (s : State) (k : Timer) (t0 : Nat) : State := { s with timers := putKey s.timers k t0 }

/-- The state with a timer stopped. -/
def State.stop (s : State) (k : Timer) : State := { s with timers := dropKey s.timers k }

/-- Whether a timer runs. -/
def State.running (s : State) (k : Timer) : Bool := (find s.timers k).isSome

/-- Ticks since a timer was started; 0 when it does not run. -/
def State.age (s : State) (k : Timer) : Nat := match find s.timers k with
  | some t0 => s.now - t0
  | none => 0

/-- Whether a timer runs and an EF18 duration has passed since its start. -/
def State.expired (s : State) (k : Timer) (w : Word) : Bool := match find s.timers k with
  | some t0 => elapsed w t0 s.now
  | none => false

/-- Whether a timer runs and a number of ticks has passed since its start. -/
def State.expiredTicks (s : State) (k : Timer) (n : Nat) : Bool := match find s.timers k with
  | some t0 => decide (n ≤ s.now - t0)
  | none => false

/-- A qualifying count. -/
def State.count (s : State) (k : Count) : Nat := (find s.counts k).getD 0

/-- The state with a qualifying count one higher where its condition holds, and back at zero where it does not. -/
def State.qualify (s : State) (k : Count) (b : Bool) : State :=
  if b then { s with counts := putKey s.counts k (s.count k + 1) } else { s with counts := dropKey s.counts k }

/-- The state with a qualifying count back at zero. -/
def State.clearCount (s : State) (k : Count) : State := { s with counts := dropKey s.counts k }

/-! ### Operating state and token (R32, R343) -/

/-- SYS.STATE.STATE. -/
def State.sys (s : State) : Nat := s.fld SYS_STATE 2 0

/-- Codes of SYS.STATE (R32). -/
abbrev sysStartUp : Nat := 0
abbrev sysNormal : Nat := 1
abbrev sysCol : Nat := 2
abbrev sysPlain : Nat := 3
abbrev sysDormant : Nat := 4
abbrev sysUnconf : Nat := 5

/-- The state with a cause of HALERT_N set: a bit of HOST.ALERT that changes from 0 to 1 ends the mask, and the instant of the setting is kept (R413 to R416). -/
def State.alert (s : State) (n : Nat) : State :=
  let m := if s.flag HOST_ALERT n then s.alertMask else false
  { s.setFlag HOST_ALERT n true with alertMask := m, alertSet := putKey s.alertSet n s.now }

/-- The state with SYS.STATE replaced; a change sets HOST.ALERT.STATE (R415). -/
def State.setSys (s : State) (v : Nat) : State :=
  if s.sys = v then s else (s.setReg SYS_STATE (Word.ofNat v)).alert 2

/-- The holder of the token, from LANE.AUTH.HOLDER. -/
def State.holder (s : State) : Option LaneId := match s.fld LANE_AUTH 1 0 with
  | 1 => some .a
  | 2 => some .b
  | _ => none

/-- The ticks of one step of shelf time in Dormant: 4 with a 50 MHz root, 8 with a 25 MHz root (R19, R445). -/
def State.stride (s : State) : Nat := if s.fld RST_STRAP 3 2 = 2 then 4 else 8

/-- Whether shelf time advances in steps at an instant: in Dormant, and after a wake until the first epoch (R19). -/
def State.coarse (s : State) (t : Nat) : Bool := (s.sys == sysDormant && s.holder.isNone) || s.clk.exactAt.any (fun e => decide (t < e))

/-- Shelf time at an instant: it never runs backwards, stands still before the clocks are released (R462), and advances in steps in Dormant (R19). -/
def State.timeAt (s : State) (t : Nat) : Nat :=
  if s.clocks then max s.now (if s.coarse t then t / s.stride * s.stride else t) else s.now

/-- The state at an instant. -/
def State.at (s : State) (t : Nat) : State := { s with now := s.timeAt t }

/-- Whether the arbiter has a lane in charge: it holds the token and has issued its first stamped command. -/
def State.laneHeld (s : State) : Bool := s.holder.isSome && s.arb.stamped

/-- Whether a lane runs the shelf: it is in charge and has not stopped without a sign (R331). -/
def State.laneRuns (s : State) : Bool := s.laneHeld && !s.arb.silent

/-- Whether the running lane works under an image. -/
def State.works (s : State) : Bool := s.laneRuns && s.image.isSome && s.sys == sysNormal

/-! ### The image -/

/-- The record of a defined context. -/
def State.ctx? (s : State) (c : Nat) : Option CtxRec := s.image.bind (·.ctx? c)

/-- The defined contexts of a type, by context number. -/
def State.ofType (s : State) (t : CtxType) : List CtxRec := match s.image with
  | some im => im.ofType t
  | none => []

/-- Whether a context is defined with a type. -/
def State.isType (s : State) (c : Nat) (t : CtxType) : Bool := (s.ctx? c).any (·.typ = t)

/-- The context number of an instance of a type. -/
def State.inst? (s : State) (t : CtxType) (i : Nat) : Option Nat := (s.image.bind (·.inst? t i)).map (·.ctx)

/-! ### Groups and phases -/

/-- What is kept of a converter group. -/
def State.grp (s : State) (c : Nat) : GroupVar := (find s.groups c).getD {}

/-- The state with what is kept of a converter group changed. -/
def State.setGrp (s : State) (c : Nat) (f : GroupVar → GroupVar) : State := { s with groups := putKey s.groups c (f (s.grp c)) }

/-- What is kept of a phase. -/
def State.phase (s : State) (p : Nat) : PhaseVar := (find s.phases p).getD {}

/-- The state with what is kept of a phase changed. -/
def State.setPhase (s : State) (p : Nat) (f : PhaseVar → PhaseVar) : State := { s with phases := putKey s.phases p (f (s.phase p)) }

/-! ### Fabric variables -/

/-- The dynamic state of a slot. -/
def State.slot (s : State) (n : Nat) : SlotDyn := (find s.lane.slots n).getD {}

/-- The state with the dynamic state of a slot changed. -/
def State.setSlot (s : State) (n : Nat) (f : SlotDyn → SlotDyn) : State :=
  { s with lane := { s.lane with slots := putKey s.lane.slots n (f (s.slot n)) } }

/-! ### Host interfaces -/

/-- The state of a host target. -/
def State.iface (s : State) : Port → Iface
  | .twoWire => s.tw
  | .spi => s.spi

/-- The state with a host target's state changed. -/
def State.setIface (s : State) (p : Port) (f : Iface → Iface) : State := match p with
  | .twoWire => { s with tw := f s.tw }
  | .spi => { s with spi := f s.spi }

/-! ### Outputs and the end of a command -/

/-- Whether a group state code has EN_G high (R149). -/
def enGCode (c : Nat) : Bool := c != 0 && c != 6 && c != 7 && c != 8 && decide (c ≤ 8)

/-- A pin that its function now drives (R459). -/
def State.drivePin (s : State) (i : Nat) : State := if s.driven.contains i then s else { s with driven := s.driven ++ [i] }

/-- The level a reset-state code of the fuse map gives (R461). -/
def fuseLevel : Nat → PinLevel
  | 1 => .hiZ | 2 => .low | 3 => .high | 4 => .weakUp
  | _ => .weakDown

/-- The level a state of an override record gives (R87). -/
def overrideLevel : Nat → PinLevel
  | 0 => .hiZ | 1 => .low | 2 => .high | 3 => .weakDown
  | _ => .weakUp

/-- The code of a pin in the fuse map as it was read: three bits from bit 3 times its identifier of byte 0xA1 on (R461, R469). -/
def State.fuseCode (s : State) (i : Nat) : Nat :=
  let b (k : Nat) : Nat := b2n ((lookup 0 s.clk.fuseMap (0xA1 + (3 * i + k) / 8)).getLsbD ((3 * i + k) % 8))
  b 0 + 2 * b 1 + 4 * b 2

/-- A pin before its function drives it: hardwired, at the fuse map's state, or at the image's override; high on an open-drain throttle output is released (R459, R461). -/
def State.restLevel (s : State) (i : Nat) : PinLevel :=
  let ovr := s.clk.overrides.find? (·.pin = i)
  let l := match s.clk.fuses, ovr with
    | false, _ => .weakDown
    | true, some o => overrideLevel o.state
    | true, none => fuseLevel (s.fuseCode i)
  if 0x30 ≤ i ∧ i < 0x40 ∧ l = .high then .hiZ else l

/-- The rail whose graph record names a pin as its discharge output (R80). -/
def Image.dischargeRail (im : Image) (i : Nat) : Option Nat := (im.graphs.find? (fun g => g.discharge ∧ g.disch = i)).map GraphRec.rail

/-- Whether a rail's enable output is asserted: in Rising, Up and Failed (R307, R308), and as last stamped while no lane is in charge, but for a rail forced to its safe state since (R320, R353). -/
def State.railEnabled (s : State) (c : Nat) : Bool := match s.arb.railHold with
  | some h => if s.safe c then decide (2 ≤ s.code c) && decide (s.code c ≤ 4) else h.on.contains c
  | none => decide (2 ≤ s.code c) && decide (s.code c ≤ 4)

/-- Whether a rail's discharge output is asserted (R309), and as last stamped while no lane is in charge (R320). -/
def State.discharging (s : State) (c : Nat) : Bool := match s.arb.railHold with
  | some h => if s.safe c then s.running (.discharge c) else h.discharge.contains c
  | none => s.running (.discharge c)

/-- Whether the block drives SEQ_FLT_N low (R316), and as last stamped while no lane is in charge (R320). -/
def State.drivesSeqFlt (s : State) : Bool := match s.arb.railHold with
  | some h => h.seqFlt
  | none => s.lane.seq.drives

/-- A general pin under its function: a rail's enable output, or the discharge output that a graph record names, with the inversion of the pin's record where it has one (R80, R85, R307 to R309; DEDUCED, log 93). -/
def State.gpLevel (s : State) (i : Nat) : PinLevel := match s.image with
  | some im =>
    let p := im.pins.find? (·.pin = i)
    let on := match p.filter (·.func = 2) with
      | some q => s.railEnabled q.ctx
      | none => (im.dischargeRail i).any s.discharging
    if on == p.any (·.invert) then .low else .high
  | none => s.restLevel i

/-- SYNC_OUT under its function: the clock while the group it belongs to switches, else low, or high where its record inverts it (R85, R159). -/
def State.syncOut (s : State) : PinLevel :=
  let p := s.image.bind (fun im => im.pins.find? (·.pin = 0x40))
  let on := (p.bind (fun p => s.ctx? p.ctx)).any (fun r => r.phases.any (fun q => s.flag (PH_STS + q) 3))
  if on then .clocked else if p.any (·.invert) then .high else .low

/-- The level of a pin by its identifier (R84, R459); the general pins, at VIO level, are at high impedance without VIO (R16, R491). -/
def State.pinLevel (s : State) (i : Nat) : PinLevel :=
  if decide (i < 0x20) && !s.clk.vio then .hiZ
  else if !s.driven.contains i then s.restLevel i
  else if i < 0x20 then s.gpLevel i
  else if i < 0x30 then .clocked
  else if i < 0x40 then (if s.flag THR_LIVE (i - 0x30) then .low else .hiZ)
  else s.syncOut

/-- The output levels that registers and states give. -/
def outputs (s : State) : Outs where
  halert := s.clk.vio && !s.alertMask && (s.reg HOST_ALERT &&& s.reg HOST_ALERTEN != 0)
  flt := s.clk.vio && (s.flt.pulse || s.flag FLT_CTL 0)
  seqFlt := s.clk.vio && s.drivesSeqFlt
  enG := (List.range 8).map fun n => match s.inst? .group n with
    | some c => enGCode (s.code c) && !(s.grp c).cutStop
    | none => false
  thr := (List.range 16).map fun n => s.flag THR_LIVE n
  pins := (List.range 65).map s.pinLevel
  cells := if s.tap.run && s.tap.instr == .extest then some s.tap.latch else none

/-- The end of every command: the queue is as it was found, and the outputs follow the registers. -/
def finish (s0 s : State) : Host.Outcome State Fault Refusal :=
  .next { s with pending := s0.pending, outs := outputs s }

end Sys2Proof.Machine
end

