-- ==== Sys2Proof/Machine/Operands.lean ====
section
/-! DEFINITION. How a word is read and written: which addresses are implemented (R53, R104, R508, R510), what a read returns with its quality code (R41, R42), and how a written value is clamped and stored (R43 to R48). -/

namespace Sys2Proof.Machine

/-! ### Descriptions -/

/-- The descriptions of a global page (R509). -/
def pageDescs : Nat → List RegDesc
  | 0 => descPage0 | 1 => descPage1 | 2 => descPage2 | 3 => descPage3 | 4 => descPage3 | 5 => descPage3 | 6 => descPage3
  | 7 => descPage7 | 8 => descPage8 | 9 => descPage9 | 10 => descPage10 | 11 => descPage11 | 12 => descPage12
  | 13 => descPage13 | 14 => descPage14 | 15 => descPage15 | 16 => descPage16 | 17 => descPage17
  | _ => []

/-- The descriptions of words 0x10 onwards of a block (R510). -/
def typeDescs : CtxType → List RegDesc
  | .shelf => descShelf | .feed => descFeed | .rectifier => descRectifier | .string => descString
  | .group => descGroup | .branch => descBranch | .pol => descPol | .rail => descRail | .zone => descZone

/-- The description of an offset in a list. -/
def descAt (l : List RegDesc) (o : Nat) : Option Shape :=
  (l.find? (fun d => decide (d.off ≤ o) && decide (o < d.off + d.n))).map (·.shape)

/-- The values a block takes at a cold start (the layout tables of R133, R185, R196 and the others). -/
def typeDefaults : CtxType → List (Nat × Word)
  | .shelf => defaultShelf | .feed => defaultFeed | .rectifier => defaultRectifier | .string => defaultString
  | .group => defaultGroup | .branch => defaultBranch | .pol => defaultPol | .rail => defaultRail | .zone => defaultZone

/-- The context and word number of an address of a context block. -/
def ctxOf (a : Nat) : Nat × Nat := ((a - 0x1000) / 0x40, (a - 0x1000) % 0x40)

/-- Whether an address lies in the context blocks (R507). -/
def isCtxAddr (a : Nat) : Bool := decide (0x1000 ≤ a) && decide (a < 0x3000)

/-- Whether an address lies in the loop slots (R507). -/
def isSlotAddr (a : Nat) : Bool := decide (0x3000 ≤ a) && decide (a < 0x3800)

/-- The slot and word number of an address of the slot range. -/
def slotOf (a : Nat) : Nat × Nat := ((a - 0x3000) / 8, (a - 0x3000) % 8)

/-- The shape of the word at an address, if the register map names one there. -/
def State.shape? (s : State) (a : Nat) : Option Shape :=
  if a < 0x480 then descAt (pageDescs (a / 0x40)) a
  else if isCtxAddr a then
    let (c, k) := ctxOf a
    if k < 0x10 then descAt descHeader k
    else match s.ctx? c with
      | some r => descAt (typeDescs r.typ) k
      | none => none
  else if isSlotAddr a then descAt descSlot (slotOf a).2
  else none

/-! ### Which words are implemented -/

/-- The context a zone serves (R73, byte 14). -/
def zoneServes (im : Image) (z : CtxRec) : Option Nat :=
  let b := z.a2
  let r :=
    if b < 8 then im.inst? .group b
    else if 0x80 ≤ b ∧ b ≤ 0x8F then im.inst? .branch (b - 0x80)
    else if 0xA0 ≤ b ∧ b ≤ 0xA5 then im.inst? .feed (b - 0xA0)
    else if 0xB0 ≤ b ∧ b ≤ 0xB7 then im.inst? .string (b - 0xB0)
    else none
  r.map (·.ctx)

/-- The zones that serve a context (R515). -/
def Image.zonesOf (im : Image) (c : Nat) : List CtxRec :=
  (im.ofType .zone).filter (fun z => zoneServes im z = some c)

/-- Whether a string is direct-hang: it has a gate channel (R206). -/
def CtxRec.directHang (r : CtxRec) : Bool := r.typ == .string && r.a0 != 0xFF

/-- The serving group of a string, by context number (R206). -/
def Image.servingOf (im : Image) (r : CtxRec) : Option Nat :=
  if r.typ = .string ∧ r.a0 = 0xFF ∧ r.a2 < 8 then (im.inst? .group r.a2).map (·.ctx) else none

/-- Whether word k of a context block is there for a context record (R53, R55, R61, R133, R210, R515). -/
def wordThere (im : Image) (r : CtxRec) (k : Nat) : Bool :=
  if k = CTX_GOV then r.prigrp != 0xFF
  else if k = CTX_VMEAS then r.typ != .zone
  else if k = CTX_IMEAS ∨ k = CTX_PMEAS then r.typ != .zone && r.typ != .rail
  else if k = CTX_TMEAS then
    match r.typ with
    | .rail => false
    | .feed | .string | .group => !(im.zonesOf r.ctx).isEmpty
    | _ => true
  else if k < 0x10 then (descAt descHeader k).isSome
  else match r.typ with
    | .string => (k != BAT_DHRSHUNT && !(decide (BAT_DHILIM ≤ k) && decide (k ≤ BAT_DHCOOL))) || r.directHang
    | .group =>
      let n := r.phases.length
      if STEPPE_ADD ≤ k ∧ k < STEPPE_ADD + 11 then decide (k - STEPPE_ADD + 1 < n)
      else if STEPPE_SHED ≤ k ∧ k < STEPPE_SHED + 11 then decide (k - STEPPE_SHED + 1 < n)
      else (descAt descGroup k).isSome
    | t => (descAt (typeDescs t) k).isSome

/-- Whether a string uses cell taps (R73, R250). -/
def State.cellTaps (s : State) (n : Nat) : Bool :=
  !s.variantBE && ((s.image.bind (·.inst? .string n)).any (fun r => r.a1 % 2 == 1))

/-- Whether a global word is there besides being named: group words need a record (R121), phase words a group (R143), channel words an owner (R183), cell words taps (R250), curve words a string (R261), graph words a graph (R319), LEARNED and others always. -/
def State.globalThere (s : State) (a : Nat) : Bool :=
  if 0x100 ≤ a ∧ a < 0x1C0 then (s.image.bind (·.group? (a % 0x40))).isSome
  else if PH_IMEAS ≤ a ∧ a < PH_STS + 24 then
    (s.ofType .group).any (fun r => r.phases.contains (if a < PH_STS then a - PH_IMEAS else a - PH_STS))
  else if GCH_STS ≤ a ∧ a < GCH_STS + 16 then s.regN (GCH_OWNER + (a - GCH_STS)) != 0xFF
  else if CELL_V ≤ a ∧ a < CELL_V + 32 then s.cellTaps ((a - CELL_V) / 16)
  else if CELL_CFG ≤ a ∧ a < CELL_CFG + 2 then s.cellTaps (a - CELL_CFG)
  else if CELL_OVTH ≤ a ∧ a < CELL_OVTH + 2 then s.cellTaps (a - CELL_OVTH)
  else if CELL_OVSTS ≤ a ∧ a < CELL_OVSTS + 2 then s.cellTaps (a - CELL_OVSTS)
  else if EST_OCV ≤ a ∧ a < EST_OCV + 64 then (s.inst? .string ((a - EST_OCV) / 8)).isSome
  else if SEQ_GCFG ≤ a ∧ a < SEQ_GSTATE + 8 then
    (s.image.any fun im => im.graphs.any (·.graph = (a - SEQ_GCFG) % 8))
  else if a = FAB_CDATA then
    (s.image.bind (·.slot? (s.fld FAB_SLOT 7 0))).any (fun r => decide (s.fld FAB_SLOT 10 8 < r.coef.length))
  else true

/-- Whether the word at an address is implemented; any other reads as zero with quality code 0b11 (R10, R53, R104, R508). -/
def State.implemented (s : State) (a : Nat) : Bool :=
  if a < 0x480 then (s.shape? a).isSome && s.globalThere a
  else if isCtxAddr a then
    match s.image, s.ctx? (ctxOf a).1 with
    | some im, some r => (s.shape? a).isSome && wordThere im r (ctxOf a).2
    | _, _ => false
  else if isSlotAddr a then (s.image.bind (·.slot? (slotOf a).1)).isSome
  else false

/-! ### Temperatures of served contexts (R515) -/

/-- Whether CTX.TMEAS of a context is formed from the zones that serve it. -/
def CtxRec.fromZones (r : CtxRec) : Bool := r.typ == .feed || r.typ == .string || r.typ == .group

/-- The ticks between two updates of a die sensor: 100 us, and 10 ms in Dormant (R363). -/
def State.diePeriod (s : State) : Nat := if s.sys = sysDormant then 2000000 else 20000

/-- The update period of a measured word of a context block in ticks (R41); none for a word that is no measurement. -/
def State.ctxPeriod (s : State) (r : CtxRec) (k : Nat) : Option Nat :=
  let poll := (ef (s.reg DS_POLL) * ticksPerSecond).floor.toNat
  if k = CTX_VMEAS ∨ k = CTX_IMEAS ∨ k = CTX_PMEAS then
    match r.typ with
    | .pol | .rectifier => some poll
    | .rail => some 3840
    | .zone => none
    | _ => some 200
  else if k = CTX_TMEAS then
    match r.typ with
    | .shelf => some s.diePeriod
    | .pol | .rectifier => some poll
    | .zone => if r.a1 = 2 then some poll else some 3840
    | .branch => if r.a1 = 0xFE then none else some 3840
    | _ => none
  else match r.typ with
    | .feed => if k = FEED_VIN then some 200 else none
    | .rectifier => if k = RECT_IREF then some 2000 else none
    | .group => if k = GRP_FMEAS then some 2000 else none
    | .branch => if k = BR_VDS then some 200 else none
    | .pol => if k = POL_VIN ∨ k = POL_STSWORD then some poll else none
    | .string =>
      if EST_QNET ≤ k ∧ k < EST_QNET + 4 then some 200
      else if k = EST_SOC ∨ k = EST_SOCRAW ∨ k = EST_UNC ∨ k = EST_IDLIM then some 200000
      else none
    | .shelf => if k = SHELF_ALLOW ∨ k = SHELF_PBAVAIL ∨ k = SHELF_HEAD then some 2000 else if k = SHELF_PSRC ∨ k = SHELF_PBAT then some 200 else none
    | _ => none

/-- Whether a measured word is older than four of its update periods (R41). -/
def State.older (s : State) (a : Nat) : Option Nat → Bool
  | some p => decide (4 * p < s.now - s.updatedAt a)
  | none => false

/-- Whether the temperature of a zone counts for what it serves: not in Sensor fault, and its CTX.TMEAS not stale. -/
def State.zoneGood (s : State) (z : CtxRec) : Bool :=
  let a := ctxAddr z.ctx CTX_TMEAS
  s.code z.ctx != 3 && !s.isStaleMarked a && !s.older a (s.ctxPeriod z CTX_TMEAS)

/-- The zones that serve a context and whose temperatures count. -/
def State.goodZones (s : State) (c : Nat) : List CtxRec := match s.image with
  | some im => (im.zonesOf c).filter s.zoneGood
  | none => []

/-- CTX.TMEAS of a served context: the highest of its zones, if one of them counts. -/
def State.zoneTemp (s : State) (c : Nat) : Option Word := match s.goodZones c with
  | [] => none
  | l => some (Word.ofNat (l.foldl (fun m z => max m (s.cw z.ctx CTX_TMEAS).toNat) 0))

/-! ### What a read returns -/

/-- The newer valid checkpoint buffer (R21). -/
def State.newestCkpt (s : State) : Option Ckpt := match s.ckptA, s.ckptB with
  | some a, some b => some (if a.epoch < b.epoch then b else a)
  | some a, none => some a
  | none, b => b

/-- CTX.GOV of a context: in a Col and in Plain hold that of the last committed epoch (R62). -/
def State.govWord (s : State) (a : Nat) : Word :=
  if s.sys = sysCol ∨ s.sys = sysPlain then
    match s.newestCkpt with
    | some ck => lookup 0 ck.regs a
    | none => s.reg a
  else s.reg a

/-- A word of a context block as it shows: CTX.GOV, and CTX.TMEAS of a served context, are views of other state. -/
def State.ctxValue (s : State) (a : Nat) : Word :=
  if (ctxOf a).2 = CTX_GOV then s.govWord a
  else if (ctxOf a).2 = CTX_TMEAS ∧ (s.ctx? (ctxOf a).1).any CtxRec.fromZones then (s.zoneTemp (ctxOf a).1).getD (s.reg a)
  else s.reg a

/-- The coefficients of a slot in use. -/
def State.coefOf (s : State) (n : Nat) : List Word := (find s.lane.coefs n).getD []

/-- FAB.CDATA: the pending shadow value, else the value in use (R114). -/
def State.cdata (s : State) : Word :=
  let n := s.fld FAB_SLOT 7 0
  let k := s.fld FAB_SLOT 10 8
  let used := (s.coefOf n).getD k 0
  match s.lane.shadow with
  | some sh => if sh.slot = n then (find sh.vals k).getD used else used
  | none => used

/-- Highest level over all contexts with an unacknowledged fault (R361). -/
def State.topLevel (s : State) : Nat := s.flt.pending.foldl (fun m p => max m p.level) 0

/-- FLT.SUM (R361). -/
def State.fltSum (s : State) : Word :=
  Word.ofNat (s.topLevel + 4 * b2n (!s.flt.pending.isEmpty) + 8 * s.flt.log.length)

/-- FLT.CLSPEND (R361). -/
def State.clsPend (s : State) : Word :=
  Word.ofNat ((List.range 16).foldl (fun m c => m + b2n (s.flt.pending.any (·.cls = c)) * 2 ^ c) 0)

/-- BB.STATE with the milliseconds to expiry, rounded up (R391). -/
def State.bbState (s : State) : Word := match s.rcd.frozenAt with
  | some t0 =>
    let left := s.regN BB_FRZTO * 200000 - (s.now - t0)
    putBits (s.reg BB_STATE) 10 2 ((left + 199999) / 200000)
  | none => putBits (s.reg BB_STATE) 10 2 0

/-- The byte of the MRAM at an offset. -/
def State.byte (s : State) (a : Nat) : Byte := lookup freshByte s.mram a

/-- Two bytes of the MRAM as a word: bits [7:0] and [15:8] (R390, R476). -/
def State.bytePair (s : State) (a : Nat) : Word := Word.ofNat ((s.byte a).toNat + 256 * (s.byte (a + 1)).toNat)

/-- UPD.TREM: the time left of a trial's window, rounded up to 1 s (R483). -/
def State.trialLeft (s : State) : Word := match s.upd.trial with
  | some x =>
    let left := ef x.window - ((s.age .trial : Nat) : Rat) / ticksPerSecond
    if left ≤ 0 then 0 else toEF (left.ceil : Rat)
  | none => 0

/-- A reading of the scan as PU18 on the shelf VBASE (R317). -/
def State.readingWord (s : State) (uv : Int) : Word := toPU ((uv : Rat) / 1000000 / ef (s.cw 0 CTX_VBASE))

/-- The input SCAN.SEL names, and whether it reads the snapshot buffer. -/
def State.scanInput (s : State) : Nat := s.fld SCAN_SEL 6 0
def State.scanSnap (s : State) : Bool := s.flag SCAN_SEL 7

/-- Whether SCAN.RD has nothing to show: an input above 95, or the buffer before the first snapshot (R317, R319). -/
def State.scanNone (s : State) : Bool := decide (95 < s.scanInput) || (s.scanSnap && !s.snapTaken)

/-- SCAN.RD: the live reading or the snapshot's. -/
def State.scanRead (s : State) : Word :=
  s.readingWord (if s.scanSnap then lookup 0 s.snapshot s.scanInput else lookup 0 s.scan s.scanInput)

/-- The value a word shows, before its quality code: some words are views of other state. -/
def State.value (s : State) (a : Nat) : Word :=
  if a = FLT_SUM then s.fltSum
  else if a = FLT_CLSPEND then s.clsPend
  else if a = BB_STATE then s.bbState
  else if a = BB_PDATA then s.bytePair (0x148000 + 2 * s.regN BB_PPTR)
  else if a = FAB_CDATA then s.cdata
  else if a = UPD_TREM then s.trialLeft
  else if a = SCAN_RD then s.scanRead
  else if a = FAB_CTL then putBit (s.reg FAB_CTL) 0 (s.laneRuns && s.image.isSome)
  else if isCtxAddr a then s.ctxValue a
  else s.reg a

/-- The update period of a measured word in ticks (R41); none for a word that is no measurement. -/
def State.period (s : State) (a : Nat) : Option Nat :=
  if isCtxAddr a then (s.ctx? (ctxOf a).1).bind (fun r => s.ctxPeriod r (ctxOf a).2)
  else if PH_IMEAS ≤ a ∧ a < PH_IMEAS + 24 then some 200
  else if TDIE_S ≤ a ∧ a ≤ TDIE_TJ then some s.diePeriod
  else if a = SCAN_RD then (if s.scanSnap then none else some 3840)
  else if CELL_V ≤ a ∧ a < CELL_V + 32 then some 200000
  else if CASC_TOFS ≤ a ∧ a < CASC_TOFS + 4 then some 200000
  else none

/-- Whether the measured word at an address is older than four of its update periods (R41). -/
def State.aged (s : State) (a : Nat) : Bool := s.older a (s.period a)

/-- Whether a word of a context comes from its downstream target, so that it is stale while the context is offline (R41, R58). -/
def CtxRec.fromTarget (r : CtxRec) (k : Nat) : Bool :=
  (decide (CTX_VMEAS ≤ k) && decide (k ≤ CTX_TMEAS)) || (r.typ == .pol && (k == POL_VIN || k == POL_STSWORD || k == POL_VOUTMODE))

/-- Whether a word of a context block reads as stale for a reason of its own: its context is offline (R58), the governor of a context without a lane (R62), a modelled temperature without a lane (R197), a temperature without a valid zone (R515). -/
def State.staleCtx (s : State) (r : CtxRec) (k : Nat) : Bool :=
  (s.offline r.ctx && r.fromTarget k) || (k == CTX_GOV && !s.laneRuns) ||
  (k == CTX_TMEAS && ((r.typ == .branch && r.a1 == 0xFE && !s.laneRuns) || (r.fromZones && (s.goodZones r.ctx).isEmpty)))

/-- Whether a word reads as stale (R41): aged, marked, stale for a reason of its context, a slot output that is not valid (R101), a group result at its FALLBACK (R121), the Hollow words while SAD.HREF is not formed (R220). -/
def State.staleWord (s : State) (a : Nat) : Bool :=
  s.isStaleMarked a || s.aged a ||
  (if isCtxAddr a then (s.ctx? (ctxOf a).1).any (fun r => s.staleCtx r (ctxOf a).2)
  else if isSlotAddr a then
    (slotOf a).2 == SLOT_OUT && !bit (s.sw (slotOf a).1 SLOT_STS) 1
  else if FAB_GRES ≤ a ∧ a < FAB_GRES + 64 then s.flag (FAB_GGOV + (a - FAB_GRES)) 9
  else if SAD_HREF ≤ a ∧ a ≤ SAD_HCNT then !s.hollow.formed
  else false)

/-- Whether the block behind a word is in reset, so that its isolation wrapper answers (R457): a downstream port, or the frequency counter. DEDUCED, log 38: which words lie behind which block. -/
def State.isolatedWord (s : State) (a : Nat) : Bool :=
  (decide (FCNT_CTL ≤ a) && decide (a ≤ FCNT_STS) && s.flag RST_BLKSTS 8) ||
  (List.range 4).any (fun p => s.flag RST_BLKSTS (2 + p) && decide (DSP_CFG ≤ a) && decide (a < DS_POLL) && (a - DSP_CFG) % 4 == p)

/-- What a read of an address returns: the word and its quality code, in the order 0b11, 0b01, 0b10 (R41, R42); zero with 0b01 where the block behind it is in reset (R457). -/
def State.read (s : State) (a : Nat) : Word × Nat :=
  if !s.implemented a || (a == SCAN_RD && s.scanNone) then (0, 3)
  else if s.isolatedWord a then (0, 1)
  else if a = CASC_RDATA ∧ s.remoteQ ≠ 0 then (s.value a, s.remoteQ)
  else if s.staleWord a then (s.value a, 1)
  else if s.isClamped a then (s.value a, 2)
  else (s.value a, 0)

/-- The addresses of the measured words of a context (R41, R59): its own, the phase currents of a group and the cells of a string. -/
def State.measuredWords (s : State) (im : Image) (r : CtxRec) : List Nat :=
  let own := (List.range 0x40).filter (fun k => wordThere im r k && ((s.ctxPeriod r k).isSome || (decide (CTX_VMEAS ≤ k) && decide (k ≤ CTX_TMEAS))))
  let cells := if r.typ == .string then (List.range 32).filter (fun i => i / 16 == r.inst && s.cellTaps r.inst) else []
  own.map (ctxAddr r.ctx) ++ (if r.typ == .group then r.phases.map (PH_IMEAS + ·) else []) ++ cells.map (CELL_V + ·)

/-- The measured words of the shelf that read as stale, by context. -/
def State.staleNow (s : State) : List (Nat × List Nat) := match s.image with
  | some im => im.contexts.map (fun r => (r.ctx, (s.measuredWords im r).filter s.staleWord))
  | none => []

/-- The measured words that read as stale taken note of, with no mark set. -/
def State.seeStale (s : State) : State := { s with staleSeen := s.staleNow.flatMap (·.2) }

/-- STALE of a context set where one of its measured words has become stale since the last look (R59). -/
def State.watchStale (s : State) : State :=
  (s.forEach (s.staleNow.filter (fun p => p.2.any (fun a => !s.staleSeen.contains a))) (fun p s => s.sts p.1 3)).seeStale

/-- A word of a payload as the three bytes of a W3R field (R379). -/
def State.w3r (s : State) (a : Nat) : List Byte := wordBytes (s.read a).1 (s.read a).2

/-! ### Clamping -/

/-- A number kept between two bound words, compared on the values they stand for; bounds that leave no room give the present value (R43, R48). -/
def clampBetween (val : Word → Rat) (lo hi present w : Word) : Word × Bool :=
  if val hi < val lo then (present, true)
  else if val w < val lo then (lo, true)
  else if val hi < val w then (hi, true)
  else (w, false)

/-- The larger of two words by value. -/
def wordMax (val : Word → Rat) (a b : Word) : Word := if val a < val b then b else a

/-- The smaller of two words by value. -/
def wordMin (val : Word → Rat) (a b : Word) : Word := if val b < val a then b else a

/-- The PU18 word d LSBs above another, saturated. -/
def puPlus (w : Word) (d : Int) : Word := puRaw (w.toInt + d)

/-- The T18 word d LSBs above another, held in range. -/
def tempPlus (w : Word) (d : Int) : Word := Word.ofNat (clampInt 0 0x3FFFF ((w.toNat : Int) + d)).toNat

/-- The bounds that other fields put on word k of a block (R48, R102, R133, R160, R185, R196, R235, R302, R372): a lower and an upper bound word where there is one. -/
def State.ctxBounds (s : State) (r : CtxRec) (k : Nat) : Option Word × Option Word :=
  let w := s.cw r.ctx
  match r.typ with
  | .group =>
    if k = GRP_IPKMAX then (none, some (puPlus (w GRP_PHTRIP) (-0x1000)))
    else if k = GRP_PHTRIP then (some (puPlus (w GRP_IPKMAX) 0x1000), none)
    else if k = GRP_NMIN then (none, some (Word.ofNat r.phases.length))
    else if STEPPE_ADD ≤ k ∧ k < STEPPE_SHED then (some (puPlus (w (k + 11)) 655), none)
    else if STEPPE_SHED ≤ k ∧ k < STEPPE_SHED + 11 then (none, some (puPlus (w (k - 11)) (-655)))
    else (none, none)
  | .feed =>
    if k = FEED_VQMIN then (none, some (puPlus (w FEED_VQMAX) (-655)))
    else if k = FEED_VQMAX then (some (puPlus (w FEED_VQMIN) 655), none)
    else if k = FEED_VFWD then (none, some (w FEED_VON))
    else if k = FEED_VON then (some (w FEED_VFWD), none)
    else (none, none)
  | .branch =>
    if k = BR_TJMAX then (some (tempPlus (w BR_TJRESTART) 0xA00), none)
    else if k = BR_TJRESTART then (none, some (tempPlus (w BR_TJMAX) (-0xA00)))
    else (none, none)
  | .string =>
    if k = CHG_ITERM then (none, some (w CHG_ICC))
    else if k = CHG_ICC then (some (w CHG_ITERM), none)
    else if k = CHG_VPRE then (none, some (wordMin pu (w CHG_VCV) (w CHG_VRCH)))
    else if k = CHG_VRCH then (some (w CHG_VPRE), some (puPlus (w CHG_VCV) (-328)))
    else if k = CHG_VCV then (some (wordMax pu (puPlus (w CHG_VRCH) 328) (w CHG_VPRE)), none)
    else (none, none)
  | .rail =>
    if k = RAIL_VOV then (some (puPlus (w RAIL_VUV) 655), none)
    else if k = RAIL_VOFF then (none, some (puPlus (w RAIL_VUV) (-655)))
    else if k = RAIL_VUV then (some (puPlus (w RAIL_VOFF) 655), some (puPlus (w RAIL_VOV) (-655)))
    else (none, none)
  | .zone =>
    if k = ZONE_TWARN then (none, some (tempPlus (w ZONE_TSD) (-0x100)))
    else if k = ZONE_TSD then (some (tempPlus (w ZONE_TWARN) 0x100), none)
    else (none, none)
  | _ => (none, none)

/-- The bounds that other fields put on the word at an address. -/
def State.bounds (s : State) (a : Nat) : Option Word × Option Word :=
  if isCtxAddr a then match s.ctx? (ctxOf a).1 with
    | some r => s.ctxBounds r (ctxOf a).2
    | none => (none, none)
  else if isSlotAddr a then
    let (n, k) := slotOf a
    if k = SLOT_OMAX then (some (s.sw n SLOT_OMIN), none)
    else if k = SLOT_OMIN then (none, some (s.sw n SLOT_OMAX))
    else (none, none)
  else if EST_OCV ≤ a ∧ a < EST_OCV + 64 then
    let j := (a - EST_OCV) % 8
    (if j = 0 then none else some (puPlus (s.reg (a - 1)) 1), if j = 7 then none else some (puPlus (s.reg (a + 1)) (-1)))
  else (none, none)

/-- A number clamped to its fixed range and to the bounds of other fields. -/
def State.clampNumber (s : State) (a : Nat) (val : Word → Rat) (lo hi w : Word) : Word × Bool :=
  let b := s.bounds a
  let lo' := match b.1 with
    | some x => wordMax val lo x
    | none => lo
  let hi' := match b.2 with
    | some x => wordMin val hi x
    | none => hi
  clampBetween val lo' hi' (s.reg a) w

/-- A field value made legal by its rule (R43, R44). -/
def FieldRule.apply : FieldRule → Nat → Nat × Bool
  | .any, v => (v, false)
  | .range lo hi, v => if v < lo then (lo, true) else if hi < v then (hi, true) else (v, false)
  | .codes bad safe, v => if bad.contains v then (safe, true) else (v, false)

/-- One field of a written word applied to the word so far (R45). -/
def applyField (w : Word) (acc : Word × Bool) (f : FieldDesc) : Word × Bool :=
  let v := bits w f.hi f.lo
  match f.access with
  | .rw =>
    let r := f.rule.apply v
    (putBits acc.1 f.hi f.lo r.1, acc.2 || r.2)
  | .w1c => (acc.1 &&& ~~~(putBits 0 f.hi f.lo v), acc.2)
  | .ro | .wt => acc

/-- What a write of a value stores in a word, and whether it was clamped or replaced (R43 to R45, R48). A word that nothing may be stored in keeps its value. -/
def State.clampWord (s : State) (a : Nat) (w : Word) : Word × Bool :=
  match s.shape? a with
  | none | some .readOnly | some .trigger => (s.reg a, false)
  | some (.pu lo hi) => s.clampNumber a pu (Word.ofInt lo) (Word.ofInt hi) w
  | some (.ef lo hi) =>
    let r := s.clampNumber a ef (Word.ofNat lo) (Word.ofNat hi) w
    (efCanon r.1, r.2)
  | some (.temp lo hi) => s.clampNumber a temp (Word.ofNat lo) (Word.ofNat hi) w
  | some (.count lo hi) => s.clampNumber a (fun x => (x.toNat : Rat)) (Word.ofNat lo) (Word.ofNat hi) w
  | some .raw => (w, false)
  | some (.fields fs) => fs.foldl (applyField w) (s.reg a, false)

/-- The state after a value is stored in an implemented word with its clamped mark (R45); a clamped write of a context block sets CTX.STS.CLAMP (R59). -/
def State.storeAs (s : State) (a : Nat) (r : Word × Bool) : State :=
  let s1 := (s.setReg a r.1).markClamped a r.2
  if r.2 && isCtxAddr a then s1.sts (ctxOf a).1 1 else s1

/-- The plain write of a word: ignored where the word is not implemented or read-only (R45, R53, R508), clamped and stored elsewhere. -/
def State.store (s : State) (a : Nat) (w : Word) : State :=
  if !s.implemented a then s
  else match s.shape? a with
    | none | some .readOnly => s
    | some _ => s.storeAs a (s.clampWord a w)

/-- A write refused in favour of the present value, reported as clamped (R354). -/
def State.refuse (s : State) (a : Nat) : State := s.storeAs a (s.reg a, true)

end Sys2Proof.Machine
end

