-- ==== Sys2Proof/Machine/Recorder.lean ====
section
/-! DEFINITION. The recorder (R376 to R391): what a record's bytes are, where it goes in the black box area, how records are offered, written and staged, the token buckets, and the summaries. -/

namespace Sys2Proof.Machine

/-! ### MRAM -/

/-- The state with bytes of the MRAM replaced, from an offset on (R22, R23). -/
def State.writeMram (s : State) (a : Nat) (bs : List Byte) : State := { s with mram := assignAll freshByte s.mram a bs }

/-- n bytes of the MRAM from an offset on. -/
def State.readMram (s : State) (a n : Nat) : List Byte := lookupAll freshByte s.mram a n

/-- Start of the black box area (R22). -/
def bbBase : Nat := 0x148000

/-! ### Bytes of a record (R377, R378) -/

/-- Bytes of zero. -/
def zeros (n : Nat) : List Byte := List.replicate n 0

/-- The length of a record in bytes: header, payload, CRC. -/
def Rec.len (r : Rec) : Nat := 20 + r.payload.length

/-- The bytes of a record under a sequence number; basin says where it is written (R378). -/
def Rec.bytes (r : Rec) (rseq : Nat) (basin : Bool) : List Byte :=
  let body := BitVec.ofNat 8 (r.len / 4) :: BitVec.ofNat 8 (r.origin + 4 * b2n basin + 8 * b2n r.replay) ::
    leBytes 2 r.code ++ leBytes 4 rseq ++ leBytes 7 r.time ++ [BitVec.ofNat 8 r.ctx] ++ r.payload
  body ++ leBytes 4 (crc32 body)

/-- Where a record of a length goes from a position inside a run of 256-byte pages: never across a page end (R377). -/
def pagePlace (pos len : Nat) : Nat := if pos % 256 + len ≤ 256 then pos else (pos / 256 + 1) * 256

/-- One record committed: it takes the next RSEQ, and goes to the Basin until one does not fit, then round the circular area (R382, R383). -/
def State.commitRec (s : State) (r : Rec) : State :=
  let rseq := s.wide BB_RSEQ 2
  let s1 := s.setWide BB_RSEQ 2 ((rseq + 1) % 2 ^ 32)
  let pos := pagePlace (4 * s.regN BB_BFILL) r.len
  if !s.rcd.basinFull && decide (pos + r.len ≤ 64512) then
    (s1.writeMram (bbBase + 0x400 + pos) (r.bytes rseq true)).setReg BB_BFILL (Word.ofNat ((pos + r.len) / 4))
  else
    let p := pagePlace (4 * s.regN BB_CHEAD) r.len
    let p := if p + r.len ≤ 458752 then p else 0
    let s2 := { s1 with rcd := { s1.rcd with basinFull := true } }
    (s2.writeMram (bbBase + 0x10000 + p) (r.bytes rseq false)).setReg BB_CHEAD (Word.ofNat ((p + r.len) / 4 % 114688))

/-! ### Staging (R386) -/

/-- Bytes of staging in use. -/
def State.staged (s : State) : Nat := s.rcd.staging.foldl (fun n r => n + r.len) 0

/-- Whether a record may be committed now: pointers rebuilt, not frozen, charge on VRES (R385, R388, R23). -/
def State.canCommit (s : State) : Bool := s.flag BB_STATE 1 && s.rcd.frozenAt.isNone && s.vresOk

/-- The state with a record appended to staging. -/
def State.stage (s : State) (r : Rec) : State := { s with rcd := { s.rcd with staging := s.rcd.staging ++ [r] } }

/-- A count list with one code counted once more. -/
def tally (l : List (Nat × Nat)) (code : Nat) : List (Nat × Nat) := putKey l code ((find l code).getD 0 + 1)

/-- The sum of a count list. -/
def total (l : List (Nat × Nat)) : Nat := l.foldl (fun n p => n + p.2) 0

/-- The eight codes with most counts, ties by lower code, as 2-byte code and 2-byte count (R388). -/
def topEight (l : List (Nat × Nat)) : List Byte :=
  let sorted := sortBy (fun p => (65535 - min 65535 p.2) * 65536 + p.1) l
  let e := (sorted.take 8).flatMap fun p => leBytes 2 p.1 ++ leBytes 2 (min 65535 p.2)
  e ++ zeros (32 - e.length)

/-- The missed-events summary (R388). -/
def summaryRec (s : State) (start : Nat) (endCode missed ovf : Nat) (codes : List (Nat × Nat)) (origin : Nat) : Rec where
  code := 0x0201
  ctx := 0xFF
  time := s.now
  origin := origin
  replay := false
  payload := leBytes 7 start ++ [BitVec.ofNat 8 endCode] ++ leBytes 4 (s.now - start) ++ leBytes 4 missed ++ leBytes 4 ovf ++
    zeros 4 ++ topEight codes
  written := true

/-- The origin code of records of the running lane (R378). -/
def State.laneOrigin (s : State) : Nat := (s.holder.map LaneId.code).getD 0

/-- Once space is back after records were lost outside a freeze, the summary with end code 3 is staged before the next record, of a length (R386, R388). -/
def State.stageOverflow (s : State) (len : Nat) : State := match s.rcd.ovfAt with
  | some t0 =>
    if s.staged + 76 + len ≤ 8192 then
      let s1 := s.stage (summaryRec s t0 3 0 (total s.rcd.overflow) s.rcd.overflow s.laneOrigin)
      { s1 with rcd := { s1.rcd with overflow := [], ovfAt := none } }
    else s
  | none => s

/-- A written lane record lost: counted, by its code, with the losses of the freeze or of the time outside one (R386, R388). -/
def State.loseRec (s : State) (r : Rec) : State :=
  let s1 := (s.inc BB_MISSCNT).setFlag BB_STS 7 true
  if s1.rcd.frozenAt.isSome then { s1.setFlag BB_STS 4 true with rcd := { s1.rcd with frozenLost := tally s1.rcd.frozenLost r.code } }
  else { s1 with rcd := { s1.rcd with overflow := tally s1.rcd.overflow r.code, ovfAt := some (s1.rcd.ovfAt.getD s1.now) } }

/-- A written lane record: staged while space remains, else lost and counted (R386, R388). -/
def State.writeLane (s : State) (r : Rec) : State :=
  let s1 := s.stageOverflow r.len
  if s1.staged + r.len ≤ 8192 ∧ s1.rcd.ovfAt.isNone then s1.stage r else s1.loseRec r

/-- A record of the running lane, now. -/
def State.mkRec (s : State) (code c : Nat) (payload : List Byte) (written : Bool) : Rec where
  code := code
  ctx := c
  time := s.now
  origin := s.laneOrigin
  replay := false
  payload := payload
  written := written

/-- A record the authority lane writes; without a lane none is made (R333). -/
def State.writeRec (s : State) (code c : Nat) (payload : List Byte) : State :=
  if s.laneRuns then s.writeLane (s.mkRec code c payload true) else s

/-! ### Token buckets (R387) -/

/-- The tokens of a bucket that no code has taken yet and the time of its last token: full at reset, under the reset value of BB.RLDEPTH. -/
def Recorder.spareBucket (r : Recorder) (n : Nat) : Nat × Nat := (find r.spare n).getD (8, 0)

/-- The bucket list with a bucket for a code, and the bucket's place: a code not seen takes the next bucket as it stands, and the last is shared once all are taken. -/
def Recorder.bucketFor (r : Recorder) (code : Nat) : List Bucket × Nat :=
  let bs := r.buckets
  match bs.findIdx? (fun b => b.code = code) with
  | some i => (bs, i)
  | none =>
    let e := r.spareBucket bs.length
    if bs.length < 256 then (bs ++ [{ code := code, tokens := e.1, dropped := 0, firstDrop := 0, refilled := e.2, shared := false }], bs.length)
    else (bs.modify 255 (fun b => { b with shared := true }), 255)

/-- The rate-limit summary of a bucket (R381, 0x0202). -/
def limitSummary (b : Bucket) : List Byte :=
  leBytes 2 (if b.shared then 0xFFFF else b.code) ++ zeros 2 ++ leBytes 4 b.dropped ++ leBytes 7 b.firstDrop ++ zeros 1

/-- Records that have found a token: all staged while at least 2 KiB are free and hold them, else all dropped (R381, R386). -/
def State.letIn (s : State) (rs : List Rec) : State :=
  let len := rs.foldl (fun n r => n + r.len) 0
  if s.staged + max len 2048 ≤ 8192 then rs.foldl State.stage (s.stageOverflow len)
  else (s.setReg BB_DROPCNT (satAdd (s.reg BB_DROPCNT) rs.length)).setFlag BB_STS 5 true

/-- Records offered together under one token, admitted or dropped together: dropped and counted without one, staged with it while at least 2 KiB are free, counted as missed during a freeze (R386 to R388). -/
def State.offerAll (s : State) (code : Nat) (rs : List Rec) : State :=
  if !s.laneRuns then s
  else if s.rcd.frozenAt.isSome then
    let s1 := (s.setFlag BB_STS 4 true).setReg BB_MISSCNT (satAdd (s.reg BB_MISSCNT) rs.length)
    { s1 with rcd := { s1.rcd with missed := rs.foldl (fun l _ => tally l code) s1.rcd.missed } }
  else
    let (bs, i) := s.rcd.bucketFor code
    match bs[i]? with
    | none => s
    | some b =>
      if b.tokens = 0 then
        let b' := { b with dropped := b.dropped + rs.length, firstDrop := if b.dropped = 0 then s.now else b.firstDrop }
        let s1 := (s.setReg BB_DROPCNT (satAdd (s.reg BB_DROPCNT) rs.length)).setFlag BB_STS 3 true
        { s1 with rcd := { s1.rcd with buckets := bs.set i b' } }
      else
        let s1 := { s with rcd := { s.rcd with buckets := bs.set i { b with tokens := b.tokens - 1, dropped := 0 } } }
        let s1 := if b.dropped = 0 then s1 else s1.writeRec 0x0202 0xFF (limitSummary b)
        s1.letIn rs

/-- One offered record. -/
def State.offerRec (s : State) (code c : Nat) (payload : List Byte) : State :=
  s.offerAll code [s.mkRec code c payload false]

/-! ### Records of status bits (R380, R381) -/

/-- The payload of a context status record. -/
def State.ctxPayload (s : State) (c : Nat) : List Byte :=
  s.w3r (ctxAddr c CTX_STATE) ++ s.w3r (ctxAddr c CTX_STS) ++ s.w3r (ctxAddr c CTX_VMEAS) ++ s.w3r (ctxAddr c CTX_IMEAS) ++
    s.w3r (ctxAddr c CTX_TMEAS) ++ zeros 1

/-- The bits of CTX.STS that have event codes (R380). -/
def statusBits : List Nat := [1, 2, 3, 5, 6, 7, 8, 9, 10, 11, 12, 13, 14, 15, 16, 17]

/-- The status bit that a rule names which offers a record and sets no bit: a free value among those that have event codes. -/
def recordBit (rule : Nat) : Nat := statusBits.getD (Config.recordBit rule).toNat 1

/-- The event code of bit b of CTX.STS of a context. -/
def State.ctxCode (s : State) (c b : Nat) : Nat := 0x1000 + 0x100 * ((s.ctx? c).map (·.typ.code)).getD 0 + b

/-- A status bit set, with its record offered. -/
def State.stsOffer (s : State) (c b : Nat) : State :=
  let s1 := s.sts c b
  s1.offerRec (s1.ctxCode c b) c (s1.ctxPayload c)

/-- A status bit set, with its record written. -/
def State.stsWrite (s : State) (c b : Nat) : State :=
  let s1 := s.sts c b
  s1.writeRec (s1.ctxCode c b) c (s1.ctxPayload c)

/-- The global status registers with records, by index: the register and its payload words (R381); zero stands for a word of zero. -/
def globalStatus : Nat → Nat × List Nat
  | 0 => (SAD_STS, [SAD_STATE, SAD_HDEPTH, SAD_HDUR, SAD_HREF])
  | 1 => (SEQ_STS, [SEQ_STS, IN_PBCNT, IN_SFCNT, IN_GPCNT])
  | 2 => (FSEL_STS, [FSEL_ACTIVE, FSEL_STS, FSEL_CHGCNT, FSEL_DEAD])
  | 3 => (TDIE_STS, [TDIE_STS, TDIE_TJ, TDIE_EXCL0, TDIE_EXCL1])
  | 4 => (IMG_LDSTAT, [IMG_LDSTAT, IMG_LDERR, IMG_LDREC, IMG_ACTIVE])
  | 5 => (LRN_STS, [LRN_STS, LRN_SEQ, LRN_CNT])
  | _ => (THR_STS, [THR_LIVE, THR_STS, THR_FORCE, THR_HARDEN])

/-- A bit of a global status register set, with its record offered. -/
def State.gOffer (s : State) (r b : Nat) : State :=
  let g := globalStatus r
  let s1 := s.setFlag g.1 b true
  let p := g.2.flatMap s1.w3r
  s1.offerRec (0x2000 + 0x20 * r + b) 0xFF (p ++ zeros (12 - p.length))

/-- A Note that names no class: only a record, written by the lane (R346). DESIGN CHOICE, log 85: the record is that of a fault raise with level and severity 0 and no reaction, of a class that the spec leaves open. -/
def State.note (s : State) (site c : Nat) : State :=
  s.writeRec (0x0100 + (Config.noteClass site).toNat) c (zeros 4 ++ leBytes 2 (Config.causeCode site).toNat ++ [BitVec.ofNat 8 s.laneOrigin, 0] ++ leBytes 7 s.now ++ zeros 1)

/-! ### Core records (R17, R386) -/

/-- A record of the analog core: committed at once, or staged while none may be committed. -/
def State.coreRec (s : State) (code : Nat) (payload : List Byte) : State :=
  let r : Rec := { code := code, ctx := 0xFF, time := s.now, origin := 0, replay := false, payload := payload, written := true }
  if s.canCommit then s.commitRec r else s.stage r

/-- Whether a staged record may leave staging once the checkpoint of an epoch has committed (R386). -/
def Rec.ripe (r : Rec) (epoch : Nat) : Bool := r.origin == 0 || decide (r.time / 1000 + 1 ≤ epoch)

/-- Staged records that are ripe for an epoch, committed in staging order (R386); core records that are due with them take the lower sequence numbers where asked (R392). DEDUCED, log 143. -/
def State.commitRipe (s : State) (epoch : Nat) (coreFirst : Bool) : State :=
  if s.canCommit then
    let s1 := { s with rcd := { s.rcd with staging := s.rcd.staging.filter (fun r => !r.ripe epoch) } }
    let l := s.rcd.staging.filter (·.ripe epoch)
    s1.forEach (if coreFirst then l.filter (·.origin = 0) ++ l.filter (·.origin ≠ 0) else l) (fun r s => s.commitRec r)
  else s

/-- The staged records that are due with an epoch's checkpoint, core records first (R386, R392). -/
def State.commitStaged (s : State) (epoch : Nat) : State := s.commitRipe epoch true

/-- Staged lane records of epochs after a restored one, discarded (R333, R386). -/
def State.discardStaged (s : State) (epoch : Nat) : State :=
  { s with rcd := { s.rcd with staging := s.rcd.staging.filter (fun r => r.ripe epoch) } }

/-- The epoch number of the newest valid checkpoint, from LANE.EPOCH. -/
def State.newestEpoch (s : State) : Nat := s.wide LANE_EPOCH 4

/-- The end of a freeze: staged records ripe for the newest checkpoint are committed in staging order, and the missed-events summary follows them (R388): a record of the running lane, which leaves staging with its epoch's checkpoint as any other (R386); without a lane, and with none staged before it, it is committed at once. -/
def State.endFreeze (s : State) (endCode : Nat) : State := match s.rcd.frozenAt with
  | none => s
  | some t0 =>
    let sum := summaryRec s t0 endCode (total s.rcd.missed) (total s.rcd.frozenLost) s.rcd.missed s.laneOrigin
    let s1 := { s with rcd := { s.rcd with frozenAt := none, missed := [], frozenLost := [] } }
    let s1 := ((s1.setFld BB_STATE 0 0 0).setFld BB_STATE 12 11 0).stop .freeze
    let s2 := s1.commitRipe s1.newestEpoch false
    if s2.canCommit && s2.rcd.staging.isEmpty && sum.origin == 0 then s2.commitRec sum else s2.stage sum

/-- A freeze that an expiry of this very instant ended counts as thawed by an interface: the summary's end code is the thaw's, and FRZEXP and its alert stand as before (R389). -/
def State.thawAfterAll (s : State) (endCode : Nat) : State := match s.rcd.expiry with
  | some (t0, exp, al, mask) =>
    if t0 = s.now then
      let mend (r : Rec) : Rec := if r.code = 0x0201 ∧ r.time = t0 ∧ r.payload[7]? = some 2 then { r with payload := r.payload.set 7 (BitVec.ofNat 8 endCode) } else r
      let s1 := { s with rcd := { s.rcd with staging := s.rcd.staging.map mend, expiry := none } }
      { (s1.setFlag BB_STS 2 exp).setFlag HOST_ALERT 4 al with alertMask := mask }
    else s
  | none => s

/-- A thaw: it ends a freeze, or counts in place of the expiry of the same instant; while not frozen it changes nothing (R388, R389). -/
def State.thaw (s : State) (endCode : Nat) : State := if s.rcd.frozenAt.isSome then s.endFreeze endCode else s.thawAfterAll endCode

end Sys2Proof.Machine
end

