-- ==== Sys2Proof/Machine/Power.lean ====
section
/-! DEFINITION. The outputs that a decision or a forcing drives: gates, converter groups, throttle outputs, rails, trim outputs and downstream commands. None of these raises a fault; the families and the fault path call them. -/

namespace Sys2Proof.Machine

/-! ### Gate channels (R176, R178, R181) -/

/-- Sticky and live bits of CTX.STS and LIVE words that are named by more than one family. -/
abbrev stsFeedLatch : Nat := 11
abbrev stsGroupLatch : Nat := 7
abbrev stsDhLatch : Nat := 11
abbrev stsBranchLatch : Nat := 12

/-- What is kept of a gate channel. -/
def State.chan (s : State) (g : Nat) : ChanVar := (find s.channels g).getD {}

/-- The state with what is kept of a gate channel changed. -/
def State.setChan (s : State) (g : Nat) (f : ChanVar → ChanVar) : State := { s with channels := putKey s.channels g (f (s.chan g)) }

/-- GCH.STS.DRIVE of a channel. -/
def State.drive (s : State) (g : Nat) : Nat := s.fld (GCH_STS + g) 1 0

/-- GCH.STS.ENH of a channel. -/
def State.enhanced (s : State) (g : Nat) : Bool := s.flag (GCH_STS + g) 2

/-- The context that owns a channel, from GCH.OWNER. -/
def State.owner (s : State) (g : Nat) : Option Nat :=
  if s.regN (GCH_OWNER + g) = 0xFF then none else some (s.regN (GCH_OWNER + g))

/-- The gate channel of a context: a feed, a branch or a direct-hang string. -/
def State.channelOf (s : State) (c : Nat) : Option Nat := match s.ctx? c with
  | some r => if r.typ = .feed ∨ r.typ = .branch ∨ r.directHang then some r.a0 else none
  | none => none

/-- The record of the context that owns a channel. -/
def State.ownerRec (s : State) (g : Nat) : Option CtxRec := (s.owner g).bind s.ctx?

/-- What holds for a second of full enhancement or of power-good ends with it (R202, R216). -/
def State.holdsEnd (s : State) (g : Nat) : State := match s.ownerRec g with
  | some r => (s.stop (.brPgHeld r.ctx)).stop (.dhHeld r.ctx)
  | none => s

/-- The pull-down of a gate: Off, attempt timers stopped, and the time to the off threshold counted (R176, R189). Full enhancement is judged on the gate's voltage, so it ends by R178. -/
def State.gateDown (s : State) (g : Nat) : State :=
  if s.drive g = 0 then s
  else
    let s1 := ((s.setFld (GCH_STS + g) 1 0 0).setChan g (fun v => { v with source := 0, downAt := some s.now })).start (.gateOff g)
    ((((s1.stop (.inrush g)).stop (.limit g)).clearCount (.enhUp g)).clearCount (.limOff g)).holdsEnd g

/-- The gate of a context pulled down. -/
def State.gateDownOf (s : State) (c : Nat) : State := match s.channelOf c with
  | some g => s.gateDown g
  | none => s

/-- The contexts that own a gate channel. -/
def State.channelOwners (s : State) : List CtxRec := match s.image with
  | some im => im.contexts.filter (fun r => r.typ == .feed || r.typ == .branch || r.directHang)
  | none => []

/-- The outputs of the sequencer kept as they stand while no lane is in charge: the rails enabled, the discharge outputs asserted and the drive of SEQ_FLT_N (R17, R320). -/
def State.keepOutputs (s : State) : State :=
  let on := ((s.ofType .rail).map CtxRec.ctx).filter (fun c => decide (2 ≤ s.code c) && decide (s.code c ≤ 4))
  let dis := ((s.ofType .rail).map CtxRec.ctx).filter (fun c => s.running (.discharge c))
  if s.arb.railHold.isSome then s
  else { s with arb := { s.arb with railHold := some { on := on, discharge := dis, seqFlt := s.lane.seq.drives } } }

/-- Every gate channel with its owner, and every rail, held by the analog core: GCH.STS.HELD, CTX.STATE.HELD and the sequencer's outputs (R58, R182, R183, R320). -/
def State.holdChannels (s : State) : State :=
  let s1 := s.forEach s.channelOwners (fun r s => (s.setFlag (GCH_STS + r.a0) 7 true).setHeld r.ctx true)
  (s1.keepOutputs).forEach (s.ofType .rail) (fun r s => s.setHeld r.ctx true)

/-- Gate channels and rails under a lane again (R58, R183). -/
def State.freeChannels (s : State) : State :=
  let s1 := s.forEach s.channelOwners (fun r s => (s.setFlag (GCH_STS + r.a0) 7 false).setHeld r.ctx false)
  { s1 with arb := { s1.arb with railHold := none } }.forEach (s.ofType .rail) (fun r s => s.setHeld r.ctx false)

/-- A channel is no longer fully enhanced, and with it the owner's live bits that rest on it (R178, R200, R210). -/
def State.endEnhanced (s : State) (g : Nat) : State :=
  let s1 := (s.setFlag (GCH_STS + g) 2 false).holdsEnd g
  match s.ownerRec g with
  | some r => match r.typ with
    | .branch => s1.setFld (ctxAddr r.ctx BR_LIVE) 1 0 0
    | .string => s1.setFlag (ctxAddr r.ctx BAT_PSTS) 3 false
    | _ => s1
  | none => s1

/-- The sourcing current of a channel in uA: ISRC of the owner's control word, which lies at the same place in each (R177). -/
def State.sourceCurrent (s : State) (g : Nat) : Nat := match s.ownerRec g with
  | some r => 5 * (bits (s.cw r.ctx FEED_CTL) 4 1 + 1)
  | none => 0

/-- A gate starts sourcing: a new attempt whose energy counts from here (R177, R181, R201). Full enhancement still ends by the gate's voltage alone (R178); the frames of the new attempt are counted anew. -/
def State.gateSource (s : State) (g : Nat) (timed : Bool) : State :=
  let s1 := (s.setFld (GCH_STS + g) 1 0 1).setChan g (fun v => { v with attempt := 0, source := s.sourceCurrent g })
  let s2 := (s1.stop (.gateOff g)).clearCount (.enhUp g)
  if timed then s2.start (.inrush g) else s2

/-- The limit amplifier of a branch or direct-hang string no longer regulates once its gate goes off: BR.LIVE, or BAT.PSTS. -/
def State.clearLive (s : State) (c : Nat) : State := match (s.ctx? c).map CtxRec.typ with
  | some .branch => s.setFlag (ctxAddr c BR_LIVE) 2 false
  | some .string => s.setFld (ctxAddr c BAT_PSTS) 5 4 0
  | _ => s

/-! ### Phases and groups (R135, R149, R155) -/

/-- A phase stops switching: its output takes a level, its live bits clear, and its trip count restarts (R155). -/
def State.phaseStop (s : State) (lv : Level) (p : Nat) : State :=
  (s.setFld (PH_STS + p) 4 3 0).setPhase p (fun _ => { level := lv })

/-- A phase switches. -/
def State.phaseStart (s : State) (p : Nat) : State :=
  (s.setFld (PH_STS + p) 4 3 1).setPhase p (fun v => { v with level := .switching })

/-- The phases of a group context that switch, ascending. -/
def State.active (s : State) (r : CtxRec) : List Nat := r.phases.filter (fun p => s.flag (PH_STS + p) 3)

/-- GRP.NACT follows the phases that switch. -/
def State.countActive (s : State) (r : CtxRec) : State := s.setC r.ctx GRP_NACT (Word.ofNat (s.active r).length)

/-- The imbalance block of a group starts again (R142). -/
def State.newBlock (s : State) (c : Nat) : State := s.setGrp c (fun v => { v with blockTicks := 0, blockSum := [] })

/-- Every phase of a group at a level, nothing starting or fading, no frequency, timers of the running group stopped (R151). -/
def State.groupStop (s : State) (r : CtxRec) (lv : Level) : State :=
  let s1 := s.forEach r.phases (fun p s => s.phaseStop lv p)
  let s2 := (s1.setGrp r.ctx fun v => { v with fading := none, shedAt := none, starting := [], freq := 0, peak := 0, aligned := false, powerGood := false }).newBlock r.ctx
  let s3 := ((s2.setC r.ctx GRP_NACT 0).setC r.ctx GRP_FMEAS 0).stop (.softStart r.ctx)
  (((((s3.stop (.hiccup r.ctx)).stop (.pgHeld r.ctx)).stop (.stopLow r.ctx)).stop (.dwell r.ctx)).clearCount (.pgUp r.ctx)).clearCount (.pgDown r.ctx)

/-- A group moved to a state without switching. -/
def State.groupTo (s : State) (r : CtxRec) (code : Nat) : State := ((s.groupStop r .hiZ).setCode r.ctx code).setHeld r.ctx false

/-- Whether a group state code is a running state (R149). -/
def runningCode (c : Nat) : Bool := decide (2 ≤ c) && decide (c ≤ 5)

/-! ### MODE and DIR (R145 to R149) -/

/-- GRP.CTL.EN. -/
def State.grpEn (s : State) (c : Nat) : Bool := bit (s.cw c GRP_CTL) 0

/-- GRP.CTL.MODE. -/
def State.grpMode (s : State) (c : Nat) : Nat := bits (s.cw c GRP_CTL) 2 1

/-- GRP.CTL.DIR. -/
def State.grpDir (s : State) (c : Nat) : Bool := bit (s.cw c GRP_CTL) 3

/-- MODE and DIR that act: a held group keeps those of its transfer, whatever a restore leaves in GRP.CTL (R145, R170). -/
def State.modeNow (s : State) (c : Nat) : Nat := if s.held c then (s.grp c).mode else s.grpMode c
def State.dirNow (s : State) (c : Nat) : Bool := if s.held c then (s.grp c).dir else s.grpDir c

/-- The running state for a MODE and DIR (R145, R149). -/
def runningFor (mode : Nat) (dir : Bool) : Nat := if mode = 0 then 2 else if mode = 1 then (if dir then 4 else 3) else 5

/-- The state code of a running group follows MODE and DIR, but not while the group is held (R149, R151). -/
def State.followMode (s : State) (c : Nat) : State :=
  if runningCode (s.code c) && !s.held c then s.setCode c (runningFor (s.grpMode c) (s.grpDir c)) else s

/-- MODE and DIR of a group set by the strand or the core (R147): a write that changes them is the last one, so the word reads unclamped (R46). -/
def State.setMode (s : State) (c mode : Nat) (dir : Bool) : State :=
  let w := putBit (putBits (s.cw c GRP_CTL) 2 1 mode) 3 dir
  if w = s.cw c GRP_CTL then s.followMode c else ((s.setC c GRP_CTL w).markClamped (ctxAddr c GRP_CTL) false).followMode c

/-- MODE and DIR changed by the core itself, in every operating state: those in use change with the register, of a held group too (R221, R249, R253). -/
def State.coreMode (s : State) (c mode : Nat) (dir : Bool) : State := (s.setMode c mode dir).setGrp c (fun v => { v with mode := mode, dir := dir })

/-- Whether a group switches: Soft start or a running state. -/
def switchingCode (c : Nat) : Bool := decide (1 ≤ c) && decide (c ≤ 5)

/-- All phases of a group brought in: a phase in a shed transition is restored, and every other one starts at the next period (R151, R163, R169). -/
def State.allPhases (s : State) (r : CtxRec) : State :=
  let s1 := s.forEach r.phases (fun p s => s.setFlag (PH_STS + p) 4 false)
  (s1.setGrp r.ctx (fun v => { v with fading := none, shedAt := none, starting := r.phases.filter (fun p => !s.flag (PH_STS + p) 3) })).newBlock r.ctx

/-! ### Throttle outputs (R292) -/

/-- The branches that have a throttle output (R73). -/
def State.throttled (s : State) (k : Nat) : Bool := (s.ofType .branch).any (·.a2 = k)

/-- A throttle output asserted: counted and flagged at each new assertion; an output attached to no branch is never asserted (R292). -/
def State.throttle (s : State) (k : Nat) : State :=
  if !s.throttled k then s
  else
    let s1 := s.stop (.thrRel k)
    if s.flag THR_LIVE k then s1
    else ((((s1.drivePin (0x30 + k)).setFlag THR_LIVE k true).setFlag THR_STS k true).inc (THR_CNT + k)).start (.thrHold k)

/-! ### Downstream commands (R421) -/

/-- The pending table of a port. -/
def State.table (s : State) (p : Nat) : List DsCmd := (find s.dsTable p).getD []

/-- The state with the pending table of a port replaced. -/
def State.setTable (s : State) (p : Nat) (l : List DsCmd) : State := { s with dsTable := putKey s.dsTable p l }

/-- A command filed in its port's table: it replaces the entry of its pair; a safe-state command replaces OPERATION and VOUT_COMMAND of its context (R421). -/
def fileCmd (l : List DsCmd) (d : DsCmd) : List DsCmd :=
  let keep := l.filter fun e => if d.safe then !(e.ctx == d.ctx && (e.code == 0x01 || e.code == 0x21)) else !(e.ctx == d.ctx && e.code == d.code)
  keep ++ [d]

/-- The port of a remote POL or rectifier context (R73). -/
def CtxRec.dsPort (r : CtxRec) : Option Nat := match r.typ with
  | .pol => some r.a0
  | .rectifier => if r.a1 < 4 then some r.a1 else none
  | _ => none

/-- A command for a context filed in its port's table. -/
def State.queueCmd (s : State) (c code data : Nat) (safe : Bool) : State := match (s.ctx? c).bind CtxRec.dsPort with
  | some p => s.setTable p (fileCmd (s.table p) { ctx := c, code := code, data := data, safe := safe })
  | none => s

/-- A command that is no longer due taken out of its port's table. -/
def State.dropCmd (s : State) (c code : Nat) : State := match (s.ctx? c).bind CtxRec.dsPort with
  | some p => if (s.table p).any (fun e => e.ctx == c && e.code == code) then s.setTable p ((s.table p).filter (fun e => !(e.ctx == c && e.code == code))) else s
  | none => s

/-! ### Rails (R308, R309) -/

/-- The graph record of a rail. -/
def State.graphOf (s : State) (c : Nat) : Option GraphRec := s.image.bind (fun im => im.graphs.find? (·.rail = c))

/-- A rail goes to Falling: its enable is withdrawn and its fall time runs (R308). -/
def State.railFall (s : State) (c : Nat) : State := (((s.setCode c 5).stop (.railOff c)).stop (.rail c)).start (.rail c)

/-- A discharge output that a graph record names and RAIL.CTL.DISEN permits is asserted (R309). -/
def State.dischargeOn (s : State) (c : Nat) : State :=
  if (s.graphOf c).any (·.discharge) && bit (s.cw c RAIL_CTL) 1 then (s.start (.discharge c)).sts c 10 else s

/-! ### Safe states of single contexts (R353) -/

/-- The safe-state record of a context (R83). -/
def State.safeRec (s : State) (c : Nat) : SafeRec :=
  (s.image.bind (fun im => im.safe.find? (·.ctx = c))).getD { ctx := c, menu := 0, param := 0 }

/-- The outputs and state of a context's own safe state, for every type but shelf and zone (R353). A context already in its safe state changes nothing but the flag. -/
def State.enterSafe (s : State) (r : CtxRec) : State :=
  let c := r.ctx
  let m := s.safeRec c
  let s0 := s.setSafe c true
  match r.typ with
  | .feed => if m.menu = 0 then ((s0.gateDownOf c).setCode c 7).sts c stsFeedLatch else s0
  | .rectifier =>
    let s1 := s0.setFlag (ctxAddr c RECT_CTL) 0 false
    if m.menu = 0 ∧ r.a0 < 16 then { s1 with trim := assign 0 s1.trim r.a0 m.param }.drivePin (0x20 + r.a0) else s1
  | .string =>
    if m.menu = 0 ∧ r.directHang then ((((s0.gateDownOf c).clearLive c).setCode c 5).sts c stsDhLatch).stop (.cool c)
    else if m.menu = 0 then (s0.setC c BAT_IDPERM 0).setC c CHG_ICREQ 0
    else s0.setC c CHG_ICREQ 0
  | .group =>
    if s.code c = 7 then s0
    else
      let s1 := (((s0.groupStop r (if m.menu = 1 then .low else .hiZ)).setCode c 7).sts c stsGroupLatch).setHeld c false
      if m.menu = 1 then s1.start (.stopLow c) else s1
  | .branch =>
    let s1 := (((s0.gateDownOf c).clearLive c).setCode c 5).stop (.cool c)
    let s2 := (s1.setC c BR_COOLREM 0).sts c stsBranchLatch
    if m.menu = 1 ∧ r.a2 < 16 then s2.throttle r.a2 else s2
  | .pol => if m.menu = 0 then s0.queueCmd c 0x01 0x00 true else s0.queueCmd c 0x21 m.param.toNat true
  | .rail =>
    let up := s.code c = 2 ∨ s.code c = 3 ∨ s.code c = 4
    let s1 := if up then s0.railFall c else if s.code c = 1 then (s0.setCode c 0).stop (.rail c) else s0
    let s2 := s1.onlyIf (m.menu == 1 && decide (2 ≤ s.code c)) (fun s => s.dischargeOn c)
    match s.graphOf c with
    | some g => { s2 with graphOffDue := s2.graphOffDue.filter (· ≠ g.graph) ++ [g.graph] }
    | none => s2
  | .shelf | .zone => s0

end Sys2Proof.Machine
end

