-- ==== Sys2Proof/Machine/Faults.lean ====
section
/-! DEFINITION. The fault collector (R345 to R362): a raise, its severity and escalation, its reactions, the raise log with its records, the first-error capture, and the safe state of any context. -/

namespace Sys2Proof.Machine

/-- A raise as it reaches the collector: class, context, the severity its rule states if it states one (R348), the raising site (its cause code is Config.causeCode of it), the initiator, access and address of R361, and whether it is a lane's or a test raise. -/
structure Raise where
  cls : Nat
  ctx : Nat
  sev : Option Nat
  site : Nat
  init : Nat := 0
  acc : Nat := 0
  addr : Nat := 0
  lane : Bool := false
  test : Bool := false
  deriving DecidableEq, Repr

/-! ### Safe states that reach other contexts (R353) -/

/-- The contexts a zone stops: the group or branch it serves (R353, R515). -/
def State.zoneStops (s : State) (z : CtxRec) : List CtxRec := match s.image with
  | some im => match (zoneServes im z).bind im.ctx? with
    | some r => if r.typ = .group ∨ r.typ = .branch then [r] else []
    | none => []
  | none => []

/-- The safe state of one context that is not the shelf (R353); a context already in its safe state keeps its outputs, but a zone, which has no route out of it, stops what it serves anew. -/
def State.safeOne (s : State) (r : CtxRec) : State := match r.typ with
  | .zone =>
    let s1 := s.setSafe r.ctx true
    if (s.safeRec r.ctx).menu = 1 then s1.forEach (s.zoneStops r) (fun x s => if s.safe x.ctx then s else s.enterSafe x) else s1
  | .shelf => s
  | _ => if s.safe r.ctx then s else s.enterSafe r

/-- The contexts that the shelf's menu reaches (R353, R354). -/
def State.shelfReaches (s : State) : List CtxRec := match s.image with
  | some im => match (s.safeRec 0).menu with
    | 1 => im.ofType .branch
    | 3 => (sortBy (·.ctx) im.contexts).filter (·.ctx ≠ 0)
    | _ => []
  | none => []

/-- The safe state of a context, by its type and menu (R353). The shelf has no route out of its safe state, so each raise applies its menu anew. -/
def State.applySafe (s : State) (c : Nat) : State := match s.ctx? c with
  | none => s
  | some r =>
    if r.typ = .shelf then
      let s1 := s.setSafe 0 true
      let s2 := if (s.safeRec 0).menu = 2 then s1.forEach (List.range 16) (fun k s => s.throttle k) else s1
      s2.forEach (s.shelfReaches) (fun x s => s.safeOne x)
    else s.safeOne r

/-- The lane's due safe states applied at a shelf tick (R352). -/
def State.applyDue (s : State) : State :=
  let l := s.flt.safeDue
  { s with flt := { s.flt with safeDue := [] } }.forEach l (fun c s => s.applySafe c)

/-! ### The collector -/

/-- The level of a class against a context while it is unacknowledged (R349). -/
def Collector.level (f : Collector) (c cls : Nat) : Option Nat := (f.pending.find? (fun p => p.ctx = c ∧ p.cls = cls)).map Pending.level

/-- The effective level of a raise (R349). -/
def effective (sev : Nat) : Option Nat → Nat
  | none => sev
  | some l => min 3 (max sev (l + 1))

/-- The list with a class of a context as its last raise leaves it; the earliest raise keeps its place (R349). -/
def setLevel (l : List Pending) (x : Pending) : List Pending :=
  if l.any (fun p => p.ctx = x.ctx ∧ p.cls = x.cls) then
    l.map (fun p => if p.ctx = x.ctx ∧ p.cls = x.cls then x else p)
  else l ++ [x]

/-- CTX.SEV of a context from its unacknowledged faults (R60, R349). -/
def sevWord (l : List Pending) (c : Nat) (old : Word) : Word :=
  let own := l.filter (·.ctx = c)
  match own with
  | [] => putBits (putBits old 1 0 0) 6 6 0
  | p :: _ => Word.ofNat (own.foldl (fun m q => max m q.level) 0 + 4 * p.cls + 64)

/-- The record payload of a log entry (R381, 0x0100 + c). -/
def LogEntry.payload (e : LogEntry) : List Byte :=
  [BitVec.ofNat 8 e.level, BitVec.ofNat 8 e.sev, BitVec.ofNat 8 e.react, BitVec.ofNat 8 e.flags] ++
    leBytes 2 (Config.causeCode e.site).toNat ++ [BitVec.ofNat 8 e.init, 0] ++ leBytes 7 e.time ++ [0]

/-- The fault record of a log entry written by the authority lane, and the entry marked with the record's epoch; REPLAY marks one whose record was written before (R357, R378). -/
def State.recordEntry (s : State) (e : LogEntry) : State × LogEntry :=
  if s.laneRuns then
    (s.writeLane { s.mkRec (0x0100 + e.cls) e.ctx e.payload true with replay := e.written }, { e with recorded := some (s.epoch + 1), written := true })
  else (s, e)

/-- Every entry of the raise log without a record is given one (R357). -/
def State.recordLog (s : State) : State :=
  s.flt.log.foldl (fun (s : State) e =>
    match e.recorded with
    | some _ => s
    | none =>
      let r := s.recordEntry e
      { r.1 with flt := { r.1.flt with log := r.1.flt.log.map (fun x => if x = e then r.2 else x) } }) s

/-- The first-error capture; a raise of the cycle of a clearing write leaves VALID cleared (R359, R361). -/
def State.capture (s : State) (r : Raise) (c e : Nat) (esc : Bool) : State :=
  if s.flag FE_INFO 0 || s.flt.clearedAt == some s.now then s
  else
    let s1 := s.setReg FE_INFO (Word.ofNat (1 + 2 * r.cls + 32 * e + 128 * b2n esc + 256 * c + 32768 * b2n r.test))
    let s2 := s1.setReg FE_SRC (Word.ofNat (r.init + 16 * r.acc + 128 * (r.addr / 262144 % 8)))
    (s2.setReg FE_ADDR (Word.ofNat (r.addr % 262144))).setWide FE_TIME 4 s.now

/-- The severity and reactions of a raise: the matrix record of its type and class, the severity its rule states in place of the matrix; without an image the rule's severity or Safe, FLT_N and HALERT_N (R348). -/
def State.judge (s : State) (r : Raise) (c : Nat) : Nat × Nat := match s.image with
  | none => (r.sev.getD 3, 6)
  | some im =>
    let typ := ((im.ctx? c).map (fun x => x.typ.code)).getD 1
    match im.matrix.find? (fun m => m.typ = typ ∧ m.cls = r.cls) with
    | some m => (r.sev.getD m.sev, m.react)
    | none => (r.sev.getD 0, 0)

/-- The context a raise counts against: the one named, or context 0 where the image does not define it (R345). -/
def State.raiseCtx (s : State) (r : Raise) : Nat := if (s.ctx? r.ctx).isSome then r.ctx else 0

/-- A confirmation of this very instant taken back: the trial runs as before it (R484). -/
def State.unconfirm (s : State) : State := match s.upd.confirmed with
  | some k =>
    if k.at_ = s.now then
      let s1 := (((s.setFlag UPD_STS 0 true).setFlag UPD_STS 2 k.conf).setFlag LRN_STS 3 k.keep).setReg UPD_ARB k.arb
      { s1 with otp := k.count.zipIdx.foldl (fun (o : List (Nat × Byte)) (p : Byte × Nat) => assign 0 o (0x11 + p.2) p.1) s1.otp, learned := { s1.learned with kept := k.learned }, upd := { s1.upd with confirmed := none, trial := some k.trial, kept := k.settings, mem := k.mem, progs := k.progs } }.startAt .trial k.began
    else s
  | none => s

/-- A fault of class 13, 14 or 15 breaks a condition of a trial that runs (R478). -/
def State.breakTrial (s : State) : State := { s with upd := { s.upd with trial := s.upd.trial.map (fun x => { x with broken := true }) } }

/-- What a raise of effective level e leaves beside its log entry: the counts, the class unacknowledged, FAULT and CTX.SEV of the context, and the capture (R349, R357, R359). -/
def State.raiseCount (s : State) (r : Raise) (c e sev : Nat) : State :=
  let pend := setLevel s.flt.pending { ctx := c, cls := r.cls, level := e, sev := sev, time := s.now }
  let s1 := (s.inc FLT_CNT).onlyIf (s.flt.level c r.cls).isSome (fun s => s.inc FLT_ESCCNT)
  let s2 := { s1 with flt := { s1.flt with pending := pend } }
  ((s2.sts c 0).setC c CTX_SEV (sevWord pend c (s.cw c CTX_SEV))).capture r c e (decide (sev < e))

/-- An entry of the raise log with its record; a full log counts the entry as lost (R357). -/
def State.raiseLog (s : State) (x : LogEntry) : State :=
  if s.flt.log.length < 64 then
    let w := s.recordEntry x
    { w.1 with flt := { w.1.flt with log := w.1.flt.log ++ [w.2] } }
  else s.inc FLT_LOGOVF

/-- What a raise leaves for a take-over, and the trial it breaks (R358, R478). -/
def State.raiseBook (s : State) (r : Raise) (c : Nat) : State :=
  let s1 := if r.lane then { s with flt := { s.flt with laneRaises := s.flt.laneRaises ++ [(c, r.cls, r.site, s.epoch)] } } else s
  if 13 ≤ r.cls then s1.unconfirm.breakTrial else s1

/-- The pins a raise drives by its reactions: FLT_N and HALERT_N (R355). -/
def State.raisePins (s : State) (react : Nat) : State :=
  let s1 := if react.testBit 1 then { s with flt := { s.flt with pulse := true } }.start .fltPulse else s
  if react.testBit 2 then s1.alert 0 else s1

/-- The safe state of a raise: at once where it is forced, else left to the lane's next tick (R351, R352). -/
def State.raiseAct (s : State) (c : Nat) (force due : Bool) : State :=
  if force then s.applySafe c
  else if due && !s.flt.safeDue.contains c then { s with flt := { s.flt with safeDue := s.flt.safeDue ++ [c] } }
  else s

/-- Whether an entry of the match list is a raise against a context in context, class and cause code (R358). -/
def Raise.sameAs (r : Raise) (c : Nat) (m : Nat × Nat × Nat) : Bool := m.1 == c && m.2.1 == r.cls && Config.causeCode m.2.2 == Config.causeCode r.site

/-- A fault of class 9 against a rail owes a snapshot of the scan that completes next, or of the running one (R318). -/
def State.raiseSnap (s : State) (cls c : Nat) : State :=
  if cls = 9 ∧ s.isType c .rail ∧ !s.snapDue.contains c then { s with snapDue := s.snapDue ++ [c] } else s

/-- A raise (R349 to R357): escalation, flags, counts, capture, log and record, FLT_N, HALERT_N, and the safe state, forced at once where REACT bit 0 is set or no lane runs, and left to the lane's next tick otherwise. A raise of an incoming lane that matches one of the outgoing lane is dropped (R358). -/
def State.raise (s : State) (r : Raise) : State :=
  let c := s.raiseCtx r
  if r.lane && s.flt.matches_.any (r.sameAs c) then
    { s with flt := { s.flt with matches_ := s.flt.matches_.eraseP (r.sameAs c) } }
  else
    let j := s.judge r c
    let e := effective j.1 (s.flt.level c r.cls)
    let due := decide (2 ≤ e) && s.image.isSome
    let force := due && (j.2.testBit 0 || !s.laneHeld)
    let entry : LogEntry := { cls := r.cls, ctx := c, level := e, sev := j.1, react := j.2, flags := b2n (decide (j.1 < e)) + 2 * b2n r.test + 4 * b2n force, site := r.site, init := r.init, acc := r.acc, addr := r.addr, time := s.now, epoch := s.epoch, recorded := none }
    (((((s.raiseCount r c e j.1).raiseLog entry).raiseBook r c).raiseSnap r.cls c).raisePins j.2).raiseAct c force due

/-- A raise by a core detector. -/
def State.coreRaise (s : State) (cls c : Nat) (sev : Option Nat) (site : Nat) : State :=
  s.raise { cls := cls, ctx := c, sev := sev, site := site }

/-- A raise by the authority lane: its initiator is the lane (R361). -/
def State.laneRaise (s : State) (cls c : Nat) (sev : Option Nat) (site : Nat) : State :=
  s.raise { cls := cls, ctx := c, sev := sev, site := site, init := s.laneOrigin, lane := true }

/-! ### Raises of one instant (R351) -/

/-- The list with those of its items that satisfy a test replaced, in turn, by the items of another list. -/
def refill {α : Type} (p : α → Bool) : List α → List α → List α
  | [], _ => []
  | x :: l, [] => x :: l
  | x :: l, y :: r => if p x then y :: refill p l r else x :: refill p l (y :: r)

/-- The items of a list that satisfy a test put in ascending order of a key, the others left in place. -/
def orderWithin {α : Type} (p : α → Bool) (key : α → Nat) (l : List α) : List α := refill p l (sortBy key (l.filter p))

/-- The raise that a log entry stands for. -/
def LogEntry.raise (e : LogEntry) : Raise := { cls := e.cls, ctx := e.ctx, sev := none, site := e.site, init := e.init, acc := e.acc, addr := e.addr, test := e.flags.testBit 1 }

/-- The first-error capture made again of the first raise in order. -/
def State.recapture (s : State) : List LogEntry → State
  | [] => s
  | e :: _ => (s.setReg FE_INFO 0).capture e.raise e.ctx e.level (e.flags.testBit 0)

/-- The raises that one instant has brought since a state: they count as taken by class and then by context, in the log, in their records, in the unacknowledged classes and in the first-error capture (R351). DEDUCED, log 148. -/
def State.orderRaises (s0 s : State) : State :=
  let n := s0.flt.log.length
  if s.flt.log.length < n + 2 then s
  else
    let log := s.flt.log.take n ++ sortBy (fun e => 128 * e.cls + e.ctx) (s.flt.log.drop n)
    let k := s0.rcd.staging.length
    let staging := s.rcd.staging.take k ++ orderWithin (fun r => r.code / 16 == 0x10) (fun r => 256 * r.code + r.ctx) (s.rcd.staging.drop k)
    let p := s0.flt.pending.length
    let pend := s.flt.pending.take p ++ sortBy (fun x => 128 * x.cls + x.ctx) (s.flt.pending.drop p)
    let s1 := { s with flt := { s.flt with log := log, pending := pend }, rcd := { s.rcd with staging := staging } }
    let s2 := s1.forEach (pend.drop p) (fun x s => s.setC x.ctx CTX_SEV (sevWord pend x.ctx (s.cw x.ctx CTX_SEV)))
    if !s0.flag FE_INFO 0 && s2.flag FE_INFO 0 then s2.recapture (log.drop n) else s2

/-- The acknowledgement of one context (R360): every class stands acknowledged, PEND and LEVEL clear; FAULT, the capture and the safe state stay. A raise of the same instant is not acknowledged and starts anew at its own severity. -/
def State.ackOne (s : State) (c : Nat) : State :=
  let mine := (s.flt.pending.filter (fun p => p.ctx = c ∧ p.time = s.now)).map (fun p => { p with level := p.sev })
  let pend := s.flt.pending.filter (·.ctx ≠ c) ++ mine
  { s with flt := { s.flt with pending := pend } }.setC c CTX_SEV (sevWord pend c (s.cw c CTX_SEV))

/-- Whether re-enabling a context is refused (R354): an unacknowledged level 3 fault against it, against context 0 whose menu reached it, or the hard stop's against context 0 for a context it forced. -/
def State.reenableRefused (s : State) (c : Nat) : Bool :=
  s.flt.pending.any (fun p => p.level == 3 && p.ctx == c) ||
  (s.flt.pending.any (fun p => p.level == 3 && p.ctx == 0) && s.shelfReaches.any (·.ctx = c)) ||
  (s.flt.pending.any (fun p => p.level == 3 && p.ctx == 0 && p.cls == 1) && s.flt.hardStopped.contains c)

/-! ### Meanings -/

/-- FAULT_RAISE: a detector's raise, with its class, context, stated severity, site, initiator, access and address. -/
def execFaultRaise (cls c : Nat) (sev : Option Nat) (site init acc addr t : Nat) (s : State) : Host.Outcome State Fault Refusal :=
  finish s ((s.at t).raise { cls := cls % 16, ctx := c, sev := sev, site := site, init := init % 16, acc := acc % 8, addr := addr, lane := init == 1 || init == 2 })

/-- FLT_PULSE_END: the pulse ends 10 us after the last raise that drove it (R355). -/
def execFltPulseEnd (t : Nat) (s : State) : Host.Outcome State Fault Refusal :=
  let s1 := s.at t
  finish s (if s1.flt.pulse && s1.expiredTicks .fltPulse (us 10) then { s1 with flt := { s1.flt with pulse := false } }.stop .fltPulse else s1)

end Sys2Proof.Machine
end

