-- ==== Sys2Proof/Machine/BlackBox.lean ====
section
/-! DEFINITION. The black box as a whole (R384 to R392): MRAM commits that wait for charge on VRES, the control slots, the clear, the rebuild of the pointers at a cold start, and the commands of the recorder. -/

namespace Sys2Proof.Machine

/-! ### Commits (R23) -/

/-- The MRAM as it is once every accepted commit has been carried out. -/
def State.settled (s : State) : Memory := s.commits.foldl (fun m c => assignAll freshByte m c.1 c.2) s.mram

/-- n bytes of it. -/
def State.readBack (s : State) (a n : Nat) : List Byte := lookupAll freshByte s.settled a n

/-- One commit: carried out at once while VRES holds the charge, else it waits its turn. -/
def State.commitBytes (s : State) (a : Nat) (bs : List Byte) : State :=
  if s.vresOk && s.commits.isEmpty then s.writeMram a bs else { s with commits := s.commits ++ [(a, bs)] }

/-- The commits that waited, carried out in order. -/
def State.flushCommits (s : State) : State :=
  ({ s with commits := [] }).forEach s.commits (fun c s => s.writeMram c.1 c.2)

/-! ### Sealed 256-byte blocks: the control slots and the boot-control record (R384, R470) -/

/-- A 256-byte block: 252 bytes, padded, and their CRC. -/
def sealed (bs : List Byte) : List Byte :=
  let body := bs ++ zeros (252 - bs.length)
  body ++ leBytes 4 (crc32 body)

/-- Whether a 256-byte block carries a magic and a correct CRC. -/
def sealedOk (magic bs : List Byte) : Bool := decide (bs.take 4 = magic) && decide (ofLe ((bs.drop 252).take 4) = crc32 (bs.take 252))

/-- The sequence number of a sealed block. -/
def sealedSeq (bs : List Byte) : Nat := ofLe ((bs.drop 4).take 4)

/-- Of two copies, the one in force: valid, with the higher sequence number; true is the second. -/
def inForce (magic a b : List Byte) : Option (Bool × List Byte) :=
  match sealedOk magic a, sealedOk magic b with
  | true, true => if sealedSeq a < sealedSeq b then some (true, b) else some (false, a)
  | true, false => some (false, a)
  | false, true => some (true, b)
  | false, false => none

/-! ### Control slots (R384) -/

/-- The magic of a control slot. -/
def ctlMagic : List Byte := [0x42, 0x42, 0x4F, 0x58]

/-- The control slot in force. -/
def State.ctlSlot (s : State) : Option (Bool × List Byte) :=
  inForce ctlMagic (s.readBack bbBase 256) (s.readBack (bbBase + 256) 256)

/-- The control slot written anew, to the slot that is not in force, with a sequence number one higher; BB.CLRSEQ and BB.CLRCNT follow. -/
def State.writeCtl (s : State) (clrseq clrcnt via : Nat) : State :=
  let next := match s.ctlSlot with
    | some (b, bs) => (!b, sealedSeq bs + 1)
    | none => (false, 1)
  let body := ctlMagic ++ leBytes 4 next.2 ++ leBytes 4 clrseq ++ leBytes 4 clrcnt ++ leBytes 7 s.now ++ [BitVec.ofNat 8 via]
  let s1 := s.commitBytes (bbBase + (if next.1 then 256 else 0)) (sealed body)
  (s1.setWide BB_CLRSEQ 2 clrseq).setReg BB_CLRCNT (Word.ofNat (min 262143 clrcnt))

/-- The recorder empty: Basin and circular area from their first page, the cleared record first. -/
def State.startBox (s : State) (clrcnt previous via : Nat) : State :=
  let s1 := (s.setReg BB_BFILL 0).setReg BB_CHEAD 0
  let s2 := { s1 with rcd := { s1.rcd with basinFull := false } }
  s2.onlyIf s2.laneRuns fun s => s.stage (s.mkRec 0x0200 0xFF (leBytes 4 clrcnt ++ leBytes 4 previous ++ [BitVec.ofNat 8 via] ++ zeros 3) true)

/-- A clear carried out (R384). -/
def State.clearNow (s : State) (via : Nat) : State :=
    let cnt := match s.ctlSlot with
      | some (_, bs) => ofLe ((bs.drop 12).take 4) + 1
      | none => 1
    let previous := s.wide BB_CLRSEQ 2
    let s1 := s.writeCtl (s.wide BB_RSEQ 2) cnt via
    let s2 := s1.setReg BB_DROPCNT (satAdd (s1.reg BB_DROPCNT) s1.rcd.staging.length)
    let s3 := { s2 with rcd := { s2.rcd with staging := [] } }
    (s3.startBox cnt previous via).setFlag BB_STS 0 true

/-- A clear (R384): refused while frozen or outside Normal; before the pointers are rebuilt, and so before the next RSEQ is known, it waits for the rebuild (R385). DEDUCED, log 140. -/
def State.clearBox (s : State) (via : Nat) : State :=
  if s.rcd.frozenAt.isSome ∨ s.sys ≠ sysNormal then s.setFlag BB_STS 1 true
  else if s.flag BB_STATE 1 then s.clearNow via
  else { s with rcd := { s.rcd with clearDue := some via } }

/-! ### The rebuild (R382, R385) -/

/-- A record at a place of a page: its length and sequence number, where its LEN, its place and its CRC are right. -/
def State.recordAt (s : State) (page pos : Nat) : Option (Nat × Nat) :=
  let len := 4 * (s.byte (page + pos)).toNat
  if len < 20 ∨ 256 < pos + len then none
  else
    let bs := s.readMram (page + pos) len
    if ofLe (bs.drop (len - 4)) = crc32 (bs.take (len - 4)) then some (len, ofLe ((bs.drop 4).take 4)) else none

/-- The end of a page's records and the last sequence number, from a place on (R382); a page holds at most twelve records. -/
def State.pageEnd (s : State) (page : Nat) : Nat → Nat → Nat → Nat × Nat
  | 0, pos, seq => (pos, seq)
  | n + 1, pos, seq => match s.recordAt page pos with
    | some (len, q) => if q = seq + 1 then s.pageEnd page n (pos + len) q else (pos, seq)
    | none => (pos, seq)

/-- Of a run of pages, the one whose first record has the highest sequence number, with the end of its records and its last number. -/
def State.newestPage (s : State) (base pages : Nat) : Option (Nat × Nat) :=
  (List.range pages).foldl (fun best i => match s.recordAt (base + 256 * i) 0 with
    | some (len, q) =>
      let e := s.pageEnd (base + 256 * i) 12 len q
      match best with
      | some (_, q0) => if q0 < e.2 then some (256 * i + e.1, e.2) else best
      | none => some (256 * i + e.1, e.2)
    | none => best) none

/-- The recorder's pointers found in the black box area (R385). -/
def State.findBox (s : State) : State :=
  let basin := s.newestPage (bbBase + 0x400) 252
  let ring := s.newestPage (bbBase + 0x10000) 1792
  let top := max ((basin.map (·.2 + 1)).getD 0) ((ring.map (·.2 + 1)).getD 0)
  match s.ctlSlot with
  | some (_, bs) =>
    let clrseq := ofLe ((bs.drop 8).take 4)
    let clrcnt := ofLe ((bs.drop 12).take 4)
    let since (p : Option (Nat × Nat)) : Nat := match p with
      | some (e, q) => if clrseq ≤ q then e else 0
      | none => 0
    let s1 := (s.setWide BB_RSEQ 2 (max top clrseq)).setWide BB_CLRSEQ 2 clrseq
    let s2 := ((s1.setReg BB_CLRCNT (Word.ofNat (min 262143 clrcnt))).setReg BB_BFILL (Word.ofNat (since basin / 4))).setReg BB_CHEAD (Word.ofNat (since ring / 4 % 114688))
    { s2 with rcd := { s2.rcd with basinFull := decide (since ring ≠ 0) } }.setFlag BB_STATE 1 true
  | none =>
    let s1 := ((s.setWide BB_RSEQ 2 top).setFlag BB_STS 6 true).laneRaise 15 0 none 1501
    ((s1.writeCtl top 0 0).startBox 0 0 0).setFlag BB_STATE 1 true

/-- The recorder's pointers rebuilt, and a clear that waited for them carried out (R384, R385). -/
def State.rebuildBox (s : State) : State :=
  let s1 := s.findBox
  match s1.rcd.clearDue with
  | some via => { s1 with rcd := { s1.rcd with clearDue := none } }.clearNow via
  | none => s1

/-! ### Meanings -/

/-- Whether the table of R380 lists an event code of the lane's: a fault raise, a system event, a status bit of a context type, or a bit of a global status register. -/
def laneCode (code : Nat) : Bool :=
  decide (0x0100 ≤ code ∧ code ≤ 0x010F) || decide (0x0200 ≤ code ∧ code ≤ 0x0208) ||
    (decide (0x1000 ≤ code ∧ code < 0x2000) && decide (1 ≤ code / 256 % 16 ∧ code / 256 % 16 ≤ 9) && statusBits.contains (code % 256)) ||
    (decide (0x2000 ≤ code ∧ code < 0x20E0) && decide (code % 32 < 18))

/-- A payload as a record can hold it: at most 236 bytes, padded to a multiple of 4 (R377, R379). -/
def payloadOf (bs : List Byte) : List Byte :=
  let l := bs.take 236
  l ++ zeros ((4 - l.length % 4) % 4)

/-- RECORD_OFFER (R387); a code that the table does not list is never written (R380). -/
def execRecordOffer (code c : Nat) (payload : List Byte) (t : Nat) (s : State) : Host.Outcome State Fault Refusal :=
  finish s ((s.at t).onlyIf (laneCode code) fun s => s.offerRec code (c % 256) (payloadOf payload))

/-- RECORD_WRITE: a core event is written by the core, every other record by the lane; a code that the table does not list is never written (R380, R386). -/
def execRecordWrite (code c : Nat) (payload : List Byte) (t : Nat) (s : State) : Host.Outcome State Fault Refusal :=
  let s := s.at t
  finish s (if 1 ≤ code ∧ code ≤ 5 then s.coreRec code (payloadOf payload) else if laneCode code then s.writeRec code (c % 256) (payloadOf payload) else s)

/-- BUCKET_REFILL: BB.RLPER has passed since the bucket's last token (R387). -/
def execBucketRefill (n t : Nat) (s : State) : Host.Outcome State Fault Refusal :=
  let s := s.at t
  finish s (match s.rcd.buckets[n]? with
    | some b =>
      if elapsed (s.reg BB_RLPER) b.refilled s.now then
        let b1 := { b with tokens := min (s.regN BB_RLDEPTH) (b.tokens + 1), refilled := s.now }
        { s with rcd := { s.rcd with buckets := s.rcd.buckets.set n b1 } }
      else s
    | none =>
      let e := s.rcd.spareBucket n
      if n < 256 ∧ elapsed (s.reg BB_RLPER) e.2 s.now then
        { s with rcd := { s.rcd with spare := putKey s.rcd.spare n (min (s.regN BB_RLDEPTH) (e.1 + 1), s.now) } }
      else s)

/-- A freeze expires; what a thaw of the same instant would take back is kept (R388, R389). DEDUCED, log 149. -/
def State.expireFreeze (s : State) : State :=
  let kept := (s.now, s.flag BB_STS 2, s.flag HOST_ALERT 4, s.alertMask)
  let s1 := ((s.endFreeze 2).setFlag BB_STS 2 true).alert 4
  { s1 with rcd := { s1.rcd with expiry := some kept } }

/-- FREEZE_EXPIRY: BB.FRZTO has elapsed (R388). -/
def execFreezeExpiry (t : Nat) (s : State) : Host.Outcome State Fault Refusal :=
  let s := s.at t
  finish s (if s.rcd.frozenAt.isSome && s.expiredTicks .freeze (ms (s.regN BB_FRZTO)) then s.expireFreeze else s)

/-- BB_REBUILD_DONE: the lane has read the control slots and the first record of every page (R385). A freeze keeps the pointers as they are (R388). -/
def execBbRebuildDone (t : Nat) (s : State) : Host.Outcome State Fault Refusal :=
  let s := s.at t
  finish s (if s.laneRuns && !s.flag BB_STATE 1 && s.rcd.frozenAt.isNone then s.rebuildBox else s)

end Sys2Proof.Machine
end

