-- ==== Sys2Proof/Machine/Feeds.lean ====
section
/-! DEFINITION. Feeds: measured words, qualification, the native selector with its break-before-make change, and ideal-diode feeds (R185 to R195), with the few facts of the Saddle machine and of serving groups that the selector needs (R190, R217, R223). -/

namespace Sys2Proof.Machine

/-! ### Measured quantities (R47, R54) -/

/-- A PU18 measurement of a context at an address; a value beyond the format reads as its limit and sets RANGE (R47). -/
def State.measureAt (s : State) (c a : Nat) (q : Rat) : State := (s.measure a (toPU q)).onlyIf (puOver q) (fun s => s.sts c 2)

/-- A PU18 measurement of a context word. -/
def State.measurePU (s : State) (c k : Nat) (q : Rat) : State := s.measureAt c (ctxAddr c k) q

/-- Whether a temperature lies outside the T18 range once rounded (R47). -/
def tempOver (kelvin : Rat) : Bool := roundAway (kelvin * 256) < 0 || 0x3FFFF < roundAway (kelvin * 256)

/-- A T18 measurement of a context at an address (R36, R47). -/
def State.measureTAt (s : State) (c a : Nat) (kelvin : Rat) : State := (s.measure a (toTemp kelvin)).onlyIf (tempOver kelvin) (fun s => s.sts c 2)

/-- A T18 measurement of a context word. -/
def State.measureT (s : State) (c k : Nat) (kelvin : Rat) : State := s.measureTAt c (ctxAddr c k) kelvin

/-- Whether a sense voltage lies beyond a linear range of lim either way (R47, R494). -/
def senseOver (lim nv : Int) : Bool := decide (nv < -lim) || decide (lim < nv)

/-- Volts as a fraction of a context's VBASE; 0 without a base. -/
def State.puV (s : State) (c : Nat) (volts : Rat) : Rat := volts / ef (s.cw c CTX_VBASE)

/-- Amperes as a fraction of a context's IBASE. -/
def State.puI (s : State) (c : Nat) (amps : Rat) : Rat := amps / ef (s.cw c CTX_IBASE)

/-- The principal voltage, current and power of a context from volts and amperes (R50, R54). -/
def State.principal (s : State) (c : Nat) (volts amps : Rat) : State :=
  let s1 := (s.measurePU c CTX_VMEAS (s.puV c volts)).measurePU c CTX_IMEAS (s.puI c amps)
  s1.measurePU c CTX_PMEAS (pu (s1.cw c CTX_VMEAS) * pu (s1.cw c CTX_IMEAS))

/-! ### Serving groups and the Saddle state (R206, R217, R223) -/

/-- SAD.STATE.CODE (R230). -/
def State.sad (s : State) : Nat := s.fld SAD_STATE 2 0

/-- The strings a group serves (R206). -/
def State.served (s : State) (g : Nat) : List CtxRec := match s.image with
  | some im => (im.ofType .string).filter (fun r => im.servingOf r = some g)
  | none => []

/-- The serving groups (R206). -/
def State.servingGroups (s : State) : List CtxRec := (s.ofType .group).filter (fun r => !(s.served r.ctx).isEmpty)

/-- Whether a serving group is available (R223). -/
def State.available (s : State) (r : CtxRec) : Bool :=
  runningCode (s.code r.ctx) && (s.served r.ctx).any (fun b => s.code b.ctx == 7 && decide (0 < pu (s.cw b.ctx BAT_IDPERM)))

/-- The serving groups that are available. -/
def State.availableGroups (s : State) : List CtxRec := s.servingGroups.filter s.available

/-- Whether a feed change is covered (R190). -/
def State.covered (s : State) : Bool :=
  s.servingGroups.any (fun r => (s.code r.ctx == 3 || s.code r.ctx == 5) && !s.held r.ctx)

/-! ### Qualification (R186) -/

/-- Whether a control input's accepted level is asserted, its record's inversion applied; de-asserted before the first acceptance (R85, R314). -/
def State.pinOn (s : State) (p : PinRec) : Bool := ((find s.inputs p.pin).getD p.invert) != p.invert

/-- The pin records of a function and a context. -/
def State.pinsFor (s : State) (func c : Nat) : List PinRec := match s.image with
  | some im => im.pins.filter (fun p => p.func = func ∧ p.ctx = c)
  | none => []

/-- The AC-OK inputs of a feed: the pin records of function 0x01 that name it, and the pin of its ATTACH byte 14, which is not inverted where it has no record of its own (R73, R85; DEDUCED, log 92). -/
def Image.acPins (im : Image) (r : CtxRec) : List PinRec :=
  let l := im.pins.filter (fun p => p.func = 0x01 ∧ p.ctx = r.ctx)
  if r.typ = .feed ∧ r.a2 < 32 ∧ l.all (·.pin ≠ r.a2) then l ++ [{ pin := r.a2, func := 0x01, ctx := r.ctx, invert := false }] else l

/-- The AC-OK input of a feed, asserted or not assigned (R73, R85, R186). -/
def State.acOk (s : State) (c : Nat) : Bool := match s.image, s.ctx? c with
  | some im, some r => (im.acPins r).all s.pinOn
  | _, _ => true

/-- FEED.CTL.EN. -/
def State.feedEn (s : State) (c : Nat) : Bool := bit (s.cw c FEED_CTL) 0

/-- FEED.VIN lies within its window (R186). -/
def State.vinOk (s : State) (c : Nat) : Bool :=
  decide (pu (s.cw c FEED_VQMIN) ≤ pu (s.cw c FEED_VIN)) && decide (pu (s.cw c FEED_VIN) ≤ pu (s.cw c FEED_VQMAX))

/-- Every condition of qualification holds now (R186). -/
def State.feedOk (s : State) (c : Nat) : Bool := s.feedEn c && s.acOk c && s.vinOk c && s.code c != 7

/-- Whether a feed is qualified: one that is Latched is not (R186). -/
def State.qualified (s : State) (c : Nat) : Bool := s.lane.feedQual.contains c && s.code c != 7

/-- The state with a feed qualified, from now on, or not. -/
def State.setQualified (s : State) (c : Nat) (b : Bool) : State :=
  let l := s.lane.feedQual.filter (· ≠ c)
  { s with lane := { s.lane with feedQual := if b then l ++ [c] else l, qualAt := if b then putKey s.lane.qualAt c s.now else s.lane.qualAt } }

/-- The state code of an open feed: not qualified, qualifying, qualified (R187). -/
def State.openCode (s : State) (c : Nat) : Nat := if s.qualified c then 2 else if s.running (.qualify c) then 1 else 0

/-- An open feed's state code follows its qualification (R187). -/
def State.showOpen (s : State) (c : Nat) : State := if s.code c ≤ 2 then s.setCode c (s.openCode c) else s

/-- The timers of qualification follow the inputs, judged by the lane (R186). A loss is timed from the first frame outside (DEDUCED, log 157). -/
def State.trackFeed (s : State) (c : Nat) : State :=
  if s.qualified c then
    if s.vinOk c then s.stop (.disqualify c) else s.startOnce (.disqualify c)
  else
    let s1 := if s.feedOk c then s.startOnce (.qualify c) else s.stop (.qualify c)
    s1.showOpen c

/-- The measured words of a feed from its channel's frame (R175, R185): VMEAS is SRC, VIN is ISN. -/
def State.frameFeed (s : State) (r : CtxRec) (g : GateIn) : State :=
  let c := r.ctx
  let s1 := s.principal c ((g.vsrc : Rat) / 1000000) ((s.chan r.a0).cur)
  let wasOut := !s1.vinOk c
  let s2 := s1.measurePU c FEED_VIN (s1.puV c ((g.visn : Rat) / 1000000))
  let s3 := if (s2.sad == 1 || s2.sad == 2) && wasOut && s2.vinOk c then s2.setFlag SAD_STS 2 true else s2
  let s4 := s3.qualify (.diode c) (r.a1 == 1 && decide (ef (s3.cw c FEED_VON) ≤ (s3.chan r.a0).vds))
  if s4.laneRuns then s4.trackFeed c else s4

/-! ### The native selector (R188 to R193) -/

/-- The native feeds (R73). -/
def State.nativeFeeds (s : State) : List CtxRec := (s.ofType .feed).filter (·.a1 = 0)

/-- The ideal-diode feeds (R73). -/
def State.diodeFeeds (s : State) : List CtxRec := (s.ofType .feed).filter (·.a1 = 1)

/-- The feed R188 would choose: qualified, lowest FEED.PRIO, then lowest instance. -/
def State.candidate (s : State) : Option CtxRec :=
  minBy (fun r => ((s.cw r.ctx FEED_PRIO).toNat * 8 + r.inst : Nat)) (s.nativeFeeds.filter (fun r => s.qualified r.ctx))

/-- The closed native feed, from FSEL.ACTIVE. -/
def State.activeFeed (s : State) : Option Nat := if s.flag FSEL_ACTIVE 3 then none else s.inst? .feed (s.fld FSEL_ACTIVE 2 0)

/-- The state with the change of feed replaced; FSEL.ACTIVE.CHG shows whether one runs. -/
def State.setChange (s : State) (ch : Option Change) : State :=
  { s.setFlag FSEL_ACTIVE 4 ch.isSome with lane := { s.lane with change := ch } }

/-- Whether the selector may close a feed of its own: in Source and in Depleted (R191, R229). -/
def State.selectorFree (s : State) : Bool := s.sad == 0 || s.sad == 7

/-- A closed target: Closed, FSEL.ACTIVE, count, and the change ends (R189, t4). -/
def State.feedClosed (s : State) (c : Nat) : State := match s.ctx? c with
  | some r =>
    let s1 := ((s.setCode c 4).sts c 8).setFld FSEL_ACTIVE 3 0 r.inst
    ((s1.inc FSEL_CHGCNT).stop .slowOn).setChange none
  | none => s

/-- A target's gate starts sourcing and it enters Closing (R189, t3). A target that a lane before has brought to Closing or Closed is taken as it stands (R232). -/
def State.closeTarget (s : State) (ch : Change) (c : Nat) : State := match s.channelOf c with
  | some g =>
    let next : Change := { ch with target := some c, phase := .closing }
    if s.code c = 4 ∧ s.drive g ≠ 0 then (s.setFld FSEL_ACTIVE 3 0 (((s.ctx? c).map CtxRec.inst).getD 8)).setChange none
    else if s.code c = 3 ∧ s.drive g ≠ 0 then (s.startOnce .slowOn).setChange (some next)
    else (((s.gateSource g false).setCode c 3).start .slowOn).setChange (some next)
  | none => s.setChange none

/-- A change that finds no target: NOFEED (R192, R193). -/
def State.noFeed (s : State) : State := (s.setFlag FSEL_STS 2 true).setChange none

/-- Whether the gate of a context is below the off threshold at the last frame (R178). -/
def State.gateIsOff (s : State) (c : Nat) : Bool := (s.channelOf c).all (fun g => decide ((s.chan g).vgs < 1000000))

/-- The next candidate after a target fails, starting again at t2, when the failed target's gate is below the off threshold; NOFEED without one (R189, R193). -/
def State.nextCandidate (s : State) (ch : Change) (failed : Nat) : State := match s.candidate with
  | some r =>
    let next : Change := { ch with old := some failed, target := some r.ctx, phase := if s.gateIsOff failed then .dead else .opening }
    (s.onlyIf (next.phase = .dead) (fun s => s.start .dead)).setChange (some next)
  | none => s.noFeed

/-- A feed's gate pulled down and its state code set (R189, t1). -/
def State.openFeed (s : State) (c code : Nat) : State :=
  let s1 := (s.gateDownOf c).setCode c code
  if s1.activeFeed = some c then s1.setFld FSEL_ACTIVE 3 0 8 else s1

/-- A change of feed starts at t0 (R189, R190): forced changes are judged for cover, and proceed uncovered with UNCOVERED and a fault. -/
def State.startChange (s : State) (forced : Bool) (old : Nat) (target : Option Nat) : State :=
  let s1 := if forced && !s.covered then (s.setFlag FSEL_STS 0 true).laneRaise 4 0 none 401 else s
  let on := (s1.channelOf old).any (fun g => s1.drive g != 0)
  let s2 := if on then s1.openFeed old 5 else s1.setFld FSEL_ACTIVE 3 0 8
  let off := s2.gateIsOff old
  let ch : Change := { forced := forced, old := some old, target := target, phase := if on || !off then .opening else .dead }
  let s3 := s2.setChange (some ch)
  if ch.phase = .dead then s3.start .dead else s3

/-- A feed latched: gate down, Latched, and a class 4 fault against it (R189, R193). -/
def State.latchFeed (s : State) (c : Nat) (site : Nat) (lane : Bool) : State :=
  let s1 := (if s.laneRuns then s.openFeed c 7 else (s.gateDownOf c).setCode c 7).sts c stsFeedLatch
  let s2 := if s1.laneRuns then s1.setQualified c false else s1
  let s3 := s2.stop (.qualify c)
  if lane then s3.laneRaise 4 c none site else s3.coreRaise 4 c none site

/-- A feed loses qualification (R186, R193): it restarts FEED.TQUAL; a closing target is opened without latch, and in Close the Saddle machine then takes the pass back (R231). -/
def State.loseQualification (s : State) (c : Nat) : State :=
  let s1 := ((((s.setQualified c false).stop (.disqualify c)).stop (.qualify c)).sts c 5)
  let s2 := s1.onlyIf (s.lane.stableFor = some c) (fun s => s.stop .stable)
  match s2.lane.change with
  | some ch =>
    if ch.target = some c then
      match ch.phase with
      | .closing =>
        let s3 := (s2.openFeed c 0).stop .slowOn
        if s3.sad = 5 then s3.setChange none else s3.nextCandidate ch c
      | _ => if s2.sad = 5 then (s2.stop .dead).setChange none else match s2.candidate with
        | some r => s2.setChange (some { ch with target := some r.ctx })
        | none => s2.setChange (some { ch with target := none })
    else s2.showOpen c
  | none => s2.showOpen c

/-- The closed native feed is lost: a forced change starts towards the selector's candidate (R188, R190, R191). -/
def State.forcedChange (s : State) (f : Nat) : State :=
  let s1 := if s.qualified f && s.code f != 4 then s.loseQualification f else s
  s1.startChange true f (if s1.selectorFree then s1.candidate.map CtxRec.ctx else none)

/-- Whether a native feed is closed, closing or opening, or its gate still on its way off (R188). -/
def State.feedBusy (s : State) (r : CtxRec) : Bool := s.code r.ctx == 4 || s.code r.ctx == 5 || s.code r.ctx == 3 || s.running (.gateOff r.a0)

/-- The selector at a shelf tick (R188, R190, R191): a target that became enhanced while no lane ran is closed first, and one that was Latched while Closing gives way to the next (R193). A feed that a lost epoch left Closing is followed as a change. -/
def State.feedSelect (s : State) : State := match s.lane.change with
  | some ch => match ch.phase, ch.target.bind s.ctx? with
    | .closing, some r => if s.code r.ctx == 3 && s.drive r.a0 == 3 then s.feedClosed r.ctx else if s.code r.ctx == 7 then (s.stop .slowOn).nextCandidate ch r.ctx else s
    | _, _ => s
  | none => match s.activeFeed with
    | some f =>
      if !s.qualified f || s.code f != 4 || !s.feedEn f then s.forcedChange f
      else match s.candidate with
        | some r =>
          if s.flag FSEL_CTL 0 && !s.flag FSEL_CTL 1 && s.sad == 0 && decide ((s.cw r.ctx FEED_PRIO).toNat < (s.cw f FEED_PRIO).toNat) then
            if s.covered then s.startChange false f (some r.ctx) else s.setFlag FSEL_STS 1 true
          else s
        | none => s
    | none =>
      match s.nativeFeeds.find? (fun r => s.code r.ctx == 3) with
      | some r => s.closeTarget { forced := false, old := none, target := some r.ctx, phase := .closing } r.ctx
      | none =>
      if s.selectorFree && !(s.nativeFeeds.any s.feedBusy) then
        match s.candidate with
        | some r => s.closeTarget { forced := false, old := none, target := some r.ctx, phase := .closing } r.ctx
        | none => s
      else s

/-- What a write of FEED.CTL does besides storing it: EN 0 opens the feed, takes it out of Latched and ends its qualification, and a forced change follows where it was the closed native feed; EN becoming 1 leaves the safe state (R185, R188, R193, R354). -/
def State.feedEnable (s : State) (c : Nat) (was : Bool) : State :=
  if s.feedEn c then
    if !was then s.setSafe c false else s
  else
    let s1 := (if s.laneRuns && s.qualified c then s.loseQualification c else s).setQualified c false
    let s2 := if s1.activeFeed = some c ∧ s1.code c = 4 then s1.forcedChange c
      else if s1.code c = 3 ∨ s1.code c = 4 then s1.openFeed c 5 else s1
    let s3 := if s2.code c = 7 ∨ s2.code c = 6 then s2.setCode c 0 else s2
    (s3.stop (.qualify c)).showOpen c

/-! ### Meanings of the feed rows -/

/-- FEED_QUALIFIED: qualification conditions held for FEED.TQUAL (R186). -/
def execFeedQualified (c t : Nat) (s : State) : Host.Outcome State Fault Refusal :=
  let s := s.at t
  finish s (if s.works && s.isType c .feed && s.feedOk c && s.expired (.qualify c) (s.cw c FEED_TQUAL) then
    let s1 := (s.setQualified c true).stop (.qualify c)
    s1.showOpen c
  else s)

/-- FEED_QUALIFICATION_LOST: out of the window for FEED.TDQ, or AC-OK de-asserted (R186). -/
def execFeedQualificationLost (c t : Nat) (s : State) : Host.Outcome State Fault Refusal :=
  let s := s.at t
  finish s (if s.works && s.isType c .feed && s.qualified c && (!s.acOk c || s.expired (.disqualify c) (s.cw c FEED_TDQ)) then s.loseQualification c else s)

/-- FEED_OLD_GATE_OFF: the old gate is below the off threshold, and the dead time starts (R189, t2); a change that found no target ends with NOFEED (R190). -/
def execFeedOldGateOff (t : Nat) (s : State) : Host.Outcome State Fault Refusal :=
  let s := s.at t
  finish s (match s.works, s.lane.change with
    | true, some ch =>
      if ch.phase = .opening then
        let s1 := match ch.old with
          | some o => ((if s.code o = 5 then s.setCode o (s.openCode o) else s).stop (.gateOff ((s.channelOf o).getD 0)))
          | none => s
        if ch.target.isNone && s1.candidate.isNone then s1.noFeed else (s1.start .dead).setChange (some { ch with phase := .dead })
      else s
    | _, _ => s)

/-- FEED_SLOW_OFF: the old gate is not off within 10 us of its pull-down; the change ends with no feed closed (R189). The feed stays Opening until its gate is off (R187); in Catch any feed so late, whatever pulled its gate down, then counts as open (R225). -/
def execFeedSlowOff (t : Nat) (s : State) : Host.Outcome State Fault Refusal :=
  let s := s.at t
  finish s (if s.works then
    s.forEach ((s.ofType .feed).filter (fun r => (s.code r.ctx == 5 || s.sad == 1 || s.lane.change.any (fun ch => ch.old = some r.ctx && ch.phase = .opening)) && s.expiredTicks (.gateOff r.a0) (us 10) && !s.gateIsOff r.ctx)) (fun r s =>
      let s1 := ((s.setFlag (GCH_STS + r.a0) 6 true).sts r.ctx 9).stop (.gateOff r.a0)
      let s2 := s1.laneRaise 4 r.ctx none 402
      if s2.lane.change.any (fun ch => ch.old = some r.ctx) then s2.setChange none else s2)
  else s)

/-- FEED_DEAD_TIME_END: FSEL.DEAD has elapsed and the target's gate starts sourcing (R189, t3). -/
def execFeedDeadTimeEnd (t : Nat) (s : State) : Host.Outcome State Fault Refusal :=
  let s := s.at t
  finish s (match s.works && s.expired .dead (s.reg FSEL_DEAD), s.lane.change with
    | true, some ch =>
      if ch.phase = .dead then
        let s1 := s.stop .dead
        match ch.target with
        | some c => if s1.qualified c then s1.closeTarget ch c else match s1.candidate with
          | some r => s1.closeTarget ch r.ctx
          | none => s1.noFeed
        | none => s1.noFeed
      else s
    | _, _ => s)

/-- FEED_SLOW_ON: the target is not enhanced within 50 ms; it is opened and latched, and the next candidate taken (R189). One that became enhanced while no lane ran is Closed. -/
def execFeedSlowOn (t : Nat) (s : State) : Host.Outcome State Fault Refusal :=
  let s := s.at t
  finish s (match s.works && s.expiredTicks .slowOn (ms 50), s.lane.change with
    | true, some ch =>
      match ch.phase, ch.target with
      | .closing, some c => if (s.channelOf c).any (fun g => s.drive g == 3) then s.feedClosed c else (((s.stop .slowOn).sts c 10).latchFeed c 403 true).nextCandidate ch c
      | _, _ => s
    | _, _ => s)

/-- IDEAL_DIODE_TURN_ON: VDS at or above FEED.VON for 8 frames sources the gate of an enabled feed that is not inhibited or latched (R194, R228), in Dormant one that the policy holds (R17). -/
def execIdealDiodeTurnOn (c t : Nat) (s : State) : Host.Outcome State Fault Refusal :=
  let s := s.at t
  finish s (match s.ctx? c with
    | some r =>
      if r.typ = .feed ∧ r.a1 = 1 ∧ s.feedEn c ∧ s.code c ≠ 7 ∧ s.code c ≠ 4 ∧ ¬ s.inhibit.contains c ∧ (s.sys ≠ sysDormant ∨ r.dormant = 1) ∧ 8 ≤ s.count (.diode c) then
        ((s.gateSource r.a0 false).setCode c 4).sts c 8
      else s
    | none => s)

end Sys2Proof.Machine
end

