-- ==== Sys2Proof/Machine/Real.lean ====
section
/-! DEFINITION. The exponential and the logarithm of the spec's formulas (R198, R371), as rationals within 2^-60 of the real value; the spec states no internal precision (DESIGN CHOICE, log 24). -/

namespace Sys2Proof.Machine

/-- A rational kept to 64 fraction bits, rounded down. -/
def trunc64 (q : Rat) : Rat := ((q * (2 : Rat) ^ 64).floor : Rat) / (2 : Rat) ^ 64

/-- The sum of n more terms of the exponential series: term is x^k/k! and acc the sum so far. -/
def expSeries (x : Rat) : Nat → Nat → Rat → Rat → Rat
  | 0, _, _, acc => acc
  | n + 1, k, term, acc =>
    let t := trunc64 (term * x / ((k + 1 : Nat) : Rat))
    expSeries x n (k + 1) t (acc + t)

/-- exp x for any x: the series at x / 2^8, squared eight times. -/
def expRat (x : Rat) : Rat :=
  (List.range 8).foldl (fun y _ => trunc64 (y * y)) (expSeries (x / 256) 14 0 1 1)

/-- exp x to full precision for x between -1 and 1: the series alone. -/
def expSmall (x : Rat) : Rat := expSeries x 22 0 1 1

/-- The sum 2 (z + z^3/3 + z^5/5 + ...) of n terms: ln ((1+z)/(1-z)). -/
def lnSeries (z2 : Rat) : Nat → Nat → Rat → Rat → Rat
  | 0, _, _, acc => acc
  | n + 1, k, p, acc => lnSeries z2 n (k + 2) (trunc64 (p * z2)) (acc + trunc64 (p / (k : Rat)))

/-- ln of a number between 1/2 and 2. -/
def lnNear (y : Rat) : Rat := let z := trunc64 ((y - 1) / (y + 1)); 2 * lnSeries (z * z) 22 1 z 0

/-- ln 2. -/
def ln2 : Rat := lnNear 2

/-- The scaling of a positive number into 1 to 2 by powers of two: the mantissa and the exponent, within n steps. -/
def lnScale : Nat → Rat → Int → Rat × Int
  | 0, y, e => (y, e)
  | n + 1, y, e => if 2 ≤ y then lnScale n (y / 2) (e + 1) else if y < 1 then lnScale n (y * 2) (e - 1) else (y, e)

/-- ln of a positive number; 0 for any other. -/
def lnRat (y : Rat) : Rat :=
  if y ≤ 0 then 0 else let s := lnScale 128 y 0; lnNear s.1 + (s.2 : Rat) * ln2

end Sys2Proof.Machine
end

