-- ==== Sys2Proof/Machine/Branches.lean ====
section
/-! DEFINITION. Branches: the effective limit, measured words, the Foster model of the FET, the branch states and failed attempts (R179, R196 to R205). -/

namespace Sys2Proof.Machine

/-- BR.CTL.EN. -/
def State.brEn (s : State) (c : Nat) : Bool := bit (s.cw c BR_CTL) 0

/-- A branch that carries current: Inrush, On or Limiting (R199). -/
def brLive (code : Nat) : Bool := code == 1 || code == 2 || code == 3

/-- The measured words of a branch from its channel's frame (R175, R179, R196, R200): VMEAS is SRC; the limit amplifier's LIMIT bit, the power-good counts, which run beside those of full enhancement. -/
def State.frameBranch (s : State) (r : CtxRec) (g : GateIn) : State :=
  let c := r.ctx
  let ch := s.chan r.a0
  let s1 := s.principal c ((g.vsrc : Rat) / 1000000) ch.cur
  let s2 := s1.measurePU c BR_VDS (s1.puV c ch.vds)
  let s3 := s2.setC c BR_ILIMEFF (toPU ch.limit)
  let v := pu (s3.cw c CTX_VMEAS)
  let vpg := pu (s3.cw c BR_VPG)
  let s4 := (s3.qualify (.brPg c) ((s3.enhanced r.a0 || decide (0 < s3.count (.enhUp r.a0))) && s3.drive r.a0 != 0 && decide (vpg ≤ v))).qualify (.brPgLow c) (decide (v < vpg - 655 / 65536))
  let s5 := s4.setFlag (ctxAddr c BR_LIVE) 1 (s4.enhanced r.a0)
  s5.setFlag (ctxAddr c BR_LIVE) 2 (g.regulating && s5.drive r.a0 != 0)

/-! ### FET temperature (R197, R198) -/

/-- The model of a branch's FET; one that starts anew has taken in all energy counted until now. -/
def State.poles (s : State) (r : CtxRec) : Foster := (find s.lane.foster r.ctx).getD { used := (s.chan r.a0).energy }

/-- One pole advanced by a tick of 10 us (R198). -/
def poleStep (dt rth tau p : Rat) : Rat :=
  let a := if tau = 0 then 0 else expSmall (-(1 / 100000) / tau)
  trunc64 (a * dt + (1 - a) * rth * p)

/-- The Foster model of a modelled branch at a shelf tick: the energy since the last tick of the restored state, so that none is lost over a Col, the three poles, and CTX.TMEAS (R198). -/
def State.fosterTick (s : State) (r : CtxRec) : State :=
  let c := r.ctx
  let d := s.poles r
  let p := ((s.chan r.a0).energy - d.used) / (1 / 100000)
  let d1 := poleStep d.d1 (ef (s.cw c BR_RTH1)) (ef (s.cw c BR_TAU1)) p
  let d2 := poleStep d.d2 (ef (s.cw c BR_RTH2)) (ef (s.cw c BR_TAU2)) p
  let d3 := poleStep d.d3 (ef (s.cw c BR_RTH3)) (ef (s.cw c BR_TAU3)) p
  let s1 := { s with lane := { s.lane with foster := putKey s.lane.foster c { d1 := d1, d2 := d2, d3 := d3, used := (s.chan r.a0).energy } } }
  s1.measureT c CTX_TMEAS (temp (s.cw c BR_TREF) + d1 + d2 + d3)

/-- The temperature the model has after n milliseconds without dissipation. -/
def State.coolAfter (s : State) (r : CtxRec) (n : Nat) : Rat :=
  let c := r.ctx
  let f (dt : Rat) (tau : Rat) : Rat := if tau = 0 then 0 else dt * expRat (-(n : Rat) / 1000 / tau)
  let d := s.poles r
  temp (s.cw c BR_TREF) + f d.d1 (ef (s.cw c BR_TAU1)) + f d.d2 (ef (s.cw c BR_TAU2)) + f d.d3 (ef (s.cw c BR_TAU3))

/-- The least number of milliseconds between two bounds at which the cooling model is at or below a temperature, by halving n times. -/
def State.coolSearch (s : State) (r : CtxRec) (goal : Rat) : Nat → Nat → Nat → Nat
  | 0, _, hi => hi
  | n + 1, lo, hi =>
    let mid := (lo + hi) / 2
    if hi ≤ lo then hi
    else if s.coolAfter r mid ≤ goal then s.coolSearch r goal n lo mid else s.coolSearch r goal n (mid + 1) hi

/-- BR.COOLREM of a branch in Cool-down, in seconds rounded up to 1 ms; 0x1FFFF when the model never gets there (R198). -/
def State.coolRem (s : State) (r : CtxRec) : Word :=
  let c := r.ctx
  let left := ef (s.cw c BR_COOLMIN) - ((s.age (.cool c) : Nat) : Rat) / ticksPerSecond
  let minMs := if left ≤ 0 then 0 else (-((-(left * 1000)).floor)).toNat
  if r.a1 ≠ 0xFE then toEF ((minMs : Rat) / 1000)
  else if temp (s.cw c BR_TJRESTART) ≤ temp (s.cw c BR_TREF) then 0x1FFFF
  else
    let m := s.coolSearch r (temp (s.cw c BR_TJRESTART)) 32 0 100000000
    toEF ((max minMs m : Nat) / 1000 : Rat)

/-! ### States (R201, R202) -/

/-- Whether the FET is cool enough to start (R201). -/
def State.brCool (s : State) (c : Nat) : Bool := decide (temp (s.cw c CTX_TMEAS) ≤ temp (s.cw c BR_TJRESTART))

/-- BR.EATT takes the energy of the attempt (R196, R201). -/
def State.recordAttempt (s : State) (r : CtxRec) : State := s.setC r.ctx BR_EATT (toEF (s.chan r.a0).attempt)

/-- A failed attempt entered into the branch state: Cool-down, which runs from the gate-off, while retries are left, else Latched with a class 5 fault (R198, R201). -/
def State.failBranch (s : State) (r : CtxRec) : State :=
  let c := r.ctx
  let s1 := ((s.gateDown r.a0).recordAttempt r).clearLive c
  let s2 := (s1.clearCount (.brPg c)).clearCount (.brPgLow c)
  if (s2.cw c BR_RETRYCNT).toNat < (s2.cw c BR_RETRY).toNat then
    (((s2.setCode c 4).inc (ctxAddr c BR_RETRYCNT)).startAt (.cool c) (((s2.chan r.a0).downAt).getD s2.now)).stsOffer c 11
  else
    let s3 := (s2.setCode c 5).sts c stsBranchLatch
    (s3.applySafe c).laneRaise 5 c none 501

/-- Whether the FET of a branch stands at or above BR.TJMAX (R197): a modelled temperature is judged only while a lane runs (R203), a direct one once it has qualified over 8 samples (R371). -/
def State.brHot (s : State) (r : CtxRec) : Bool :=
  decide (temp (s.cw r.ctx BR_TJMAX) ≤ temp (s.cw r.ctx CTX_TMEAS)) && (if r.a1 = 0xFE then s.laneRuns else decide (8 ≤ s.count (.trip r.ctx)))

/-- Whether the inrush timeout of a branch has run out without the power-good that would win over it, and whether its limit time has (R181, R201, R205). -/
def State.brLate (s : State) (r : CtxRec) : Bool := s.expired (.inrush r.a0) (s.cw r.ctx BR_ITO) && decide (s.count (.enhUp r.a0) < 8)
def State.brLong (s : State) (r : CtxRec) : Bool := s.expired (.limit r.a0) (s.cw r.ctx BR_TFLT)

/-- The status bit of every cause of a failed attempt that holds beside the one given: one attempt is counted, and each is flagged (R205). -/
def State.flagCauses (s : State) (r : CtxRec) (statusBit : Nat) : State :=
  let c := r.ctx
  (((s.sts c statusBit).onlyIf (s.brLate r) (fun s => s.sts c 8)).onlyIf (s.brLong r) (fun s => s.sts c 9)).onlyIf (s.brHot r) (fun s => s.sts c 10)

/-- A core event ends a branch's attempt: the gate is pulled down and every cause flagged. The failed attempt is entered into the branch state with the frame it falls in, or by the incoming lane (R203, R205). -/
def State.attemptFails (s : State) (r : CtxRec) (statusBit : Nat) : State := (s.flagCauses r statusBit).gateDown r.a0

/-- Inrush begins (R201). -/
def State.brInrush (s : State) (r : CtxRec) : State := ((s.gateSource r.a0 true).setCode r.ctx 1).stop (.cool r.ctx)

/-- BRANCH_ENABLE's effect: EN is 1 in Off (R201, R202). -/
def State.brTurnOn (s : State) (r : CtxRec) : State :=
  let c := r.ctx
  let s1 := (s.setC c BR_RETRYCNT 0).setSafe c false
  if s1.brCool c then s1.brInrush r else (s1.setCode c 4).start (.cool c)

/-- Whether an instant lies in the present frame. -/
def State.thisFrame (s : State) (t : Option Nat) : Bool := t.any (fun t => t / 200 == s.now / 200)

/-- BRANCH_DISABLE's effect: EN is 0 outside Off (R201). An attempt that a trip of the same frame ended is not counted (R205). -/
def State.brTurnOff (s : State) (r : CtxRec) : State :=
  let c := r.ctx
  ((((s.gateDown r.a0).clearLive c).setCode c 0).stop (.cool c)).setC c BR_COOLREM 0

/-- What a lane finds of a branch in a carrying state whose gate the core has pulled down: a failed attempt, or Off where EN is 0 (R201, R203, R205). -/
def State.enterFailed (s : State) (r : CtxRec) : State :=
  if brLive (s.code r.ctx) && s.drive r.a0 == 0 then (if s.brEn r.ctx then s.failBranch r else s.brTurnOff r) else s

/-- The record of a context if it is a branch. -/
def State.branch? (s : State) (c : Nat) : Option CtxRec := (s.ctx? c).filter (·.typ = .branch)

/-! ### Meanings -/

/-- BRANCH_ENABLE. -/
def execBranchEnable (c t : Nat) (s : State) : Host.Outcome State Fault Refusal :=
  let s := s.at t
  finish s (match s.works, s.branch? c with
    | true, some r => if s.brEn c && s.code c == 0 then s.brTurnOn r else s
    | _, _ => s)

/-- BRANCH_DISABLE. -/
def execBranchDisable (c t : Nat) (s : State) : Host.Outcome State Fault Refusal :=
  let s := s.at t
  finish s (match s.works, s.branch? c with
    | true, some r => if !s.brEn c && s.code c != 0 then s.brTurnOff r else s
    | _, _ => s)

/-- BRANCH_POWER_GOOD: with the gate on, enhanced and at or above BR.VPG for 8 frames (R200); Inrush moves to On. -/
def execBranchPowerGood (c t : Nat) (s : State) : Host.Outcome State Fault Refusal :=
  let s := s.at t
  finish s (match s.branch? c with
    | some r =>
      if s.enhanced r.a0 && s.drive r.a0 != 0 && decide (8 ≤ s.count (.brPg c)) && brLive (s.code c) && (!s.flag (ctxAddr c BR_LIVE) 0 || s.code c == 1) then
        let s1 := (s.setFlag (ctxAddr c BR_LIVE) 0 true).start (.brPgHeld c)
        if s1.code c = 1 then ((s1.setCode c 2).recordAttempt r).stop (.inrush r.a0) else s1
      else s
    | none => s)

/-- Power-good drops: flagged and recorded in On and Limiting (R201). -/
def State.pgDrop (s : State) (r : CtxRec) : State :=
  let s1 := (s.setFlag (ctxAddr r.ctx BR_LIVE) 0 false).stop (.brPgHeld r.ctx)
  if s1.code r.ctx = 2 ∨ s1.code r.ctx = 3 then s1.stsOffer r.ctx 5 else s1

/-- BRANCH_POWER_GOOD_DROP: below BR.VPG - 0.01 pu for 8 frames, or no longer enhanced (R200, R201). -/
def execBranchPowerGoodDrop (c t : Nat) (s : State) : Host.Outcome State Fault Refusal :=
  let s := s.at t
  finish s (match s.branch? c with
    | some r =>
      if s.flag (ctxAddr c BR_LIVE) 0 && (!s.enhanced r.a0 || decide (8 ≤ s.count (.brPgLow c))) then s.pgDrop r else s
    | none => s)

/-- BRANCH_LIMIT_START: the limit amplifier regulates after power-good, with the gate on (R201); its limit timer starts in the core (R181). -/
def execBranchLimitStart (c t : Nat) (s : State) : Host.Outcome State Fault Refusal :=
  let s := s.at t
  finish s (match s.branch? c with
    | some r =>
      if s.code c = 2 ∧ s.drive r.a0 ≠ 0 then
        (((s.setCode c 3).setFld (GCH_STS + r.a0) 1 0 2).startOnce (.limit r.a0)).sts c 13
      else s
    | none => s)

/-- BRANCH_LIMIT_END: eight frames without regulation (R201). -/
def execBranchLimitEnd (c t : Nat) (s : State) : Host.Outcome State Fault Refusal :=
  let s := s.at t
  finish s (match s.branch? c with
    | some r =>
      if s.code c == 3 && s.drive r.a0 != 0 && decide (8 ≤ s.count (.limOff r.a0)) then
        ((s.setCode c 2).setFld (GCH_STS + r.a0) 1 0 3).stop (.limit r.a0)
      else s
    | none => s)

/-- BRANCH_OVERTEMP: CTX.TMEAS at or above BR.TJMAX (R197, R201); a branch whose gate another cause of the same frame pulled down is flagged only (R205). -/
def execBranchOvertemp (c t : Nat) (s : State) : Host.Outcome State Fault Refusal :=
  let s := s.at t
  finish s (match s.branch? c with
    | some r =>
      if !s.brHot r then s
      else if brLive (s.code c) && s.drive r.a0 != 0 then s.attemptFails r 10
      else if s.drive r.a0 == 0 && s.thisFrame (s.chan r.a0).downAt then s.sts c 10
      else s
    | none => s)

/-- BRANCH_COOLDOWN_END: BR.COOLMIN elapsed, the FET cool, a lane runs (R201). -/
def execBranchCooldownEnd (c t : Nat) (s : State) : Host.Outcome State Fault Refusal :=
  let s := s.at t
  finish s (match s.works, s.branch? c with
    | true, some r =>
      if s.code c = 4 && s.brEn c && s.expired (.cool c) (s.cw c BR_COOLMIN) && s.brCool c then (s.brInrush r).setC c BR_COOLREM 0 else s
    | _, _ => s)

/-- BR_COOLREM_UPDATE: every 1 ms in Cool-down (R198). -/
def execBrCoolremUpdate (c t : Nat) (s : State) : Host.Outcome State Fault Refusal :=
  let s := s.at t
  finish s (match s.works, s.branch? c with
    | true, some r => s.setC c BR_COOLREM (if s.code c = 4 then s.coolRem r else 0)
    | _, _ => s)

/-- BRANCH_RETRYCNT_CLEAR: power-good held for 1 s (R202). -/
def execBranchRetrycntClear (c t : Nat) (s : State) : Host.Outcome State Fault Refusal :=
  let s := s.at t
  finish s (if s.works && s.isType c .branch && s.flag (ctxAddr c BR_LIVE) 0 && s.expiredTicks (.brPgHeld c) ticksPerSecond then s.setC c BR_RETRYCNT 0 else s)

end Sys2Proof.Machine
end

