-- ==== Sys2Proof/Machine/PowerWords.lean ====
section
/-! DEFINITION. The shelf's power words and what the capping groups do with their results (R284 to R292): the allowance with PBAVAIL and HEAD, supplement allocations, throttle decisions, and the hard throttle cause. -/

namespace Sys2Proof.Machine

/-- Watts as a fraction of the shelf PBASE. -/
def State.puW (s : State) (watts : Rat) : Rat := watts / ef (s.cw 0 CTX_PBASE)

/-- SHELF.CCTL.SUPEN. -/
def State.supEn (s : State) : Bool := bit (s.cw 0 SHELF_CCTL) 0

/-- SHELF.CCTL.THREN. -/
def State.thrEn (s : State) : Bool := bit (s.cw 0 SHELF_CCTL) 1

/-- What one available serving group can deliver, in watts (R285). -/
def State.groupPower (s : State) (r : CtxRec) : Rat :=
  let perm := (s.served r.ctx).foldl (fun a b => a + pu (s.cw b.ctx BAT_IDPERM) * ef (s.cw b.ctx CTX_IBASE)) 0
  pu (s.cw r.ctx CTX_VMEAS) * ef (s.cw r.ctx CTX_VBASE) * min (pu (s.cw r.ctx GRP_IPKMAX) * ef (s.cw r.ctx CTX_IBASE)) perm

/-- SHELF.PBAVAIL as a number (R285). -/
def State.batteryPower (s : State) : Rat :=
  if s.sad = 0 ∧ ¬ s.supEn then 0 else s.puW (s.availableGroups.foldl (fun a r => a + s.groupPower r) 0)

/-- The allowance group's result published, with SHELF.PBAVAIL and SHELF.HEAD of the same tick (R285, R287). -/
def State.allowance (s : State) (w : Word) : State :=
  let s1 := s.measure (ctxAddr 0 SHELF_ALLOW) (if w.toInt < 0 then 0 else w)
  let s2 := s1.measurePU 0 SHELF_PBAVAIL s1.batteryPower
  let a : Int := if s2.sad = 0 ∨ s2.sad = 6 then (s2.cw 0 SHELF_ALLOW).toInt else 0
  s2.measurePU 0 SHELF_HEAD (((a + (s2.cw 0 SHELF_PBAVAIL).toInt - (s2.cw 0 CTX_PMEAS).toInt : Int) : Rat) / 65536)

/-- SHELF.CAPLIVE.SUP follows the allocations while supplement is permitted (R284, R289). -/
def State.showSupplement (s : State) : State := s.setFlag (ctxAddr 0 SHELF_CAPLIVE) 0 (s.supEn && !s.lane.supOn.isEmpty)

/-- A supplement allocation: a rise above zero sets SUPP and offers its record (R286, R287, R290). -/
def State.supplementResult (s : State) (g : Nat) (w : Word) : State :=
  let on := decide (0 < w.toInt)
  let was := s.lane.supOn.contains g
  let l := s.lane.supOn.filter (· ≠ g)
  let s1 := { s with lane := { s.lane with supOn := if on then l ++ [g] else l } }.showSupplement
  if on && !was then s1.stsOffer 0 5 else s1

/-- A throttle group's result: a fall below zero sets THRS, and while THREN is 1 a negative result asserts its output (R286, R292). -/
def State.throttleResult (s : State) (g k : Nat) (w : Word) : State :=
  let neg := decide (w.toInt < 0)
  let was := s.lane.thrNeg.contains g
  let l := s.lane.thrNeg.filter (· ≠ g)
  let l1 := if neg then l ++ [g] else l
  let s1 := { s with lane := { s.lane with thrNeg := l1 } }.setFlag (ctxAddr 0 SHELF_CAPLIVE) 2 (!l1.isEmpty)
  let s2 := if neg && !was then s1.sts 0 7 else s1
  if neg && s2.thrEn then s2.throttle k else s2

/-! ### The hard throttle cause (R291) -/

/-- SHELF.CAPLIVE.THRH. -/
def State.hardOn (s : State) : Bool := bit (s.cw 0 SHELF_CAPLIVE) 1

/-- The hard cause judged at the end of a frame against the allowance and margin of the last completed tick; before the first tick there is nothing to judge against. -/
def State.hardCause (s : State) : State := match s.hardLatched with
  | none => s
  | some (allow, margin) =>
    let p := (s.cw 0 SHELF_PSRC).toInt
    if s.hardOn then (if 2 * p ≤ 2 * allow + margin then s.setFlag (ctxAddr 0 SHELF_CAPLIVE) 1 false else s)
    else if allow + margin < p then
      let s1 := (s.setFlag (ctxAddr 0 SHELF_CAPLIVE) 1 true).stsOffer 0 6
      if s1.thrEn then s1.forEach ((List.range 16).filter (s1.flag THR_HARDEN)) (fun k s => s.throttle k) else s1
    else s

/-- The allowance and margin of a completed tick handed to the core. -/
def State.latchHard (s : State) : State := { s with hardLatched := some ((s.cw 0 SHELF_ALLOW).toInt, (s.cw 0 SHELF_HARD).toInt) }

/-! ### Throttle outputs (R292) -/

/-- The context of the branch that an output throttles. -/
def State.throttleBranch (s : State) (k : Nat) : Option Nat := ((s.ofType .branch).find? (·.a2 = k)).map CtxRec.ctx

/-- Whether a context's safe state is in force and not yet acknowledged. -/
def State.safePending (s : State) (c : Nat) : Bool := s.safe c && s.flt.pending.any (fun p => p.ctx == c && decide (2 ≤ p.level))

/-- Whether a safe state asserts an output: the shelf's menu 0x02, or its branch's menu 0x01 reached by the branch, a zone that serves it, or the shelf (R353). -/
def State.throttleSafe (s : State) (k : Nat) : Bool :=
  (s.safePending 0 && (s.safeRec 0).menu == 2) ||
  match s.throttleBranch k with
  | some c => s.safe c && (s.safeRec c).menu == 1 &&
      (s.safePending c || (s.safePending 0 && s.shelfReaches.any (·.ctx = c)) ||
        match s.image with
        | some im => (im.zonesOf c).any (fun z => s.safePending z.ctx && (s.safeRec z.ctx).menu == 1)
        | none => false)
  | none => false

/-- Whether a throttle group with this output has a negative result. -/
def State.throttleNegative (s : State) (k : Nat) : Bool := match s.image with
  | some im => im.groups.any (fun g => g.tkind = 5 ∧ g.tindex = k ∧ (s.reg (FAB_GRES + g.group)).toInt < 0)
  | none => false

/-- Whether a cause of an output is present (R292, R353). -/
def State.throttleCause (s : State) (k : Nat) : Bool :=
  s.flag THR_FORCE k || (s.thrEn && s.hardOn && s.flag THR_HARDEN k) || (s.thrEn && s.throttleNegative k) || s.throttleSafe k

/-- Outputs whose cause is present are asserted, with THRS where a group result asserts one; an asserted one without a cause starts its release time (R292, R298). -/
def State.throttleFollow (s : State) : State := s.forEach (List.range 16) (fun k s =>
  if s.throttleCause k then (s.throttle k).onlyIf (!s.flag THR_LIVE k && s.thrEn && s.throttleNegative k && s.throttled k) (fun s => s.sts 0 7)
  else if s.flag THR_LIVE k then s.startOnce (.thrRel k) else s)

/-- Whether an asserted output may be released (R292). -/
def State.throttleRipe (s : State) (k : Nat) : Bool :=
  s.flag THR_LIVE k && !s.throttleCause k && s.expired (.thrHold k) (s.reg THR_THOLD) && s.expired (.thrRel k) (s.reg THR_TREL) &&
    (!s.running .thrGap || s.expired .thrGap (s.reg THR_TREL))

end Sys2Proof.Machine
end

