-- ==== Sys2Proof/Machine/Fabric.lean ====
section
/-! DEFINITION. The loop fabric of the authority lane (R101 to R132): the crossbar, the ramps, the control laws, limits with output tracking, min-select groups and governors. Values inside a slot are integers in units of 2^-32 pu. -/

namespace Sys2Proof.Machine

/-! ### The crossbar (R109, R110) -/

/-- What the word of a context block is a quantity of (R109). -/
inductive Kind where
  | volt | amp | power | phase | shelfVolt | ratio | kelvin
  deriving DecidableEq, Repr

/-- The kind of a PU18 or T18 word of a context block. -/
def wordKind (typ : CtxType) (k : Nat) : Kind :=
  if k = CTX_VMEAS then .volt
  else if k = CTX_IMEAS then .amp
  else if k = CTX_PMEAS then .power
  else if k = CTX_TMEAS then .kelvin
  else match typ with
    | .shelf => .power
    | .feed => if k = FEED_ITRIP ∨ k = FEED_IREV then .amp else .volt
    | .rectifier => if k = RECT_TRIM then .ratio else .amp
    | .string =>
      if k = BAT_VCUT ∨ k = BAT_VCUTHYS ∨ k = CHG_VCV ∨ k = CHG_VPRE ∨ k = CHG_VRCH ∨ k = CHG_NDV then .volt
      else if k = CHG_TCLO ∨ k = CHG_TCHI ∨ k = CHG_TDHI ∨ k = CHG_NDTDT then .kelvin
      else if k = EST_SOC ∨ k = EST_SOCRAW ∨ k = EST_UNC then .ratio
      else .amp
    | .group =>
      if k = GRP_IPKMAX ∨ k = GRP_PHTRIP ∨ k = GRP_SLOPE then .phase
      else if k = GRP_VCMD ∨ k = GRP_VPG then .volt
      else if k = GRP_HOLDEPTH then .shelfVolt
      else .amp
    | .branch =>
      if k = BR_VDS ∨ k = BR_VPG then .volt
      else if k = BR_TJMAX ∨ k = BR_TJRESTART ∨ k = BR_TREF then .kelvin
      else .amp
    | .pol | .rail => .volt
    | .zone => .kelvin

/-- The step a narrowing keeps: an exact value between two steps goes to the one that Config.narrowUp leaves open (log 20). -/
def narrowInt (q : Rat) : Int := if (q.floor : Rat) = q then q.floor else if Config.narrowUp q then q.floor + 1 else q.floor

/-- A value in pu as an integer of 2^-32 pu. -/
def narrow (q : Rat) : Int := narrowInt (q * 4294967296)

/-- A positive ratio kept to 24 significant bits (R109). -/
def ratio24 (q : Rat) : Rat :=
  if q ≤ 0 then 0
  else match (List.range 128).find? (fun (k : Nat) => decide (q * (2 : Rat) ^ k / (2 : Rat) ^ 64 ≥ 8388608)) with
    | some k => (narrowInt (q * (2 : Rat) ^ k / (2 : Rat) ^ 64) : Rat) * (2 : Rat) ^ 64 / (2 : Rat) ^ k
    | none => q

/-- The number of phases of a group context; 1 for any other. -/
def CtxRec.phaseCount (r : CtxRec) : Nat := if r.typ = .group then r.phases.length else 1

/-- The ratio of a source word's base to the owner's base of the same kind (R50, R109). -/
def State.baseRatio (s : State) (src owner : CtxRec) (k : Kind) : Rat :=
  let b (c w : Nat) : Rat := ef (s.cw c w)
  match k with
  | .volt => ratio24 (b src.ctx CTX_VBASE / b owner.ctx CTX_VBASE)
  | .amp => ratio24 (b src.ctx CTX_IBASE / b owner.ctx CTX_IBASE)
  | .power => ratio24 (b src.ctx CTX_PBASE / b owner.ctx CTX_PBASE)
  | .phase => ratio24 (b src.ctx CTX_IBASE / (src.phaseCount : Rat) / b owner.ctx CTX_IBASE)
  | .shelfVolt => ratio24 (b 0 CTX_VBASE / b owner.ctx CTX_VBASE)
  | .ratio | .kelvin => 1

/-- A delivered input: its PU18 word and whether it is stale. -/
structure Delivered where
  word : Word
  stale : Bool
  deriving DecidableEq, Repr

/-- The delivery of a source to a slot of an owner context (R109, R110); a raw scan input is stale after four scans without a conversion (R300). -/
def State.deliver (s : State) (owner : Nat) (src : Src) : Delivered := match src with
  | .none => { word := 0, stale := false }
  | .slot n => { word := s.sw n SLOT_OUT, stale := !bit (s.sw n SLOT_STS) 1 }
  | .group g => { word := s.reg (FAB_GRES + g), stale := s.flag (FAB_GGOV + g) 9 }
  | .scan n => { word := toPU (((lookup (0 : Int) s.scan n : Int) : Rat) / 1000000 / ef (s.cw owner CTX_VBASE)), stale := s.older SCAN_RD (some 3840) }
  | .word c k =>
    let r := s.read (ctxAddr c k)
    let bad := r.2 == 1 || r.2 == 3
    match s.ctx? c, s.ctx? owner with
    | some x, some o =>
      match wordKind x.typ k with
      | .kelvin => { word := puRaw (roundAway ((r.1.toNat : Rat) / 2)), stale := bad }
      | kind => { word := toPU (pu r.1 * s.baseRatio x o kind), stale := bad }
    | _, _ => { word := 0, stale := true }

/-! ### Reference and ramp (R122 to R124) -/

/-- A PU18 word in units of 2^-32 pu. -/
def fine (w : Word) : Int := w.toInt * 65536

/-- A value in units of 2^-32 pu rounded to LSBs of PU18 (R34). -/
def toLsb (x : Int) : Int := roundAway ((x : Rat) / 65536)

/-- The ramped reference after one evaluation, and whether the ramp still runs: a restart takes the feedback, a losing slot's ramp is pulled back to the feedback, and the step is at most SLOT.RATE times the class period. -/
def rampStep (ramping winner : Bool) (rref fb target step : Int) : Int × Bool :=
  let held := if ramping && !winner then (if rref < target then min rref fb else max rref fb) else rref
  let r := held + clampInt (-step) step (target - held)
  (r, ramping && decide (r ≠ target))

/-! ### Control laws (R111 to R113) -/

/-- A coefficient of a slot. -/
def coefAt (cs : List Word) (k : Nat) : Rat := pu (cs.getD k 0)

/-- The exponent SH of a law: the last coefficient, held within -8 to 8 (R114). -/
def shOf (law : Nat) (cs : List Word) : Int := clampInt (-8) 8 ((cs.getD (ncoef law - 1) 0).toInt)

/-- A coefficient as it may stand: KDF from 0.0 to 1.0 pu, SH from -8 to +8, every other free (R114). -/
def coefClamp (law k : Nat) (w : Word) : Word × Bool :=
  if k + 1 = ncoef law then
    let x := clampInt (-8) 8 w.toInt
    (Word.ofInt x, decide (x ≠ w.toInt))
  else if law = 1 ∧ k = 3 then
    let x := clampInt 0 65536 w.toInt
    (Word.ofInt x, decide (x ≠ w.toInt))
  else (w, false)

/-- Two to a signed power. -/
def pow2 (e : Int) : Rat := if 0 ≤ e then (2 : Rat) ^ e.toNat else 1 / (2 : Rat) ^ (-e).toNat

/-- The sum of products of coefficients, from index k on, with a list of values. -/
def dot (cs : List Word) : Nat → List Int → Rat
  | _, [] => 0
  | k, x :: r => coefAt cs k * (x : Rat) + dot cs (k + 1) r

/-- A member's evaluation before its group is formed: the unscaled value and what is beside the replaceable term, the new state, what is added to the scaled law, the exponent, the unlimited output in LSBs, and the output after limits. -/
structure Pend where
  slot : Nat
  group : Nat
  law : Nat
  v : Rat
  part : Rat
  next : SlotDyn
  x : Rat
  sh : Int
  raw : Int
  out : Int
  ramping : Bool
  deriving DecidableEq, Repr

/-- The initial state of a slot whose output at zero error is to be v unscaled (R116). -/
def initState (law : Nat) (cs : List Word) (d : SlotDyn) (v : Rat) : SlotDyn :=
  let n := law - 1
  if law = 1 then { d with i := narrowInt v, d := 0, es := [0], vs := [], start := false }
  else
    let sum := dot cs (n + 1) (List.replicate n 1)
    { d with es := List.replicate n 0, vs := List.replicate n (if sum = 0 then 0 else narrowInt (-v / sum)), start := false }

/-- One evaluation of a law at an error: the unscaled value, the part that back-calculation keeps, and the state after it. -/
def lawStep (law : Nat) (cs : List Word) (d : SlotDyn) (e : Int) : Rat × Rat × SlotDyn :=
  if law = 1 then
    let p := coefAt cs 0 * (e : Rat)
    let i := narrowInt ((d.i : Rat) + coefAt cs 1 * (e : Rat))
    let dd := narrowInt (clampRat 0 1 (coefAt cs 3) * (d.d : Rat) + coefAt cs 2 * ((e : Rat) - ((d.es.getD 0 0 : Int) : Rat)))
    (p + (i : Rat) + (dd : Rat), p + (dd : Rat), { d with i := i, d := dd, es := [e] })
  else
    let n := law - 1
    let v := dot cs 0 (e :: d.es.take n) - dot cs (n + 1) (d.vs.take n)
    (v, 0, { d with es := (e :: d.es).take n })

/-- The state once the output is fixed: replaced where limits or tracking changed the output, as computed where not (R116). -/
def settle (p : Pend) (o : Int) : SlotDyn :=
  let need := ((o * 65536 : Int) : Rat) - p.x
  let v := if o = p.raw then p.v else need / pow2 p.sh
  if p.law = 1 then (if o = p.raw then p.next else { p.next with i := narrowInt (v - p.part) })
  else { p.next with vs := (narrowInt v :: p.next.vs).take (p.law - 1) }

/-! ### One slot (R110, R111, R116, R128) -/

/-- Whether a slot is the raw winner of its group at the group's last evaluation. -/
def State.rawWinner (s : State) (r : SlotRec) : Bool :=
  !s.flag (FAB_GGOV + r.group) 9 && s.fld (FAB_GGOV + r.group) 17 10 == r.slot

/-- Shadow coefficients whose application was commanded, taken into use at the start of the evaluation (R114, R115). -/
def State.takeShadow (s : State) (n : Nat) : State := match s.lane.shadow with
  | some sh =>
    if sh.slot = n ∧ sh.apply then
      let cs := sh.vals.foldl (fun l p => l.set p.1 p.2) (s.coefOf n)
      { s with lane := { s.lane with coefs := putKey s.lane.coefs n cs, shadow := none } }
    else s
  | none => s

/-- The state with VALID of SLOT.STS replaced. -/
def State.setValid (s : State) (n : Nat) (b : Bool) : State := s.setFlag (slotAddr n SLOT_STS) 1 b

/-- The evaluation of a slot up to its limits, with the class period: what is left for its group to finish, if it was evaluated. -/
def State.evalSlot (s : State) (im : Image) (r : SlotRec) (period : Rat) : State × Option Pend :=
  let n := r.slot
  let ctl := s.sw n SLOT_CTL
  if !bit ctl 0 ∨ r.law = 0 then (((s.setValid n false).setSlot n (fun d => { d with start := true, left := false })), none)
  else
    let owner := ((im.group? r.group).map GroupRec.owner).getD 0
    let ref := s.deliver owner r.ref
    let fb := s.deliver owner r.fb
    let ff := s.deliver owner r.ff
    let stale := ref.stale || fb.stale || ff.stale
    let s1 := if stale then s.setFlag (slotAddr n SLOT_STS) 6 true else s
    if stale && bits ctl 7 6 == 0 then (s1, none)
    else if stale && bits ctl 7 6 == 1 then (((s1.setValid n false).setSlot n (fun d => { d with left := true })), none)
    else
      let s2 := s1.takeShadow n
      let cs := s2.coefOf n
      let d := s2.slot n
      let target := fine (if r.ref = .none then s2.sw n SLOT_SET else ref.word)
      let step := narrow (ef (s2.sw n SLOT_RATE) * period)
      let f := fine fb.word
      let again := d.restart || d.start
      let ramping := again || bit (s2.sw n SLOT_STS) 2
      let rr := rampStep ramping (s2.rawWinner r) (if again then f else d.rref) f target step
      let e := if bit ctl 8 then f - rr.1 else rr.1 - f
      let x : Rat := ((if bit ctl 9 then rr.1 else 0) + (if bit ctl 10 ∧ r.ff ≠ .none then fine ff.word else 0) : Int)
      let sh := shOf r.law cs
      let fbk := s2.flag (FAB_GGOV + r.group) 9
      let start : Int := if fbk then (((im.group? r.group).map GroupRec.fallback).getD 0).toInt
        else (s2.reg (FAB_GRES + r.group)).toInt + (s2.reg (FAB_GMARG + r.group)).toInt
      let d1 := if d.start || d.left then initState r.law cs d ((((start * 65536 : Int) : Rat) - x) / pow2 sh) else d
      let l := lawStep r.law cs d1 e
      let raw := roundAway ((pow2 sh * l.1 + x) / 65536)
      let out := min (max raw (s2.sw n SLOT_OMIN).toInt) (s2.sw n SLOT_OMAX).toInt
      let next := { l.2.2 with rref := rr.1, restart := false, start := false, left := false }
      let s3 := ((s2.setS n SLOT_RREF (puRaw (toLsb rr.1))).setS n SLOT_OUT (puRaw out)).setValid n true
      (s3, some { slot := n, group := r.group, law := r.law, v := l.1, part := l.2.1, next := next, x := x, sh := sh, raw := raw, out := out, ramping := rr.2 })

/-! ### Min-select groups (R116 to R121, R129, R131) -/

/-- The valid members of a group with their outputs in LSBs, ascending by slot number. -/
def State.validOuts (s : State) (im : Image) (g : Nat) : List (Nat × Int) :=
  ((im.members g).filter (fun r => bit (s.sw r.slot SLOT_STS) 1)).map (fun r => (r.slot, (s.sw r.slot SLOT_OUT).toInt))

/-- The lowest output and the lowest slot that gives it (R118). -/
def lowest (l : List (Nat × Int)) : Option (Nat × Int) := minBy (fun p : Nat × Int => p.2) l

/-- The converter group context that a group's target names, if the group drives a voltage command. -/
def State.voltTarget (s : State) (im : Image) (g : Nat) : Option Nat := match im.group? g with
  | some r => if r.tkind = 1 then s.inst? .group r.tindex else none
  | none => none

/-- The state of a slot written back once its output is fixed: SLOT.OUT, RAMP, TRACK and the saturation marks. -/
def State.commitSlot (s : State) (p : Pend) (o : Int) (track : Bool) : State :=
  let a := slotAddr p.slot SLOT_STS
  let s1 := (s.setSlot p.slot (fun _ => settle p o)).setS p.slot SLOT_OUT (puRaw o)
  let s2 := (s1.setFlag a 2 p.ramping).setFlag a 3 track
  let s3 := if p.out = (s.sw p.slot SLOT_OMAX).toInt then s2.setFlag a 4 true else s2
  if p.out = (s.sw p.slot SLOT_OMIN).toInt then s3.setFlag a 5 true else s3

/-- The targets of a group's result (R119): voltage and current commands, which a held group keeps (R130, R170), trim outputs, the allowance and supplement allocations, throttle outputs. The trim output of a rectifier in its safe state stays where that put it (R353). -/
def State.applyTarget (s : State) (r : GroupRec) (w : Word) : State := match r.tkind with
  | 1 => match s.inst? .group r.tindex with
    | some c => if s.held c then s else s.setC c GRP_VCMD w
    | none => s
  | 2 => if s.isType r.owner .rectifier && s.safe r.owner then s else { s with trim := assign 0 s.trim r.tindex (if w.toInt < 0 then 0 else if 65536 < w.toInt then onePU else w) }.drivePin (0x20 + r.tindex)
  | 3 => match s.inst? .group r.tindex with
    | some c => if s.held c then s else s.setC c GRP_ICMD (if w.toInt < 0 then 0 else w)
    | none => s
  | 4 => if r.tindex = 0 then s.allowance w else s.supplementResult r.group w
  | 5 => s.throttleResult r.group r.tindex w
  | _ => s

/-- CTX.GOV of a context enabled since the last result of its primary group: the governor reported, valid again (R61). -/
def State.showGovernor (s : State) (im : Image) (g : Nat) : State :=
  if s.flag (FAB_GGOV + g) 8 then s.forEach (im.contexts.filter (fun x => x.prigrp = g ∧ bit (s.cw x.ctx CTX_GOV) 8 = false)) (fun x s => s.setC x.ctx CTX_GOV (Word.ofNat (s.fld (FAB_GGOV + g) 7 0 + 256)))
  else s

/-- The result word of a group formed from its valid members, with FBK, VALID and RAWSLOT of FAB.GGOV, and applied to the target (R118, R119, R129). -/
def State.formGroup (s : State) (im : Image) (r : GroupRec) : State :=
  let a := FAB_GGOV + r.group
  match lowest (s.validOuts im r.group) with
  | none =>
    let s1 := (s.setReg (FAB_GRES + r.group) r.fallback).setReg a (putBit (putBit (s.reg a) 8 false) 9 true)
    let s2 := s1.forEach (im.members r.group) (fun m s => s.setFlag (slotAddr m.slot SLOT_STS) 0 false)
    { s2 with lane := { s2.lane with govRun := s2.lane.govRun.filter (fun p => p.1 ≠ r.group) } }.applyTarget r r.fallback
  | some (n, o) =>
    let s1 := (s.setReg (FAB_GRES + r.group) (puRaw o)).setReg a (putBits (putBit (s.reg a) 9 false) 17 10 n)
    (s1.showGovernor im r.group).applyTarget r (puRaw o)

/-- The wins in a row of a raw winner, counted once per evaluation of its group (R120, R129). -/
def State.countWin (s : State) (g : Nat) : State :=
  if s.flag (FAB_GGOV + g) 9 then s
  else
    let n := s.fld (FAB_GGOV + g) 17 10
    let k := match s.lane.govRun.find? (fun p => p.1 = g) with
      | some (_, m, c) => if m = n then c + 1 else 1
      | none => 1
    { s with lane := { s.lane with govRun := s.lane.govRun.filter (fun p => p.1 ≠ g) ++ [(g, n, k)] } }

/-- The outputs of evaluated members set to a held command: the lowest takes it, and every other one below it is raised to it (R131). -/
def holdOuts (held : Int) (outs : List (Nat × Int)) : List (Nat × Int) := match lowest outs with
  | some (n, _) => outs.map (fun p => if p.1 = n then (n, held) else (p.1, max p.2 held))
  | none => outs

/-- Members on STALE hold when an incoming lane first evaluates their group: their outputs follow the held command as the others do, so that the group's result equals it (R131), and their state stays as it was (R110). DEDUCED, log 138. -/
def State.holdStale (s : State) (mine : List Pend) (outs : List (Nat × Int)) : State :=
  s.forEach (outs.filter (fun o => !mine.any (·.slot = o.1))) (fun o s => s.setS o.1 SLOT_OUT (puRaw o.2))

/-- A group's result formed anew after an evaluation of members; a member tracked earlier in the same evaluation stays marked so: tracking of the losing members, back-calculation, and the target (R116 to R118, R125). The win is counted with the last member of the evaluation (R120). -/
def State.finishGroup (s : State) (im : Image) (r : GroupRec) (ps : List Pend) (last : Bool) : State :=
  let mine := ps.filter (·.group = r.group)
  let resume := s.lane.resumeGroups.contains r.group
  let held := match s.voltTarget im r.group with
    | some c => (s.cw c GRP_VCMD).toInt
    | none => 0
  let all := s.validOuts im r.group
  let outs := if resume then holdOuts held all else all
  let s0 := if resume then { s with lane := { s.lane with resumeGroups := s.lane.resumeGroups.filter (· ≠ r.group) } } else s
  let s1 := match lowest outs with
    | none => s0
    | some (win, res) =>
      let top := res + (s0.reg (FAB_GMARG + r.group)).toInt
      let s1 := s0.forEach mine (fun p s =>
        let o := (find outs p.slot).getD p.out
        let above := p.slot != win && decide (top < o)
        let kept := decide (o < p.out) && s.flag (slotAddr p.slot SLOT_STS) 3
        s.commitSlot p (if above then top else o) (above || kept))
      s1.onlyIf resume (fun s => s.holdStale mine (outs.map (fun p : Nat × Int => if p.1 ≠ win ∧ top < p.2 then (p.1, top) else p)))
  (s1.formGroup im r).onlyIf last (fun s => s.countWin r.group)

/-- Every group of an image that passes a test applied at its FALLBACK: from the acceptance of an image the targets receive it until the first evaluation (R121). -/
def State.startTargets (s : State) (im : Image) (is : GroupRec → Bool) : State := s.forEach (im.groups.filter is) (fun g s => s.applyTarget g g.fallback)

/-- GOVQ of FAB.CTL. -/
def State.govq (s : State) : Nat := s.fld FAB_CTL 6 1

/-- The reported governor of a group moves to its raw winner once it has won often enough in a row (R61, R120). -/
def State.governor (s : State) (im : Image) (g : Nat) : State :=
  match s.lane.govRun.find? (fun p => p.1 = g) with
  | none => s
  | some (_, n, k) =>
    let a := FAB_GGOV + g
    let old := s.fld a 7 0
    if k < s.govq ∨ (s.flag a 8 ∧ old = n) then s
    else
      let s1 := s.setReg a (putBit (putBits (s.reg a) 7 0 n) 8 true)
      let s2 := s1.forEach (im.members g) (fun m s => s.setFlag (slotAddr m.slot SLOT_STS) 0 (m.slot == n))
      let s3 := s2.forEach (im.contexts.filter (·.prigrp = g)) (fun x s => (s.setC x.ctx CTX_GOV (Word.ofNat (n + 256))).sts x.ctx 4)
      let p := [BitVec.ofNat 8 g, BitVec.ofNat 8 n, BitVec.ofNat 8 old, 0]
      s3.offerRec 0x0205 0xFF p

/-! ### Evaluation order (R514) -/

/-- The slots and groups that a slot takes fabric results from, shelf class only: a slot of context 0 words 0x17 to 0x19 counts as taking the allowance group (R285). -/
def SlotRec.sources (im : Image) (r : SlotRec) : List Src :=
  let allow := im.groups.find? (fun g => g.tkind = 4 ∧ g.tindex = 0)
  [r.ref, r.fb, r.ff].flatMap fun x => match x with
    | .slot n => [Src.slot n]
    | .group g => [Src.group g]
    | .word 0 k => if k = SHELF_ALLOW ∨ k = SHELF_PBAVAIL ∨ k = SHELF_HEAD then
        match allow with
        | some g => [Src.group g.group]
        | none => []
      else []
    | _ => []

/-- The slot numbers that a slot waits for: shelf slots among its sources. -/
def SlotRec.waits (im : Image) (r : SlotRec) : List Nat :=
  (r.sources im).flatMap fun x => match x with
    | .slot n => if (im.slot? n).any (fun q => !im.fast q) then [n] else []
    | .group g => ((im.members g).filter (fun q => !im.fast q)).map (·.slot)
    | _ => []

/-- The slots that a slot takes fabric results from, of either class (R79). -/
def SlotRec.feeders (im : Image) (r : SlotRec) : List Nat :=
  (r.sources im).flatMap fun x => match x with
    | .slot n => [n]
    | .group g => (im.members g).map (·.slot)
    | _ => []

/-- The shelf slots of an image. -/
def Image.shelfSlots (im : Image) : List SlotRec := sortBy (·.slot) (im.slots.filter (fun r => !im.fast r))

/-- The members of the allowance group and, n links deep, the slots they take fabric results from. -/
def Image.allowFirst (im : Image) : Nat → List Nat
  | 0 => match im.groups.find? (fun g => g.tkind = 4 ∧ g.tindex = 0) with
    | some g => ((im.members g.group).filter (fun q => !im.fast q)).map (·.slot)
    | none => []
  | n + 1 => let l := im.allowFirst n
    (l ++ l.flatMap (fun k => ((im.slot? k).map (fun r => r.waits im)).getD [])).dedup

/-- Slots placed one by one: the lowest-numbered of those left whose sources are all placed, those of the first set before any other. -/
def placeSlots (waits : SlotRec → List Nat) (first : List Nat) : Nat → List SlotRec → List SlotRec → List SlotRec
  | 0, done, _ => done
  | n + 1, done, rest =>
    let ready := rest.filter (fun r => (waits r).all (fun k => done.any (·.slot = k)))
    let pool := if rest.any (fun r => first.contains r.slot) then ready.filter (fun r => first.contains r.slot) else ready
    match pool with
    | [] => done
    | r :: _ => placeSlots waits first n (done ++ [r]) (rest.filter (·.slot ≠ r.slot))

/-- The order of shelf evaluations; shorter than the list of shelf slots when their sources form a cycle (R514). -/
def Image.shelfOrder (im : Image) : List SlotRec :=
  let l := im.shelfSlots
  placeSlots (fun r => r.waits im) (im.allowFirst l.length) l.length [] l

/-- Whether the graph of slot and group sources is acyclic, slots of both classes taken together (R79). -/
def Image.acyclic (im : Image) : Bool := (placeSlots (fun r => r.feeders im) [] im.slots.length [] im.slots).length == im.slots.length

/-! ### Evaluation of a class (R105, R125, R126) -/

/-- Slots evaluated in a given order. The result of a group is formed anew with each member (R118), so that a later slot meets each output as R116 leaves it; that of a fast group once all its members are evaluated (R125). -/
def State.evalList (im : Image) (fast : Bool) (period : Rat) : List SlotRec → State → List Pend → State
  | [], s, _ => s
  | r :: rest, s, ps =>
    let e := s.evalSlot im r period
    let ps1 := match e.2 with
      | some p => ps ++ [p]
      | none => ps
    let more := rest.any (·.group = r.group)
    match im.group? r.group with
    | some g => evalList im fast period rest (e.1.onlyIf (!(fast && more)) (fun s => s.finishGroup im g ps1 (!more))) ps1
    | none => evalList im fast period rest e.1 ps1

/-- The fast slots that serve a converter group instance, ascending. -/
def Image.fastSlots (im : Image) (inst : Nat) : List SlotRec :=
  sortBy (·.slot) (im.slots.filter (fun r => (im.group? r.group).any (fun g => g.tkind = 1 ∧ g.tindex = inst)))

/-- The fast evaluation at the sample instant of a converter group (R105, R125). -/
def State.evalFast (s : State) (im : Image) (inst : Nat) : State := State.evalList im true (1 / 1000000) (im.fastSlots inst) s []

/-- The shelf evaluation of a tick (R105, R126). -/
def State.evalShelf (s : State) (im : Image) : State := State.evalList im false (1 / 100000) im.shelfOrder s []

/-- Of the slots of a class that the lane evaluates, those whose evaluation overran its bound. -/
def State.lateOf (s : State) (l : List SlotRec) (late : List Nat) : List SlotRec :=
  l.filter (fun r => late.contains r.slot && bit (s.sw r.slot SLOT_CTL) 0 && r.law != 0)

/-- An overrun, with the evaluation complete and its result applied: OVR and the count are set. -/
def State.markLate (s : State) (n : Nat) : State := (s.setFlag (slotAddr n SLOT_STS) 7 true).inc FAB_OVRCNT

/-- What overruns do beside the evaluation: each is marked and raises class 13 against the owner of the group (R127). -/
def State.overruns (s : State) (im : Image) (l : List SlotRec) : State :=
  s.forEach l (fun r s => (s.markLate r.slot).laneRaise 13 (((im.group? r.group).map GroupRec.owner).getD 0) none 1306)

/-! ### Enables and set-points (R104, R122, R208) -/

/-- A slot's ramp restarts at its next evaluation (R122). -/
def State.restartRamp (s : State) (n : Nat) : State := s.setSlot n (fun d => { d with restart := true })

/-- SLOT.SET of a slot replaced by the strand or a host, with the ramp restart of R122. -/
def State.putSet (s : State) (n : Nat) (w : Word) : State :=
  let s1 := (s.setS n SLOT_SET w).markClamped (slotAddr n SLOT_SET) false
  if (s.image.bind (·.slot? n)).any (·.ref = .none) then s1.restartRamp n else s1

/-- A member's start on enable: its state is initialised at its next evaluation and its ramp restarts (R116, R122). -/
def State.slotOn (s : State) (n : Nat) : State := (s.setSlot n (fun d => { d with start := true })).restartRamp n

/-- The slot that writes set-points of a group's target kind for a converter group context: the only member of its TKIND group with no reference source, with RFF where asked (R207). -/
def State.setSlotOf (s : State) (c tkind : Nat) : Option Nat := do
  let im ← s.image
  let r ← im.ctx? c
  let g ← im.groups.find? (fun g => g.tkind = tkind ∧ g.tindex = r.inst)
  let m ← (im.members g.group).find? (fun m => m.ref = .none ∧ (tkind ≠ 1 ∨ bit (m.words.getD 0 0) 9))
  return m.slot

/-- The hold slot of a serving group (R207). -/
def State.holdSlot (s : State) (c : Nat) : Option Nat := s.setSlotOf c 1

/-- The release slot of a serving group (R207). -/
def State.releaseSlot (s : State) (c : Nat) : Option Nat := s.setSlotOf c 3

/-- The slots the strand owns (R208). -/
def State.strandSlots (s : State) : List Nat :=
  s.servingGroups.flatMap fun r => [s.holdSlot r.ctx, s.releaseSlot r.ctx].filterMap id

/-- The members of the voltage group of a converter group context. -/
def State.voltMembers (s : State) (c : Nat) : List Nat := match s.image with
  | some im => match im.ctx? c with
    | some r => (im.fastSlots r.inst).map (·.slot)
    | none => []
  | none => []

/-! ### Meanings -/

/-- A held group back under primary control at its sample instant: HELD clears, the state code follows MODE and DIR again, the command is the fabric's, and the dwell restarts (R149, R172). -/
def State.primaryReturn (s : State) (im : Image) (r : CtxRec) : State :=
  let s1 := ((s.setHeld r.ctx false).followMode r.ctx).start (.dwell r.ctx)
  match im.groups.find? (fun q => q.tkind = 1 ∧ q.tindex = r.inst) with
  | some q => s1.setC r.ctx GRP_VCMD (s1.reg (FAB_GRES + q.group))
  | none => s1

/-- SAMPLE_INSTANT: a converter group latches its principal voltage (uV) and current (nV across the sense resistor, summed over its phases), its fast slots are evaluated, those of them that overran are marked, and a held group whose lane has issued its first stamped command returns to primary control (R106, R125, R127, R172). -/
def execSampleInstant (c : Nat) (v i : Int) (late : List Nat) (t : Nat) (s : State) : Host.Outcome State Fault Refusal :=
  let s := s.at t
  finish s (match (s.ctx? c).filter (fun r => r.typ = .group ∧ s.now % 200 = 25 * r.inst) with
    | some r =>
      let top : Int := 200000000 * (r.phases.length : Int)
      let s0 := s.principal c ((clampInt 0 groupTop v : Rat) / 1000000) (((clampInt (-top) top i : Int) : Rat) / 1000000000 / ef (s.cw c GRP_RSENSE))
      let s1 := s0.onlyIf (decide (i < -top) || decide (top < i) || beyond groupTop v) (fun s => s.sts c 2)
      match s1.works, s1.image with
      | true, some im =>
        let s2 := s1.evalFast im r.inst
        let s3 := if s2.held c then s2.primaryReturn im r else s2
        s3.overruns im (s1.lateOf (im.fastSlots r.inst) late)
      | _, _ => s1
    | none => s)

/-- GOVERNOR_CHANGE: the raw winner of a group has won GOVQ evaluations in a row and is reported (R120). -/
def execGovernorChange (g t : Nat) (s : State) : Host.Outcome State Fault Refusal :=
  let s := s.at t
  finish s (match s.works, s.image with
    | true, some im => s.governor im g
    | _, _ => s)

/-- SLOT_ENABLE: EN of SLOT.CTL has gone from 0 to 1, so at its next evaluation the slot is initialised and its ramp restarts (R116, R122). A slot that was enabled already at its last evaluation is not touched. -/
def execSlotEnable (slot t : Nat) (s : State) : Host.Outcome State Fault Refusal :=
  let s := s.at t
  finish s (if s.works && bit (s.sw slot SLOT_CTL) 0 && (s.slot slot).start then s.slotOn slot else s)

end Sys2Proof.Machine
end

