-- ==== Sys2Proof/Machine/Groups.lean ====
section
/-! DEFINITION. Converter groups and phases (R133 to R174): group states, soft start and hiccup, power-good, window trips, the switching period with its peak-current command, synchronisation, phase shedding and recall, imbalance, thermal stop, and the fallback loops. -/

namespace Sys2Proof.Machine

/-- The record of a context if it is a converter group. -/
def State.group? (s : State) (c : Nat) : Option CtxRec := (s.ctx? c).filter (·.typ = .group)

/-! ### Start and stop (R151 to R153) -/

/-- GRP.CTL.SYNCEN: the group synchronises to a valid SYNC_IN (R148, R156). -/
def State.syncOn (s : State) (c : Nat) : Bool := bit (s.cw c GRP_CTL) 5

/-- Entry to Soft start: every phase starts at the next period at the SYNC_IN frequency while it is valid, else GRP.FSW; every member of the voltage group restarts its ramp; the soft-start timer starts (R151, R158). SYNC_OUT drives its pin from here on (DEDUCED, log 156). -/
def State.softStart (s : State) (r : CtxRec) (again : Bool) : State :=
  let c := r.ctx
  let s1 := if again then s else s.setC c GRP_RETRYCNT 0
  let s2 := (s1.allPhases r).setGrp c (fun v => { v with freq := (v.sync.filter (fun _ => s.syncOn c)).getD (ef (s.cw c GRP_FSW)), cutStop := false, powerGood := false, mode := s.grpMode c, dir := s.grpDir c, phTrip := s.cw c GRP_PHTRIP })
  let s3 := s2.forEach (s.voltMembers c) (fun n s => s.restartRamp n)
  let s4 := if (s.pinsFor 0x10 c).isEmpty then s3 else s3.drivePin 0x40
  (((s4.setCode c 1).start (.softStart c)).clearCount (.pgUp c)).clearCount (.pgDown c) |>.stop (.hiccup c)

/-- GROUP_ENABLE's effect: EN latched as 1 in Off (R151, R152); the context leaves its safe state (R354). -/
def State.groupOn (s : State) (r : CtxRec) : State := (s.setSafe r.ctx false).softStart r false

/-- Entry to a running state for MODE and DIR: the soft-start timer stops and the dwell starts (R151, R161). -/
def State.groupRuns (s : State) (r : CtxRec) : State :=
  ((s.setCode r.ctx (runningFor (s.grpMode r.ctx) (s.grpDir r.ctx))).stop (.softStart r.ctx)).start (.dwell r.ctx)

/-- The current of a phase from the voltage across its sense resistor (nV), which reads no further than 200 mV either way (R140). -/
def State.phaseAmps (s : State) (r : CtxRec) (nv : Int) : Rat := ((clampInt (-200000000) 200000000 nv : Int) : Rat) / 1000000000 / ef (s.cw r.ctx GRP_RSENSE)

/-- The sum of a group's phase currents of a frame, in 2^-16 pu (R106). -/
def State.frameCurrent (s : State) (r : CtxRec) (phase : List Int) : Int :=
  roundAway (r.phases.foldl (fun a p => a + s.puI r.ctx (s.phaseAmps r (phase.getD p 0))) 0 * 65536)

/-- The frame average of a group's output and the sum of its phase currents, as the core forms them each frame (R106, R140, R150): EN latched (R148), power-good counts, PH.IMEAS and the current of the tick. -/
def State.frameGroup (s : State) (r : CtxRec) (vout : Int) (phase : List Int) : State :=
  let c := r.ctx
  let s := s.setGrp c (fun g => { g with en := s.grpEn c })
  let v := (toPU (s.puV c ((vout : Rat) / 1000000))).toInt
  let vpg := (s.cw c GRP_VPG).toInt
  let s1 := (s.qualify (.pgUp c) (decide (vpg ≤ v))).qualify (.pgDown c) (decide (v < vpg - 655))
  let n : Rat := (r.phases.length : Nat)
  let s2 := s1.forEach r.phases (fun p s => (s.measureAt c (PH_IMEAS + p) (s.puI c (s.phaseAmps r (phase.getD p 0)) * n)).onlyIf (senseOver 200000000 (phase.getD p 0)) (fun s => s.sts c 2))
  s2.setGrp c (fun g => { g with sumI := g.sumI + s.frameCurrent r phase, nI := g.nI + 1 })

/-! ### Recall and shedding (R160 to R165) -/

/-- An all-phase recall with its effects (R163, R164). -/
def State.recall (s : State) (r : CtxRec) : State :=
  ((((s.allPhases r).stsWrite r.ctx 8).inc (ctxAddr r.ctx GRP_RECALLCNT)).start (.dwell r.ctx))

/-- The phases that switch or start at the next period. -/
def State.present (s : State) (r : CtxRec) : List Nat := r.phases.filter (fun p => s.flag (PH_STS + p) 3 || (s.grp r.ctx).starting.contains p)

/-- Whether some phase of a group is shed or being shed. -/
def State.someShed (s : State) (r : CtxRec) : Bool := (s.grp r.ctx).fading.isSome || decide ((s.present r).length < r.phases.length)

/-- Whether a group runs: a running state, and not stopped at cut-off by the core, whose state code a lane has still to follow (R149, R213). -/
def State.groupRunning (s : State) (c : Nat) : Bool := runningCode (s.code c) && !(s.grp c).cutStop

/-- The end of a shed transition, with the frame it falls in: the phase goes to high impedance (R162, R174). -/
def State.shedDone (s : State) (r : CtxRec) : State := match (s.grp r.ctx).fading, (s.grp r.ctx).shedAt with
  | some p, some _ => (((s.phaseStop .hiZ p).setGrp r.ctx (fun v => { v with fading := none, shedAt := none })).countActive r).start (.dwell r.ctx)
  | _, _ => s

/-- A frame's current above the add threshold of the smaller count recalls every phase during a shed transition; without a recall a transition that has ended within the frame is over (R163, R174). -/
def State.frameRecall (s : State) (r : CtxRec) (current : Int) : State :=
  let n := (s.active r).length
  if !s.works || !s.groupRunning r.ctx || s.held r.ctx || (s.grp r.ctx).fading.isNone then s
  else if decide (2 ≤ n) && decide ((s.cw r.ctx (STEPPE_ADD + (n - 2))).toInt < (current.natAbs : Int)) then s.recall r
  else s.shedDone r

/-- A Hollow deeper than GRP.HOLDEPTH recalls the shed phases of a group with HREC 1; one that finds none shed recalls nothing (R163, R164). -/
def State.hollowRecall (s : State) (r : CtxRec) (depth : Int) : State :=
  if s.groupRunning r.ctx && !s.held r.ctx && bit (s.cw r.ctx GRP_CTL) 6 && s.someShed r && decide ((s.cw r.ctx GRP_HOLDEPTH).toInt < depth) then s.recall r else s

/-- One more phase from the next period on; the phase in a shed transition first (R161, R165). -/
def State.addPhase (s : State) (r : CtxRec) : State :=
  let c := r.ctx
  let s1 := match (s.grp c).fading with
    | some p => (s.setFlag (PH_STS + p) 4 false).setGrp c (fun v => { v with fading := none, shedAt := none })
    | none => match r.phases.find? (fun p => !(s.present r).contains p) with
      | some p => s.setGrp c (fun v => { v with starting := v.starting ++ [p] })
      | none => s
  (s1.newBlock c).start (.dwell c)

/-- A shed transition of the highest-numbered switching phase begins (R161, R162). -/
def State.shedPhase (s : State) (r : CtxRec) : State := match (s.active r).getLast? with
  | some p => ((s.setFlag (PH_STS + p) 4 true).setGrp r.ctx (fun v => { v with fading := some p, faded := 0, shedAt := none })).newBlock r.ctx
  | none => s

/-- The phase count of a running group at a shelf tick, with the magnitude of the tick's mean current in 2^-16 pu (R161, R165). -/
def State.shedTick (s : State) (r : CtxRec) (current : Rat) : State :=
  let c := r.ctx
  let n := (s.present r).length
  if !runningCode (s.code c) || s.held c then s
  else if !bit (s.cw c GRP_CTL) 4 then
    if s.someShed r then s.addPhase r else s
  else
    let add : Int := (s.cw c (STEPPE_ADD + (n - 1))).toInt
    let shed : Int := (s.cw c (STEPPE_SHED + (n - 2))).toInt
    let room := decide (n < r.phases.length)
    if room && (decide ((add : Rat) < current) || decide (n < (s.cw c GRP_NMIN).toNat)) then s.addPhase r
    else if (s.grp c).fading.isNone && decide (2 ≤ n) && decide ((s.cw c GRP_NMIN).toNat < n) && decide (current < (shed : Rat)) &&
        s.expired (.dwell c) (s.cw c GRP_DWELL) then s.shedPhase r
    else s

/-! ### Frequency (R137, R156 to R158) -/

/-- The frequency that a period on the 78.125 ps grid gives (R137). -/
def gridFreq (f : Rat) : Rat := if f ≤ 0 then 0 else
  let n := roundAway (12800000000 / f)
  if n ≤ 0 then f else 12800000000 / (n : Rat)

/-- SYNC_IN is not used, nor kept as valid, while SYNCEN is 0 (R156). -/
def State.dropSync (s : State) (c : Nat) : State := if s.syncOn c then s else s.setGrp c (fun v => { v with sync := none, aligned := false })

/-- The frequency of a switching group moves towards SYNC_IN while it is valid, else GRP.FSW, by at most 2 % of GRP.FSW per ms, and GRP.FMEAS shows it (R133, R158). -/
def State.freqTick (s : State) (r : CtxRec) : State :=
  let c := r.ctx
  let s := s.dropSync c
  if (s.active r).isEmpty then s.measure (ctxAddr c GRP_FMEAS) 0
  else
    let g := s.grp c
    let fsw := ef (s.cw c GRP_FSW)
    let d := fsw / 5000
    let f := g.freq + clampRat (-d) d (g.sync.getD fsw - g.freq)
    (s.setGrp c (fun v => { v with freq := f })).measure (ctxAddr c GRP_FMEAS) (toEF (gridFreq f))

/-! ### Imbalance (R142) -/

/-- The deviations of a group's switching phases added to the block at a shelf tick. -/
def State.balanceTick (s : State) (r : CtxRec) : State :=
  let c := r.ctx
  if !runningCode (s.code c) then s
  else
    let act := s.active r
    let n : Rat := (act.length : Nat)
    let mean := (act.foldl (fun a p => a + pu (s.reg (PH_IMEAS + p))) 0) / n
    s.setGrp c (fun v => { v with
      blockTicks := v.blockTicks + 1, blockSum := act.map (fun p => (p, (find v.blockSum p).getD 0 + (pu (s.reg (PH_IMEAS + p)) - mean))) })

/-! ### Thermal stop (R166 to R168) -/

/-- A served zone at its warning level flags the group (R166). -/
def State.groupWarn (s : State) (r : CtxRec) : State := s.stsOffer r.ctx 12

/-- A served zone at its shut-down level: Thermal stop from Soft start or a running state, held or not, RETRYCNT kept; the class 2 fault is the zone's (R167, R374). -/
def State.groupThermal (s : State) (r : CtxRec) : State :=
  if switchingCode (s.code r.ctx) && !(s.grp r.ctx).cutStop then (((s.groupStop r .hiZ).setCode r.ctx 8).setHeld r.ctx false).sts r.ctx 13 else s

/-- Whether every zone that serves a group reads below its warning level (R168). -/
def State.zonesCool (s : State) (c : Nat) : Bool := match s.image with
  | some im => (im.zonesOf c).all (fun z => s.code z.ctx != 3 && decide (temp (s.cw z.ctx CTX_TMEAS) < temp (s.cw z.ctx ZONE_TWARN)))
  | none => true

/-! ### Fallback loops (R169 to R172) -/

/-- Every switching group moves to its fallback loop: HELD, FALLBACK, shed phases recalled without the effects of R164, MODE and DIR as last stamped (R169, R170). A group that is held already, or stopped at cut-off, stays as it is. -/
def State.toFallback (s : State) : State := s.forEach (s.ofType .group) (fun r s =>
  if switchingCode (s.code r.ctx) && !s.held r.ctx && !(s.grp r.ctx).cutStop then
    (((s.allPhases r).setGrp r.ctx (fun v => { v with mode := s.grpMode r.ctx, dir := s.grpDir r.ctx })).setHeld r.ctx true).sts r.ctx 14
  else s)

/-- The ceiling of a group's peak-current command: GRP.IPKMAX, or the image ILIM while held (R145, R169). -/
def State.ceiling (s : State) (r : CtxRec) : Int :=
  if s.held r.ctx then (((s.image.bind (fun im => im.fallback.find? (·.grp = r.inst))).map FbRec.ilim).getD 0).toInt
  else (s.cw r.ctx GRP_IPKMAX).toInt

/-! ### The core's stop at cut-off (R213) -/

/-- Whether every string in use that a group serves is at cut-off, and there is one. -/
def State.setCut (s : State) (c : Nat) : Bool :=
  let l := (s.served c).filter (fun b => bit (s.cw b.ctx BAT_CTL) 0)
  !l.isEmpty && l.all (fun b => bit (s.cw b.ctx BAT_PSTS) 2)

/-- The core stops a group at cut-off: phases at high impedance, EN_G low, EN cleared; the state becomes Off at a lane's first evaluation; ideal-diode inhibits are released (R213, R228). -/
def State.cutStop (s : State) (r : CtxRec) : State :=
  let s1 := (((s.groupStop r .hiZ).setFlag (ctxAddr r.ctx GRP_CTL) 0 false).setGrp r.ctx (fun v => { v with cutStop := true, cutDone := true, en := false })).setHeld r.ctx false
  { s1 with inhibit := [] }

/-- A group of a set at cut-off is stopped once it does not charge; the stop does not act again before a member has left cut-off (R213, R252). -/
def State.cutCheck (s : State) (r : CtxRec) : State :=
  if !(s.grp r.ctx).cutDone && s.setCut r.ctx && s.grpEn r.ctx && !((s.grp r.ctx).mode == 1 && (s.grp r.ctx).dir) then s.cutStop r else s

/-! ### The tick (R105, R161, R168, R171) -/

/-- What the core does for a group at a shelf tick: frequency, and the tick's current sum starts again. -/
def State.groupCoreTick (s : State) (r : CtxRec) : State := s.freqTick r

/-- What the lane does for a group at a shelf tick: a group stopped at cut-off reads Off, Thermal stop is left when its zones are cool, the imbalance block and shedding advance. The mean of the signed currents, and then its magnitude (DESIGN CHOICE, log 154). -/
def State.groupTick (s : State) (r : CtxRec) : State :=
  let c := r.ctx
  let g := s.grp c
  let mean : Rat := (g.sumI.natAbs : Rat) / (g.nI : Rat)
  let s0 := s.setGrp c (fun v => { v with sumI := 0, nI := 0 })
  let s1 := if g.cutStop && s0.code c != 0 && s0.code c != 7 then s0.setCode c 0 else s0
  let s2 := if s1.code c = 8 ∧ (s1.grp c).en ∧ s1.zonesCool c then s1.softStart r true else s1
  (s2.balanceTick r).shedTick r mean

/-! ### Meanings -/

/-- GROUP_ENABLE: EN as latched at the last frame is 1, in Off, with a lane (R148, R151). -/
def execGroupEnable (c t : Nat) (s : State) : Host.Outcome State Fault Refusal :=
  let s := s.at t
  finish s (match s.works, s.group? c with
    | true, some r => if (s.grp c).en && s.code c == 0 then s.groupOn r else s
    | _, _ => s)

/-- GROUP_DISABLE: EN as latched at the last frame is 0, outside Off: phases at high impedance, EN_G low, Off (R151, R153). A held group waits for its return (R149). -/
def execGroupDisable (c t : Nat) (s : State) : Host.Outcome State Fault Refusal :=
  let s := s.at t
  finish s (match s.works, s.group? c with
    | true, some r => if !(s.grp c).en && s.code c != 0 && !s.held c then s.groupTo r 0 else s
    | _, _ => s)

/-- GROUP_POWER_GOOD: eight frames at or above GRP.VPG (R150), from which it has held (R152); Soft start moves to its running state. -/
def execGroupPowerGood (c t : Nat) (s : State) : Host.Outcome State Fault Refusal :=
  let s := s.at t
  finish s (match s.group? c with
    | some r =>
      if switchingCode (s.code c) && !(s.grp c).cutStop && decide (8 ≤ s.count (.pgUp c)) then
        let s1 := (s.setGrp c (fun v => { v with powerGood := true })).startOnce (.pgHeld c)
        if s1.code c == 1 && s1.works && !s1.held c then s1.groupRuns r else s1
      else s
    | none => s)

/-- GROUP_POWER_GOOD_LOST: eight frames below GRP.VPG - 0.01 pu (R150), which ends the hold of R152 in every operating state; a lane sets PGLOST in a running state and raises a class 3 fault (R151). -/
def execGroupPowerGoodLost (c t : Nat) (s : State) : Host.Outcome State Fault Refusal :=
  let s := s.at t
  finish s (if s.isType c .group && (s.grp c).powerGood && decide (8 ≤ s.count (.pgDown c)) then
    let s1 := s.stop (.pgHeld c)
    if !s1.works || s1.held c then s1
    else
      let s2 := s1.setGrp c (fun v => { v with powerGood := false })
      if runningCode (s2.code c) then (s2.sts c 5).laneRaise 3 c none 301 else s2
  else s)

/-- SOFT_START_TIMEOUT: GRP.SSTO reached without power-good: Hiccup while retries are left, else Latched (R151, R152, R174). -/
def execSoftStartTimeout (c t : Nat) (s : State) : Host.Outcome State Fault Refusal :=
  let s := s.at t
  finish s (match s.works, s.group? c with
    | true, some r =>
      if s.code c == 1 && !s.held c && s.expired (.softStart c) (s.cw c GRP_SSTO) && decide (s.count (.pgUp c) < 8) then
        if (s.cw c GRP_RETRYCNT).toNat < (s.cw c GRP_RETRY).toNat then
          ((((s.groupStop r .hiZ).setCode c 6).inc (ctxAddr c GRP_RETRYCNT)).start (.hiccup c)).stsOffer c 6
        else
          let s1 := s.applySafe c
          (if s1.code c == 7 then s1 else (s1.groupTo r 7).sts c stsGroupLatch).laneRaise 3 c none 302
      else s
    | _, _ => s)

/-- HICCUP_END: GRP.HICCUP elapsed: Soft start again with the retry count kept (R151). -/
def execHiccupEnd (c t : Nat) (s : State) : Host.Outcome State Fault Refusal :=
  let s := s.at t
  finish s (match s.works, s.group? c with
    | true, some r => if s.code c == 6 && (s.grp c).en && s.expired (.hiccup c) (s.cw c GRP_HICCUP) then s.softStart r true else s
    | _, _ => s)

/-- GROUP_RETRYCNT_CLEAR: power-good held for 1 s (R152). -/
def execGroupRetrycntClear (c t : Nat) (s : State) : Host.Outcome State Fault Refusal :=
  let s := s.at t
  finish s (if s.works && s.isType c .group && (s.grp c).powerGood && s.expiredTicks (.pgHeld c) ticksPerSecond then s.setC c GRP_RETRYCNT 0 else s)

/-- The group that a phase belongs to. -/
def State.groupOfPhase (s : State) (p : Nat) : Option CtxRec := (s.ofType .group).find? (fun r => r.phases.contains p)

/-- The threshold of a phase's window comparator that a voltage across its sense resistor (nV) lies beyond, if any; true for the reverse one; GRP.PHTRIP acts from the period after its write (R134, R154, R174). -/
def State.phaseCrossing (s : State) (r : CtxRec) (nv : Int) : Option Bool :=
  let i := s.puI r.ctx ((nv : Rat) / 1000000000 / ef (s.cw r.ctx GRP_RSENSE)) * (r.phases.length : Nat)
  let h := pu (s.grp r.ctx).phTrip
  if h < i then some false else if i < -h then some true else none

/-- PHASE_TRIP: the window comparator of a switching phase sees a voltage (nV) beyond a threshold: Low or high impedance for the rest of the period, and the next period skipped (R154). A reverse trip in a skipped period held Low only moves the phase to high impedance. A forward trip after a reverse one in the same period moves it to Low (DEDUCED, log 155). -/
def execPhaseTrip (ph : Nat) (nv : Int) (t : Nat) (s : State) : Host.Outcome State Fault Refusal :=
  let s := s.at t
  finish s (match (s.groupOfPhase ph).bind (fun r => (s.phaseCrossing r nv).map (fun x => (r, x))) with
    | some (r, reverse) =>
      if s.flag (PH_STS + ph) 3 then
        let lv := if reverse then Level.hiZ else Level.low
        let v := s.phase ph
        let next := if v.skipping then (if reverse && v.level == .low then .hiZ else v.level) else lv
        let s1 := s.setPhase ph (fun v => { v with level := next, tripped := v.tripped || !v.skipping })
        (s1.setFlag (PH_STS + ph) (if reverse then 6 else 5) true).sts r.ctx 11
      else s
    | none => s)

/-- PHASE_TRIP_REPEAT: 64 counted periods with a trip raise a class 3 fault against the group, by the core, once until a period without a trip (R155, R346). -/
def execPhaseTripRepeat (ph t : Nat) (s : State) : Host.Outcome State Fault Refusal :=
  let s := s.at t
  finish s (match s.groupOfPhase ph with
    | some r => if 64 ≤ (s.phase ph).trips ∧ (s.phase ph).raised = false then (s.setPhase ph (fun v => { v with raised := true })).coreRaise 3 r.ctx none 303 else s
    | none => s)

/-- One phase at the start of a period (R154, R155): the trip of the last period is counted and this period skipped; after a skipped period the phase switches again; a period without a trip resets the count. -/
def PhaseVar.nextPeriod (v : PhaseVar) : PhaseVar :=
  if v.tripped then { v with tripped := false, skipping := true, trips := v.trips + 1 }
  else if v.skipping then { v with skipping := false, level := .switching }
  else { v with trips := 0, raised := false, level := .switching }

/-- The peak-current command of a group on the phase base from the two demands, before the ceiling (R145). -/
def peakCommand (mode : Nat) (dir low : Bool) (av ai : Int) : Int :=
  if mode = 0 then av
  else if mode = 1 then (if dir then (if low then max ai av else ai) else min ai av)
  else max ai av

/-- What the amplifiers of a group take in at a MODE and DIR (R144): GRP.VCMD, which a held group keeps from the last stamped command, against the output; GRP.ICMD with the sign of DIR, or zero in standby-bidirectional (R145), against the sum of the phase currents; and the compensation of the image. -/
def State.ampIn (s : State) (r : CtxRec) (mode : Nat) (dir : Bool) : AmpIn :=
  let i := (s.cw r.ctx GRP_ICMD).toInt
  let f := s.image.bind (fun im => im.fallback.find? (·.grp = r.inst))
  { vref := (s.cw r.ctx GRP_VCMD).toInt, vfb := (s.cw r.ctx CTX_VMEAS).toInt, iref := if mode = 2 then 0 else if dir then -i else i, ifb := (s.cw r.ctx CTX_IMEAS).toInt, gm := (f.map FbRec.gm).getD 0, fz := (f.map FbRec.fz).getD 0, fp := (f.map FbRec.fp).getD 0 }

/-- Where the turn-on of a phase stands in a period, from where it stood in the last one: at most 1/32 of a period nearer to its place; a phase that starts takes its place at once (R138). -/
def phasePlace (starts : Bool) (old place : Rat) : Rat := if starts then place else old + clampRat (-(1 / 32)) (1 / 32) (place - old)

/-- The ceiling of a phase: the group's, or its linear fall over GRP.FADE periods in a shed transition (R162). -/
def State.phaseCeiling (s : State) (r : CtxRec) (p : Nat) : Rat :=
  let top : Rat := (s.ceiling r : Rat)
  let n : Nat := (s.cw r.ctx GRP_FADE).toNat
  if (s.grp r.ctx).fading = some p then top * (((n - (s.grp r.ctx).faded : Nat) : Rat) / (n : Rat)) else top

/-- Every switching phase of a group for a period: its place, and the command clamped to its own ceiling (R138, R145, R162). -/
def State.placePhases (s : State) (r : CtxRec) (starting : List Nat) (command : Rat) : State :=
  let n : Rat := ((s.active r).length : Nat)
  s.forEach (s.active r).zipIdx (fun x s =>
    let top := s.phaseCeiling r x.1
    s.setPhase x.1 (fun v => { v with pos := phasePlace (starting.contains x.1) v.pos ((x.2 : Rat) / n), peak := clampRat (-top) top command }))

/-- The current at which a phase ends its on-time at a fraction x of its period: slope compensation of GRP.SLOPE per period is subtracted from its command (R145). -/
def State.phaseThreshold (s : State) (r : CtxRec) (p : Nat) (x : Rat) : Rat := (s.phase p).peak - ((s.grp r.ctx).slope : Rat) * x

/-- SWITCHING_PERIOD: added and recalled phases start, MODE and DIR take effect, the peak-current command is formed from the voltage demand av and the current demand ai (2^-16 pu of the phase base, with the sign of their direction), a shed transition advances, the phases take their places, trips are counted, and a group of a set at cut-off that leaves charge operation is stopped (R137, R138, R144, R145, R151, R154, R155, R162, R213). A held group keeps its MODE and DIR (R170). -/
def execSwitchingPeriod (c : Nat) (av ai : Int) (t : Nat) (s : State) : Host.Outcome State Fault Refusal :=
  let s := s.at t
  finish s (match s.group? c with
    | some r =>
      let g := s.grp c
      if g.starting.isEmpty && (s.active r).isEmpty then s
      else
        let s1 := s.forEach (s.active r) (fun p s => s.setPhase p PhaseVar.nextPeriod)
        let s2 := (s1.forEach g.starting (fun p s => s.phaseStart p)).countActive r
        let top := s.ceiling r
        let low := decide ((s.cw c CTX_VMEAS).toInt < (s.cw c GRP_VCMD).toInt)
        let m := s.modeNow c
        let d := s.dirNow c
        let cmd := peakCommand m d low av ai
        let amp := s2.ampIn r m d
        let s3 := s2.setGrp c (fun v => { v with starting := [], mode := m, dir := d, phTrip := s.cw c GRP_PHTRIP, amp := amp, peak := clampInt (-top) top cmd, slope := (s.cw c GRP_SLOPE).toInt, faded := v.faded + b2n v.fading.isSome })
        (s3.placePhases r g.starting (cmd : Rat)).cutCheck r
    | none => s)

/-- PHASE_IMBALANCE_BLOCK_END: after 100 ticks a phase whose mean deviation exceeds 0.25 pu is flagged, and a new block begins (R142). -/
def execPhaseImbalanceBlockEnd (c t : Nat) (s : State) : Host.Outcome State Fault Refusal :=
  let s := s.at t
  finish s (if s.works && s.isType c .group && decide (100 ≤ (s.grp c).blockTicks) then
    let n : Rat := ((s.grp c).blockTicks : Nat)
    let bad := (s.grp c).blockSum.filter (fun p => p.2 / n < -1 / 4 || 1 / 4 < p.2 / n)
    let s1 := s.newBlock c
    if bad.isEmpty then s1 else (s1.forEach bad (fun p s => s.setFlag (PH_STS + p.1) 7 true)).stsOffer c 15
  else s)

/-- Whether a SYNC_IN frequency is valid for a group (R156). -/
def State.syncValid (s : State) (c hz : Nat) : Bool :=
  let f := ef (s.cw c GRP_FSW)
  decide (f * 4 / 5 ≤ (hz : Rat)) && decide ((hz : Rat) ≤ f * 5 / 4) && decide (100000 ≤ hz) && decide (hz ≤ 2000000)

/-- SYNC_ACQUIRE: sixteen valid SYNC_IN edges; the group glides to that frequency (R156). -/
def execSyncAcquire (c hz t : Nat) (s : State) : Host.Outcome State Fault Refusal :=
  let s := s.at t
  finish s (if s.isType c .group && s.syncOn c && s.syncValid c hz then s.setGrp c (fun v => { v with sync := some (hz : Rat), aligned := false }) else s)

/-- SYNC_ALIGNED: phase 0 stands GRP.SYNCPH / 256 of a period after the SYNC_IN edge, for the first time since the acquisition or since another GRP.SYNCPH (R156). -/
def execSyncAligned (c t : Nat) (s : State) : Host.Outcome State Fault Refusal :=
  let s := s.at t
  let ph := (s.cw c GRP_SYNCPH).toNat
  finish s (if s.isType c .group && s.syncOn c && (s.grp c).sync.any (· == (s.grp c).freq) && !((s.grp c).aligned && (s.grp c).turnOn == ph) then
    (s.setGrp c (fun v => { v with aligned := true, turnOn := ph })).sts c 10
  else s)

/-- SYNC_LOSS: SYNC_IN is lost to the group, which glides back to GRP.FSW (R157). -/
def execSyncLoss (c t : Nat) (s : State) : Host.Outcome State Fault Refusal :=
  let s := s.at t
  finish s (if s.isType c .group && (s.grp c).sync.isSome then (s.setGrp c (fun v => { v with sync := none, aligned := false })).stsOffer c 9 else s)

/-- SHED_TRANSITION_END: the shedding phase has run its GRP.FADE periods and carries no more current (R162). It goes to high impedance with the frame it ends in, unless that frame meets a recall condition (R174; DEDUCED, log 136). -/
def execShedTransitionEnd (c t : Nat) (s : State) : Host.Outcome State Fault Refusal :=
  let s := s.at t
  finish s (match s.works, s.group? c, (s.grp c).fading with
    | true, some _, some _ =>
      if (s.cw c GRP_FADE).toNat ≤ (s.grp c).faded then
        s.setGrp c (fun v => { v with shedAt := v.shedAt.or (some s.now) })
      else s
    | _, _, _ => s)

/-- The group's switching frequency is written (R158): clamped and stored; a switching group glides to it at the tick's bound. -/
def State.writeFsw (s : State) (c : Nat) (w : Word) : State := s.store (ctxAddr c GRP_FSW) w

end Sys2Proof.Machine
end

