-- ==== Sys2Proof/Machine/Estimate.lean ====
section
/-! DEFINITION. Battery state estimation (R255 to R276): the coulomb counters, the open-circuit voltage table, the 1 ms evaluation, anchors, capacity learning and the learned-data slots. -/

namespace Sys2Proof.Machine

/-- What the lane keeps of a string. -/
def State.str (s : State) (c : Nat) : StringVar := (find s.lane.strings c).getD {}

/-- The state with what the lane keeps of a string changed. -/
def State.setStr (s : State) (c : Nat) (f : StringVar → StringVar) : State :=
  { s with lane := { s.lane with strings := putKey s.lane.strings c (f (s.str c)) } }

/-- The coulomb counter of a string. -/
def State.coul (s : State) (c : Nat) : Coulomb := (find s.coulomb c).getD {}

/-- BAT.CTL.EN. -/
def State.batEn (s : State) (c : Nat) : Bool := bit (s.cw c BAT_CTL) 0

/-! ### Coulomb counters (R255 to R257) -/

/-- The words of EST.QNET: the net charge in uC, held at the limits of 72 bits (R37, R257). -/
def State.showNet (s : State) (c : Nat) (net : Rat) : State :=
  let q := clampInt (-(2 ^ 71)) (2 ^ 71 - 1) (roundAway (net * 1000000))
  let n := if q < 0 then (q + 2 ^ 72).toNat else q.toNat
  let s1 := s.setWide (ctxAddr c EST_QNET) 4 n
  (List.range 4).foldl (fun s k => { s with updated := assign 0 s.updated (ctxAddr c EST_QNET + k) s.now }) s1

/-- The net charge held where EST.QNET saturates (R257). -/
def netLimit (q : Rat) : Rat := clampRat (-((2 : Rat) ^ 71) / 1000000) (((2 : Rat) ^ 71 - 1) / 1000000) q

/-- The charge in coulombs of a difference of the accumulator through a shunt. -/
def chargeOf (d : BitVec 64) (rshunt : Rat) : Rat := (d.toInt : Rat) / 1000000000000000 / rshunt

/-- One frame of a coulomb counter: 1 us of the sense voltage in nV enters the accumulator, and its charge EST.QNET. -/
def State.countCharge (s : State) (c : Nat) (sense : Int) : State :=
  let q := s.coul c
  let d := BitVec.ofInt 64 sense
  let charge := chargeOf d (ef (s.cw c EST_RSHUNT))
  let net := netLimit (q.net + charge)
  { s with coulomb := putKey s.coulomb c { raw := q.raw + d, acc := q.acc + charge, net := net } }.showNet c net

/-! ### 1 ms values and 1-s means (R239, R263) -/

/-- The mean of a list; 0 of an empty one. -/
def meanOf (l : List Rat) : Rat := if l.isEmpty then 0 else l.foldl (· + ·) 0 / ((l.length : Nat) : Rat)

/-- A frame's voltage and current words added to the running millisecond; at its end the 1 ms values join the last second. -/
def State.sampleString (s : State) (c : Nat) (last : Bool) : State :=
  s.setStr c fun v =>
    let sv := v.sumV + (s.cw c CTX_VMEAS).toInt
    let si := v.sumI + (s.cw c CTX_IMEAS).toInt
    let n := v.n + 1
    if last then
      let d : Rat := 65536 * (n : Rat)
      { v with sumV := 0, sumI := 0, n := 0, vs := ((sv : Rat) / d :: v.vs).take 1000, is := ((si : Rat) / d :: v.is).take 1000 }
    else { v with sumV := sv, sumI := si, n := n }

/-- The 1-s mean voltage of a string, in pu. -/
def State.meanV (s : State) (c : Nat) : Rat := meanOf (s.str c).vs

/-- The 1-s mean current of a string, in pu, positive in discharge. -/
def State.meanI (s : State) (c : Nat) : Rat := meanOf (s.str c).is

/-! ### The open-circuit voltage table (R260 to R262) -/

/-- The breakpoints of the table. -/
def socPoints : List Rat := [0, 1/20, 1/10, 1/5, 2/5, 3/5, 4/5, 1]

/-- The table of a string: breakpoints with their rest voltages. -/
def State.ocvTable (s : State) (inst : Nat) : List (Rat × Rat) :=
  socPoints.zipIdx.map fun p => (p.1, pu (s.reg (EST_OCV + 8 * inst + p.2)))

/-- Piecewise-linear interpolation of a table of points with rising first entries, held at its ends. -/
def interp : List (Rat × Rat) → Rat → Rat
  | [], _ => 0
  | [p], _ => p.2
  | p :: q :: r, x =>
    if x ≤ p.1 then p.2
    else if x < q.1 then p.2 + (q.2 - p.2) * (x - p.1) / (q.1 - p.1)
    else interp (q :: r) x

/-- ocv(s) (R262). -/
def State.ocv (s : State) (inst : Nat) (x : Rat) : Rat := interp (s.ocvTable inst) x

/-- ocvinv(v) (R262). -/
def State.ocvInv (s : State) (inst : Nat) (v : Rat) : Rat := interp ((s.ocvTable inst).map (fun p => (p.2, p.1))) v

/-- The gradient of the table segment that holds a state of charge, in pu per pu (R267). -/
def slopeAt : List (Rat × Rat) → Rat → Rat
  | p :: q :: r, x => if x < q.1 ∨ r.isEmpty then (q.2 - p.2) / (q.1 - p.1) else slopeAt (q :: r) x
  | _, _ => 0

/-! ### Learned data (R270 to R273) -/

/-- Start of a learned-data slot; true is B. -/
def lrnBase (b : Bool) : Nat := if b then 0x140100 else 0x140000

/-- Whether the 256 bytes of a slot are valid (R272). -/
def lrnValid (bs : List Byte) : Bool :=
  bs.take 4 == [0x4C, 0x52, 0x4E, 0x44] && ofLe ((bs.drop 10).take 2) == 256 && crc32 (bs.take 252) == ofLe ((bs.drop 252).take 4)

/-- The bytes of a slot. -/
def State.lrnBytes (s : State) (b : Bool) : List Byte := s.readMram (lrnBase b) 256

/-- SEQ of a slot. -/
def lrnSeq (bs : List Byte) : Nat := ofLe ((bs.drop 4).take 4)

/-- The slot a commit goes to: not the kept one, else the invalid one, else the one of lower SEQ; with the SEQ it is given (R271, R273). -/
def State.lrnTarget (s : State) : Bool × Nat :=
  let a := s.lrnBytes false
  let b := s.lrnBytes true
  let va := lrnValid a
  let vb := lrnValid b
  let t := match s.learned.kept with
    | some k => !k
    | none => if !va then false else if !vb then true else decide (lrnSeq b < lrnSeq a)
  let other := if t then (if va then lrnSeq a else 0) else (if vb then lrnSeq b else 0)
  (t, (other + 1) % 2 ^ 32)

/-- A word as the three bytes of a W3 field (R65). -/
def w3 (w : Word) : List Byte := wordBytes w 0

/-- The record of one string (R270). -/
def State.lrnRecord (s : State) (inst : Nat) : List Byte := match s.inst? .string inst with
  | some c =>
    let v := s.str c
    let learned := bits (s.cw c EST_STS) 1 0 == 1
    [BitVec.ofNat 8 inst, BitVec.ofNat 8 (1 + 2 * b2n learned)] ++ leBytes 2 (min 65535 v.lrnCnt) ++ w3 (s.cw c EST_QCAP) ++ w3 (toPU v.soc) ++
      w3 (toPU v.unc) ++ w3 (if learned then v.qnom else s.cw c EST_QNOM) ++ leBytes 7 v.ancht ++ [BitVec.ofNat 8 (bits (s.cw c EST_STS) 5 4)] ++ zeros 4
  | none => BitVec.ofNat 8 inst :: zeros 27

/-- The 256 bytes of a slot from the present state (R270), under a sequence number. -/
def State.lrnContent (s : State) (seq : Nat) : List Byte :=
  let body := [0x4C, 0x52, 0x4E, 0x44] ++ leBytes 4 seq ++ leBytes 2 ((s.image.map Image.setVer).getD 0) ++ leBytes 2 256 ++ zeros 4 ++
    (List.range 8).flatMap s.lrnRecord ++ zeros 12
  body ++ leBytes 4 (crc32 body)

/-- SOCRAW of every string noted as committed (R271). -/
def State.noteCommitted (s : State) : State := s.forEach (s.ofType .string) (fun r s => s.setStr r.ctx (fun v => { v with committed := v.soc }))

/-- A learned-data commit requested: started at once where none runs and VRES allows, else pending with the latest state (R23, R271). -/
def State.lrnRequest (s : State) : State :=
  let bs := s.lrnContent (s.lrnTarget).2
  let s1 := s.noteCommitted.setFlag LRN_STS 4 true
  if s1.learned.busy.isNone && s1.vresOk then { s1 with learned := { s1.learned with busy := some bs } }
  else { s1 with learned := { s1.learned with next := some bs } }

/-- A pending commit starts when none runs and VRES allows (R23). -/
def State.lrnStart (s : State) : State := match s.learned.busy, s.learned.next, s.vresOk with
  | none, some bs, true => { s with learned := { s.learned with busy := some bs, next := none } }
  | _, _, _ => s

/-- The bytes of the commit in progress in their slot, with the sequence number the slot then gets: what VRES guarantees once a commit has started (R23, R271). -/
def State.lrnDurable (s : State) : State := match s.learned.busy with
  | none => s
  | some bs =>
    let t := s.lrnTarget
    let body := bs.take 4 ++ leBytes 4 t.2 ++ (bs.drop 8).take 244
    s.writeMram (lrnBase t.1) (body ++ leBytes 4 (crc32 body))

/-- The commit in progress reaches its slot: LRN.STS, LRN.SEQ and LRN.CNT follow (R271, R274). -/
def State.lrnFinish (s : State) : State := match s.learned.busy with
  | none => s
  | some _ =>
    let t := s.lrnTarget
    let s2 := ((s.lrnDurable.setFlag LRN_STS 0 t.1).setFlag LRN_STS (if t.1 then 2 else 1) true).setReg LRN_SEQ (Word.ofNat t.2)
    let s3 := { s2.inc LRN_CNT with learned := { s2.learned with busy := none } }
    (s3.lrnStart).setFlag LRN_STS 4 (s3.learned.next.isSome)

/-! ### Publication and anchors (R263 to R269) -/

/-- The clamped and rounded words of the estimator published (R263). -/
def State.publish (s : State) (c : Nat) (soc idlim : Rat) : State :=
  let v := s.str c
  (((s.measure (ctxAddr c EST_SOCRAW) (toPU v.soc)).measure (ctxAddr c EST_UNC) (toPU v.unc)).measure (ctxAddr c EST_SOC) (toPU soc)).measure (ctxAddr c EST_IDLIM) (toPU idlim)

/-- Learning that is armed is cancelled (R269). -/
def State.disarm (s : State) (c : Nat) : State := s.setFlag (ctxAddr c EST_STS) 2 false

/-- An anchor of a kind: SOCRAW and UNC, ANCH, ANCHOR with its record, and a commit request (R265). -/
def State.anchor (s : State) (c kind : Nat) (soc unc : Rat) : State :=
  let s1 := s.setStr c (fun v => { v with soc := soc, unc := unc, uncRaised := false, fresh := false, ancht := s.now, anchored := if kind = 3 then v.anchored else some s.now })
  let s2 := ((s1.setFld (ctxAddr c EST_STS) 5 4 kind).measure (ctxAddr c EST_SOCRAW) (toPU soc)).measure (ctxAddr c EST_UNC) (toPU unc)
  (s2.stsOffer c 16).lrnRequest

/-- The full anchor, which arms learning where LRNEN is 1 (R265, R268). -/
def State.anchorFull (s : State) (c : Nat) : State :=
  let s1 := if bit (s.cw c EST_CTL) 1 then (s.setFlag (ctxAddr c EST_STS) 2 true).setStr c (fun v => { v with qstart := (s.coul c).acc, qret := 0, emptyAt := none }) else s
  s1.anchor c 1 1 (655 / 65536)

/-- The zero of EST.SOC: ocvinv (vcut + il rint / vbase). -/
def State.socZero (s : State) (r : CtxRec) : Rat :=
  let c := r.ctx
  let il := max 0 (s.meanI c) * ef (s.cw c CTX_IBASE)
  s.ocvInv r.inst (pu (s.cw c BAT_VCUT) + il * ef (s.cw c EST_RINT) / ef (s.cw c CTX_VBASE))

/-- A complete discharge judged at the evaluation that takes in its empty anchor: learning that is still armed ends with the capacity accepted, or discarded with a class 8 fault (R268, R276). -/
def State.learn (s : State) (c : Nat) : State := match (s.str c).emptyAt, bit (s.cw c EST_STS) 2 with
  | some (acc, socz), true =>
    let s1 := (s.disarm c).setStr c (fun v => { v with emptyAt := none })
    let q := (acc - (s.str c).qstart) / (1 - socz)
    let nom := ef (s.cw c EST_QNOM)
    if nom / 2 ≤ q ∧ q ≤ nom * 6 / 5 then
      let s2 := (s1.setC c EST_QCAP (toEF q)).setFld (ctxAddr c EST_STS) 1 0 1
      ((s2.setStr c (fun v => { v with lrnCnt := min 65535 (v.lrnCnt + 1), qnom := s.cw c EST_QNOM })).stsOffer c 17).lrnRequest
    else s1.laneRaise 8 c none 801
  | _, _ => s.setStr c (fun v => { v with emptyAt := none })

/-- The empty anchor at cut-off, once per cut-off, at the zero of the last evaluation before it; where none was made, at the present zero (R265, R275). -/
def State.anchorEmpty (s : State) (r : CtxRec) (before : Option Rat) : State :=
  let c := r.ctx
  let z := before.getD (s.socZero r)
  ((s.setStr c (fun v => { v with emptied := true, emptyAt := some ((s.coul c).acc, z) })).anchor c 2 z (655 / 65536)).setC c EST_SOC 0

/-- The anchor at rest (R265). -/
def State.anchorRest (s : State) (c : Nat) (soc uocv : Rat) : State := s.anchor c 3 soc (min (s.str c).unc uocv)

/-! ### The evaluation (R263, R264, R266, R275) -/

/-- One evaluation of a string's estimator. A string whose SOCRAW waits for its first 1-s mean is not evaluated before (R272). -/
def State.estimate (s : State) (r : CtxRec) : State :=
  let c := r.ctx
  let v := s.str c
  let acc := (s.coul c).acc
  if v.fresh && decide (v.vs.length < 1000) then s.setStr c (fun v => { v with acc := acc, evalAt := s.now })
  else
    let qcap := ef (s.cw c EST_QCAP)
    let dq := acc - v.acc
    let soc0 := if v.fresh then s.ocvInv r.inst (s.meanV c) else v.soc
    let late := decide (v.evalAt + 200000 < s.now)
    let secs : Rat := if late then ((s.now - v.evalAt : Nat) : Rat) / ticksPerSecond else 1 / 1000
    let i := if late then dq / secs else (v.is.headD 0) * ef (s.cw c CTX_IBASE)
    let soc := clampRat 0 1 (soc0 - dq / qcap)
    let unc := min 1 (v.unc + (1 / 1000000 / ef (s.cw c EST_RSHUNT) + 2 / 1000 * (if i < 0 then -i else i)) * secs / qcap)
    let z := s.socZero r
    let show_ := if 1 ≤ z ∨ soc ≤ z then 0 else (soc - z) / (1 - z)
    let lim := clampRat 0 (131071 / 65536) ((s.ocv r.inst soc - pu (s.cw c BAT_VCUT)) * ef (s.cw c CTX_VBASE) / (ef (s.cw c EST_RINT) * ef (s.cw c CTX_IBASE)))
    let ret := if bit (s.cw c EST_STS) 2 then v.qret + max 0 (-dq) else v.qret
    let s1 := s.setStr c (fun v => { v with soc := soc, unc := unc, socz := some z, fresh := false, acc := acc, evalAt := s.now, qret := ret })
    let s2 := s1.publish c show_ (if show_ = 0 then 0 else lim)
    let s3 := if bit (s2.cw c EST_STS) 2 && decide (qcap / 100 < ret) then s2.disarm c else s2
    let quiet := decide (-(pu (s3.cw c EST_IREST)) < s3.meanI c) && decide (s3.meanI c < pu (s3.cw c EST_IREST))
    let s4 := if quiet then s3.startOnce (.rest c) else (s3.stop (.rest c)).setFlag (ctxAddr c EST_STS) 3 false
    let cut := bit (s4.cw c BAT_PSTS) 2
    let s5 := s4.onlyIf ((cut && !v.emptied) || v.emptyOwed) (fun s => s.anchorEmpty r v.socz)
    let s6 := (s5.setStr c (fun v => { v with emptied := v.emptied && cut, emptyOwed := false })).learn c
    if decide (13107 ≤ (toPU (s6.str c).unc).toInt) && !(s6.str c).uncRaised then (s6.setStr c (fun v => { v with uncRaised := true })).laneRaise 8 c none 802 else s6

/-! ### A start without a checkpoint (R272) -/

/-- A string as unlearned: nominal capacity, SOCRAW from the first 1-s mean, UNC 0.25 pu. -/
def State.unlearned (s : State) (c : Nat) : State :=
  let s1 := ((s.setC c EST_QCAP (s.cw c EST_QNOM)).setC c EST_STS 0).setC c EST_UNC 0x04000
  s1.setStr c (fun _ => { acc := (s.coul c).acc, unc := 1 / 4 })

/-- The three bytes at an offset as a word. -/
def w3At (bs : List Byte) (o : Nat) : Word := bytesWord (bs.getD o 0) (bs.getD (o + 1) 0) (bs.getD (o + 2) 0)

/-- A string from its record: QCAP, SOCRAW, LRNCNT and STATE, UNC 0.02 pu higher; unlearned where the record has no such string, or a capacity learned under another QNOM. Class 8 waits for the next anchor where the record has none or had reached 0.2 pu (R264). -/
def State.fromRecord (s : State) (r : CtxRec) (bs : List Byte) : State :=
  let c := r.ctx
  let rec_ := (bs.drop (16 + 28 * r.inst)).take 28
  let flags := (rec_.getD 1 0).toNat
  let learned := flags / 2 % 2
  if flags % 2 = 0 ∨ (learned = 1 ∧ w3At rec_ 13 ≠ s.cw c EST_QNOM) then s.unlearned c
  else
    let anch := (rec_.getD 23 0).toNat % 4
    let soc := pu (w3At rec_ 7)
    let unc := min 1 (pu (w3At rec_ 10) + 2 / 100)
    let s1 := (s.setC c EST_QCAP (if learned = 1 then w3At rec_ 4 else s.cw c EST_QNOM)).setC c EST_STS (Word.ofNat (learned + 16 * anch))
    let s2 := s1.setStr c (fun _ => { acc := (s.coul c).acc, evalAt := s.now, soc := soc, unc := unc, fresh := false, lrnCnt := ofLe ((rec_.drop 2).take 2), ancht := ofLe ((rec_.drop 16).take 7), qnom := w3At rec_ 13, committed := soc, uncRaised := anch == 0 || decide (13107 ≤ (w3At rec_ 10).toInt) })
    (s2.setC c EST_SOCRAW (toPU soc)).setC c EST_UNC (toPU unc)

/-- The words of a string's record that a migration record of KIND 2 names, as word j of string n at offset 16 n + j: QCAP, SOCRAW, UNC, QNOM, LRNCNT, STATE, FLAGS (DESIGN CHOICE, log 39). -/
def lrnWords (bs : List Byte) (n : Nat) : List Word :=
  let r := (bs.drop (16 + 28 * n)).take 28
  [w3At r 4, w3At r 7, w3At r 10, w3At r 13, Word.ofNat (ofLe ((r.drop 2).take 2)), Word.ofNat (r.getD 23 0).toNat, Word.ofNat (r.getD 1 0).toNat]

/-- One string's record from its words. -/
def lrnFromWords (n : Nat) (w : Nat → Word) : List Byte :=
  [BitVec.ofNat 8 n, BitVec.ofNat 8 (w 6).toNat] ++ leBytes 2 (w 4).toNat ++ w3 (w 0) ++ w3 (w 1) ++ w3 (w 2) ++ w3 (w 3) ++ List.replicate 7 0 ++ [BitVec.ofNat 8 (w 5).toNat] ++ List.replicate 4 0

/-- The word of a learned-data slot at a migration offset (DESIGN CHOICE, log 39). -/
def lrnWordAt (bs : List Byte) (o : Nat) : Option Word := if o < 128 then (lrnWords bs (o / 16))[o % 16]? else none

/-- A string from what the KIND 2 records name of it: an unlearned string with the named words put in; with none named, unlearned (R90, R272). -/
def State.fromMigrated (s : State) (r : CtxRec) (named : List (Nat × Word)) : State :=
  let c := r.ctx
  let w (k : Nat) : Option Word := named.reverse.findSome? (fun p => if p.1 = 16 * r.inst + k then some p.2 else none)
  if !(List.range 7).any (fun k => (w k).isSome) then s.unlearned c
  else
    let cold : List Word := [s.cw c EST_QNOM, 0, 0x04000, s.cw c EST_QNOM, 0, 0, 1]
    let s1 := s.fromRecord r (zeros (16 + 28 * r.inst) ++ lrnFromWords r.inst (fun k => (w k).getD (cold.getD k 0)))
    let s2 := s1.onlyIf (w 1).isNone (fun s => s.setStr c (fun v => { v with fresh := true }))
    s2.onlyIf (w 2).isNone (fun s => (s.setC c EST_UNC 0x04000).setStr c (fun v => { v with unc := 1 / 4 }))

/-- The newest learned data: the valid slot of higher SEQ, and whether it is slot B (R272). -/
def State.newestLearned (s : State) : Option (Bool × List Byte) :=
  let a := s.lrnBytes false
  let b := s.lrnBytes true
  match lrnValid a, lrnValid b with
  | true, true => if lrnSeq a < lrnSeq b then some (true, b) else some (false, a)
  | true, false => some (false, a)
  | false, true => some (true, b)
  | false, false => none

/-- The learned data of one string at a cold start: its record of the newest slot as it is under the image's SETVER, migrated under another with the ratios of bases that each old version gives, unlearned without a valid slot (R91, R272). -/
def State.coldLearned (s : State) (im : Image) (r : CtxRec) (ratio : Nat → Nat → Nat → Rat) : State := match s.newestLearned with
  | some (_, bs) =>
    let ver := ofLe ((bs.drop 8).take 2)
    if ver = im.setVer then s.fromRecord r bs else s.fromMigrated r (migrated im 2 ver (lrnWordAt bs) (ratio ver))
  | none => s.unlearned r.ctx

/-- The learned data of a start without a restored checkpoint, with what LRN shows of the slots; without a valid one class 8 is raised (R272). -/
def State.estimatorStart (s : State) (im : Image) (ratio : Nat → Nat → Nat → Rat) : State :=
  let s1 := (s.setFlag LRN_STS 1 (lrnValid (s.lrnBytes false))).setFlag LRN_STS 2 (lrnValid (s.lrnBytes true))
  let s2 := match s.newestLearned with
    | some (b, bs) => (s1.setFlag LRN_STS 0 b).setReg LRN_SEQ (Word.ofNat (lrnSeq bs))
    | none => s1
  let s3 := s2.forEach (im.ofType .string) (fun r s => s.coldLearned im r ratio)
  if s.newestLearned.isSome then s3 else (s3.setFlag LRN_STS 5 true).laneRaise 8 0 none 803

/-! ### Meanings -/

/-- ESTIMATOR_EVALUATION: every string, once per millisecond (R263). -/
def execEstimatorEvaluation (t : Nat) (s : State) : Host.Outcome State Fault Refusal :=
  let s := s.at t
  finish s (if s.works then s.forEach (s.ofType .string) (fun r s => s.estimate r) else s)

/-- REST_CORRECTION: the rest condition has held for EST.TREST; corrected where OCVEN is 1 and the table is steep enough (R266, R267), and no full or empty anchor has been made since the last evaluation (R276). -/
def execRestCorrection (c t : Nat) (s : State) : Host.Outcome State Fault Refusal :=
  let s := s.at t
  finish s (match s.works && s.expired (.rest c) (s.cw c EST_TREST), (s.ctx? c).filter (·.typ = .string) with
    | true, some r =>
      let s1 := (s.setFlag (ctxAddr c EST_STS) 3 true).start (.rest c)
      let soc := s1.ocvInv r.inst (s1.meanV c)
      let uocv := 2 / 1000 / slopeAt (s1.ocvTable r.inst) soc
      let overruled := (s1.str c).anchored.any (fun at_ => decide ((s1.str c).evalAt ≤ at_))
      if bit (s1.cw c EST_CTL) 0 && decide (uocv < (s1.str c).unc) && !overruled then s1.anchorRest c soc uocv else s1
    | _, _ => s)

/-- EST.QNET cleared (R257). -/
def State.qclr (s : State) (c : Nat) : State :=
  { s with coulomb := putKey s.coulomb c { s.coul c with net := 0 } }.showNet c 0

/-- The learned capacity discarded (R258). -/
def State.relearn (s : State) (c : Nat) : State := (s.setC c EST_QCAP (s.cw c EST_QNOM)).setFld (ctxAddr c EST_STS) 1 0 0

/-- LEARNED_COMMIT_PERIODIC: every 60 s, when some SOCRAW has moved by more than 0.01 pu since the last commit (R271). -/
def execLearnedCommitPeriodic (t : Nat) (s : State) : Host.Outcome State Fault Refusal :=
  let s := s.at t
  let moved := (s.ofType .string).any (fun r => let d := (s.str r.ctx).soc - (s.str r.ctx).committed; d < -1 / 100 || 1 / 100 < d)
  let due := !s.running .lrnPeriod || s.expiredTicks .lrnPeriod (60 * ticksPerSecond)
  finish s (if s.works && due then (if moved then s.lrnRequest else s).start .lrnPeriod else s)

/-- LEARNED_COMMIT_DONE: the 256 bytes are in their slot (R271). -/
def execLearnedCommitDone (t : Nat) (s : State) : Host.Outcome State Fault Refusal :=
  let s := s.at t
  finish s s.lrnFinish

end Sys2Proof.Machine
end

