-- ==== Sys2Proof/Machine/Strings.lean ====
section
/-! DEFINITION. Battery strings: roles and states, measured words, cut-off, direct-hang strings and their failed attempts, and the permitted discharge current (R206 to R216, R248). -/

namespace Sys2Proof.Machine

/-- The record of a context if it is a battery string. -/
def State.string? (s : State) (c : Nat) : Option CtxRec := (s.ctx? c).filter (·.typ = .string)

/-- Whether a string is served by a converter group (R206). -/
def State.servedBy (s : State) (r : CtxRec) : Option CtxRec := match s.image with
  | some im => (im.servingOf r).bind im.ctx?
  | none => none

/-- BAT.PSTS.CUT. -/
def State.isCut (s : State) (c : Nat) : Bool := bit (s.cw c BAT_PSTS) 2

/-- BAT.PSTS.CUT cleared; an empty anchor that no lane has applied yet is owed to the next evaluation (R213, R275). -/
def State.clearCut (s : State) (c : Nat) : State :=
  (s.setFlag (ctxAddr c BAT_PSTS) 2 false).onlyIf (s.isCut c && !(s.str c).emptied) (fun s => s.setStr c (fun v => { v with emptyOwed := true }))

/-- Whether a string stands at or below BAT.VCUT now. -/
def State.belowCut (s : State) (c : Nat) : Bool := decide ((s.cw c CTX_VMEAS).toInt ≤ (s.cw c BAT_VCUT).toInt)

/-- The measured words of a string from its coulomb front end, its charge, and the cut-off counts (R209, R213, R255). -/
def State.frameString (s : State) (r : CtxRec) (sense ccn : Int) (msEnd : Bool) : State :=
  let c := r.ctx
  let in_ := clampInt (-100000000) 100000000 sense
  let amps : Rat := (in_ : Rat) / 1000000000 / ef (s.cw c EST_RSHUNT)
  let s1 := ((s.principal c ((ccn : Rat) / 1000000) amps).onlyIf (senseOver 100000000 sense) (fun s => s.sts c 2)).countCharge c in_
  let v := (s1.cw c CTX_VMEAS).toInt
  let s2 := s1.qualify (.cutLow c) (s1.batEn c && s1.belowCut c)
  let s3 := s2.qualify (.cutHigh c) (decide ((s2.cw c BAT_VCUT).toInt + (s2.cw c BAT_VCUTHYS).toInt ≤ v))
  if s3.laneRuns then s3.sampleString c msEnd else s3

/-! ### Permitted discharge current (R211, R248) -/

/-- The temperature of a string in kelvin, if it reads neither stale nor absent (R240). -/
def State.stringTemp (s : State) (c : Nat) : Option Rat :=
  let r := s.read (ctxAddr c CTX_TMEAS)
  if r.2 = 1 ∨ r.2 = 3 then none else some (temp r.1)

/-- The factor fd (R248). -/
def State.dischargeFactor (s : State) (c : Nat) : Rat := match s.stringTemp c with
  | some t => clampRat 0 1 ((temp (s.cw c CHG_TDHI) - t) / 5)
  | none => 1

/-- BAT.IDPERM at a shelf tick (R211), held at zero by a disconnecting safe state (R353). -/
def State.permit (s : State) (r : CtxRec) : State :=
  let c := r.ctx
  let lim := min (min (pu (s.cw c BAT_IDMAX)) (pu (s.cw c EST_IDLIM))) (pu (s.cw c BAT_IDMAX) * s.dischargeFactor c)
  s.setC c BAT_IDPERM (if s.batEn c && !s.isCut c && s.code c != 5 && !(s.safe c && (s.safeRec c).menu == 0) then toPU lim else 0)

/-! ### Direct-hang strings (R214 to R216) -/

/-- A direct-hang string that carries current or may: Connecting, Hung, Limiting. -/
def dhLive (code : Nat) : Bool := code == 1 || code == 2 || code == 3

/-- The gate sources and the string is Connecting (R216). -/
def State.dhConnect (s : State) (r : CtxRec) : State :=
  (((s.gateSource r.a0 true).setCode r.ctx 1).clearCut r.ctx).stop (.cool r.ctx)

/-- A failed attempt: Cool-down while retries are left, else Latched with the safe state and a class 6 fault (R216). -/
def State.failDh (s : State) (r : CtxRec) : State :=
  let c := r.ctx
  let s1 := (s.gateDown r.a0).clearLive c
  if (s1.cw c BAT_DHRETRYCNT).toNat < (s1.cw c BAT_DHRETRY).toNat then
    (((s1.setCode c 4).inc (ctxAddr c BAT_DHRETRYCNT)).start (.cool c)).sts c 10
  else (((s1.setCode c 5).sts c stsDhLatch).applySafe c).laneRaise 6 c none 601

/-- A failed attempt that the core begins: the gate goes down and the status bit is set at once; the lane enters it, or the incoming lane from the gate's state (R203, R216). -/
def State.dhFails (s : State) (r : CtxRec) (statusBit : Nat) : State :=
  let s1 := (s.gateDown r.a0).sts r.ctx statusBit
  if s1.laneRuns then s1.failDh r else s1

/-- A string enters cut-off with the effects of its role (R213). -/
def State.enterCut (s : State) (r : CtxRec) : State :=
  let c := r.ctx
  let s1 := (s.setFlag (ctxAddr c BAT_PSTS) 2 true).stsOffer c 5
  let s2 := match r.directHang, s1.servedBy r with
    | true, _ => (((s1.gateDown r.a0).clearLive c).setCode c 6).stop (.cool c)
    | false, some g => (s1.setCode c 6).cutCheck g
    | false, none => s1
  if s2.laneRuns && !(s2.str c).emptied then s2.anchorEmpty r (s2.str c).socz else s2

/-- A string judged afresh when EN becomes 1 in Off (R213, R216). -/
def State.stringOn (s : State) (r : CtxRec) : State :=
  let c := r.ctx
  let s1 := (s.setSafe c false).clearCount (.cutLow c)
  match r.directHang, s1.servedBy r with
  | true, _ =>
    let s2 := s1.setC c BAT_DHRETRYCNT 0
    if s2.belowCut c then s2.enterCut r else s2.dhConnect r
  | false, some _ => if s1.belowCut c then s1.enterCut r else s1.setCode c 7
  | false, none => s1.setCode c 8

/-- A served string leaves cut-off or its set, so that the stop of its group may act again (R252). -/
def State.cutLeft (s : State) (r : CtxRec) : State := match s.servedBy r with
  | some g => s.setGrp g.ctx (fun v => { v with cutDone := false })
  | none => s

/-- A string out of the charge: PHASE Off, no pause, no fault cause, not full, no request; a suspension ends by its own rule alone (R237, R241, R243). -/
def State.chargeRest (s : State) (c : Nat) : State :=
  let a := ctxAddr c CHG_STATE
  ((((s.setFld a 2 0 0).setFlag a 4 false).setFld a 10 8 0).setC c CHG_ICREQ 0).setStr c (fun v => { v with hot := false, late := false })

/-- A string with EN 0: Off, its gate down, cut-off cleared, learning cancelled, and a served string out of its charge set (R213, R216, R237, R269). -/
def State.stringOff (s : State) (r : CtxRec) : State :=
  let c := r.ctx
  let s1 := if r.directHang then s.gateDown r.a0 else s
  let s2 := (((s1.clearLive c).clearCut c).setCode c 0).stop (.cool c)
  let s3 := ((s2.clearCount (.cutLow c)).clearCount (.cutHigh c)).disarm c
  if (s3.servedBy r).isSome then (s3.chargeRest c).cutLeft r else s3

/-- What the lane does for a direct-hang string at a shelf tick: a gate that the core pulled down is entered as a failed attempt, and a string at cut-off reconnects once the bus stands above it in Source (R203, R216). -/
def State.dhTick (s : State) (r : CtxRec) : State :=
  let c := r.ctx
  if !r.directHang then s
  else if dhLive (s.code c) && s.drive r.a0 == 0 then s.failDh r
  else if s.code c == 6 && s.batEn c && s.sad == 0 &&
      decide (pu (s.cw c CTX_VMEAS) * ef (s.cw c CTX_VBASE) < pu (s.cw 0 CTX_VMEAS) * ef (s.cw 0 CTX_VBASE)) then s.dhConnect r
  else s

/-! ### Meanings -/

/-- STRING_ENABLE: EN is 1 in Off, with a lane (R213, R216). -/
def execStringEnable (c t : Nat) (s : State) : Host.Outcome State Fault Refusal :=
  let s := s.at t
  finish s (match s.works, s.string? c with
    | true, some r => if s.batEn c && s.code c == 0 then s.stringOn r else s
    | _, _ => s)

/-- STRING_DISABLE: EN is 0 outside Off (R213, R216). -/
def execStringDisable (c t : Nat) (s : State) : Host.Outcome State Fault Refusal :=
  let s := s.at t
  finish s (match s.works, s.string? c with
    | true, some r => if !s.batEn c && s.code c != 0 then s.stringOff r else s
    | _, _ => s)

/-- STRING_CUTOFF: at or below BAT.VCUT for eight frames with EN 1, in every operating state (R213). A latched string stays latched. -/
def execStringCutoff (c t : Nat) (s : State) : Host.Outcome State Fault Refusal :=
  let s := s.at t
  finish s (match s.string? c with
    | some r => if s.batEn c && decide (8 ≤ s.count (.cutLow c)) && !s.isCut c && s.code c != 5 then s.enterCut r else s
    | none => s)

/-- STRING_CUTOFF_EXIT: at or above BAT.VCUT + BAT.VCUTHYS for eight frames, with a lane (R213). -/
def execStringCutoffExit (c t : Nat) (s : State) : Host.Outcome State Fault Refusal :=
  let s := s.at t
  finish s (match s.works, s.string? c with
    | true, some r =>
      if s.isCut c && decide (8 ≤ s.count (.cutHigh c)) && !r.directHang then
        let s1 := (s.clearCut c).cutLeft r
        if (s1.servedBy r).isSome then s1.setCode c 7 else s1
      else s
    | _, _ => s)

/-- DH_COOLDOWN_END: BAT.DHCOOL elapsed, with a lane (R216). -/
def execDhCooldownEnd (c t : Nat) (s : State) : Host.Outcome State Fault Refusal :=
  let s := s.at t
  finish s (match s.works, s.string? c with
    | true, some r => if r.directHang && s.code c == 4 && s.batEn c && s.expired (.cool c) (s.cw c BAT_DHCOOL) then s.dhConnect r else s
    | _, _ => s)

/-- DH_RETRYCNT_CLEAR: full enhancement held for 1 s (R216). -/
def execDhRetrycntClear (c t : Nat) (s : State) : Host.Outcome State Fault Refusal :=
  let s := s.at t
  finish s (if s.works && s.isType c .string && bit (s.cw c BAT_PSTS) 3 && s.expiredTicks (.dhHeld c) ticksPerSecond then s.setC c BAT_DHRETRYCNT 0 else s)

/-- DH_LIMIT_START: the limit amplifier of a direct-hang channel whose gate is on regulates in either direction; Hung moves to Limiting and the limit timer starts (R181, R216). -/
def execDhLimitStart (c : Nat) (charge : Bool) (t : Nat) (s : State) : Host.Outcome State Fault Refusal :=
  let s := s.at t
  finish s (match s.string? c with
    | some r =>
      if r.directHang && s.code c == 2 && s.drive r.a0 != 0 then
        let s1 := ((s.setCode c 3).setFld (GCH_STS + r.a0) 1 0 2).startOnce (.limit r.a0)
        (s1.setFlag (ctxAddr c BAT_PSTS) 4 true).setFlag (ctxAddr c BAT_PSTS) 5 charge
      else s
    | none => s)

/-- DH_LIMIT_END: eight frames without regulation (R216). -/
def execDhLimitEnd (c t : Nat) (s : State) : Host.Outcome State Fault Refusal :=
  let s := s.at t
  finish s (match s.string? c with
    | some r =>
      if r.directHang && s.code c == 3 && s.drive r.a0 != 0 && decide (8 ≤ s.count (.limOff r.a0)) then
        (((s.setCode c 2).setFld (GCH_STS + r.a0) 1 0 3).stop (.limit r.a0)).setFld (ctxAddr c BAT_PSTS) 5 4 0
      else s
    | none => s)

end Sys2Proof.Machine
end

