-- ==== Sys2Proof/Machine/Channels.lean ====
section
/-! DEFINITION. Gate channels (R175 to R184): what the front end measures each frame, the window comparators, full enhancement, and the attempt timers, with what each does to the owner's state (R189, R193, R194, R201, R216). -/

namespace Sys2Proof.Machine

/-- Whether an owner has a limit amplifier and an attempt timer: a branch or a direct-hang string (R179, R181). -/
def CtxRec.limited (r : CtxRec) : Bool := r.typ == .branch || r.directHang

/-! ### Limits and thresholds (R179, R180, R215) -/

/-- The effective limit of a limit amplifier in pu of the owner's IBASE (R179). -/
def limitEff (ilim : Rat) (psoa vds ibase : Rat) : Rat :=
  let fold := psoa / (max vds 1 * ibase)
  if fold < ilim then fold else ilim

/-- The effective limits of a channel from a VDS, in pu of the owner's IBASE: of the current out of it (R179, R214), and for a direct-hang string of the current into it (R215), which is 0 in its safe state Keep hold-up (R353). -/
def State.limits (s : State) (r : CtxRec) (vds : Rat) : Rat × Rat :=
  let c := r.ctx
  let base := ef (s.cw c CTX_IBASE)
  if r.typ = .branch then (limitEff (pu (s.cw c BR_ILIM)) (ef (s.cw c BR_PSOA)) vds base, 0)
  else if r.directHang then
    (limitEff (pu (s.cw c BAT_DHILIM)) (ef (s.cw c BAT_DHPSOA)) vds base,
      if s.safe c ∧ (s.safeRec c).menu = 1 then 0 else limitEff (pu (s.cw c BAT_DHICHG)) (ef (s.cw c BAT_DHPSOA)) (max vds (-vds)) base)
  else (0, 0)

/-- The thresholds of a channel's window comparator in amperes (R180): forward 3 times the effective limit but at most the sense full scale of 250 mV (R494), or FEED.ITRIP; reverse the magnitude of IREV. -/
def State.tripHigh (s : State) (r : CtxRec) : Rat :=
  let base := ef (s.cw r.ctx CTX_IBASE)
  if r.limited then min (3 * (s.chan r.a0).limit * base) (1 / 4 / ef (s.cw r.ctx FEED_RSHUNT)) else pu (s.cw r.ctx FEED_ITRIP) * base
def State.tripLow (s : State) (r : CtxRec) : Rat :=
  pu (s.cw r.ctx (if r.typ = .feed then FEED_IREV else if r.typ = .branch then BR_IREV else BAT_DHIREV)) * ef (s.cw r.ctx CTX_IBASE)

/-- The threshold that a voltage across the shunt (nV) crosses, if it crosses one; true for the reverse one. -/
def State.crossing (s : State) (r : CtxRec) (nv : Int) : Option Bool :=
  let i : Rat := (nv : Rat) / 1000000000 / ef (s.cw r.ctx FEED_RSHUNT)
  if s.tripHigh r ≤ i then some false else if i < -(s.tripLow r) then some true else none

/-! ### The frame (R175 to R179, R181) -/

/-- The channel current in amperes, from a shunt reading held in its range of 250 mV (R47, R494), and VDS in volts from a frame's readings (R175). The shunt register is word 0x11 of every owner. -/
def State.sense (s : State) (r : CtxRec) (g : GateIn) : Rat × Rat :=
  (((clampInt (-250000000) 250000000 g.shunt : Int) : Rat) / 1000000000 / ef (s.cw r.ctx FEED_RSHUNT), ((g.visn - g.vsrc : Int) : Rat) / 1000000)

/-- Energy that the FET dissipates in one frame (R198). -/
def frameEnergy (i v : Rat) : Rat := i * v / 1000000

/-- The drive state follows the amplifier: regulating, else Enhanced once sourcing has reached full enhancement, else sourcing at the owner's current (R176, R177; DEDUCED, log 107). -/
def State.followDrive (s : State) (ch : Nat) (regulating : Bool) : State :=
  if s.drive ch = 0 then s
  else
    let d := if regulating then 2 else if s.enhanced ch && (s.drive ch != 1 || decide (8 ≤ s.count (.enhUp ch))) then 3 else 1
    (s.setFld (GCH_STS + ch) 1 0 d).setChan ch (fun v => { v with source := if d = 1 then s.sourceCurrent ch else 0 })

/-- Whether a channel's amplifier regulates: what the frame says of a limit amplifier; the amplifier of a closed ideal-diode feed holds VDS at FEED.VFWD unless the current makes it exceed that at full drive (R194); a native feed has none (R179). -/
def State.regulates (s : State) (r : CtxRec) (vds : Rat) (g : GateIn) : Bool :=
  if r.typ = .feed then r.a1 == 1 && s.code r.ctx == 4 && decide (vds ≤ ef (s.cw r.ctx FEED_VFWD)) else g.regulating

/-- A gate on its way off: its time ends below the off threshold of 1.0 V; one that is not there within 10 us sets SLOWOFF (R178, R183). -/
def State.followOff (s : State) (ch : Nat) (vgs : Int) : State :=
  if !s.running (.gateOff ch) then s
  else if vgs < 1000000 then s.stop (.gateOff ch)
  else if s.expiredTicks (.gateOff ch) (us 10) then s.setFlag (GCH_STS + ch) 6 true
  else s

/-- The limit timer runs while the amplifier regulates after full enhancement, and stops once it has not regulated for eight frames (R181, R201, R216). -/
def State.followLimit (s : State) (ch : Nat) (regulating : Bool) : State :=
  if regulating && s.drive ch != 0 && !s.running (.inrush ch) then s.startOnce (.limit ch)
  else if 8 ≤ s.count (.limOff ch) then s.stop (.limit ch) else s

/-- What every channel takes from a frame. -/
def State.frameSense (s : State) (r : CtxRec) (ch : Nat) (g : GateIn) : State :=
  let iv := s.sense r g
  let e := frameEnergy iv.1 iv.2
  let on := s.drive ch != 0
  let lim := s.limits r iv.2
  let reg := s.regulates r iv.2 g
  let s1 := s.setChan ch (fun v => { v with vgs := g.vgs, vds := iv.2, cur := iv.1, limit := lim.1, limitRev := lim.2, energy := v.energy + e, attempt := if on then v.attempt + e else v.attempt, reverse := reg && decide (iv.1 < 0) })
  let s2 := ((s1.qualify (.enhUp ch) (on && decide (11000000 ≤ g.vgs))).qualify (.enhDown ch) (decide (g.vgs < 10500000))).qualify (.limOff ch) (on && !reg)
  let s3 := ((s2.followOff ch g.vgs).followDrive ch reg).onlyIf r.limited (fun s => s.followLimit ch reg)
  s3.onlyIf (senseOver 250000000 g.shunt) (fun s => s.sts r.ctx 2)

/-- The live bits of a direct-hang string (R210). -/
def State.frameDh (s : State) (r : CtxRec) (g : GateIn) : State :=
  let on := s.drive r.a0 != 0
  let lim := g.regulating && on
  s.setFld (ctxAddr r.ctx BAT_PSTS) 5 3 (b2n (s.enhanced r.a0) + 2 * b2n lim + 4 * b2n (lim && (s.chan r.a0).reverse))

/-- One channel's frame: its measurements, then those of its owner. An unowned channel reads nothing. -/
def State.frameChannel (s : State) (ch : Nat) (g : GateIn) : State := match s.ownerRec ch with
  | some r =>
    let s1 := s.frameSense r ch g
    match r.typ with
    | .feed => s1.frameFeed r g
    | .branch => s1.frameBranch r g
    | .string => s1.frameDh r g
    | _ => s1
  | none => s

/-- What the lane does for a branch at a shelf tick: a carrying state whose gate the core pulled down is entered as a failed attempt (R203), and a modelled FET is evaluated (R198). -/
def State.branchTick (s : State) (r : CtxRec) : State :=
  (if r.a1 = 0xFE then s.fosterTick r else s).enterFailed r

/-! ### Trips (R180) -/

/-- A feed's channel trips. An ideal-diode feed in reverse goes to Reverse-blocked; a forward trip, or any trip while Closing, latches; a closed native feed in reverse loses qualification without latch or fault (R189, R193, R194). RBLOCK alone is set at a reverse turn-off (DEDUCED, log 111). -/
def State.tripFeed (s : State) (r : CtxRec) (reverse : Bool) : State :=
  let c := r.ctx
  if r.a1 = 1 then
    if reverse then ((s.gateDown r.a0).setCode c 6).sts c 12 else (s.sts c 6).latchFeed c 404 false
  else
    let s1 := (s.gateDown r.a0).sts c (if reverse then 7 else 6)
    match s1.lane.change with
    | some ch =>
      if ch.target = some c ∧ ch.phase = .closing then
        let s2 := s1.latchFeed c 405 false
        if s2.laneRuns then (s2.stop .slowOn).nextCandidate ch c else s2
      else s1
    | none =>
      if reverse then
        let s2 := s1.setCode c 0
        if s2.laneRuns then s2.forcedChange c else s2.sts c 5
      else
        let s2 := s1.latchFeed c 406 false
        if s2.laneRuns then s2.startChange true c (if s2.selectorFree then s2.candidate.map CtxRec.ctx else none) else s2

/-- A branch's channel trips: the gate goes down, and the frame ends the attempt (R201, R205). -/
def State.tripBranch (s : State) (r : CtxRec) (reverse : Bool) : State :=
  let b := if reverse then 7 else 6
  if !brLive (s.code r.ctx) then s.gateDown r.a0
  else s.attemptFails r b

/-- A direct-hang string's channel trips: a failed attempt (R216). -/
def State.tripDh (s : State) (r : CtxRec) (reverse : Bool) : State :=
  if dhLive (s.code r.ctx) then s.dhFails r (if reverse then 7 else 6) else s.gateDown r.a0

/-- A crossing after the gate went down in the same frame: flagged in the channel and, of a branch or string, in the owner, and no further attempt (R205). -/
def State.lateTrip (s : State) (r : CtxRec) (ch : Nat) (reverse : Bool) : State :=
  if s.thisFrame (s.chan ch).downAt && r.limited then (s.setFlag (GCH_STS + ch) (if reverse then 4 else 3) true).sts r.ctx (if reverse then 7 else 6) else s

/-- A threshold of a channel's window comparator is crossed while its gate is driven; the pull-down is the channel's own action, in every operating state (R180). -/
def State.gateTrip (s : State) (ch : Nat) (reverse : Bool) : State := match s.ownerRec ch with
  | some r =>
    if s.drive ch = 0 then s.lateTrip r ch reverse
    else
      let s1 := (s.setFlag (GCH_STS + ch) (if reverse then 4 else 3) true).setChan ch (fun v => { v with tripAt := some s.now })
      match r.typ with
      | .feed => s1.tripFeed r reverse
      | .branch => s1.tripBranch r reverse
      | .string => s1.tripDh r reverse
      | _ => s1.gateDown ch
  | none => s

/-! ### Full enhancement (R178) -/

/-- What full enhancement does for the owner: a closing feed is Closed, a connecting string is Hung (R189, R216). -/
def State.ownerEnhanced (s : State) (r : CtxRec) : State :=
  let c := r.ctx
  match r.typ with
  | .feed => if s.laneRuns && s.code c == 3 then s.feedClosed c else s
  | .string =>
    let s1 := (s.setFlag (ctxAddr c BAT_PSTS) 3 true).start (.dhHeld c)
    if s1.code c = 1 then s1.setCode c 2 else s1
  | .branch => s.setFlag (ctxAddr c BR_LIVE) 1 true
  | _ => s

/-- Whether a driven channel's owner still waits for full enhancement, in an attempt that began before the last one's had ended: a closing feed, a connecting string, a running inrush timeout. -/
def State.awaitsEnhanced (s : State) (r : CtxRec) : Bool :=
  (r.typ == .feed && s.code r.ctx == 3) || (r.typ == .string && s.code r.ctx == 1) || s.running (.inrush r.a0)

/-- CHANNEL_ENHANCED: eight frames at or above 11.0 V; the inrush timeout is met. The drive state Enhanced begins here (DEDUCED, log 107). -/
def execChannelEnhanced (ch t : Nat) (s : State) : Host.Outcome State Fault Refusal :=
  let s := s.at t
  finish s (match s.ownerRec ch with
    | some r =>
      if s.drive ch != 0 && (!s.enhanced ch || s.awaitsEnhanced r) && decide (8 ≤ s.count (.enhUp ch)) then
        (((s.setFlag (GCH_STS + ch) 2 true).setFld (GCH_STS + ch) 1 0 3).stop (.inrush ch)).ownerEnhanced r
      else s
    | none => s)

/-- CHANNEL_ENHANCEMENT_LOST: eight frames below 10.5 V; a branch's power-good goes with it (R178, R200). -/
def execChannelEnhancementLost (ch t : Nat) (s : State) : Host.Outcome State Fault Refusal :=
  let s := s.at t
  finish s (match s.ownerRec ch with
    | some r =>
      if s.enhanced ch && decide (8 ≤ s.count (.enhDown ch)) then
        (s.onlyIf (r.typ == .branch && s.flag (ctxAddr r.ctx BR_LIVE) 0) (fun s => s.pgDrop r)).endEnhanced ch
      else s
    | none => s)

/-! ### Attempt timers (R181) -/

/-- The inrush timeout and limit time of an owner (R196, R214). -/
def State.attemptTimes (s : State) (r : CtxRec) : Word × Word :=
  if r.typ = .branch then (s.cw r.ctx BR_ITO, s.cw r.ctx BR_TFLT) else (s.cw r.ctx BAT_DHITO, s.cw r.ctx BAT_DHTFLT)

/-- A core timer has run out: the attempt fails with its status bit, 8 or 9 (R201, R204, R212, R216). -/
def State.attemptOver (s : State) (r : CtxRec) (b : Nat) : State :=
  let s1 := s.setFlag (GCH_STS + r.a0) 5 true
  if r.typ = .branch then (if brLive (s1.code r.ctx) then s1.attemptFails r b else s1.gateDown r.a0)
  else if dhLive (s1.code r.ctx) then s1.dhFails r b else s1.gateDown r.a0

/-- ATTEMPT_TIMER_EXPIRY: the inrush timeout without full enhancement, which one reached in the same frame still meets (R205), or the limit time of unbroken regulation after it; counted in shelf time, in every operating state. -/
def execAttemptTimerExpiry (ch t : Nat) (s : State) : Host.Outcome State Fault Refusal :=
  let s := s.at t
  finish s (match s.ownerRec ch with
    | some r =>
      if !r.limited || s.drive ch == 0 then s
      else if s.expired (.inrush ch) (s.attemptTimes r).1 && decide (s.count (.enhUp ch) < 8) then s.attemptOver r 8
      else if s.expired (.limit ch) (s.attemptTimes r).2 then s.attemptOver r 9
      else s
    | none => s)

end Sys2Proof.Machine
end

