-- ==== Sys2Proof/Machine/Zones.lean ====
section
/-! DEFINITION. Sensor conversion and thermal zones (R371 to R374), the temperatures of served contexts (R515), and direct sensors of branches (R197). -/

namespace Sys2Proof.Machine

/-! ### Conversion (R371) -/

/-- The temperature in kelvin of an NTC at v volts with its supply at vreg5; none where the reading is stale. A conversion without a positive denominator lies above every limit of T18 and is held there (R36). -/
def ntcKelvin (nrser nr25 nbeta v vreg5 : Rat) : Option Rat :=
  let r := v / vreg5
  if vreg5 ≤ 0 ∨ r < 1 / 50 ∨ 49 / 50 < r then none
  else
    let inv := 20 / 5963 + lnRat (nrser * r / (1 - r) / nr25) / nbeta
    some (if inv ≤ 0 then 1024 else 1 / inv)

/-- The temperature in kelvin of a diode at v volts; none where the reading is stale. -/
def diodeKelvin (dv25 dslope v : Rat) : Option Rat :=
  if v < 1 / 10 ∨ 1 < v then none else some (5963 / 20 + (dv25 - v) / dslope)

/-- A scan reading in volts. -/
def State.scanVolts (s : State) (n : Nat) : Rat := ((lookup (0 : Int) s.scan n : Int) : Rat) / 1000000

/-- The converted reading of a scan input; VREG5 is kept as reading 96 of the scan. -/
def State.sensorKelvin (s : State) (n : Nat) (diode : Bool) : Option Rat :=
  if diode then diodeKelvin (ef (s.reg TS_DV25)) (ef (s.reg TS_DSLOPE)) (s.scanVolts n)
  else ntcKelvin (ef (s.reg TS_NRSER)) (ef (s.reg TS_NR25)) (ef (s.reg TS_NBETA)) (s.scanVolts n) (s.scanVolts 96)

/-! ### Served contexts (R515) -/

/-- CTX.TMEAS of a feed, string or group formed again from the zones that serve it; the last value stays where none counts (R515). -/
def State.servedTemp (s : State) (c : Nat) : State := match s.zoneTemp c with
  | some w => s.measure (ctxAddr c CTX_TMEAS) w
  | none => s

/-! ### Zone states (R373, R374) -/

/-- The context a zone serves. -/
def State.zoneServed (s : State) (z : CtxRec) : Option CtxRec := match s.image with
  | some im => (zoneServes im z).bind im.ctx?
  | none => none

/-- The served group of a zone, changed. -/
def State.onServedGroup (s : State) (z : CtxRec) (f : State → CtxRec → State) : State := match s.zoneServed z with
  | some r => if r.typ = .group then f s r else s
  | none => s

/-- A raise of a zone: by the core for a direct sensor, by the lane for a downstream-reported one. -/
def State.zoneRaise (s : State) (z : CtxRec) (site : Nat) : State :=
  if z.a1 = 2 then s.laneRaise 2 z.ctx none site else s.coreRaise 2 z.ctx none site

/-- WARN of a zone, its record, and the flag of a served group. -/
def State.zoneWarn (s : State) (z : CtxRec) : State := (s.stsOffer z.ctx 5).onServedGroup z State.groupWarn

/-- Entry of a zone to a state with its effects; WARN goes with a shut-down that no warning preceded (R374, R375). -/
def State.zoneEnter (s : State) (z : CtxRec) (code : Nat) : State :=
  let was := s.code z.ctx
  if was = code then s
  else
    let s1 := s.setCode z.ctx code
    match code with
    | 1 => s1.zoneWarn z
    | 2 =>
      let s2 := if was = 1 then s1 else s1.zoneWarn z
      ((s2.sts z.ctx 6).onServedGroup z State.groupThermal).zoneRaise z 201
    | 3 => (s1.sts z.ctx 7).zoneRaise z 202
    | _ => s1

/-- The state a zone's qualified conditions give it (R373). Above the warning level less its hysteresis a zone that leaves Shut-down is in Warning. -/
def State.zoneNext (s : State) (z : CtxRec) (t : Rat) : Nat :=
  let c := z.ctx
  let f := (s.cw c ZONE_FILT).toNat
  let q (k : Count) : Bool := decide (f ≤ s.count k)
  let warn := temp (s.cw c ZONE_TWARN)
  match s.code c with
  | 3 => if q (.sensorGood c) then (if temp (s.cw c ZONE_TSD) ≤ t then 2 else if warn ≤ t then 1 else 0) else 3
  | 2 => if q (.tripOff c) then (if t < warn - temp (s.cw c ZONE_HYS) then 0 else 1) else 2
  | 1 => if q (.trip c) then 2 else if q (.warnOff c) then 0 else 1
  | _ => if q (.trip c) then 2 else if q (.warn c) then 1 else 0

/-- One sample of a zone: its temperature in kelvin, none where the reading is stale. A group that switches while its zone stands at or above the shut-down level is stopped (R167). -/
def State.zoneSample (s : State) (z : CtxRec) (t : Option Rat) : State :=
  let c := z.ctx
  let a := ctxAddr c CTX_TMEAS
  match t with
  | none =>
    let s1 := ((s.markStale a true).qualify (.sensorBad c) true).clearCount (.sensorGood c)
    let s2 := (((s1.clearCount (.warn c)).clearCount (.trip c)).clearCount (.warnOff c)).clearCount (.tripOff c)
    if (s2.cw c ZONE_FILT).toNat ≤ s2.count (.sensorBad c) then s2.zoneEnter z 3 else s2
  | some t =>
    let s1 := ((s.measureT c CTX_TMEAS t).markStale a false).setC c ZONE_TPEAK (Word.ofNat (max (s.cw c ZONE_TPEAK).toNat (toTemp t).toNat))
    let v := temp (toTemp t)
    let hys := temp (s1.cw c ZONE_HYS)
    let s2 := ((s1.clearCount (.sensorBad c)).qualify (.sensorGood c) true).qualify (.warn c) (decide (temp (s1.cw c ZONE_TWARN) ≤ v))
    let s3 := (s2.qualify (.trip c) (decide (temp (s2.cw c ZONE_TSD) ≤ v))).qualify (.warnOff c) (decide (v < temp (s2.cw c ZONE_TWARN) - hys))
    let s4 := s3.qualify (.tripOff c) (decide (v < temp (s3.cw c ZONE_TSD) - hys))
    let s5 := s4.zoneEnter z (s4.zoneNext z v)
    if s5.code c = 2 ∧ temp (s5.cw c ZONE_TSD) ≤ v then s5.onServedGroup z State.groupThermal else s5

/-- A zone sampled, and the temperature of what it serves formed again. -/
def State.zoneUpdate (s : State) (z : CtxRec) (t : Option Rat) : State :=
  let s1 := s.zoneSample z t
  match s1.zoneServed z with
  | some r => if r.typ = .branch then s1 else s1.servedTemp r.ctx
  | none => s1

/-- Every direct zone on a scan (R373). -/
def State.scanZones (s : State) : State := s.forEach ((s.ofType .zone).filter (·.a1 ≠ 2)) (fun z s => s.zoneUpdate z (s.sensorKelvin z.a0 (z.a1 = 1)))

/-- The branches with a direct sensor, of the kind BR.CTL.TSENS gives, on a scan, their over-temperature qualified over 8 samples (R197, R371). -/
def State.scanBranches (s : State) : State := s.forEach ((s.ofType .branch).filter (·.a1 < 96)) (fun r s =>
  let c := r.ctx
  match s.sensorKelvin r.a1 (bit (s.cw c BR_CTL) 5) with
  | some t => ((s.measureT c CTX_TMEAS t).markStale (ctxAddr c CTX_TMEAS) false).qualify (.trip c) (decide (temp (s.cw c BR_TJMAX) ≤ temp (toTemp t)))
  | none => (s.markStale (ctxAddr c CTX_TMEAS) true).clearCount (.trip c))

/-- The downstream-reported zones that take their reading from a context, judged by the lane at an update of it or when it is offline (R373). -/
def State.reportedZones (s : State) (c : Nat) : State :=
  if !s.laneRuns then s
  else s.forEach ((s.ofType .zone).filter (fun z => z.a1 = 2 ∧ (s.cw z.ctx ZONE_SRC).toNat = c)) (fun z s =>
    let q := (s.read (ctxAddr c CTX_TMEAS)).2
    s.zoneUpdate z (if s.offline c || q == 1 || q == 3 then none else some (temp (s.cw c CTX_TMEAS))))

/-- A downstream-reported zone without a source, or with one that is offline, reads as faulty: one sample at each tick (R373). -/
def State.sourcelessZones (s : State) : State := s.forEach ((s.ofType .zone).filter (fun z => z.a1 = 2 ∧ (s.cw z.ctx ZONE_SRC = 0xFF ∨ s.offline (s.cw z.ctx ZONE_SRC).toNat))) (fun z s =>
  if s.code z.ctx = 3 then s else s.zoneUpdate z none)

end Sys2Proof.Machine
end

