-- ==== Sys2Proof/Machine/Sequencer.lean ====
section
/-! DEFINITION. Sequenced rails and graphs (R300 to R321): rail conditions, snapshots, the graphs' power-up and power-down, requests, faults, segment power cycles, control inputs, and the commands of scans and sequencing timers. -/

namespace Sys2Proof.Machine

/-! ### Graphs as data (R80, R306) -/

/-- The defined graphs, ascending. -/
def State.graphList (s : State) : List Nat := match s.image with
  | some im => (List.range 8).filter (fun g => im.graphs.any (·.graph = g))
  | none => []

/-- The records of a graph's rails. -/
def State.railsOf (s : State) (g : Nat) : List GraphRec := match s.image with
  | some im => im.graphs.filter (·.graph = g)
  | none => []

/-- The instance number of a rail context. -/
def State.railInst (s : State) (c : Nat) : Nat := ((s.ctx? c).map CtxRec.inst).getD 64

/-- Rails placed after their predecessors. -/
def State.placeRails (s : State) : Nat → List GraphRec → List GraphRec → List GraphRec
  | 0, done, rest => done ++ rest
  | n + 1, done, rest =>
    let ready := rest.filter (fun r => r.pred.all (fun i => !rest.any (fun q => s.railInst q.rail = i)))
    if ready.isEmpty then done ++ rest else s.placeRails n (done ++ ready) (rest.filter (fun r => !ready.any (·.rail = r.rail)))

/-- The rails of a graph in predecessor order. -/
def State.railOrder (s : State) (g : Nat) : List GraphRec := s.placeRails 64 [] (sortBy (·.rail) (s.railsOf g))

/-- The predecessors of a rail, as contexts. -/
def State.predsOf (s : State) (r : GraphRec) : List Nat := r.pred.filterMap (fun i => s.inst? .rail i)

/-- The successors of a rail, as contexts. -/
def State.succsOf (s : State) (r : GraphRec) : List Nat := ((s.railsOf r.graph).filter (fun q => q.pred.contains (s.railInst r.rail))).map (·.rail)

/-- SEQ.GSTATE.CODE of a graph. -/
def State.gcode (s : State) (g : Nat) : Nat := s.fld (SEQ_GSTATE + g) 2 0

/-- SEQ.GSTATE.CODE replaced. -/
def State.setGcode (s : State) (g v : Nat) : State := s.setFld (SEQ_GSTATE + g) 2 0 v

/-- SEQ.GSTATE.PENDON. -/
def State.pendOn (s : State) (g : Nat) : Bool := s.flag (SEQ_GSTATE + g) 3

/-- SEQ.GSTATE.PENDON replaced. -/
def State.setPendOn (s : State) (g : Nat) (b : Bool) : State := s.setFlag (SEQ_GSTATE + g) 3 b

/-- A bit of SEQ.GCFG. -/
def State.gcfg (s : State) (g n : Nat) : Bool := s.flag (SEQ_GCFG + g) n

/-! ### Conditions (R301, R303) -/

/-- Whether a count has reached RAIL.FILT. -/
def State.filt (s : State) (c : Nat) (k : Count) : Bool := decide ((s.cw c RAIL_FILT).toNat ≤ s.count k)

/-- Whether the Up condition of a rail qualifies, its power-good input included. -/
def State.railUp (s : State) (c : Nat) : Bool := s.filt c (.up c) && (s.pinsFor 0x03 c).all s.pinOn

/-- Whether the Fallen condition of a rail qualifies. -/
def State.railFallen (s : State) (c : Nat) : Bool := s.filt c (.offLow c)

/-- RAIL.CTL.SKIP. -/
def State.railSkip (s : State) (c : Nat) : Bool := bit (s.cw c RAIL_CTL) 0

/-- Whether a rail was refused in the present power-up (R354). -/
def State.railRefused (s : State) (c : Nat) : Bool := s.lane.seq.refused.contains c

/-- Whether a rail counts as resolved in a power-up: Up, Failed, skipped, or refused (R307, R354). -/
def State.resolved (s : State) (c : Nat) : Bool := s.code c == 3 || s.code c == 4 || s.railSkip c || s.railRefused c

/-- The rails refused, given a new list. -/
def State.setRefused (s : State) (l : List Nat) : State := { s with lane := { s.lane with seq := { s.lane.seq with refused := l } } }

/-- Whether a rail counts as down: Off or Stuck. -/
def State.railDown (s : State) (c : Nat) : Bool := s.code c == 0 || s.code c == 6

/-! ### Snapshots and faults (R311, R317, R318) -/

/-- A rail fault of a kind: its status bit and a class 9 fault. -/
def State.railFault (s : State) (c b site : Nat) (lane : Bool) : State :=
  let s1 := s.sts c b
  if lane then s1.laneRaise 9 c none site else s1.coreRaise 9 c none site

/-- One part of a snapshot record (R381, 0x0203). -/
def State.snapPart (s : State) (part : Nat) : Rec :=
  s.mkRec 0x0203 0xFF ([BitVec.ofNat 8 part, 0, 0, 0] ++ (List.range 48).flatMap (fun i => wordBytes (s.readingWord (lookup 0 s.snapshot (48 * part + i))) 0)) false

/-- The snapshot of a scan in which rails owe one (R318). -/
def State.takeSnapshot (s : State) : State :=
  if s.snapDue.isEmpty then s
  else
    let l := s.snapDue
    let s1 := { s with snapshot := s.scan.filter (fun p => decide (p.1 < 96)), snapTaken := true, snapDue := [] }
    let s2 := ((s1.inc SEQ_SNAPCNT).setFlag SEQ_STS 6 true).forEach l (fun c s => s.sts c 12)
    s2.offerAll 0x0203 [s2.snapPart 0, s2.snapPart 1]

/-- A qualifying condition judged once: raised by the core where it applies, with a snapshot of this scan and the fault (2c: under-voltage, 2c + 1: over-voltage) left for the lane, which takes the graph down where it is set so; free to be raised again once disqualified (R311). -/
def State.judgeRail (s : State) (c key : Nat) (q applies : Bool) (b site : Nat) : State :=
  if !q then { s with railSeen := s.railSeen.filter (· ≠ key) }
  else if !applies || s.railSeen.contains key then s
  else
    let s1 := ({ s with railSeen := s.railSeen ++ [key] }).railFault c b site false
    { s1 with downDue := s1.downDue.filter (· ≠ key) ++ [key] }

/-- One sample of a rail (R301, R303, R311). -/
def State.sampleRail (s : State) (r : CtxRec) : State :=
  let c := r.ctx
  let s1 := s.measurePU c CTX_VMEAS (s.puV c (s.scanVolts r.a0))
  let v := (s1.cw c CTX_VMEAS).toInt
  let w (k : Nat) : Int := (s1.cw c k).toInt
  let s2 := (s1.qualify (.up c) (decide (w RAIL_VUV ≤ v))).qualify (.uv c) (decide (v < w RAIL_VUV - w RAIL_VHYS))
  let s3 := (s2.qualify (.ov c) (decide (w RAIL_VOV < v))).qualify (.offLow c) (decide (v < w RAIL_VOFF))
  let g := ((s3.graphOf c).map GraphRec.graph).map s3.gcode
  let code := s3.code c
  let s4 := s3.judgeRail c (2 * c) (s3.filt c (.uv c)) (code == 3 && g != some 3 && g != some 4) 5 901
  s4.judgeRail c (2 * c + 1) (s4.filt c (.ov c)) (code == 2 || code == 3 || code == 4) 6 902

/-! ### Power-up of a rail (R307, R309) -/

/-- A rail's discharge released. -/
def State.endDischarge (s : State) (c : Nat) : State := s.stop (.discharge c)

/-- A rail's turn in a power-up: out of its safe state, and Waiting; a rail that may not be re-enabled stays Off with a Note (R354). -/
def State.railWait (s : State) (c : Nat) : State :=
  if s.reenableRefused c then (s.setRefused (s.lane.seq.refused ++ [c])).note 905 c
  else (((s.endDischarge c).setSafe c false).setCode c 1).start (.rail c)

/-- A rail's enable is asserted and its rise time starts. -/
def State.railRise (s : State) (c : Nat) : State := (s.setCode c 2).start (.rail c)

/-- A rail is Up, with its measured rise time; a Failed one sets LATEUP. -/
def State.railComesUp (s : State) (c : Nat) : State :=
  let late := s.code c == 4
  let s1 := ((s.setC c RAIL_TRISEM (toSeconds (s.age (.rail c)))).setCode c 3).stop (.rail c)
  if late then s1.stsOffer c 11 else s1

/-- A rail has not come up within RAIL.TRISE: Failed, with its fault and snapshot (R307, R311). -/
def State.railFails (s : State) (c : Nat) : State :=
  let s1 := (s.setCode c 4).railFault c 7 903 true
  match s1.graphOf c with
  | some g => s1.setFlag (SEQ_GSTATE + g.graph) 4 true
  | none => s1

/-- One rail of a power-up at a tick: its turn and the end of RAIL.TON may fall in one tick (the worked example has the first enable at the tick of the request), Up comes no earlier than the tick after its enable (R307). DEDUCED, log 144. -/
def State.upStep (s : State) (r : GraphRec) : State :=
  let c := r.rail
  if s.railSkip c then s
  else
    let s1 := if s.railDown c && !s.railRefused c && (s.predsOf r).all s.resolved then s.railWait c else s
    if s1.code c == 1 then (if s1.expired (.rail c) (s1.cw c RAIL_TON) then s1.railRise c else s1)
    else if (s1.code c == 2 || s1.code c == 4) && s1.railUp c then s1.railComesUp c
    else if s1.code c == 2 && s1.expired (.rail c) (s1.cw c RAIL_TRISE) then s1.railFails c
    else s1

/-! ### Power-down of a rail (R308, R309) -/

/-- A rail is Off. -/
def State.railOffNow (s : State) (c : Nat) : State := (((s.setCode c 0).stop (.rail c)).stop (.railOff c)).endDischarge c

/-- A falling rail has fallen, with its measured fall time. -/
def State.railHasFallen (s : State) (c : Nat) : State := (s.setC c RAIL_TFALLM (toSeconds (s.age (.rail c)))).railOffNow c

/-- A rail has not fallen within RAIL.TFALL: Stuck, with its fault, snapshot and discharge (R309, R311). -/
def State.railStuck (s : State) (c : Nat) : State := ((s.setCode c 6).railFault c 8 904 true).dischargeOn c

/-- Whether a rail counts as fallen for its predecessors: down, or skipped (R302, R308). -/
def State.givenUp (s : State) (c : Nat) : Bool := s.railDown c || s.railSkip c

/-- A Stuck rail that has fallen goes to Off with its fall time and a record, whatever its graph does (R309). -/
def State.stuckStep (s : State) (c : Nat) : State :=
  s.onlyIf (s.code c == 6 && s.railFallen c) fun s =>
    let s1 := s.railHasFallen c
    s1.offerRec (s1.ctxCode c (recordBit 309)) c (s1.ctxPayload c)

/-- One rail of a power-down at a tick; early says whether a rail that falls before its turn, having stood above RAIL.VOFF since the power-down began, counts as fallen (R308, R309). -/
def State.downStep (s : State) (early : Bool) (r : GraphRec) : State :=
  let c := r.rail
  match s.code c with
  | 1 => s.railOffNow c
  | 2 | 3 | 4 =>
    if early && s.railFallen c && !s.lane.seq.low.contains c then (s.railOffNow c).stsOffer c 9
    else if (s.succsOf r).all s.givenUp then
      let s1 := s.startOnce (.railOff c)
      if s1.expired (.railOff c) (s1.cw c RAIL_TOFF) then s1.railFall c else s1
    else s
  | 5 => if s.railFallen c then s.railHasFallen c
      else if s.expired (.rail c) (s.cw c RAIL_TFALL) then s.railStuck c else s
  | _ => s.stuckStep c

/-! ### Requests (R310 to R312, R316) -/

/-- Whether SEQ_FLT_N's accepted level is low. -/
def State.sfLow (s : State) : Bool := find s.accepted 0x81 == some false

/-- Whether a power-up of a graph is held by SEQ_FLT_N (R316). -/
def State.upBlocked (s : State) (g : Nat) : Bool := s.gcfg g 4 && s.sfLow

/-- Rails free to be tried again. -/
def State.forgetRefused (s : State) (l : List GraphRec) : State := s.setRefused (s.lane.seq.refused.filter (fun c => !l.any (·.rail = c)))

/-- A power-up begins. -/
def State.graphUp (s : State) (g : Nat) : State := (((s.setGcode g 1).setPendOn g false).setFlag (SEQ_GSTATE + g) 4 false).forgetRefused (s.railsOf g)

/-- An on request. -/
def State.onRequest (s : State) (g : Nat) : State := match s.gcode g with
  | 0 => if s.upBlocked g then s.setPendOn g true else s.graphUp g
  | 3 => (s.setPendOn g true).setFlag SEQ_STS 5 true
  | 4 => s.setPendOn g true
  | _ => s

/-- The segment power cycle that a port asked for has ended, or the power-down of its graph takes its place (R313, R426, R430). -/
def State.cycleOver (s : State) (p : Nat) : State := s.onlyIf (s.port p).cycling (fun s => s.setPort p (fun e => { e with cycling := false }))

/-- The segment power cycles of a graph given up. -/
def State.dropCycles (s : State) (g : Nat) : State :=
  let mine (p : Nat) : Bool := (s.railsOf g).any (fun r => r.segment = some p)
  let s := s.forEach ((s.lane.seq.cycles.map (·.1)).filter mine) (fun p s => s.cycleOver p)
  { s with lane := { s.lane with seq := { s.lane.seq with cycles := s.lane.seq.cycles.filter (fun q => !mine q.1) } } }

/-- The rails of a graph whose Fallen condition stands: all of them at the start of a power-down, those among a list later. -/
def State.stillLow (s : State) (g : Nat) (l : List Nat) : State :=
  let rails := (s.railsOf g).map (·.rail)
  let low := s.lane.seq.low.filter (fun c => !rails.contains c) ++ rails.filter (fun c => l.contains c && s.railFallen c)
  { s with lane := { s.lane with seq := { s.lane.seq with low := low } } }

/-- A power-down begins from the present point. -/
def State.graphDown (s : State) (g : Nat) (fault forced : Bool) : State :=
  ((((s.dropCycles g).setGcode g 3).setFlag (SEQ_GSTATE + g) 5 fault).setFlag (SEQ_GSTATE + g) 6 forced).stillLow g ((s.railsOf g).map (·.rail))

/-- An off request. -/
def State.offRequest (s : State) (g : Nat) : State := match s.gcode g with
  | 1 | 2 => s.graphDown g false false
  | 4 => s.setPendOn g false
  | _ => s

/-- A fault-down of a graph: an off request marked so; where asked, it drives SEQ_FLT_N (R311, R316). -/
def State.faultDown (s : State) (g : Nat) (drive : Bool) : State :=
  if s.gcode g = 1 ∨ s.gcode g = 2 then
    let s1 := s.graphDown g true false
    if drive && s.gcfg g 3 then
      let d := s1.lane.seq.driving.filter (· ≠ g) ++ [g]
      ({ s1 with lane := { s1.lane with seq := { s1.lane.seq with driving := d, drives := true } } }.setFlag SEQ_STS 4 true).start .seqFlt
    else s1
  else s

/-- The fault-down of a faulted rail: its graph goes down where FLTDOWN is 1, and its enable is withdrawn at once; an over-voltage during a power-down withdraws it whatever FLTDOWN holds (R311, R321). -/
def State.railFaultDown (s : State) (key : Nat) : State := match s.graphOf (key / 2) with
  | some r =>
    let c := key / 2
    let on := s.code c = 2 ∨ s.code c = 3 ∨ s.code c = 4
    let down := s.gcfg r.graph 2
    let s1 := if down then s.faultDown r.graph true else s
    if on ∧ (down ∨ (key % 2 = 1 ∧ s.gcode r.graph = 3)) then s1.railFall c else s1
  | none => s

/-- A forced off of a graph; every permitted discharge output is asserted whose rail has not fallen (R312). -/
def State.forceOff (s : State) (g : Nat) : State :=
  if s.gcode g = 0 ∨ s.gcode g = 4 then s
  else
    let s1 := (s.graphDown g false true).setPendOn g false
    let s2 := s1.forEach (s1.railsOf g) (fun r s =>
      let c := r.rail
      let s1 := if s.code c = 1 then s.railOffNow c else if s.code c = 2 ∨ s.code c = 3 ∨ s.code c = 4 then s.railFall c else s
      if s1.railFallen c then s1 else s1.dischargeOn c)
    s2

/-- A forced off of several graphs, with its flag and record. -/
def State.forceAll (s : State) (l : List Nat) : State :=
  if l.all (fun g => s.gcode g == 0 || s.gcode g == 4) then s else (s.forEach l (fun g s => s.forceOff g)).gOffer 1 8

/-- The graphs that a SEQ.CMD word addresses. -/
def State.addressed (s : State) (w : Word) : List Nat := s.graphList.filter (fun g => bit w g)

/-- The requests of a SEQ.CMD word: FORCE wins over OFF, and OFF over ON (R319). -/
def State.seqCommand (s : State) (w : Word) : State :=
  let l := s.addressed w
  if bit w 10 then s.forceAll l
  else if bit w 9 then s.forEach l (fun g s => s.offRequest g)
  else if bit w 8 then s.forEach l (fun g s => s.onRequest g)
  else s

/-! ### A graph at a tick (R306 to R309) -/

/-- A graph reaches Off: an automatic restart or a pending power-up follows (R310, R316). -/
def State.graphOff (s : State) (g : Nat) : State :=
  let s1 := (s.setGcode g 0).stop (.graphOff g)
  let s2 := if s1.gcfg g 5 && s1.flag (SEQ_GSTATE + g) 5 then s1.setPendOn g true else s1
  if s2.pendOn g && !s2.upBlocked g then s2.graphUp g else s2

/-- A graph has reached Off-wait: it no longer keeps SEQ_FLT_N low (R316). -/
def State.hasReached (s : State) (g : Nat) : State := { s with lane := { s.lane with seq := { s.lane.seq with driving := s.lane.seq.driving.filter (· ≠ g) } } }

/-- One graph at a tick; its Stuck rails that have fallen are Off first. -/
def State.graphTick (s0 : State) (g : Nat) : State :=
  let s := s0.forEach (s0.railsOf g) (fun r s => s.stuckStep r.rail)
  match s.gcode g with
  | 0 => if s.pendOn g && !s.upBlocked g then s.graphUp g else s
  | 1 =>
    let s1 := s.forEach (s.railOrder g) (fun r s => s.upStep r)
    if (s1.railsOf g).all (fun r => s1.resolved r.rail) then s1.setGcode g 2 else s1
  | 2 => s.forEach (s.railsOf g) (fun r s => if s.code r.rail == 4 && s.railUp r.rail then s.railComesUp r.rail else s)
  | 3 =>
    let s1 := (s.stillLow g s.lane.seq.low).forEach (s.railOrder g).reverse (fun r s => s.downStep true r)
    if (s1.railsOf g).all (fun r => s1.railDown r.rail) then ((s1.hasReached g).setGcode g 4).start (.graphOff g) else s1
  | _ => if s.expired (.graphOff g) (s.reg SEQ_TOFFMIN) then s.graphOff g else s

/-! ### Segment power cycles (R313) -/

/-- The record of the rail that supplies a port. -/
def State.supplyOf (s : State) (port : Nat) : Option GraphRec := s.image.bind (fun im => im.graphs.find? (fun r => r.segment = some port))

/-- A rail and all that depend on it, n links deep. -/
def State.dependants (s : State) (r : GraphRec) : Nat → List Nat
  | 0 => [r.rail]
  | n + 1 => let l := s.dependants r n
    (l ++ ((s.railsOf r.graph).filter (fun q => (s.predsOf q).any l.contains)).map (·.rail)).dedup

/-- The records of the rails of a port's cycle, in predecessor order. -/
def State.cycleRails (s : State) (r : GraphRec) : List GraphRec :=
  let l := s.dependants r 64
  (s.railOrder r.graph).filter (fun q => l.contains q.rail)

/-- The phase of a port's cycle replaced. -/
def State.setCycle (s : State) (port phase : Nat) : State :=
  { s with lane := { s.lane with seq := { s.lane.seq with cycles := putKey s.lane.seq.cycles port phase } } }

/-- One segment power cycle at a tick. -/
def State.cycleTick (s : State) (port : Nat) : State := match s.supplyOf port, find s.lane.seq.cycles port with
  | some r, some phase =>
    let l := s.cycleRails r
    match phase with
    | 0 => if s.gcode r.graph = 2 then (s.setCycle port 1).forEach l.reverse (fun q s => s.downStep false q) else s
    | 1 =>
      let s1 := s.forEach l.reverse (fun q s => s.downStep false q)
      if l.all (fun q => s1.railDown q.rail) then (s1.setCycle port 2).start (.cycle port) else s1
    | 2 => if s.expired (.cycle port) (s.reg SEQ_TOFFMIN) then (((s.setCycle port 3).stop (.cycle port)).forgetRefused l).forEach l (fun q s => s.upStep q) else s
    | _ =>
      let s1 := s.forEach l (fun q s => s.upStep q)
      if l.all (fun q => s1.resolved q.rail) then
        { s1.cycleOver port with lane := { s1.lane with seq := { s1.lane.seq with cycles := dropKey s1.lane.seq.cycles port } } }
      else s1
  | _, _ => s

/-! ### Control inputs (R314 to R316) -/

/-- The graphs a short press acts on. -/
def State.pressGraphs (s : State) : List Nat := s.graphList.filter (fun g => s.gcfg g 1)

/-- A short press (R315). -/
def State.shortPress (s : State) : State :=
  let l := s.pressGraphs
  let s1 := s.setFlag SEQ_STS 0 true
  if l.any (fun g => s.gcode g == 1 || s.gcode g == 2 || s.pendOn g) then s1.forEach l (fun g s => s.offRequest g)
  else s1.forEach l (fun g s => s.onRequest g)

/-- The lane's record of the present press replaced. -/
def State.setPress (s : State) (p : Option Nat) (long : Bool) : State :=
  { s with lane := { s.lane with seq := { s.lane.seq with press := p, long := long } } }

/-- PB_N acted on: a press begins at a low and is judged at its release (R315). -/
def State.pushButton (s : State) (level : Bool) (time : Nat) : State :=
  if !level then (s.setPress (some time) false).start .press
  else match s.lane.seq.press with
    | none => s
    | some t0 =>
      let n := time - t0
      let s1 := (s.setPress none false).stop .press
      if s.lane.seq.long then s1
      else if ms 50 ≤ n ∧ n ≤ ms 2000 then s1.shortPress
      else s1.setFlag SEQ_STS 2 true

/-- The long press (R315). -/
def State.longPress (s : State) : State := match s.lane.seq.press with
  | some t0 => if !s.lane.seq.long && elapsed (s.reg PB_TLONG) t0 s.now then ((s.setPress (some t0) true).setFlag SEQ_STS 1 true).forceAll s.graphList else s
  | none => s

/-- A level of SEQ_FLT_N acted on: a low takes the graphs with FLTIN down, and no further low acts until a high is accepted; a kept low after which a high has been accepted blocks none (R316, R320). -/
def State.faultLine (s : State) (level : Bool) : State :=
  if level then s
  else ({ s.setFlag SEQ_STS 3 true with sfBlocked := s.sfLow }).forEach (s.graphList.filter (fun g => s.gcfg g 4)) (fun g s => s.faultDown g false)

/-- The counter of an input's changes that are not acted on (R314, R319). -/
def inputCounter (pin : Nat) : Nat := if pin = 0x80 then IN_PBCNT else if pin = 0x81 then IN_SFCNT else IN_GPCNT

/-- Whether an input is a downstream alert line. -/
def isAlert (pin : Nat) : Bool := decide (0x90 ≤ pin ∧ pin ≤ 0x93)

/-- The minimum interval of an input in ticks; a release of PB_N ends a press and needs none (R314). -/
def State.minInterval (s : State) (pin : Nat) (level : Bool) : Nat :=
  if pin = 0x80 then (if level then 0 else ms 200) else if pin = 0x81 ∨ isAlert pin then ms 1
  else (ef (s.reg GPIN_DEB) * 10 * ticksPerSecond).floor.toNat

/-- The level an input was last acted on at: high for PB_N and SEQ_FLT_N, de-asserted for a general pin, before its first action. -/
def State.actedLevel (s : State) (pin : Nat) : Bool :=
  (find s.inputs pin).getD (if 0x80 ≤ pin then true else match s.image with
    | some im => (im.pins.find? (·.pin = pin)).any (·.invert)
    | none => false)

/-- A change counted and not acted on, with its mark and record (R314). -/
def State.countInput (s : State) (pin : Nat) : State := (s.inc (inputCounter pin)).gOffer 1 7

/-- A level of a downstream alert line acted on: a low starts an alert service, on an isolated segment it is only counted, under the rules of R314 (R424, R430). -/
def State.alertLine (s : State) (p : Nat) (level : Bool) : State :=
  if level then s
  else if (s.port p).isolated then s.countInput (0x90 + p)
  else (s.stop (.alert p)).setPort p (fun e => { e with alertDue := true, alertRuns := 1 })

/-- An accepted release of a downstream alert line ends its service's repetitions (R424). -/
def State.alertOver (s : State) (pin : Nat) (level : Bool) : State := s.onlyIf (isAlert pin && level) (fun s => s.setPort (pin - 0x90) (fun e => { e with alertRuns := 0 }))

/-- The effect of an acted change: PB_N, SEQ_FLT_N, a downstream alert line, or an AC-OK input whose de-assertion ends its feed's qualification (R186, R315, R316). -/
def State.inputEffect (s : State) (pin : Nat) (level : Bool) (time : Nat) : State :=
  if pin = 0x80 then s.pushButton level time
  else if pin = 0x81 then s.faultLine level
  else if isAlert pin then s.alertLine (pin - 0x90) level
  else match s.image with
    | some im => s.forEach (((im.ofType .feed).filter (fun r => (im.acPins r).any (·.pin = pin))).map (·.ctx)) (fun c s => if s.qualified c && !s.acOk c then s.loseQualification c else s)
    | none => s

/-- A change acted on by the core, whose own the downstream ports are, and by the lane where one is in charge; PB_N and SEQ_FLT_N changes are kept for a lane that restores an earlier checkpoint (R314, R320). -/
def State.actInput (s : State) (pin : Nat) (level : Bool) : State :=
  let kept := if pin = 0x80 ∨ pin = 0x81 then s.inputQueue ++ [(pin, level, s.now)] else s.inputQueue
  ({ s with inputs := putKey s.inputs pin level, actedAt := putKey s.actedAt pin s.now, inputQueue := kept }).onlyIf (s.laneRuns || isAlert pin) (fun s => s.inputEffect pin level s.now)

/-- Whether a change comes at least the minimum interval after the last one acted on. -/
def State.intervalOver (s : State) (pin : Nat) (level : Bool) : Bool := match find s.actedAt pin with
  | some t0 => decide (s.minInterval pin level ≤ s.now - t0)
  | none => true

/-- A high level of SEQ_FLT_N accepted while the line is not driven lets a low act again (R316). -/
def State.seenHigh (s : State) (pin : Nat) (level : Bool) : State :=
  if pin = 0x81 ∧ level ∧ !s.drivesSeqFlt then { s with sfBlocked := false } else s

/-- Whether input changes are acted on: by the lane in charge, or by the core for the lane that comes next, in a Col and in Dormant; in Plain hold they are counted only (R29, R314, R320). -/
def State.inputsActed (s : State) : Bool := s.laneRuns || s.sys == sysCol || s.sys == sysDormant

/-- An accepted level (R314, R316, R320); a change back to the level last acted on within the interval is counted too. A low of SEQ_FLT_N that the block itself drives, or before a high since the last one, is not accepted. -/
def State.acceptInput (s : State) (pin : Nat) (level : Bool) : State :=
  if pin = 0x81 ∧ ¬ level ∧ (s.drivesSeqFlt ∨ s.sfBlocked) then s
  else
    let before := (find s.accepted pin).getD (s.actedLevel pin)
    let s1 := ({ s with accepted := putKey s.accepted pin level }).seenHigh pin level |>.alertOver pin level
    if s1.actedLevel pin = level then s1.onlyIf (before != level && s1.inputsActed && !s1.intervalOver pin level) (fun s => s.countInput pin)
    else if !s1.inputsActed then s1.inc (inputCounter pin)
    else if s1.intervalOver pin level then s1.actInput pin level else s1.countInput pin

/-- PB_N as a lane finds it after a Plain hold or at a start: a press in progress is timed from now, and a press that ended meanwhile is over (R320). -/
def State.freshPress (s : State) : State :=
  let down := find s.accepted 0x80 == some false
  let s1 := { s with inputs := putKey s.inputs 0x80 (!down), actedAt := putKey s.actedAt 0x80 s.now }
  if down then (s1.setPress (some s1.now) s1.lane.seq.long).start .press else (s1.setPress none false).stop .press

/-- What an incoming lane does with the inputs: the kept changes of PB_N and SEQ_FLT_N in their order where none were lost, then the present levels where they differ from those acted on and the minimum interval has passed; a level within it is left to the end of its interval (R314, R320). -/
def State.drainInputs (s : State) (fresh : Bool) : State :=
  let s1 := if fresh then { s with inputQueue := [] }.freshPress else s.forEach s.inputQueue (fun q s => s.inputEffect q.1 q.2.1 q.2.2)
  s1.forEach s1.accepted (fun q s => if s.actedLevel q.1 = q.2 || !s.intervalOver q.1 q.2 then s else s.actInput q.1 q.2)

/-- SEQ_FLT_N released once SEQ.TFLT has passed and every faulted graph has reached Off-wait or Off since its fault-down (R316). -/
def State.releaseFaultLine (s : State) : State :=
  if s.lane.seq.drives && s.expired .seqFlt (s.reg SEQ_TFLT) && s.lane.seq.driving.all (fun g => s.gcode g == 0 || s.gcode g == 4) then
    { s.stop .seqFlt with lane := { s.lane with seq := { s.lane.seq with driving := [], drives := false } }, sfBlocked := true }
  else s

/-- The general pins that enable or discharge a rail: those whose records say so, and the discharge outputs of the graph records (R80, R85). -/
def State.railPins (s : State) : List Nat := match s.image with
  | some im => (im.pins.filter (fun p => p.func = 2 ∨ p.func = 5)).map PinRec.pin ++ (im.graphs.filter (·.discharge)).map GraphRec.disch
  | none => []

/-- A discharge output ends when its rail has fallen or after RAIL.TDIS (R309, R312). -/
def State.dischargeStep (s : State) (c : Nat) : State :=
  s.onlyIf (s.running (.discharge c) && (s.railFallen c || s.expired (.discharge c) (s.cw c RAIL_TDIS))) (fun s => s.endDischarge c)

/-- The sequencer at a shelf tick, at which every expired time acts: requests, fault-downs, graphs, cycles (R306, R321), and its outputs driven. -/
def State.seqTick (s : State) : State :=
  let s0 := s.longPress
  let s1 := match s0.lane.seq.cmd with
    | some w => ({ s0 with lane := { s0.lane with seq := { s0.lane.seq with cmd := none } } }).seqCommand w
    | none => s0
  let s2 := ({ s1 with downDue := [] }).forEach s1.downDue (fun k s => s.railFaultDown k)
  let s3 := ({ s2 with graphOffDue := [] }).forEach s2.graphOffDue (fun g s => s.offRequest g)
  let s4 := s3.forEach s3.graphList (fun g s => s.graphTick g)
  let s5 := s4.forEach (s4.lane.seq.cycles.map (·.1)) (fun p s => s.cycleTick p)
  let s6 := (s5.forEach ((s5.ofType .rail).map CtxRec.ctx) (fun c s => s.dischargeStep c)).releaseFaultLine
  s6.forEach s6.railPins (fun p s => s.drivePin p)

/-! ### Meanings -/

/-- SCAN_COMPLETE: the 96 inputs (uV), each read within the converter's range (R494), and VREG5 of a scan (R300): rails are judged, direct zones and branch sensors converted, and a snapshot is taken where a rail owes one. The converter does not scan in Dormant. -/
def execScanComplete (raw : List Int) (t : Nat) (s : State) : Host.Outcome State Fault Refusal :=
  let s := s.at t
  finish s (s.orderRaises (if s.sys = sysDormant then s
  else
    let s1 := { s with scan := ((List.range 97).map (fun i => (i, if i < 96 then clampInt 0 scanTop (raw.getD i 0) else raw.getD i 0))).filter (fun p => decide (p.2 ≠ 0)) }
    let s2 := s1.measure SCAN_RD (s1.reg SCAN_RD)
    let s3 := s2.forEach (s2.ofType .rail) (fun r s => (s.sampleRail r).onlyIf (beyond scanTop (raw.getD r.a0 0)) (fun s => s.sts r.ctx 2))
    (s3.scanZones.scanBranches).takeSnapshot))

/-- RAIL_TON_EXPIRY: RAIL.TON has elapsed; the rail is Rising (R307). -/
def execRailTonExpiry (c t : Nat) (s : State) : Host.Outcome State Fault Refusal :=
  let s := s.at t
  finish s (if s.works && s.isType c .rail && s.code c == 1 && s.expired (.rail c) (s.cw c RAIL_TON) then s.railRise c else s)

/-- RAIL_RISE_TIMEOUT: RAIL.TRISE has elapsed while Rising; an Up that qualifies at the same moment wins (R311, R321). -/
def execRailRiseTimeout (c t : Nat) (s : State) : Host.Outcome State Fault Refusal :=
  let s := s.at t
  finish s (if s.works && s.isType c .rail && s.code c == 2 && s.expired (.rail c) (s.cw c RAIL_TRISE) then
    if s.railUp c then s.railComesUp c else s.railFails c
  else s)

/-- RAIL_TOFF_EXPIRY: RAIL.TOFF has elapsed at the rail's turn; its enable is withdrawn (R308). -/
def execRailToffExpiry (c t : Nat) (s : State) : Host.Outcome State Fault Refusal :=
  let s := s.at t
  finish s (if s.works && s.isType c .rail && (s.code c == 2 || s.code c == 3 || s.code c == 4) && s.expired (.railOff c) (s.cw c RAIL_TOFF) then s.railFall c else s)

/-- RAIL_FALL_TIMEOUT: RAIL.TFALL has elapsed while Falling; a Fallen that qualifies at the same moment wins (R311, R321). -/
def execRailFallTimeout (c t : Nat) (s : State) : Host.Outcome State Fault Refusal :=
  let s := s.at t
  finish s (if s.works && s.isType c .rail && s.code c == 5 && s.expired (.rail c) (s.cw c RAIL_TFALL) then
    if s.railFallen c then s.railHasFallen c else s.railStuck c
  else s)

/-- RAIL_DISCHARGE_END: RAIL.TDIS has elapsed; the discharge output is released (R309). Held in Plain hold with the other outputs (R320). -/
def execRailDischargeEnd (c t : Nat) (s : State) : Host.Outcome State Fault Refusal :=
  let s := s.at t
  finish s (if s.works && s.isType c .rail && s.expired (.discharge c) (s.cw c RAIL_TDIS) then s.endDischarge c else s)

/-- GRAPH_OFF_WAIT_END: SEQ.TOFFMIN has elapsed; the graph is Off (R306). -/
def execGraphOffWaitEnd (g t : Nat) (s : State) : Host.Outcome State Fault Refusal :=
  let s := s.at t
  finish s (if s.works && s.gcode g == 4 && s.graphList.contains g && s.expired (.graphOff g) (s.reg SEQ_TOFFMIN) then s.graphOff g else s)

/-- PB_LONG_PRESS: PB_N held until PB.TLONG (R315). -/
def execPbLongPress (t : Nat) (s : State) : Host.Outcome State Fault Refusal :=
  let s := s.at t
  finish s (if s.works then s.longPress else s)

/-- SEQ_FLT_DRIVE_RELEASE (R316). -/
def execSeqFltDriveRelease (t : Nat) (s : State) : Host.Outcome State Fault Refusal :=
  let s := s.at t
  finish s (if s.works then s.releaseFaultLine else s)

end Sys2Proof.Machine
end

