-- ==== Sys2Proof/Machine/Downstream.lean ====
section
/-! DEFINITION. The downstream ports (R417 to R430): formats, the pending table, precedence, what a completed or failed transaction does, polls, probes, alerts, and segments held low. -/

namespace Sys2Proof.Machine

/-! ### Ports and targets -/

/-- What is kept of a target context. -/
def State.target (s : State) (c : Nat) : DsTarget := (find s.dsTargets c).getD {}

/-- The state with what is kept of a target changed. -/
def State.setTarget (s : State) (c : Nat) (f : DsTarget → DsTarget) : State := { s with dsTargets := putKey s.dsTargets c (f (s.target c)) }

/-- The 7-bit address of a target (R73). -/
def CtxRec.dsAddr (r : CtxRec) : Nat := match r.typ with
  | .pol => r.a1 % 128
  | _ => r.a2 % 128

/-- The targets of a port, by context number. -/
def State.targets (s : State) (p : Nat) : List CtxRec := match s.image with
  | some im => sortBy (·.ctx) (im.contexts.filter (fun r => r.dsPort = some p))
  | none => []

/-- Whether a target's VOUT_MODE was read and is not linear (R419). -/
def State.unsupported (s : State) (c : Nat) : Bool := (s.target c).mode.any (fun m => decide (m / 32 % 8 ≠ 0))

/-- DSP.STATE.CODE replaced. -/
def State.setPortCode (s : State) (p v : Nat) : State := s.setFld (DSP_STATE + p) 2 0 v

/-- DSP.STATE.CODE. -/
def State.portCode (s : State) (p : Nat) : Nat := s.fld (DSP_STATE + p) 2 0

/-- A downstream event offered (R381, record 0x0207). -/
def State.dsEvent (s : State) (p addr code ev status : Nat) (c : Option Nat) : State :=
  s.offerRec 0x0207 (c.getD 0xFF) ([BitVec.ofNat 8 p, BitVec.ofNat 8 addr, BitVec.ofNat 8 code, BitVec.ofNat 8 ev] ++ leBytes 2 status ++ zeros 2)

/-- A status bit of a POL context; a rectifier has none of these. -/
def State.polSts (s : State) (c b : Nat) : State := if s.isType c .pol then s.sts c b else s

/-! ### Formats (R419) -/

/-- A 5-bit signed number. -/
def signed5 (n : Nat) : Int := if n % 32 < 16 then ((n % 32 : Nat) : Int) else ((n % 32 : Nat) : Int) - 32

/-- An 11-bit signed number. -/
def signed11 (n : Nat) : Int := if n % 2048 < 1024 then ((n % 2048 : Nat) : Int) else ((n % 2048 : Nat) : Int) - 2048

/-- The value of a LINEAR11 word. -/
def linear11 (w : Nat) : Rat := (signed11 w : Rat) * pow2 (signed5 (w / 2048))

/-- The exponent of a target's VOUT_MODE. -/
def State.voutExp (s : State) (c : Nat) : Int := signed5 ((s.target c).mode.getD 0)

/-- The volts of a VOUT word. -/
def State.voutVolts (s : State) (c w : Nat) : Rat := (w : Rat) * pow2 (s.voutExp c)

/-- The VOUT mantissa nearest a voltage, held in 16 bits. -/
def State.voutWord (s : State) (c : Nat) (volts : Rat) : Nat := (clampInt 0 65535 (roundAway (volts / pow2 (s.voutExp c)))).toNat

/-- The VOUT_TRIM word nearest a signed offset: the mantissa in two's complement (PRESUMED from PMBus, log 26). -/
def State.trimWord (s : State) (c : Nat) (volts : Rat) : Nat := (clampInt (-32768) 32767 (roundAway (volts / pow2 (s.voutExp c))) % 65536).toNat

/-- The data word that a pending command sends (R280, R418): set-points are kept as PU18 and converted as they are sent. -/
def State.wireData (s : State) (d : DsCmd) : Nat :=
  let w := Word.ofNat d.data
  if d.code = 0x21 then s.voutWord d.ctx (pu w * ef (s.cw d.ctx CTX_VBASE))
  else if d.code = 0x22 then s.trimWord d.ctx ((pu w - 1 / 2) * 2 * ef (s.cw d.ctx RECT_VSPAN))
  else d.data

/-! ### The next transaction (R420, R421) -/

/-- Whether a VOUT_TRIM may go out: 10 ms since the last one was sent, and different from the last value acknowledged (R280). -/
def State.trimReady (s : State) (d : DsCmd) : Bool :=
  let v := s.target d.ctx
  v.trimAt.all (fun t0 => decide (t0 + ms 10 ≤ s.now)) && v.ackTrim != some (Word.ofNat (s.wireData d))

/-- Whether a pending command may be sent now: its target online, no VOUT command before VOUT_MODE is known, and a trim when it is due. -/
def State.sendable (s : State) (d : DsCmd) : Bool :=
  !s.offline d.ctx && (!(d.code == 0x21 || d.code == 0x22) || ((s.target d.ctx).mode.isSome && !s.unsupported d.ctx)) && (d.code != 0x22 || s.trimReady d)

/-- A transaction towards a context, with PEC as its port is set (R417). -/
def State.txTo (s : State) (p : Nat) (k : TxKind) (c code data : Nat) (safe : Bool) : DsTx :=
  { kind := k, ctx := some c, addr := ((s.ctx? c).map CtxRec.dsAddr).getD 0, code := code, data := data, safe := safe, pec := s.flag (DSP_CFG + p) 2 }

/-- Whether a transaction reads (R418, R424). -/
def DsTx.reads (x : DsTx) : Bool := match x.kind with
  | .page => false
  | .command => x.code == 0x20
  | _ => true

/-- The transaction that precedence chooses, with the pending command it takes. -/
def State.nextTx (s : State) (p : Nat) : Option (DsTx × Option DsCmd) :=
  let l := (s.table p).filter s.sendable
  let e := s.port p
  match l.find? (·.safe), l.find? (fun d => !d.safe) with
  | some d, _ => some (s.txTo p .command d.ctx d.code d.data true, some d)
  | none, some d => some (s.txTo p .command d.ctx d.code d.data false, some d)
  | none, none =>
    if e.alertDue then some ({ kind := .alertAddress, ctx := none, addr := 0x0C, code := 0, data := 0, safe := false, pec := s.flag (DSP_CFG + p) 2 }, none)
    else match e.alertFor, e.probes, e.polls with
      | some c, _, _ => some (s.txTo p .alertStatus c 0x79 0 false, none)
      | none, c :: _, _ => some (s.txTo p .probe c 0x79 0 false, none)
      | none, [], (c, k) :: _ => some (s.txTo p .poll c k 0 false, none)
      | none, [], [] => none

/-- The poll codes of a context (R418). -/
def State.pollCodes (s : State) (c : Nat) : List Nat := if s.isType c .pol then [0x79, 0x88, 0x8B, 0x8C, 0x8D, 0x96] else [0x79, 0x8B, 0x8C, 0x8D, 0x96]

/-- A poll cycle begins: every online, supported context, ascending (R422). -/
def State.startPolls (s : State) (p : Nat) : State :=
  let l := (s.targets p).filter (fun r => !s.offline r.ctx && !s.unsupported r.ctx)
  s.setPort p (fun e => { e with polls := l.flatMap (fun r => (s.pollCodes r.ctx).map (fun k => (r.ctx, k))), pollDue := false })

/-- Whether a port's poll cycle has ended: nothing left to read, and no read of it on the wire (R422). -/
def State.cycleEnded (s : State) (p : Nat) : Bool := (s.port p).polls.isEmpty && (s.port p).cur.all (fun x => decide (x.kind ≠ .poll))

/-- What a taken transaction leaves behind: its command leaves the table, its probe or poll the list; when a trim was sent is noted (R280). -/
def State.takeTx (s : State) (p : Nat) (x : DsTx) (d : Option DsCmd) : State :=
  let s1 := match d with
    | some d => (s.setTable p ((s.table p).filter (· ≠ d))).onlyIf (d.code == 0x22) (fun s => s.setTarget d.ctx (fun v => { v with trimAt := some s.now }))
    | none => s
  s1.setPort p fun e => match x.kind with
    | .probe => { e with cur := some x, probes := e.probes.tail }
    | .poll => { e with cur := some x, polls := e.polls.tail }
    | .alertAddress => { e with cur := some x, alertDue := false, runFor := none }
    | .alertStatus => { e with cur := some x, alertFor := none }
    | _ => { e with cur := some x }

/-- The port starts its next transaction when none is on the wire: a PAGE write first in each run to a POL. Nothing starts without a lane, on an isolated segment, or while the port is in reset (R14, R418, R420, R426, R457). -/
def State.pump (s : State) (p : Nat) : State :=
  let e := s.port p
  if !s.laneRuns || e.cur.isSome || e.isolated || (s.portCode p != 1) || s.flag RST_BLKSTS (2 + p) then s
  else
    let s0 := if e.polls.isEmpty && e.pollDue && s.flag (DSP_CFG + p) 3 then s.startPolls p else s
    match s0.nextTx p with
    | none => s0
    | some (x, d) => match x.ctx with
      | some c =>
        if s0.isType c .pol && e.runFor != some c then s0.setPort p (fun e => { e with cur := some { s0.txTo p .page c 0x00 (((s0.ctx? c).map CtxRec.a2).getD 0) x.safe with ahead := x.kind } })
        else
          let s1 := s0.takeTx p { x with data := (d.map s0.wireData).getD 0 } d
          s1.setPort p (fun e => { e with runFor := if s1.isType c .pol then some c else none })
      | none => s0.takeTx p x d

/-- Every port starts what it can. -/
def State.pumpAll (s : State) : State := s.forEach (List.range 4) (fun p s => s.pump p)

/-! ### Set-points and online state (R418, R423, R427) -/

/-- Whether a POL is in its safe state under a menu code (R353). -/
def State.polSafe (s : State) (c menu : Nat) : Bool := s.safe c && decide ((s.safeRec c).menu = menu)

/-- A POL's VOUT_COMMAND queued: the safe state's value while POL safe state 0x01 holds (R353, R418). -/
def State.queueVout (s : State) (c : Nat) : State :=
  if s.polSafe c 1 then s.queueCmd c 0x21 (s.safeRec c).param.toNat true else s.queueCmd c 0x21 (s.cw c POL_VSET).toNat false

/-- A POL's OPERATION queued: off while POL safe state 0x00 holds (R353, R418). -/
def State.queueOperation (s : State) (c : Nat) : State :=
  if s.polSafe c 0 then s.queueCmd c 0x01 0x00 true else s.queueCmd c 0x01 (if bit (s.cw c POL_CTL) 0 then 0x80 else 0x00) false

/-- A command resent: filed in place of the entry of its pair, the other entries of its context kept (R421, R427). -/
def State.resendCmd (s : State) (c code data : Nat) (safe : Bool) : State := match (s.ctx? c).bind CtxRec.dsPort with
  | some p => s.setTable p ((s.table p).filter (fun d => !(d.ctx == c && d.code == code)) ++ [{ ctx := c, code := code, data := data, safe := safe }])
  | none => s

/-- A target's set-points queued as unacknowledged (R423, R427): VOUT_MODE to be read first, then VOUT_COMMAND and OPERATION of a POL, each with the value of the safe state that holds it, where one does (R353); a rectifier's trim follows at the next tick. -/
def State.qualifyTarget (s : State) (c : Nat) : State :=
  let s1 := (s.setTarget c (fun v => { v with mode := none, ackV := none, ackTrim := none })).queueCmd c 0x20 0 false
  if s1.isType c .pol then
    let s2 := if s1.polSafe c 1 then s1.resendCmd c 0x21 (s1.safeRec c).param.toNat true else s1.resendCmd c 0x21 (s1.cw c POL_VSET).toNat false
    if s2.polSafe c 0 then s2.resendCmd c 0x01 0x00 true else s2.resendCmd c 0x01 (if bit (s2.cw c POL_CTL) 0 then 0x80 else 0x00) false
  else s1

/-- A target is offline: its state, its share of the polls, and its probe timer (R423). -/
def State.goOffline (s : State) (p c : Nat) : State :=
  let r := s.ctx? c
  let s1 := (s.setFlag (ctxAddr c CTX_STATE) 8 true).polSts c 8
  let s2 := s1.setPort p (fun e => { e with polls := e.polls.filter (fun q => q.1 ≠ c), probes := e.probes.filter (· ≠ c) })
  ((s2.setTarget c (fun v => { v with fails := 0 })).startOnce (.probe p ((r.map CtxRec.dsAddr).getD 0))).reportedZones c

/-- A target is back online (R423). -/
def State.goOnline (s : State) (p c : Nat) : State :=
  if !s.offline c then s
  else
    let a := ((s.ctx? c).map CtxRec.dsAddr).getD 0
    let s1 := ((s.setFlag (ctxAddr c CTX_STATE) 8 false).setTarget c (fun v => { v with fails := 0 })).dsEvent p a 0x79 0x05 0 (some c)
    let s2 := if (s1.targets p).any (fun r => r.dsAddr = a ∧ s1.offline r.ctx) then s1 else s1.stop (.probe p a)
    s2.qualifyTarget c

/-! ### Completed transactions (R418 to R425) -/

/-- The faulty conditions of a POL's STATUS_WORD: VOUT, IOUT, INPUT and TEMPERATURE bits, and OFF while EN is 1 (R425); bit places as PMBus has them (PRESUMED, log 26). -/
def State.statusBad (s : State) (c w : Nat) : Bool :=
  w.testBit 15 || w.testBit 14 || w.testBit 13 || w.testBit 2 || (w.testBit 6 && bit (s.cw c POL_CTL) 0)

/-- A raise by a downstream port of a transaction, with its target's address and its command code; a raise without one shows no access (R361). DEDUCED, log 146. -/
def State.portRaise (s : State) (p c : Nat) (x : Option DsTx) (site : Nat) (lane : Bool) : State :=
  s.raise { cls := 11, ctx := c, sev := none, site := site, init := 5 + p, acc := if x.isSome then 6 else 0, addr := (x.map (fun x => x.addr + 128 * x.code)).getD 0, lane := lane }

/-- A STATUS_WORD taken in. -/
def State.takeStatus (s : State) (p : Nat) (x : DsTx) (c w : Nat) : State :=
  if !s.isType c .pol then s
  else
    let s1 := s.measure (ctxAddr c POL_STSWORD) (Word.ofNat (w % 65536))
    if s1.statusBad c w then (if s1.code c = 2 then s1 else (s1.setCode c 2).portRaise p c (some x) 1101 true)
    else if s1.code c = 2 then s1.setCode c 1 else s1

/-- A VOUT_MODE taken in (R419). -/
def State.takeMode (s : State) (p c m : Nat) : State :=
  let s1 := s.setTarget c (fun v => { v with mode := some m })
  let s2 := if s1.isType c .pol then s1.setC c POL_VOUTMODE (Word.ofNat (m % 256)) else s1
  if s2.unsupported c then
    ((s2.polSts c 10).markStale (ctxAddr c CTX_VMEAS) true).dsEvent p (((s2.ctx? c).map CtxRec.dsAddr).getD 0) 0x20 0x0C 0 (some c)
  else s2.markStale (ctxAddr c CTX_VMEAS) false

/-- A reading taken in (R419, R422). -/
def State.takeReading (s : State) (c code w : Nat) : State :=
  if code = 0x8B then s.measurePU c CTX_VMEAS (s.puV c (s.voutVolts c w))
  else if code = 0x8C then s.measurePU c CTX_IMEAS (s.puI c (linear11 w))
  else if code = 0x96 then s.measurePU c CTX_PMEAS (linear11 w / ef (s.cw c CTX_PBASE))
  else if code = 0x8D then (s.measureT c CTX_TMEAS (linear11 w + 27315 / 100)).reportedZones c
  else if code = 0x88 then s.measurePU c POL_VIN (s.puV c (linear11 w))
  else s

/-- An acknowledged write of a command (R418). A POL's state follows its OPERATION, but not a safe-state one (R353). -/
def State.acknowledge (s : State) (x : DsTx) (c : Nat) : State :=
  if x.code = 0x01 ∧ ¬ x.safe then (if x.data = 0x80 then (if s.code c = 2 then s else s.setCode c 1) else s.setCode c 0)
  else s

/-- The context's part of a completed transaction with its read data. -/
def State.complete (s : State) (p : Nat) (x : DsTx) (data : List Byte) : State :=
  let w := ofLe (data.take 2)
  match x.kind, x.ctx with
  | .page, some c => (s.setPort p (fun e => { e with runFor := if x.cut then none else some c })).setTarget c (fun v => { v with fails := 0 })
  | .alertAddress, _ =>
    let a := w % 256 / 2
    match (s.targets p).find? (fun r => r.dsAddr = a) with
    | some r => s.setPort p (fun e => { e with alertFor := some r.ctx })
    | none => ((s.setFlag (DSP_STS + p) 7 true).dsEvent p a 0 0x07 0 none).start (.alert p)
  | k, some c =>
    let s1 := s.setTarget c (fun v => { v with fails := 0 })
    if x.code = 0x79 then
      let s2 := s1.takeStatus p x c w
      match k with
      | .probe => s2.goOnline p c
      | .alertStatus => ((s2.polSts c 5).dsEvent p x.addr 0x79 0x06 w (some c)).start (.alert p)
      | _ => s2
    else if x.code = 0x20 then s1.takeMode p c (w % 256)
    else if k = .poll then s1.takeReading c x.code w
    else s1.acknowledge x c
  | _, none => s

/-- The set-point that a VOUT command acknowledged: the one it was converted from, if still the present one. -/
def State.ackValue (s : State) (x : DsTx) : State := match x.kind, x.ctx with
  | .command, some c =>
    if x.code = 0x21 ∧ ¬ x.safe then s.setTarget c (fun v => { v with ackV := if s.voutWord c (pu (s.cw c POL_VSET) * ef (s.cw c CTX_VBASE)) = x.data then some (s.cw c POL_VSET) else none })
    else if x.code = 0x21 then s.setTarget c (fun v => { v with ackV := none })
    else if x.code = 0x22 then s.setTarget c (fun v => { v with ackTrim := some (Word.ofNat x.data) })
    else s
  | _, _ => s

/-- The reset of a port begins: its poll cycle starts again after it; commands and the port's state stay (R457). -/
def State.portReset (s : State) (p : Nat) : State :=
  (s.setFlag RST_BLKSTS (2 + p) true).setPort p (fun e => { e with resetDue := false, polls := [], pollDue := e.pollDue || !e.polls.isEmpty })

/-- The transaction on the wire leaves it; a reset of the port that waited for this begins (R14, R457). -/
def State.clearTx (s : State) (p : Nat) : State :=
  (s.setPort p (fun e => { e with cur := none })).onlyIf (s.port p).resetDue (fun s => s.portReset p)

/-! ### Failures (R423) -/

/-- A PAGE write has failed: the probe, the poll or the alert service it went ahead of has failed with it, and a pending command stays in the table (R421, R423). DEDUCED, log 145. -/
def State.failAhead (s : State) (p c : Nat) : TxKind → State
  | .probe => s.setPort p (fun e => { e with probes := e.probes.filter (· ≠ c) })
  | .poll => s.setPort p (fun e => { e with polls := e.polls.tail })
  | .alertStatus => (s.setPort p (fun e => { e with alertFor := none })).start (.alert p)
  | _ => s

/-- A failed transaction of a kind: 1 not acknowledged, 2 PEC mismatch, 3 stretch timeout. -/
def State.failTx (s : State) (p kind : Nat) : State := match (s.port p).cur with
  | none => s
  | some x =>
    let s1 := (((s.clearTx p).inc (DSP_ERRCNT + p)).setFlag (DSP_STS + p) (3 + kind) true).dsEvent p x.addr x.code kind 0 x.ctx
    match x.kind, x.ctx with
    | .alertAddress, _ => ((s1.setFlag (DSP_STS + p) 7 true).dsEvent p 0x0C 0 0x07 0 none).start (.alert p)
    | k, some c =>
      let s2 := if s1.isType c .pol then s1.inc (ctxAddr c POL_ERRCNT) else s1
      let s3 := if kind = 1 then s2.polSts c 6 else if kind = 2 then s2.polSts c 7 else s2
      let s4 := (s3.setPort p (fun e => { e with runFor := none })).setTarget c (fun v => { v with fails := v.fails + 1 })
      let s5 := if k = .alertStatus then s4.start (.alert p) else if k = .page then s4.failAhead p c x.ahead else s4
      if 3 ≤ (s5.target c).fails ∧ !s5.offline c then ((s5.goOffline p c).dsEvent p x.addr x.code 0x04 0 (some c)).portRaise p c (some x) 1102 false else s5
    | _, none => s1

/-! ### Segments (R423, R426, R427) -/

/-- The segment power cycle asked of the sequencer (R313, R426). -/
def State.askCycle (s : State) (p : Nat) : State :=
  let s1 := (s.setPort p (fun e => { e with needCycle := false, cycling := true })).setFlag (DSP_STS + p) 1 true
  (s1.setCycle p 0).dsEvent p 0 0 0x09 0 none

/-- A command cut off on the wire put back into the pending table, unless a newer one of its pair is there (R421, R426); a set-point is resent at the requalification anyway (R427). -/
def State.putBack (s : State) (p : Nat) : State := match (s.port p).cur with
  | some { kind := .command, ctx := some c, code := code, data := data, safe := safe, .. } =>
    if (code ≠ 0x01 ∧ code ≠ 0x03) ∨ (s.table p).any (fun d => d.ctx = c ∧ d.code = code) then s
    else s.setTable p ({ ctx := c, code := code, data := data, safe := safe } :: s.table p)
  | _ => s

/-- A stuck segment isolated (R426). -/
def State.isolate (s : State) (p : Nat) : State :=
  let s1 := ((s.putBack p).clearTx p).setPort p (fun e => { e with runFor := none, polls := [], pollDue := false, probes := [], alertDue := false, alertFor := none, isolated := true })
  let s2 := (s1.setFlag (DSP_STS + p) 0 true).forEach (s1.targets p) (fun r s => ((s.goOffline p r.ctx).polSts r.ctx 9).stop (.probe p r.dsAddr))
  let s3 := ((s2.dsEvent p 0 0 0x08 0 none).portRaise p 0 (s.port p).cur 1103 false).stop (.segment p)
  if (s3.supplyOf p).isSome then
    let s4 := (s3.setPortCode p 3).setPort p (fun e => { e with needCycle := true })
    if s4.laneRuns then s4.askCycle p else s4
  else s3.setPortCode p 5

/-- A segment requalified: each target is brought online by a probe (R427). -/
def State.requalify (s : State) (p : Nat) : State :=
  let s1 := s.setPort p (fun e => { e with isolated := false, failed := 0, needCycle := false, cycling := false, probes := (s.targets p).map CtxRec.ctx })
  ((((s1.setPortCode p 1).setFlag (DSP_STS + p) 2 true).dsEvent p 0 0 0x0B 0 none).stop (.segment p)).forEach (s1.targets p) (fun r s => s.startOnce (.probe p r.dsAddr))

/-- The supply and the cycle of a port at a shelf tick: a port whose rail is not Up reads offline without a fault; a cycle is asked for once a lane runs, and again where an incoming lane has restored a state from before the request; t2 is the moment every cycled rail is Up, after a cycle or after the power-down that took its place (R423, R426, R430). -/
def State.portTick (s : State) (p : Nat) : State := match s.supplyOf p with
  | none => s
  | some r =>
    let up := s.code r.rail == 3
    let e := s.port p
    if s.portCode p = 3 then
      if e.needCycle then s.askCycle p
      else if e.cycling && (find s.lane.seq.cycles p).isNone then s.setCycle p 0
      else if (find s.lane.seq.cycles p).isNone && decide (1 ≤ s.gcode r.graph ∧ s.gcode r.graph ≤ 2) && !s.running (.segment p) && (s.cycleRails r).all (fun q => s.code q.rail == 3 || s.railSkip q.rail) && up then s.start (.segment p)
      else s
    else if s.portCode p = 1 && !up then
      let s1 := s.forEach ((s.targets p).filter (fun q => !s.offline q.ctx)) (fun q s => s.goOffline p q.ctx)
      (s1.setPort p (fun e => { e with polls := [], pollDue := false, probes := [] })).forEach (s1.targets p) (fun q s => s.stop (.probe p q.dsAddr))
    else if s.portCode p = 1 && up then s.forEach ((s.targets p).filter (fun q => s.offline q.ctx)) (fun q s => s.startOnce (.probe p q.dsAddr))
    else s

/-- Whether a port's supplying rail is up, or it has none. -/
def State.portSupplied (s : State) (p : Nat) : Bool := match s.supplyOf p with
  | some r => s.code r.rail == 3
  | none => true

/-- Results held from a time without a lane taken in (R14). -/
def State.takeHeld (s : State) : State := s.forEach (List.range 4) (fun p s => match (s.port p).held with
  | some (x, data) => ((s.setPort p (fun e => { e with held := none })).complete p x data).ackValue x
  | none => s)

/-- Every port at a shelf tick. -/
def State.dsTick (s : State) : State := (s.takeHeld.forEach (List.range 4) (fun p s => s.portTick p)).pumpAll

/-! ### Meanings -/

/-- DS_TRANSACTION_COMPLETE: the transaction on the wire has ended well with the bytes it read, and the next one is taken; without a lane the result is held (R14, R420). -/
def execDsTransactionComplete (port : Nat) (data : List Byte) (t : Nat) (s : State) : Host.Outcome State Fault Refusal :=
  let s := s.at t
  finish s (match (s.port port).cur with
    | none => s
    | some x =>
      let s1 := (s.clearTx port).inc (DSP_TXCNT + port)
      if s1.laneRuns then ((s1.complete port x data).ackValue x).pump port
      else s1.setPort port (fun e => { e with held := some (x, data) }))

/-- DS_TRANSACTION_FAIL: a byte not acknowledged, or a PEC mismatch on a read, which only a transaction with PEC can have (R417, R423). -/
def execDsTransactionFail (port : Nat) (pec : Bool) (t : Nat) (s : State) : Host.Outcome State Fault Refusal :=
  let s := s.at t
  finish s (match pec, (s.port port).cur with
    | true, some x => if x.pec && x.reads then (s.failTx port 2).pump port else s
    | true, none => s
    | false, _ => (s.failTx port 1).pump port)

/-- DS_STRETCH_TIMEOUT: a target has stretched SCL for more than 25 ms (R423). -/
def execDsStretchTimeout (port t : Nat) (s : State) : Host.Outcome State Fault Refusal :=
  let s := s.at t
  finish s ((s.failTx port 3).pump port)

/-- POLL_CYCLE: DS.POLL has elapsed; a cycle that has not ended is followed at once by the next, with OVRUN (R422). -/
def execPollCycle (port t : Nat) (s : State) : Host.Outcome State Fault Refusal :=
  let s := s.at t
  let due := !s.running (.poll port) || s.expired (.poll port) (s.reg DS_POLL)
  finish s (if decide (port < 4) && s.works && s.flag (DSP_CFG + port) 3 && s.portCode port == 1 && s.portSupplied port && due then
    let s1 := s.start (.poll port)
    if s1.cycleEnded port then (s1.startPolls port).pump port
    else (s1.setFlag (DSP_STS + port) 9 true).setPort port (fun e => { e with pollDue := true })
  else s)

/-- DS_PROBE: 100 ms since an offline target was last probed (R423). -/
def execDsProbe (port addr t : Nat) (s : State) : Host.Outcome State Fault Refusal :=
  let s := s.at t
  finish s (if decide (port < 4) && s.works && s.portCode port == 1 && s.portSupplied port && s.expiredTicks (.probe port addr) (ms 100) then
    let l := ((s.targets port).filter (fun r => r.dsAddr = addr ∧ s.offline r.ctx)).map CtxRec.ctx
    ((s.start (.probe port addr)).setPort port (fun e => { e with probes := e.probes.filter (fun c => !l.contains c) ++ l })).pump port
  else s)

/-- INPUT_INTERVAL_END: the minimum interval has ended, and the level then accepted is acted on if it differs from the level last acted on (R314). -/
def execInputIntervalEnd (pin t : Nat) (s : State) : Host.Outcome State Fault Refusal :=
  let s := s.at t
  finish s (match s.inputsActed, find s.accepted pin with
    | true, some level => if s.actedLevel pin != level && s.intervalOver pin level then (s.actInput pin level).pumpAll else s
    | _, _ => s)

/-- DS_ALERT: a low of the port's alert line has been stable for 10 us; it is accepted like any control input (R314, R424). -/
def execDsAlert (port t : Nat) (s : State) : Host.Outcome State Fault Refusal :=
  let s := s.at t
  finish s (if 4 ≤ port then s else (s.acceptInput (0x90 + port) false).pump port)

/-- DS_ALERT_REPEAT: 1 ms after a service with the line still low; after the eighth service ALSTK is set instead (R424). -/
def execDsAlertRepeat (port t : Nat) (s : State) : Host.Outcome State Fault Refusal :=
  let s := s.at t
  finish s (if decide (port < 4) && s.works && find s.accepted (0x90 + port) == some false && decide (1 ≤ (s.port port).alertRuns) && s.expiredTicks (.alert port) (ms 1) then
    let s1 := s.stop (.alert port)
    if 8 ≤ (s1.port port).alertRuns then s1.setFlag (DSP_STS + port) 8 true
    else (s1.setPort port (fun e => { e with alertDue := true, alertRuns := e.alertRuns + 1 })).pump port
  else s)

/-- SEGMENT_STUCK: a line has been held low for 35 ms (R426). -/
def execSegmentStuck (port t : Nat) (s : State) : Host.Outcome State Fault Refusal :=
  let s := s.at t
  finish s (if port < 4 ∧ ¬ (s.port port).isolated then s.isolate port else s)

/-- SEGMENT_REQUALIFY: both lines have been high for 1 ms: from t3 = t2 + 20 ms on after a power cycle, at any time while the port waits for a board-level cycle (R426, R427). -/
def execSegmentRequalify (port t : Nat) (s : State) : Host.Outcome State Fault Refusal :=
  let s := s.at t
  finish s (if decide (port < 4) && (s.portCode port == 5 || (s.portCode port == 3 && s.expiredTicks (.segment port) (ms 21))) then (s.requalify port).pump port else s)

/-- SEGMENT_CYCLE_FAIL: the lines are not free within 100 ms of t2: a further cycle, and after the second failure the port waits (R426). -/
def execSegmentCycleFail (port t : Nat) (s : State) : Host.Outcome State Fault Refusal :=
  let s := s.at t
  finish s (if decide (port < 4) && s.portCode port == 3 && s.expiredTicks (.segment port) (ms 100) then
    let s1 := ((((s.setFlag (DSP_STS + port) 3 true).dsEvent port 0 0 0x0A 0 none).portRaise port 0 none 1104 false).stop (.segment port)).setPort port (fun e => { e with failed := e.failed + 1 })
    if 2 ≤ (s1.port port).failed then s1.setPortCode port 5
    else
      let s2 := s1.setPort port (fun e => { e with needCycle := true })
      if s2.laneRuns then s2.askCycle port else s2
  else s)

/-- DSP.CFG.POLLEN written as 0: no cycle that was due starts any more (R422). -/
def State.pollEnable (s : State) (p : Nat) : State :=
  s.onlyIf (!s.flag (DSP_CFG + p) 3 && (s.port p).pollDue) (fun s => s.setPort p (fun e => { e with pollDue := false }))

/-- DSP.CFG.REQUAL written as 1: a waiting segment is requalified (R426). -/
def State.requalWrite (s : State) (p : Nat) : State := if s.portCode p = 5 then (s.requalify p).pump p else s

/-- VOUT_COMMAND of a POL queued where POL.VSET differs from the last acknowledged value, or where another value is on its way (R418). -/
def State.voutIfNew (s : State) (c p : Nat) : State :=
  let busy := (s.table p).any (fun d => d.ctx = c ∧ d.code = 0x21) || (s.port p).cur.any (fun x => x.ctx = some c ∧ x.code = 0x21)
  if (s.target c).ackV = some (s.cw c POL_VSET) ∧ ¬ busy then s else s.queueVout c

/-- POL.CTL.EN written: OPERATION is queued when it changes (R418); a rise leaves the safe state (R354), and VOUT_COMMAND follows where POL.VSET differs from the last acknowledged value. -/
def State.polEn (s : State) (c : Nat) (was : Bool) : State :=
  let en := bit (s.cw c POL_CTL) 0
  let p := ((s.ctx? c).bind CtxRec.dsPort).getD 0
  if en = was then s
  else if en ∧ s.safe c then (((s.setSafe c false).voutIfNew c p).queueOperation c).pump p
  else (s.queueOperation c).pump p

/-- POL.VSET written: VOUT_COMMAND is queued when it differs from the last acknowledged value (R418); in POL safe state 0x01 it waits for the re-enable (R353). -/
def State.polVset (s : State) (c : Nat) : State :=
  let p := ((s.ctx? c).bind CtxRec.dsPort).getD 0
  if s.polSafe c 1 then s else (s.voutIfNew c p).pump p

end Sys2Proof.Machine
end

