-- ==== Sys2Proof/Machine/Charge.lean ====
section
/-! DEFINITION. Charging strings (R234 to R254): the temperature factor, the charge machine of a set, its safety timer, supervised strings, and the cell over-voltage comparators. -/

namespace Sys2Proof.Machine

/-! ### Fields -/

/-- CHG.STATE.PHASE. -/
def State.chgPhase (s : State) (c : Nat) : Nat := bits (s.cw c CHG_STATE) 2 0

/-- The state with CHG.STATE.PHASE replaced. -/
def State.setChgPhase (s : State) (c p : Nat) : State := s.setFld (ctxAddr c CHG_STATE) 2 0 p

/-- A bit of CHG.STATE. -/
def State.chgBit (s : State) (c n : Nat) : Bool := bit (s.cw c CHG_STATE) n

/-- The state with a bit of CHG.STATE replaced. -/
def State.setChgBit (s : State) (c n : Nat) (b : Bool) : State := s.setFlag (ctxAddr c CHG_STATE) n b

/-- CHG.CTL.CHEM. -/
def State.chem (s : State) (c : Nat) : Nat := bits (s.cw c CHG_CTL) 3 1

/-- Whether a chemistry is nickel: NiMH or NiCd. -/
def nickel (chem : Nat) : Bool := chem == 4 || chem == 5

/-- Whether charging is permitted and a chemistry set. -/
def State.chargeable (s : State) (c : Nat) : Bool := bit (s.cw c CHG_CTL) 0 && s.chem c != 0

/-- The charge set of a serving group (R237). -/
def State.chargeSet (s : State) (g : Nat) : List CtxRec := (s.served g).filter (fun b => s.batEn b.ctx)

/-- Whether a set requests charge: some PHASE from Precharge to Top-off and no member suspended (R237). -/
def State.requests (s : State) (g : Nat) : Bool :=
  let l := s.chargeSet g
  l.any (fun b => decide (1 ≤ s.chgPhase b.ctx) && decide (s.chgPhase b.ctx ≤ 4)) && l.all (fun b => !s.chgBit b.ctx 3)

/-! ### Slots of the current group (R238, R239) -/

/-- The min-select group of a target kind of a converter group context. -/
def State.minGroup (s : State) (c tkind : Nat) : Option GroupRec := match s.image with
  | some im => (im.ctx? c).bind fun r => im.groups.find? (fun g => g.tkind = tkind ∧ g.tindex = (if tkind = 4 then c else r.inst))
  | none => none

/-- The charge-current slots of a set. -/
def State.currentSlots (s : State) (g : Nat) : List Nat := match s.image, s.minGroup g 3 with
  | some im, some q => ((im.members q.group).filter (fun m => (s.served g).any (fun b => m.ref = .word b.ctx CHG_ICREQ ∧ m.fb = .word b.ctx CTX_IMEAS))).map (·.slot)
  | _, _ => []

/-- The charge-voltage slots of a set. -/
def State.voltageSlots (s : State) (g : Nat) : List Nat := match s.image, s.minGroup g 3 with
  | some im, some q => ((im.members q.group).filter (fun m => (s.served g).any (fun b => m.ref = .word b.ctx CHG_VCV ∧ m.fb = .word b.ctx CTX_VMEAS))).map (·.slot)
  | _, _ => []

/-- The reported governor of a set's current group. -/
def State.chargeGovernor (s : State) (g : Nat) : Option Nat := match s.minGroup g 3 with
  | some q => if s.flag (FAB_GGOV + q.group) 8 then some (s.fld (FAB_GGOV + q.group) 7 0) else none
  | none => none

/-- Whether a charge-voltage slot governs. -/
def State.voltGoverns (s : State) (g : Nat) : Bool := (s.chargeGovernor g).any (fun n => (s.voltageSlots g).contains n)

/-- Whether a charge-current slot governs. -/
def State.currGoverns (s : State) (g : Nat) : Bool := (s.chargeGovernor g).any (fun n => (s.currentSlots g).contains n)

/-! ### Temperature (R240, R241) -/

/-- The factor fc at a temperature (R240). -/
def chargeFactor (t : Option Rat) (lo hi : Rat) : Rat := match t with
  | none => 0
  | some t =>
    if t < lo ∨ hi < t then 0
    else if t < lo + 5 then 1 / 4 + 3 / 4 * (t - lo) / 5
    else if hi - 5 < t then 1 / 4 + 3 / 4 * (hi - t) / 5
    else 1

/-- The factor of a string in use: 0 while it is suspended. -/
def State.fcOf (s : State) (c : Nat) : Rat := if s.chgBit c 3 then 0 else (s.str c).fc

/-- The temperature factor of a string at an evaluation (R240). The temperatures of the last minute are kept for dT/dt (R244). -/
def State.tempFactor (s : State) (c : Nat) : State :=
  let t := s.stringTemp c
  let fc := chargeFactor t (temp (s.cw c CHG_TCLO)) (temp (s.cw c CHG_TCHI))
  s.setStr c fun v =>
    let old := v.temps.filter (fun p => decide (s.now < p.1 + 60 * ticksPerSecond))
    let edge := (v.temps.filter (fun p => decide (p.1 + 60 * ticksPerSecond ≤ s.now))).take 1
    let temps := match t with
      | some _ => if v.temps.head?.any (fun p => p.2 = s.value (ctxAddr c CTX_TMEAS)) then old ++ edge else (s.now, s.value (ctxAddr c CTX_TMEAS)) :: (old ++ edge)
      | none => old ++ edge
    { v with fc := fc, temps := temps }

/-- TRED follows the factor (R241). -/
def State.showReduced (s : State) (c : Nat) : State := s.setChgBit c 5 (decide (0 < s.fcOf c) && decide (s.fcOf c < 1))

/-- The temperature of a member judged at an evaluation: its factor, the start of a suspension, the 10 s of its end, and TRED (R240, R241). -/
def State.chargeTemp (s : State) (c : Nat) : State :=
  let s1 := s.tempFactor c
  let t := s1.stringTemp c
  let lo := temp (s1.cw c CHG_TCLO)
  let hi := temp (s1.cw c CHG_TCHI)
  let s2 := if decide ((s1.str c).fc = 0) && !s1.chgBit c 3 then (s1.setChgBit c 3 true).stsOffer c 12 else s1
  let inner := t.any (fun t => decide (lo + 2 ≤ t) && decide (t ≤ hi - 2))
  let s3 := if s2.chgBit c 3 && inner then s2.startOnce (.susp c) else s2.stop (.susp c)
  s3.showReduced c

/-! ### The request (R242) -/

/-- The base current of a phase. -/
def State.baseCurrent (s : State) (c : Nat) : Rat :=
  let icc := pu (s.cw c CHG_ICC)
  match s.chgPhase c with
  | 1 => icc / 10
  | 2 | 3 => icc
  | 4 => if nickel (s.chem c) then icc / 10 else pu (s.cw c CHG_ITERM)
  | _ => 0

/-- CHG.ICREQ published; held at zero in the safe state (R353). -/
def State.request (s : State) (c : Nat) : State := s.setC c CHG_ICREQ (if s.safe c then 0 else toPU (-(s.baseCurrent c * s.fcOf c)))

/-! ### Phases (R243 to R246) -/

/-- The charge current magnitude of a string over the last millisecond; 0 in discharge. -/
def State.ichg (s : State) (c : Nat) : Rat := max 0 (-((s.str c).is.headD 0))

/-- CHG.TELAP replaced. -/
def State.setTelap (s : State) (c : Nat) (q : Rat) : State := (s.setStr c (fun v => { v with telap := q })).setC c CHG_TELAP (toEF q)

/-- One millisecond of the safety timer (R246). -/
def State.advance (s : State) (c : Nat) : State :=
  let icc := pu (s.cw c CHG_ICC)
  let f := if icc = 0 then (if s.ichg c = 0 then 0 else 1) else min 1 (s.ichg c / icc)
  s.setTelap c ((s.str c).telap + f / 1000)

/-- Entry of a member to Bulk: the hold-off and the peak start (R244). -/
def State.bulkStart (s : State) (c : Nat) : State := s.setStr c (fun v => { v with peak := s.meanV c, holdOff := s.now })

/-- Start of a charge for a set (R243). -/
def State.startCharge (s : State) (l : List CtxRec) : State :=
  let pre := l.any (fun b => decide (s.meanV b.ctx < pu (s.cw b.ctx CHG_VPRE)))
  s.forEach l fun b s =>
    let c := b.ctx
    let s1 := ((s.setTelap c 0).setChgPhase c (if pre then 1 else 2)).setChgBit c 10 false
    (s1.setStr c (fun v => { v with topped := 0, preAt := s1.now })).bulkStart c

/-- A set in Off (R243). -/
def State.chargeOff (s : State) (l : List CtxRec) : State := s.forEach l fun b s => s.chargeRest b.ctx

/-- The PHASE of a set: that of its members, of which one that has just joined still reads Off (R237). -/
def State.setPhaseOf (s : State) (l : List CtxRec) : Nat := ((l.map (fun b => s.chgPhase b.ctx)).find? (· ≠ 0)).getD 0

/-- A member that has joined a set takes its PHASE and counts, its own safety timer from zero (R237). -/
def State.joinSet (s : State) (l : List CtxRec) : State := match l.find? (fun b => s.chgPhase b.ctx != 0) with
  | none => s
  | some m => s.forEach (l.filter (fun b => s.chgPhase b.ctx == 0)) fun b s =>
    let c := b.ctx
    let v := s.str m.ctx
    (((s.setTelap c 0).setChgPhase c (s.chgPhase m.ctx)).setStr c (fun w => { w with topped := v.topped, preAt := v.preAt })).bulkStart c

/-- Whether a set is paused: it requests charge and its group is not in state 0x04 (R245). -/
def State.pausing (s : State) (g : Nat) : Bool := s.requests g && s.code g != 4

/-- The member of a set with a cell over-voltage (R249); of a set that is not Off, one that tripped while no lane worked counts too, released or not (R243, R337). -/
def State.trippedMember (s : State) (l : List CtxRec) (off : Bool) : Option CtxRec :=
  l.find? (fun x => (decide (x.inst < 2) && s.cellTripped.any (fun k => k / 16 = x.inst)) || (!off && s.cellDue.contains x.ctx))

/-- Entry of a set to Fault for a member and a cause, with its class 7 fault where it is not raised already (R243, R249). -/
def State.chargeFault (s : State) (l : List CtxRec) (c cause : Nat) (raised : Bool) : State :=
  let s1 := s.forEach l (fun b s => ((s.setChgPhase b.ctx 6).setChgBit b.ctx 4 false).setC b.ctx CHG_ICREQ 0)
  let s2 := (s1.setFld (ctxAddr c CHG_STATE) 9 8 cause).sts c 14
  if raised then s2 else s2.laneRaise 7 c none (700 + cause)

/-- Termination of a set with its cause (R243): FULL, TERM, records, full anchors, and Top-off or Done. -/
def State.terminate (s : State) (l : List CtxRec) (tcause : Nat) : State :=
  let top := l.all (fun b => bit (s.cw b.ctx CHG_CTL) 4 && decide (0 < ef (s.cw b.ctx CHG_TTOP)))
  s.forEach l fun b s =>
    let c := b.ctx
    let s1 := ((s.setChgPhase c (if top then 4 else 5)).setFld (ctxAddr c CHG_STATE) 7 6 tcause).setChgBit c 10 true
    ((s1.setStr c (fun v => { v with topped := 0 })).stsOffer c 13).anchorFull c

/-- Whether a nickel termination test is met by a member: 0b01 for -dV, 0b10 for dT/dt (R244). -/
def State.nickelEnd (s : State) (c : Nat) : Option Nat :=
  let v := s.str c
  if s.now < v.holdOff + 180 * ticksPerSecond ∨ s.chgBit c 5 ∨ s.chgBit c 4 then none
  else if pu (s.cw c CHG_NDV) ≤ v.peak - s.meanV c then some 1
  else match v.temps.getLast?, s.stringTemp c with
    | some p, some t => if temp (s.cw c CHG_NDTDT) ≤ t - temp p.2 ∧ p.1 + 60 * ticksPerSecond ≤ s.now then some 2 else none
    | _, _ => none

/-- The cause of a termination that is met now, of a set in Bulk or Absorb; none is judged while a member is suspended or the set is paused (R243, R245, R254). -/
def State.termination (s : State) (g : Nat) : Option Nat := match s.chargeSet g with
  | [] => none
  | b :: r =>
    let l := b :: r
    if l.any (fun x => s.chgBit x.ctx 3) || s.pausing g then none
    else match s.setPhaseOf l with
    | 3 => if s.voltGoverns g && s.expiredTicks (.chgA g) (10 * ticksPerSecond) then some 0 else none
    | 2 =>
      if nickel (s.chem b.ctx) then
        match l.findSome? (fun x => s.nickelEnd x.ctx) with
        | some k => some k
        | none => if s.voltGoverns g then some 3 else none
      else none
    | _ => none

/-- Whether CHG.TELAP of a member has reached its CHG.TSAFE (R246). -/
def State.timedOut (s : State) (c : Nat) : Bool := decide (ef (s.cw c CHG_TSAFE) ≤ (s.str c).telap)

/-- The moves of a set that have no row of their own (R243, R249): start, Fault on a cell over-voltage, and, while it is not paused, those among Precharge, Bulk and Absorb. A set that starts, or a member that joins, with a cell still tripped raises the class 7 fault of the entry to Fault; for any other member the trip has raised it. -/
def State.setMoves (s : State) (g : Nat) (l : List CtxRec) (ph : Nat) (joined : CtxRec → Bool) : State :=
  match ph, s.trippedMember l (ph == 0) with
  | 0, none => s.startCharge l
  | 0, some x => (s.startCharge l).chargeFault l x.ctx 2 false
  | _, some x => if ph = 6 ∧ bits (s.cw x.ctx CHG_STATE) 9 8 = 2 then s else s.chargeFault l x.ctx 2 (!joined x)
  | 1, none => if !s.pausing g && l.all (fun x => decide (pu (s.cw x.ctx CHG_VPRE) ≤ s.meanV x.ctx)) then s.forEach l (fun x s => (s.setChgPhase x.ctx 2).bulkStart x.ctx) else s
  | 2, none => if !s.pausing g && !l.any (fun b => nickel (s.chem b.ctx)) && s.voltGoverns g then s.forEach l (fun x s => s.setChgPhase x.ctx 3) else s
  | 3, none => if !s.pausing g && s.currGoverns g then s.forEach l (fun x s => s.setChgPhase x.ctx 2) else s
  | _, none => s

/-- What an evaluation counts for a member in a PHASE (R244 to R246): the safety timer, PAUSE, the peak of Bulk with its hold-off, and the evaluations of Top-off. -/
def State.memberCounts (s : State) (x : CtxRec) (ph : Nat) (pause susp : Bool) : State :=
  let c := x.ctx
  let a := if 1 ≤ ph ∧ ph ≤ 3 then s.advance c else s
  let was := s.chgBit c 4
  let a1 := a.setChgBit c 4 pause
  let a2 := if ph = 2 then (if pause ∨ was then a1.bulkStart c else a1.setStr c (fun v => { v with peak := max v.peak (a1.meanV c) })) else a1
  if ph = 4 ∧ ¬ pause ∧ ¬ susp then a2.setStr c (fun v => { v with topped := v.topped + 1 }) else a2

/-- One evaluation of the charge machine of a set (R237 to R246): members that have joined, temperatures, the moves of R243 that have no row of their own, the safety timer, PAUSE, the qualifying times, and the requests, which a pause holds. -/
def State.evalSet (s : State) (g : Nat) : State :=
  let l := s.chargeSet g
  if l.isEmpty then s
  else
    let ph := s.setPhaseOf l
    let s1 := (s.joinSet l).forEach l (fun x s => s.chargeTemp x.ctx)
    let s1a := if l.all (fun x => s.chargeable x.ctx) then s1.setMoves g l ph (fun x => s.chgPhase x.ctx == 0) else s1.chargeOff l
    let s2 := { s1a with cellDue := s1a.cellDue.filter (fun c => l.all (·.ctx ≠ c)) }
    let pause := s2.pausing g
    let susp := l.any (fun x => s2.chgBit x.ctx 3)
    let ph2 := s2.setPhaseOf l
    let s3 := s2.forEach l (fun x s => s.memberCounts x ph2 pause susp)
    let taper := ph2 == 3 && s3.voltGoverns g && l.all (fun x => decide (-(s3.meanI x.ctx) < pu (s3.cw x.ctx CHG_ITERM)))
    let s4 := if taper then s3.startOnce (.chgA g) else s3.stop (.chgA g)
    let low := ph2 == 5 && l.any (fun x => bit (s4.cw x.ctx CHG_CTL) 5 && decide (s4.meanV x.ctx < pu (s4.cw x.ctx CHG_VRCH)))
    let s5 := if low then s4.startOnce (.chgB g) else s4.stop (.chgB g)
    if pause then s5 else s5.forEach l (fun x s => s.request x.ctx)

/-- One evaluation of a supervised string (R251). -/
def State.evalSupervised (s : State) (r : CtxRec) : State :=
  let c := r.ctx
  if !s.chargeable c then s.chargeOff [r]
  else
    let s1 := ((s.setChgPhase c 7).tempFactor c).showReduced c
    let i := -(s1.meanI c)
    let iterm := pu (s1.cw c CHG_ITERM)
    let full := s1.chgBit c 10
    let s2 := if full && decide (s1.meanV c < pu (s1.cw c CHG_VRCH)) then s1.setChgBit c 10 false else s1
    let s3 := if !s2.chgBit c 10 && decide (iterm < s2.ichg c) then s2.advance c else s2
    let near := decide (i < iterm) && decide (pu (s3.cw c CHG_VCV) - 655 / 65536 ≤ s3.meanV c)
    let s4 := if near then s3.startOnce (.chgA c) else s3.stop (.chgA c)
    let hot := (s4.read (ctxAddr c CTX_TMEAS)).2 != 3 && decide ((s4.str c).fc = 0) && decide (iterm < i)
    let s5 := if hot && !(s4.str c).hot then (s4.sts c 12).laneRaise 7 c none 704 else s4
    (s5.setStr c (fun v => { v with hot := hot, late := v.late && s5.timedOut c })).setC c CHG_ICREQ 0

/-- The serving group context that a row about charging names: the group itself, or the group of a served string. -/
def State.setOf (s : State) (c : Nat) : Option Nat := match s.ctx? c with
  | some r => if r.typ = .group then some c else if r.typ = .string then (s.servedBy r).map CtxRec.ctx else none
  | none => none

/-! ### Meanings -/

/-- CHARGE_EVALUATION: the charge machine of a set, or the supervision of a string without a serving group, once per millisecond (R243, R251). -/
def execChargeEvaluation (c t : Nat) (s : State) : Host.Outcome State Fault Refusal :=
  let s := s.at t
  finish s (if !s.works then s
  else match s.setOf c, s.string? c with
    | some g, _ => s.evalSet g
    | none, some r => s.evalSupervised r
    | none, none => s)

/-- CHARGE_SUSPEND_END: valid and inside the inner window for 10 s (R241). -/
def execChargeSuspendEnd (c t : Nat) (s : State) : Host.Outcome State Fault Refusal :=
  let s := s.at t
  finish s (if s.works && s.isType c .string && s.chgBit c 3 && s.expiredTicks (.susp c) (10 * ticksPerSecond) then ((s.setChgBit c 3 false).stop (.susp c)).request c else s)

/-- CHARGE_TERMINATION: a condition of R243 is met by the set of a group (R254). -/
def execChargeTermination (c t : Nat) (s : State) : Host.Outcome State Fault Refusal :=
  let s := s.at t
  finish s (match s.works, s.setOf c with
    | true, some g => match s.termination g with
      | some k => (s.terminate (s.chargeSet g) k).stop (.chgA g)
      | none => s
    | _, _ => s)

/-- TOPOFF_END: CHG.TTOP counted in Top-off by every member (R243). -/
def execTopoffEnd (c t : Nat) (s : State) : Host.Outcome State Fault Refusal :=
  let s := s.at t
  finish s (match s.works, s.setOf c with
    | true, some g =>
      let l := s.chargeSet g
      if !l.isEmpty && !s.pausing g && l.all (fun b => s.chgPhase b.ctx == 4 && decide (ef (s.cw b.ctx CHG_TTOP) * 1000 ≤ ((s.str b.ctx).topped : Rat))) then
        s.forEach l (fun b s => (s.setChgPhase b.ctx 5).request b.ctx)
      else s
    | _, _ => s)

/-- CHARGE_SAFETY_TIMEOUT: CHG.TELAP of a member has reached CHG.TSAFE; a termination of the same evaluation wins (R243, R246, R251, R254). -/
def execChargeSafetyTimeout (c t : Nat) (s : State) : Host.Outcome State Fault Refusal :=
  let s := s.at t
  finish s (if !s.works then s
  else match s.setOf c, s.string? c with
    | some g, _ =>
      let l := s.chargeSet g
      match l.find? (fun b => decide (1 ≤ s.chgPhase b.ctx) && decide (s.chgPhase b.ctx ≤ 3) && s.timedOut b.ctx), s.termination g with
      | some b, none => s.chargeFault l b.ctx 1 false
      | _, _ => s
    | none, some r =>
      if s.chgPhase c == 7 && !s.chgBit c 10 && s.timedOut c && !(s.str c).late then
        (((s.setFld (ctxAddr r.ctx CHG_STATE) 9 8 1).sts c 14).setStr c (fun v => { v with late := true })).laneRaise 7 c none 701
      else s
    | none, none => s)

/-- PRECHARGE_TIMEOUT: an eighth of CHG.TSAFE spent in Precharge; the members still below CHG.VPRE are concerned, the first of them takes the fault; a paused set keeps its phase (R243, R245). -/
def execPrechargeTimeout (c t : Nat) (s : State) : Host.Outcome State Fault Refusal :=
  let s := s.at t
  finish s (match s.works, s.setOf c with
    | true, some g =>
      let l := s.chargeSet g
      match l.find? (fun b => s.chgPhase b.ctx == 1 && !s.pausing g && decide (ef (s.cw b.ctx CHG_TSAFE) / 8 * ticksPerSecond ≤ ((s.now - (s.str b.ctx).preAt : Nat) : Rat)) &&
          decide (s.meanV b.ctx < pu (s.cw b.ctx CHG_VPRE))) with
      | some b => s.chargeFault l b.ctx 3 false
      | none => s
    | _, _ => s)

/-- RECHARGE_START: a member below CHG.VRCH for 10 s in Done (R243). -/
def execRechargeStart (c t : Nat) (s : State) : Host.Outcome State Fault Refusal :=
  let s := s.at t
  finish s (match s.works, s.setOf c with
    | true, some g =>
      if (s.chargeSet g).any (fun b => s.chgPhase b.ctx == 5) && s.expiredTicks (.chgB g) (10 * ticksPerSecond) then (s.startCharge (s.chargeSet g)).stop (.chgB g) else s
    | _, _ => s)

/-- SUPERVISED_FULL: below CHG.ITERM for 10 s near CHG.VCV (R251). -/
def execSupervisedFull (c t : Nat) (s : State) : Host.Outcome State Fault Refusal :=
  let s := s.at t
  finish s (if s.works && s.isType c .string && s.chgPhase c == 7 && !s.chgBit c 10 && s.expiredTicks (.chgA c) (10 * ticksPerSecond) then
    (((s.setChgBit c 10 true).setTelap c 0).setStr c (fun v => { v with late := false })).anchorFull c
  else s)

/-! ### Cell over-voltage (R249, R250) -/

/-- The string context of cell s, and whether it has taps in use and the cell is one of its first NCELL. -/
def State.cellString (s : State) (n k : Nat) : Option CtxRec :=
  if n < 2 ∧ k < 16 ∧ s.cellTaps n ∧ k < (s.reg (CELL_CFG + n)).toNat % 32 then s.image.bind (·.inst? .string n) else none

/-- The core's own action at a trip: charge operation of the serving group ends, or the gate of a direct-hang string trips in reverse (R249). -/
def State.cellAct (s : State) (r : CtxRec) : State := match r.directHang, s.servedBy r with
  | true, _ => if s.drive r.a0 == 0 then s else (s.setFlag (GCH_STS + r.a0) 4 true).dhFails r 7
  | false, some g => if s.modeNow g.ctx == 1 && s.dirNow g.ctx then s.coreMode g.ctx 2 true else s
  | false, none => s

/-- Cell k of string n stayed at or above CELL.OVTH for 64 us; it cannot trip again before its release (R249). A charge of the set ends in Fault (R243, R254). -/
def State.cellTrip (s : State) (n k : Nat) : State := match s.cellString n k with
  | some r =>
    if s.cellTripped.contains (16 * n + k) then s
    else
      let s1 := { s with cellTripped := s.cellTripped ++ [16 * n + k] }
      let s2 := ((s1.setFlag (CELL_OVSTS + n) k true).sts r.ctx 15).cellAct r
      let s3 := s2.coreRaise 7 r.ctx none 702
      match s3.works, s3.setOf r.ctx with
      | true, some g => if s3.chgPhase r.ctx != 0 && s3.batEn r.ctx then s3.chargeFault (s3.chargeSet g) r.ctx 2 true else s3
      | false, some _ => { s3 with cellDue := s3.cellDue.filter (· ≠ r.ctx) ++ [r.ctx] }
      | _, none => s3
  | none => s

/-- A cell voltage (uV) in pu of the cell base of 5.00 V (R250). -/
def cellPu (uv : Int) : Rat := (uv : Rat) / 5000000

/-- CELL_OV_RELEASE: the cell's voltage is below CELL.OVTH - 0.01 pu (R249). -/
def execCellOvRelease (n : Nat) (k : CellIn) (t : Nat) (s : State) : Host.Outcome State Fault Refusal :=
  let s := s.at t
  finish s (if cellPu k.uv < pu (s.reg (CELL_OVTH + n)) - 1 / 100 then { s with cellTripped := s.cellTripped.filter (· ≠ 16 * n + k.cell) } else s)

end Sys2Proof.Machine
end

