-- ==== Sys2Proof/Machine/Saddle.lean ====
section
/-! DEFINITION. The Hollow detector, the Saddle and the Return pass (R217 to R233), with the strand's ownership of MODE, DIR, set-points and slot enables (R147, R208, R239, R252, R281). -/

namespace Sys2Proof.Machine

/-! ### The Hollow detector (R220 to R222) -/

/-- SAD.STATE.HOLLOW. -/
def State.inHollow (s : State) : Bool := s.flag SAD_STATE 11

/-- The lowest-numbered enabled serving group (R220). -/
def State.hollowGroup (s : State) : Option CtxRec := minBy (fun r => (r.inst : Int)) (s.servingGroups.filter (fun r => s.grpEn r.ctx))

/-- The watched group's output in pu of the shelf VBASE, as a PU18 word. -/
def State.busWord (s : State) (uv : Rat) : Int := (toPU (uv / 1000000 / ef (s.cw 0 CTX_VBASE))).toInt

/-- SAD.HREF, SAD.HTHR and SAD.HHYST as integers. -/
def State.hollowLevel (s : State) (hyst : Bool) : Int :=
  (s.reg SAD_HREF).toInt - (s.reg SAD_HTHR).toInt + (if hyst then (s.reg SAD_HHYST).toInt else 0)

/-- A Hollow is over: its duration is taken, and RIDE is judged where it ended by itself (R220, R222). -/
def State.endHollow (s : State) (own : Bool) : State :=
  let n := s.age .hollow
  let s1 := ((s.setFlag SAD_STATE 11 false).setReg SAD_HDUR (toSeconds n)).stop .hollow
  if own then
    if !elapsed (s.reg SAD_TLOSS) 0 n && (s.ofType .feed).any (fun r => s.qualified r.ctx) then s1.gOffer 0 5 else s1
  else { s1 with hollow := { watched := none } }

/-- The depth of the present Hollow follows the lowest 320 ns average, and shed phases are recalled (R163, R220). -/
def State.deepen (s : State) (uv : Int) : State :=
  let low := min s.hollow.lowest uv
  let depth := (s.reg SAD_HREF).toInt - s.busWord (low : Rat)
  let s1 := { s with hollow := { s.hollow with lowest := low } }.setReg SAD_HDEPTH (puRaw depth)
  s1.forEach (s1.ofType .group) (fun r s => s.hollowRecall r depth)

/-- The watched group chosen, and a Hollow whose group stopped switching ended (R220). -/
def State.watch (s : State) : State :=
  if s.inHollow then
    match s.hollow.watched with
    | some c => if switchingCode (s.code c) && !(s.grp c).cutStop then s else s.endHollow false
    | none => s.endHollow false
  else
    let g := (s.hollowGroup).map CtxRec.ctx
    if g = s.hollow.watched then s else { s with hollow := { watched := g } }

/-- A frame of the watched group: its average is part of the tick's mean, and the lowest of its 320 ns averages sets the depth of a Hollow (R220). -/
def State.hollowFrame (s : State) (vout vlow : List Int) : State :=
  let s1 := s.watch
  match s1.hollow.watched.bind s1.ctx? with
  | some r =>
    let v := vout.getD r.inst 0
    let s2 := { s1 with hollow := { s1.hollow with part := s1.hollow.part + v, partN := s1.hollow.partN + 1, last := v } }
    if s2.inHollow then s2.deepen (vlow.getD r.inst v) else s2
  | none => s1

/-- The tick's mean joins the last millisecond, and SAD.HREF follows once it is formed, frozen during a Hollow (R220). -/
def State.hollowTick (s : State) : State :=
  let s1 := s.watch
  let h := s1.hollow
  if h.watched = none ∨ h.partN = 0 then s1
  else
    let ticks := ((h.part : Rat) / (h.partN : Rat) :: h.ticks).take 100
    let s2 := { s1 with hollow := { h with ticks := ticks, part := 0, partN := 0 } }
    if h.formed && !s1.inHollow then s2.setReg SAD_HREF (puRaw (s2.busWord (meanOf ticks))) else s2

/-- Every serving group in MODE 0b01 goes to MODE 0b10 (R221, R253). -/
def State.toStandby (s : State) (charging : Bool) : State :=
  s.forEach s.servingGroups (fun r s => if s.modeNow r.ctx == 1 && (!charging || s.dirNow r.ctx) then s.coreMode r.ctx 2 (s.dirNow r.ctx) else s)

/-- Whether a Hollow has lasted SAD.TLOSS: the present one, or one that has ended since the last tick of a lane (R224, R233). -/
def State.tlossMet (s : State) : Bool := s.hollow.tlossDue || (s.inHollow && s.expired .hollow (s.reg SAD_TLOSS))

/-! ### Set-points of the strand (R208, R218, R225) -/

/-- The hold slot of every available serving group given a set-point (PU18 on the shelf VBASE, which is the group's, R207), limited to its SLOT.OMAX where asked. -/
def State.setHold (s : State) (w : Word) (limited : Bool) : State :=
  s.forEach s.availableGroups (fun r s => match s.holdSlot r.ctx with
    | some n => s.putSet n (if limited && decide ((s.sw n SLOT_OMAX).toInt < w.toInt) then s.sw n SLOT_OMAX else w)
    | none => s)

/-- The release slot of every serving group of a list given a set-point. -/
def State.setRelease (s : State) (l : List CtxRec) (w : Word) : State :=
  s.forEach l (fun r s => match s.releaseSlot r.ctx with
    | some n => s.putSet n w
    | none => s)

/-- Whether the ramp of a slot has ended: no restart pending and RAMP 0. -/
def State.rampDone (s : State) (n : Option Nat) : Bool := match n with
  | some n => !(s.slot n).restart && !bit (s.sw n SLOT_STS) 2
  | none => true

/-- Every available serving group given a MODE and DIR. -/
def State.modeAll (s : State) (mode : Nat) (dir : Option Bool) : State :=
  s.forEach s.availableGroups (fun r s => s.setMode r.ctx mode (dir.getD (s.grpDir r.ctx)))

/-- The standby voltage written to every hold slot, with the reference it was made from (R218). -/
def State.writeStandby (s : State) : State :=
  let w := puRaw ((s.reg SAD_HREF).toInt - (s.reg SAD_VSOFS).toInt)
  let s1 := s.forEach s.servingGroups (fun r s => match s.holdSlot r.ctx with
    | some n => s.putSet n w
    | none => s)
  { s1 with lane := { s1.lane with stdbyUsed := s.reg SAD_HREF, stdbyAt := some s.now, stdbyDue := false } }

/-- Whether the standby voltage is to be written at a tick in Source (R218). -/
def State.standbyDue (s : State) : Bool :=
  let moved := ((s.reg SAD_HREF).toInt - s.lane.stdbyUsed.toInt).natAbs
  let due := s.lane.stdbyDue || (s.lane.stdbyAt.isSome && decide ((s.reg SAD_VSOFS).toInt < 2 * (moved : Int)))
  s.hollow.formed && due && s.lane.stdbyAt.all (fun t0 => decide (t0 + 2000000 ≤ s.now))

/-! ### Start, Depleted and the return target (R224 to R229) -/

/-- SAD.STATE.CODE replaced; the marks of Battery clear outside it. -/
def State.setSad (s : State) (code : Nat) : State := s.setFld SAD_STATE 2 0 code

/-- Entry to Depleted (R229). -/
def State.enterDepleted (s : State) : State :=
  let s1 := (((s.setSad 7).setFld SAD_STATE 4 3 0).setFlag SAD_STATE 10 false).setFlag SAD_STS 4 true
  { s1 with inhibit := [] }.laneRaise 6 0 none 602

/-- The gates of every feed pulled down, native ones as Opening, and every ideal-diode feed inhibited; a change that was running ends, with NOFEED where no feed was left to close (R192, R225, R228). -/
def State.feedsOff (s : State) : State :=
  let s1 := s.forEach (s.ofType .feed) (fun r s => if s.code r.ctx = 3 ∨ s.code r.ctx = 4 then s.openFeed r.ctx 5 else s)
  let s2 := ((if s1.lane.change.isSome && s1.candidate.isNone then s1.noFeed else s1).setChange none).setFld FSEL_ACTIVE 3 0 8
  { s2 with inhibit := s2.diodeFeeds.map CtxRec.ctx }

/-- The entry actions of Catch (R225). -/
def State.catchActions (s : State) : State := (s.modeAll 0 none).feedsOff

/-- A Saddle with its cause: Catch, or Depleted with no available group (R224, R225). -/
def State.startSaddle (s : State) (cause : Nat) : State :=
  let s1 := (s.setFld SAD_STATE 6 5 cause).setFlag SAD_STATE 10 false
  let s2 := { s1 with lane := { s1.lane with saddleCmd := false, returnCmd := false, stableFor := none } }
  if s2.availableGroups.isEmpty then s2.enterDepleted
  else (((s2.setSad 1).setFld SAD_STATE 4 3 0).gOffer 0 0).catchActions

/-- Whether any feed of the shelf is qualified (R224). -/
def State.anyFeed (s : State) : Bool := (s.ofType .feed).any (fun r => s.qualified r.ctx)

/-- The start condition that holds first (R224). -/
def State.saddleCause (s : State) : Option Nat :=
  if !s.anyFeed then some 1
  else if s.tlossMet && s.flag SAD_CFG 1 then some 2
  else if s.lane.saddleCmd then some 3
  else none

/-- The qualified ideal-diode feeds by instance. -/
def State.diodeTargets (s : State) : List CtxRec := sortBy (·.inst) (s.diodeFeeds.filter (fun r => s.qualified r.ctx))

/-- The targets of the Return pass: the native feed of R188, or the qualified ideal-diode feeds where no native feed is qualified (R227; DEDUCED, log 63). -/
def State.returnTargets (s : State) : List CtxRec := match s.candidate with
  | some r => [r]
  | none => s.diodeTargets

/-- The target that SAD.STATE.TARGET names while TVALID is 1. -/
def State.sadTarget (s : State) : Option Nat := if s.flag SAD_STATE 10 then s.inst? .feed (s.fld SAD_STATE 9 7) else none

/-- Whether the fixed target is a native feed (R227). -/
def State.nativeTarget (s : State) : Bool := s.sadTarget.any (fun c => (s.ctx? c).any (·.a1 = 0))

/-- An ideal-diode pass goes on while some ideal-diode feed is qualified; SAD.STATE.TARGET names the lowest (R227). -/
def State.followDiodes (s : State) (lost : State → State) : State := match s.diodeTargets.head? with
  | some r => s.setFld SAD_STATE 9 7 r.inst
  | none => lost s

/-- Entry to Battery from Settle or back from the Return pass. -/
def State.enterBattery (s : State) : State :=
  let s1 := (((s.setSad 3).setFld SAD_STATE 4 3 0).setFlag SAD_STATE 10 false).start .satDwell
  { s1.stop .stable with lane := { s1.lane with stableFor := none, returnCmd := false } }

/-- The Return pass given up: Battery, hold set-point VHOLD, ABORT (R225, R231). -/
def State.abortReturn (s : State) : State := ((s.enterBattery).setHold (s.reg SAD_VHOLD) false).setFlag SAD_STS 3 true

/-- Ideal-diode targets lost in Close: every ideal-diode feed is opened and inhibited again, and the pass is given up (R228, R231). -/
def State.abortClose (s : State) : State :=
  let s1 := s.forEach s.diodeFeeds (fun r s => if s.code r.ctx = 3 ∨ s.code r.ctx = 4 then s.openFeed r.ctx 5 else s)
  { s1 with inhibit := s1.diodeFeeds.map CtxRec.ctx }.abortReturn

/-- Entry to Match: the target is fixed and the bus is brought to its source voltage (R225, R227). -/
def State.enterMatch (s : State) (r : CtxRec) : State :=
  let w := toPU (pu (s.cw r.ctx FEED_VIN) * ef (s.cw r.ctx CTX_VBASE) / ef (s.cw 0 CTX_VBASE))
  let s1 := ((s.setSad 4).setFld SAD_STATE 9 7 r.inst).setFlag SAD_STATE 10 true
  ({ s1 with lane := { s1.lane with returnCmd := false } }).setHold w true

/-- The entry actions of Close: a native target is closed by the selector unless it is on its way; the inhibits of ideal-diode targets are released (R225, R232). An ideal-diode Close releases every ideal-diode feed, a native one none (DEDUCED, log 158). -/
def State.closeActions (s : State) : State := match s.nativeTarget, s.sadTarget with
  | true, some c => if s.lane.change.isSome then s else s.closeTarget { forced := false, old := none, target := some c, phase := .closing } c
  | _, _ => { s with inhibit := [], lane := { s.lane with releasedAt := some s.now } }

/-- The stability count follows the target of Battery, from the end of the dwell or from when the target became qualified, whichever is later (R226). -/
def State.trackStable (s : State) : State := match (s.returnTargets).head? with
  | none => { (s.stop .stable).setFlag SAD_STATE 4 false with lane := { s.lane with stableFor := none } }
  | some r =>
    if s.lane.stableFor = some r.ctx ∧ s.running .stable then s
    else { (s.startAt .stable (max s.lane.dwellEnd ((find s.lane.qualAt r.ctx).getD s.now))).setFlag SAD_STATE 4 false with lane := { s.lane with stableFor := some r.ctx } }

/-! ### The strand at a shelf tick (R217, R239, R252, R281) -/

/-- The supplement allocation of a serving group: its group's result, negative as 0; 0 while SUPEN is 0 (R287, R289). -/
def State.supplement (s : State) (g : Nat) : Int := match s.minGroup g 4 with
  | some q => if bit (s.cw 0 SHELF_CCTL) 0 then max 0 (s.reg (FAB_GRES + q.group)).toInt else 0
  | none => 0

/-- MODE and DIR of a serving group in Source (R217). -/
def State.sourceMode (s : State) (c : Nat) : State :=
  if s.inHollow then s.setMode c 2 (s.grpDir c)
  else if 0 < s.supplement c then s.setMode c 1 false
  else if s.requests c then s.setMode c 1 true
  else s.setMode c 2 (s.grpDir c)

/-- EN of a slot as the strand sets it; a rise starts the slot at its next evaluation. The write is the last one, so the word reads unclamped (R46). -/
def State.strandEn (s : State) (n : Nat) (b : Bool) : State := if bit (s.sw n SLOT_CTL) 0 = b then s else (s.setFlag (slotAddr n SLOT_CTL) 0 b).markClamped (slotAddr n SLOT_CTL) false

/-- A slot held at EN 0, with the value last written kept for its restoration (R239, R281). -/
def State.holdEn (s : State) (n : Nat) : State :=
  let s1 := match find s.lane.heldEn n with
    | some _ => s
    | none => { s with lane := { s.lane with heldEn := putKey s.lane.heldEn n (bit (s.sw n SLOT_CTL) 0) } }
  s1.strandEn n false

/-- A slot given back the EN value last written to it. -/
def State.freeEn (s : State) (n : Nat) : State := match find s.lane.heldEn n with
  | some b => ({ s with lane := { s.lane with heldEn := dropKey s.lane.heldEn n } }).strandEn n b
  | none => s

/-- The members of a set's current group other than charge slots and the release slot (R239). -/
def State.otherSlots (s : State) (g : Nat) : List Nat := match s.image, s.minGroup g 3 with
  | some im, some q =>
    let charge := s.currentSlots g ++ s.voltageSlots g
    ((im.members q.group).map (·.slot)).filter (fun n => !charge.contains n && some n != s.releaseSlot g)
  | _, _ => []

/-- The slots of the set's members: charge slots of strings in use. -/
def State.slotsOfSet (s : State) (g : Nat) : List Nat := match s.image, s.minGroup g 3 with
  | some im, some q => ((im.members q.group).filter (fun m => (s.chargeSet g).any (fun b =>
      (m.ref = .word b.ctx CHG_ICREQ ∧ m.fb = .word b.ctx CTX_IMEAS) ∨ (m.ref = .word b.ctx CHG_VCV ∧ m.fb = .word b.ctx CTX_VMEAS)))).map (·.slot)
  | _, _ => []

/-- The enables of a serving group's current group (R239). -/
def State.chargeEnables (s : State) (g : Nat) : State :=
  let charging := s.code g == 4
  let mine := s.slotsOfSet g
  let s1 := s.forEach (s.currentSlots g ++ s.voltageSlots g) (fun n s => s.strandEn n (charging && mine.contains n))
  s1.forEach (s1.otherSlots g) (fun n s => if charging then s.holdEn n else s.freeEn n)

/-- A group stopped at cut-off is enabled again: the set is charging or to charge, no member suspended, in Source; EN := 1 with a record (R252), and no governor is valid since then (R61). -/
def State.cutRestart (s : State) (r : CtxRec) : State :=
  let l := s.chargeSet r.ctx
  let ok := l.all (fun b => s.chgPhase b.ctx != 0 && s.chgPhase b.ctx != 6 && !s.chgBit b.ctx 3)
  if (s.grp r.ctx).cutStop && s.code r.ctx == 0 && s.sad == 0 && !l.isEmpty && ok then
    let s0 := (s.setFlag (ctxAddr r.ctx GRP_CTL) 0 true).markClamped (ctxAddr r.ctx GRP_CTL) false
    let s1 := s0.setFlag (ctxAddr r.ctx CTX_GOV) 8 false
    let s2 := s1.offerRec (s1.ctxCode r.ctx (recordBit 252)) r.ctx (s1.ctxPayload r.ctx)
    ((s2.startCharge l).setGrp r.ctx (fun v => { v with en := true })).groupOn r
  else s

/-- The moves of the Saddle machine at a shelf tick (R224 to R229, R231). With no available group it enters Depleted; in Unload a loss of every feed is judged first (R225). -/
def State.saddleMoves (s : State) : State :=
    let s0 := if 1 ≤ s.sad ∧ s.sad ≤ 6 ∧ s.availableGroups.isEmpty ∧ ¬ (s.sad = 6 ∧ ¬ s.anyFeed) then s.enterDepleted else s
    match s0.sad with
    | 0 => match s0.saddleCause with
      | some k => s0.startSaddle k
      | none =>
        let s1 := s0.forEach s0.servingGroups (fun r s => s.sourceMode r.ctx)
        if s1.standbyDue then s1.writeStandby else s1
    | 3 =>
      let s1 := if s0.flag SAD_STATE 3 then s0.trackStable else s0
      match (s1.returnTargets).head? with
      | some r => if s1.flag SAD_STATE 3 && s1.flag SAD_STATE 4 && (s1.flag SAD_CFG 0 || s1.lane.returnCmd) then s1.enterMatch r else s1
      | none => s1
    | 4 =>
      if s0.nativeTarget then (if s0.sadTarget.any s0.qualified then s0 else s0.abortReturn)
      else s0.followDiodes State.abortReturn
    | 5 =>
      if !s0.nativeTarget then s0.followDiodes State.abortClose
      else match s0.lane.change with
        | some ch => match ch.target.bind s0.ctx? with
          | some r => s0.setFld SAD_STATE 9 7 r.inst
          | none => s0
        | none => if s0.sadTarget.any (fun c => s0.code c == 4) then s0 else s0.abortReturn
    | 6 => if s0.anyFeed then s0 else (s0.setFlag SAD_STS 3 true).startSaddle 1
    | 7 =>
      if (s0.ofType .feed).any (fun r => s0.code r.ctx == 4) then
        let s1 := (s0.setSad 0).offerRec (0x2000 + (Config.recordBit 229).toNat) 0xFF (s0.w3r SAD_STATE ++ s0.w3r SAD_HDEPTH ++ s0.w3r SAD_HDUR ++ s0.w3r SAD_HREF)
        { s1 with lane := { s1.lane with stdbyDue := true } }
      else s0
    | _ => s0

/-- The Saddle machine at a shelf tick; a shelf without a serving group runs none (R216). A Hollow that had lasted SAD.TLOSS is judged by the tick, in whatever state it finds the machine (R224, R231). -/
def State.saddleTick (s : State) : State :=
  if s.servingGroups.isEmpty then s
  else
    let s1 := s.saddleMoves
    { s1 with hollow := { s1.hollow with tlossDue := false } }

/-! ### Meanings -/

/-- HOLLOW_START: an average of the watched group (uV) below SAD.HREF - SAD.HTHR (R220); current-mode groups go to standby-bidirectional (R221). -/
def execHollowStart (v : Int) (t : Nat) (s : State) : Host.Outcome State Fault Refusal :=
  let s := s.at t
  finish s (if s.hollow.formed && s.hollow.watched.isSome && !s.inHollow && s.sys != sysDormant && decide (s.busWord (v : Rat) < s.hollowLevel false) then
    let s1 := ((s.setFlag SAD_STATE 11 true).inc SAD_HCNT).start .hollow
    let s2 := { s1 with hollow := { s1.hollow with lowest := v, last := v } }
    (s2.deepen v).toStandby false
  else s)

/-- HOLLOW_END: the last frame average stands at or above the end level (R220, R222). -/
def execHollowEnd (t : Nat) (s : State) : Host.Outcome State Fault Refusal :=
  let s := s.at t
  finish s (if s.inHollow && decide (s.hollowLevel true ≤ s.busWord (s.hollow.last : Rat)) then s.endHollow true else s)

/-- HOLLOW_TLOSS: the Hollow has lasted SAD.TLOSS, which the next tick of a lane judges (R224, R233). -/
def execHollowTloss (t : Nat) (s : State) : Host.Outcome State Fault Refusal :=
  let s := s.at t
  finish s (if s.inHollow && s.expired .hollow (s.reg SAD_TLOSS) then { s with hollow := { s.hollow with tlossDue := true } } else s)

/-- HREF_FORMED: 1 ms of averages of the watched group exists (R220). -/
def execHrefFormed (t : Nat) (s : State) : Host.Outcome State Fault Refusal :=
  let s := s.at t
  finish s (if s.hollow.watched.isSome && !s.hollow.formed && decide (100 ≤ s.hollow.ticks.length) then
    { s with hollow := { s.hollow with formed := true } }.setReg SAD_HREF (puRaw (s.busWord (meanOf s.hollow.ticks)))
  else s)

/-- SADDLE_FEEDS_OFF: every feed gate is below the off threshold, or counted as open: Settle (R225). -/
def execSaddleFeedsOff (t : Nat) (s : State) : Host.Outcome State Fault Refusal :=
  let s := s.at t
  let off := (s.ofType .feed).all (fun r => s.drive r.a0 == 0 && (!s.running (.gateOff r.a0) || decide ((s.chan r.a0).vgs < 1000000)))
  finish s (if s.works && s.sad == 1 && off then
    let s1 := s.forEach ((s.ofType .feed).filter (fun r => s.code r.ctx == 5 && decide ((s.chan r.a0).vgs < 1000000))) (fun r s => (s.setCode r.ctx (s.openCode r.ctx)).stop (.gateOff r.a0))
    (s1.setSad 2).setHold (s1.reg SAD_VHOLD) false
  else s)

/-- SADDLE_COMPLETE: the hold slots' ramps have cleared: Battery, and the dwell starts (R225, R226). -/
def execSaddleComplete (t : Nat) (s : State) : Host.Outcome State Fault Refusal :=
  let s := s.at t
  finish s (if s.works && s.sad == 2 && s.availableGroups.all (fun r => s.rampDone (s.holdSlot r.ctx)) then (s.inc SAD_CNT).enterBattery else s)

/-- SADDLE_DWELL_END: 20 ms in Battery (R226). -/
def execSaddleDwellEnd (t : Nat) (s : State) : Host.Outcome State Fault Refusal :=
  let s := s.at t
  finish s (if s.works && s.sad == 3 && s.expiredTicks .satDwell (ms 20) then
    let s1 := (s.setFlag SAD_STATE 3 true).stop .satDwell
    { s1 with lane := { s1.lane with dwellEnd := s1.now } }.trackStable
  else s)

/-- SADDLE_STABLE: the target has stayed qualified for SAD.TSTABLE (R226). -/
def execSaddleStable (t : Nat) (s : State) : Host.Outcome State Fault Refusal :=
  let s := s.at t
  let same := (s.returnTargets).head?.any (fun r => s.lane.stableFor = some r.ctx)
  finish s (if s.works && s.sad == 3 && s.flag SAD_STATE 3 && same && s.expired .stable (s.reg SAD_TSTABLE) then s.setFlag SAD_STATE 4 true else s)

/-- RETURN_MATCH_DONE: the hold slots' Match ramps are complete: Close, the native target sourcing or the inhibits released (R225). -/
def execReturnMatchDone (t : Nat) (s : State) : Host.Outcome State Fault Refusal :=
  let s := s.at t
  finish s (if s.works && s.sad == 4 && s.availableGroups.all (fun r => s.rampDone (s.holdSlot r.ctx)) then
    let s1 := s.setSad 5
    s1.closeActions
  else s)

/-- RETURN_CLOSE_DONE: the native target is Closed, or a tick has come after the release of ideal-diode targets: Unload (R225). -/
def execReturnCloseDone (t : Nat) (s : State) : Host.Outcome State Fault Refusal :=
  let s := s.at t
  let closed := if s.nativeTarget then s.sadTarget.any (fun c => s.code c == 4) else s.lane.releasedAt.any (fun t0 => decide (t0 / 2000 < s.now / 2000))
  finish s (if s.works && s.sad == 5 && closed then ((s.setSad 6).modeAll 1 (some false)).setRelease s.availableGroups 0 else s)

/-- RETURN_UNLOAD_DONE: the release slots' ramps are complete: Source (R225). -/
def execReturnUnloadDone (t : Nat) (s : State) : Host.Outcome State Fault Refusal :=
  let s := s.at t
  finish s (if s.works && s.sad == 6 && s.availableGroups.all (fun r => s.rampDone (s.releaseSlot r.ctx)) then
    let s1 := ((s.modeAll 2 none).setRelease s.servingGroups 0x1FFFF).setSad 0
    let s2 := ((s1.setFld SAD_STATE 4 3 0).setFlag SAD_STATE 10 false).gOffer 0 1
    { s2 with lane := { s2.lane with stdbyDue := true } }
  else s)

/-- SAD.CMD.SADDLE written: a Saddle of cause 0b11 at the next tick in Source; ignored elsewhere (R230). -/
def State.cmdSaddle (s : State) : State := if s.sad = 0 then { s with lane := { s.lane with saddleCmd := true } } else s.setFlag SAD_STS 6 true

/-- SAD.CMD.RETURN written: the Return pass once dwell and stability are met, in Battery; ignored elsewhere (R230). -/
def State.cmdReturn (s : State) : State := if s.sad = 3 then { s with lane := { s.lane with returnCmd := true } } else s.setFlag SAD_STS 6 true

end Sys2Proof.Machine
end

