-- ==== Sys2Proof/Machine/Sharing.lean ====
section
/-! DEFINITION. Current sharing (R277 to R283), and the release of throttle outputs (R292): what the lane does for the rectifiers at a shelf tick, and the rows of this family. -/

namespace Sys2Proof.Machine

/-! ### The sharing set (R278 to R282) -/

/-- RECT.CTL.SHARE. -/
def State.share (s : State) (c : Nat) : Bool := bit (s.cw c RECT_CTL) 0

/-- Whether a rectifier's current reading is fresh enough to share. -/
def State.currentFresh (s : State) (c : Nat) : Bool := let q := (s.read (ctxAddr c CTX_IMEAS)).2; q == 0 || q == 2

/-- The sharing set (R278). -/
def State.sharingSet (s : State) : List CtxRec := (s.ofType .rectifier).filter (fun r => s.share r.ctx && !s.offline r.ctx && s.currentFresh r.ctx)

/-- The mean current of a sharing set, rounded as R34 has it. -/
def State.shareMean (s : State) (l : List CtxRec) : Word :=
  puRaw (roundAway ((l.foldl (fun a r => a + ((s.cw r.ctx CTX_IMEAS).toInt : Rat)) 0) / ((l.length : Nat) : Rat)))

/-- The trim group of a rectifier (R279). -/
def State.trimGroup (s : State) (r : CtxRec) : Option GroupRec := s.image.bind fun im =>
  im.groups.find? (fun g => g.owner = r.ctx ∧ (if r.a0 < 16 then g.tkind = 2 ∧ g.tindex = r.a0 else g.tkind = 0))

/-- The members of a rectifier's trim group. -/
def State.trimSlots (s : State) (r : CtxRec) : List Nat := match s.image, s.trimGroup r with
  | some im, some g => (im.members g.group).map (·.slot)
  | _, _ => []

/-- CTX.STATE.CODE of a rectifier (R282). -/
def State.rectCode (s : State) (c : Nat) : Nat :=
  if s.offline c then 3 else if !s.share c then 0 else if s.currentFresh c then 1 else 2

/-- Parking: the state code, PARK at its start, and the enables of the trim group held and given back (R281, R282). -/
def State.parkRect (s : State) (r : CtxRec) : State :=
  let c := r.ctx
  let new := s.rectCode c
  let s1 := if new = 3 ∧ s.code c ≠ 3 then s.sts c 6 else s
  let s2 := s1.setCode c new
  s2.forEach (s2.trimSlots r) (fun n s => if new = 3 then s.holdEn n else s.freeEn n)

/-- A PU18 word held between 0.0 and 1.0 pu. -/
def clampUnit (w : Word) : Word := if w.toInt < 0 then 0 else if 65536 < w.toInt then onePU else w

/-- The trim in force: the clamped result, or what a safe state left on the trim output (R280, R353). -/
def State.trimNow (s : State) (r : CtxRec) (g : GroupRec) : Word :=
  if s.safe r.ctx then (if r.a0 < 16 then lookup 0 s.trim r.a0 else s.cw r.ctx RECT_TRIM) else clampUnit (s.reg (FAB_GRES + g.group))

/-- Whether a trim differs from the last value acknowledged, so that VOUT_TRIM is owed (R280). -/
def State.trimDue (s : State) (r : CtxRec) (w : Word) : Bool :=
  let v := s.target r.ctx
  v.mode.isSome && !s.unsupported r.ctx && v.ackTrim != some (Word.ofNat (s.wireData { ctx := r.ctx, code := 0x22, data := w.toNat, safe := false }))

/-- RECT.TRIM with TLIM as it reaches an end, and VOUT_TRIM of a downstream-trimmed rectifier; one that waits is dropped when the result is back at the value last acknowledged (R280, R282, R283). -/
def State.trimRect (s : State) (r : CtxRec) : State := match s.trimGroup r with
  | none => s
  | some g =>
    let w := s.trimNow r g
    let old := s.cw r.ctx RECT_TRIM
    let s1 := s.setC r.ctx RECT_TRIM w
    let s2 := if (w = 0 ∨ w = onePU) ∧ w ≠ old then s1.stsOffer r.ctx 7 else s1
    if g.tkind ≠ 0 ∨ s2.safe r.ctx then s2 else if s2.trimDue r w then s2.queueCmd r.ctx 0x22 w.toNat false else s2.dropCmd r.ctx 0x22

/-- The time that a share error has lasted while Sharing (R282). -/
def State.shareTimer (s : State) (c : Nat) : State :=
  let big := decide ((s.cw c RECT_SHTOL).toInt < ((s.cw c RECT_SHERR).toInt.natAbs : Int))
  if s.code c == 1 && big then s.startOnce (.shareErr c)
  else { s.stop (.shareErr c) with lane := { s.lane with sherrDone := s.lane.sherrDone.filter (· ≠ c) } }

/-- RECT.IREF at a shelf tick: formed for the sharing set, and stale for every other rectifier, so that its share slot holds under its STALE policy (R278, R281). -/
def State.shareRefs (s : State) : State :=
  let l := s.sharingSet
  let mean := s.shareMean l
  s.forEach (s.ofType .rectifier) fun r s =>
    let a := ctxAddr r.ctx RECT_IREF
    if l.any (·.ctx = r.ctx) then (s.measure a (if l.length < 2 then s.cw r.ctx CTX_IMEAS else mean)).markStale a false else s.markStale a true

/-- What becomes of every rectifier at a shelf tick once the slots are evaluated: its share error, parking, its trim, and the time of the error (R279 to R282). -/
def State.shareTick (s : State) : State := s.forEach (s.ofType .rectifier) fun r s =>
  let d := (s.cw r.ctx CTX_IMEAS).toInt - (s.cw r.ctx RECT_IREF).toInt
  let s1 := (s.setC r.ctx RECT_SHERR (puRaw d)).onlyIf (puOver ((d : Rat) / 65536)) (fun s => s.sts r.ctx 2)
  ((s1.parkRect r).trimRect r).shareTimer r.ctx

/-- SHELF.PCAPEFF (R285). -/
def State.capEffective (s : State) : State :=
  let pin := s.cw 0 SHELF_PINCAP
  s.setC 0 SHELF_PCAPEFF (if bit (s.cw 0 SHELF_CCTL) 2 then wordMin pu pin (s.cw 0 SHELF_RACKCAP) else pin)

/-! ### Meanings -/

/-- RECT_SHARE_ERROR: the share error has exceeded RECT.SHTOL for 1 s while Sharing (R282, R283). -/
def execRectShareError (c t : Nat) (s : State) : Host.Outcome State Fault Refusal :=
  let s := s.at t
  finish s (if s.works && s.isType c .rectifier && s.code c == 1 && s.expiredTicks (.shareErr c) ticksPerSecond && !s.lane.sherrDone.contains c then
    ({ s with lane := { s.lane with sherrDone := s.lane.sherrDone ++ [c] } }).stsOffer c 5
  else s)

/-- THROTTLE_RELEASE: the lowest-numbered output that is due is released, one per THR.TREL across the shelf, timed in the core in every operating state (R292, R298). -/
def execThrottleRelease (n t : Nat) (s : State) : Host.Outcome State Fault Refusal :=
  let s := s.at t
  finish s (if (List.range 16).find? s.throttleRipe = some n then
    (((s.setFlag THR_LIVE n false).stop (.thrHold n)).stop (.thrRel n)).start .thrGap
  else s)

end Sys2Proof.Machine
end

