-- ==== Sys2Proof/Machine/Cascade.lean ====
section
/-! DEFINITION. The Utwiesk cascade (R294 to R297, R431 to R444): ports and their states, frames sent, time alignment, reports and allocations, and the master's remote accesses. A port is named by a Bool: true is the down port. -/

namespace Sys2Proof.Machine

/-! ### Chain and ports (R431, R437) -/

/-- CASC.STATE.CPOS. -/
def State.cpos (s : State) : Nat := s.fld CASC_STATE 2 0

/-- Whether the chip is the master (R431). -/
def State.master (s : State) : Bool := s.cpos == 0 && decide (1 < s.casc.nchip)

/-- What is kept of a port. -/
def State.link (s : State) (down : Bool) : CascPort := if down then s.casc.down else s.casc.up

/-- The state with what is kept of a port changed. -/
def State.setLink (s : State) (down : Bool) (f : CascPort → CascPort) : State :=
  { s with casc := if down then { s.casc with down := f s.casc.down } else { s.casc with up := f s.casc.up } }

/-- Port states (R437). -/
abbrev linkDisabled : Nat := 0
abbrev linkTraining : Nat := 1
abbrev linkHandshake : Nat := 2
abbrev linkIsUp : Nat := 3

/-- The state of a port. -/
def State.linkState (s : State) (down : Bool) : Nat := if down then s.fld CASC_STATE 6 5 else s.fld CASC_STATE 4 3

/-- The state of a port replaced. -/
def State.setLinkState (s : State) (down : Bool) (v : Nat) : State := if down then s.setFld CASC_STATE 6 5 v else s.setFld CASC_STATE 4 3 v

/-- Whether a port is wired in the chain and enabled (R431, R443). -/
def State.linkEnabled (s : State) (down : Bool) : Bool :=
  decide (1 < s.casc.nchip) && decide (s.cpos < s.casc.nchip) && (if down then decide (s.cpos + 1 < s.casc.nchip) && s.flag CASC_CFG 5 else decide (0 < s.cpos) && s.flag CASC_CFG 4)

/-- The position of the peer of a port. -/
def State.peer (s : State) (down : Bool) : Nat := if down then s.cpos + 1 else s.cpos - 1

/-- A port begins to train: from here its 10 ms count (R438). -/
def State.train (s : State) (down : Bool) : State :=
  ((s.setLinkState down linkTraining).setLink down (fun p => { p with raised := false })).start (.linkUp down)

/-- A link event offered (R381, R438); the count is the one a register keeps of the event, else 1. -/
def State.linkEvent (s : State) (down : Bool) (ev : Nat) : State :=
  let count := if ev = 4 then s.regN CASC_CRCCNT else if ev = 2 then s.regN CASC_CVCNT else 1
  s.offerRec 0x0208 0xFF ([BitVec.ofNat 8 (b2n down), BitVec.ofNat 8 ev, BitVec.ofNat 8 (s.peer down), 0] ++ leBytes 4 count)

/-- A change of port state for which the table of R438 lists no event code: its record carries a code of the table that the spec leaves open. -/
def State.linkChange (s : State) (down : Bool) (was : Nat) : State :=
  s.linkEvent down (1 + (Config.linkChange (4 * was + s.linkState down)).toNat)

/-- The ports follow their enables; every change of port state offers a record (R437, R438). -/
def State.portEnables (s : State) : State := s.forEach [false, true] fun d s =>
  if s.linkEnabled d then (if s.linkState d = linkDisabled then (s.train d).linkChange d linkDisabled else s)
  else if s.linkState d = linkDisabled then s.stop (.linkUp d)
  else ((s.setLinkState d linkDisabled).stop (.linkUp d)).linkChange d (s.linkState d)

/-- The cascade at a start under an image: NCHIP takes effect, an inconsistent strap is reported, ports are enabled, MASTER and CASC.REACH follow (R284, R431, R443). -/
def State.startCascade (s : State) : State :=
  let n := s.fld CASC_CFG 3 0
  let s1 := { s with casc := { s.casc with nchip := n } }
  let bad := decide (n ≤ s1.cpos)
  let s2 := (s1.setFlag CASC_STATE 7 bad).setFlag (ctxAddr 0 SHELF_CAPLIVE) 5 s1.master
  let s3 := if bad then s2.coreRaise 12 0 none 1201 else s2
  let s4 := if 1 < n then s3.setFlag CASC_REACH s3.cpos true else s3
  (if 1 < n ∧ ¬ s4.master then s4.start .allocAge else s4).portEnables

/-! ### Frames (R434 to R436) -/

/-- Code and disparity violations seen on a port that is not disabled (R443). DEDUCED, log 147. -/
def State.countCodes (s : State) (down : Bool) (n : Nat) : State :=
  if s.linkState down = linkDisabled then s else s.setReg CASC_CVCNT (satAdd (s.reg CASC_CVCNT) n)

/-- Nothing sent yet by this command. -/
def State.clearOut (s : State) : State := { s with casc := { s.casc with out := [] } }

/-- The bytes of a frame between its special characters: header, payload, CRC. -/
def frameBytes (typ src dest seq : Nat) (payload : List Byte) : List Byte :=
  let body := [BitVec.ofNat 8 typ, BitVec.ofNat 8 (src + dest), BitVec.ofNat 8 seq, BitVec.ofNat 8 payload.length] ++ payload
  body ++ leBytes 4 (crc32 body)

/-- The destination field of one position, and of a broadcast. -/
def toPos (k : Nat) : Nat := 16 * (k % 8)
def toAll : Nat := 8

/-- A frame sent on a port that is Up or in its handshake. -/
def State.send (s : State) (down : Bool) (typ dest : Nat) (payload : List Byte) : State :=
  if s.linkState down < linkHandshake ∨ (s.linkState down = linkHandshake ∧ typ ≠ 1) then s
  else
    let n := (s.link down).sent
    let s1 := s.setLink down (fun p => { p with sent := (p.sent + 1) % 256 })
    { s1 with casc := { s1.casc with out := s1.casc.out ++ [(down, frameBytes typ s.cpos dest n payload)] } }

/-- The payload length of a message type; none for a type the table does not list (R436). -/
def messageLen : Nat → Option Nat
  | 0x01 | 0x02 => some 8
  | 0x03 | 0x04 | 0x10 => some 12
  | 0x11 => some 40
  | 0x20 | 0x30 => some 4
  | 0x21 => some 7
  | 0x22 => some 6
  | _ => none

/-- A class 12 fault that a link message brings: its port and its type are captured (R361, R436). -/
def State.linkRaise (s : State) (down : Bool) (typ site : Nat) : State :=
  s.raise { cls := 12, ctx := 0, sev := none, site := site, init := 9 + b2n down, acc := 7, addr := typ }

/-- A frame of a type discarded: counted, flagged, recorded, and a class 12 fault with the sixteenth within 1 s (R434, R438). -/
def State.discardFrame (s : State) (down : Bool) (typ : Nat) : State :=
  let s1 := (((s.inc CASC_CRCCNT).setFlag CASC_STS 2 true)).linkEvent down 4
  let l := s1.casc.discards.filter (fun t0 => decide (s1.now < t0 + ticksPerSecond)) ++ [s1.now]
  if 16 ≤ l.length then { s1 with casc := { s1.casc with discards := [] } }.linkRaise down typ 1202
  else { s1 with casc := { s1.casc with discards := l } }

/-- Whether a frame is whole (R434, R436). -/
def frameOk (f : List Byte) (violations : Nat) : Bool :=
  let n := f.length
  let body := f.take (n - 4)
  violations == 0 && decide (8 ≤ n) && decide (n ≤ 104) && (f.getD 3 0).toNat + 8 == n && decide (ofLe (f.drop (n - 4)) = crc32 body) &&
    messageLen (f.getD 0 0).toNat == some (n - 8)

/-- The frame count checked against the last one on this link. -/
def State.trackSeq (s : State) (down : Bool) (q : Nat) : State :=
  let gap := (s.link down).seen.any (fun p => (p + 1) % 256 ≠ q)
  let s1 := s.setLink down (fun p => { p with seen := some q })
  if gap then (s1.setFlag CASC_STS 3 true).linkEvent down 5 else s1

/-- A frame passed on unchanged through the other port. -/
def State.passOn (s : State) (down : Bool) (f : List Byte) : State :=
  if s.linkState (!down) = linkIsUp then { s with casc := { s.casc with out := s.casc.out ++ [(!down, f)] } } else s

/-- Bytes of a payload as a number, low byte first. -/
def field (p : List Byte) (o n : Nat) : Nat := ofLe ((p.drop o).take n)

/-- A W3R field: the word and its quality code. -/
def w3rField (p : List Byte) (o : Nat) : Word × Nat := (bytesWord (p.getD o 0) (p.getD (o + 1) 0) (p.getD (o + 2) 0), (p.getD (o + 2) 0).toNat / 4 % 4)

/-- A W3R field that is not absent. -/
def w3rThere (p : List Byte) (o : Nat) : Option Word := let f := w3rField p o; if f.2 = 1 ∨ f.2 = 3 then none else some f.1

/-! ### Handshake and time (R437, R439) -/

/-- Rack time (R439). -/
def State.rackTime (s : State) : Nat := (s.now + (if s.master then 0 else s.wide CASC_TOFS 4)) % 2 ^ 56

/-- An ECHO request on the down port. -/
def State.echoSend (s : State) : State := (s.send true 0x02 (toPos (s.peer true)) (leBytes 7 s.now ++ zeros 1)).start .echo

/-- A HELLO sent. -/
def State.helloOut (s : State) (down : Bool) : State :=
  s.send down 0x01 (toPos (s.peer down)) ([BitVec.ofNat 8 s.cpos, BitVec.ofNat 8 s.casc.nchip] ++ s.w3r HOST_DEVID ++ [BitVec.ofNat 8 (b2n (s.flag HOST_ID 2))] ++ zeros 2)

/-- A HELLO taken in during a handshake (R437). -/
def State.takeHello (s : State) (down : Bool) (p : List Byte) : State :=
  if s.linkState down ≠ linkHandshake then s
  else if w3rThere p 2 = some 0x08127 ∧ (p.getD 1 0).toNat = s.casc.nchip ∧ (p.getD 0 0).toNat = s.peer down then
    if !s.laneHeld then s
    else
      let s1 := ((s.setLinkState down linkIsUp).stop (.linkUp down)).linkEvent down 1
      if down then s1.echoSend else s1
  else
    let was := s.flag CASC_STS 1
    let s1 := (s.setFlag CASC_STS 1 true).linkEvent down 3
    if was then s1 else s1.linkRaise down 0x01 1203

/-- An ECHO request answered on the up port. -/
def State.takeEcho (s : State) (down : Bool) (p : List Byte) : State :=
  if down ∨ ¬ s.laneRuns then s else s.send false 0x03 (toPos (s.peer false)) (p.take 7 ++ leBytes 4 0 ++ zeros 1)

/-- An ECHO reply measured: the one-way delay in 2.5 ns units, half the round trip in 5 ns ticks. -/
def State.takeReply (s : State) (p : List Byte) : State :=
  if s.laneRuns then s.setLink true (fun q => { q with delay := some (s.now - field p 0 7 - field p 7 4) }) else s

/-- A TIME frame sent to the next chip. -/
def State.timeOut (s : State) : State :=
  s.send true 0x04 (toPos (s.peer true)) (leBytes 7 s.rackTime ++ [BitVec.ofNat 8 s.cpos] ++ leBytes 4 ((s.link true).delay.getD 0xFFFFFFFF))

/-- A TIME frame taken in: CASC.HOPDLY and CASC.TOFS (R439). -/
def State.takeTime (s : State) (p : List Byte) : State :=
  if s.master ∨ ¬ s.laneRuns then s
  else
    let d := field p 8 4
    let known := d ≠ 0xFFFFFFFF
    let s1 := (s.setReg CASC_HOPDLY (if known then toEF ((d : Rat) / 400000000) else 0)).markStale CASC_HOPDLY (!decide known)
    let hop := if known then (d + 1) / 2 else 0
    let ofs := (field p 0 7 + hop + 2 ^ 56 - s.now % 2 ^ 56) % 2 ^ 56
    s1.forEach (List.range 4) (fun k s => s.measure (CASC_TOFS + k) (Word.ofNat (ofs / 262144 ^ k)))

/-! ### Reports and allocations (R294 to R297, R440) -/

/-- PBASE of the shelf in watts. -/
def State.pbase (s : State) : Rat := ef (s.cw 0 CTX_PBASE)

/-- A word of the shelf context in watts, with its quality code. -/
def State.wattsOf (s : State) (k : Nat) : Word × Nat :=
  let r := s.read (ctxAddr 0 k)
  (toEF (max 0 (pu r.1 * s.pbase)), r.2)

/-- A word and its quality code as a W3R field. -/
def w3rOf (x : Word × Nat) : List Byte := wordBytes x.1 x.2

/-- A REPORT sent towards the master. -/
def State.reportOut (s : State) : State :=
  s.send false 0x10 (toPos 0) (w3rOf (s.wattsOf CTX_PMEAS) ++ w3rOf (s.wattsOf SHELF_RFLOOR) ++ w3rOf (s.wattsOf SHELF_FBALLOC) ++
    [BitVec.ofNat 8 (s.cw 0 SHELF_RWEIGHT).toNat] ++ zeros 2)

/-- A REPORT taken in by the master; one whose demand is absent counts as none, other absent fields keep what was reported before. -/
def State.takeReport (s : State) (src : Nat) (p : List Byte) : State :=
  if ¬ s.master ∨ ¬ s.laneRuns ∨ src = 0 ∨ s.casc.nchip ≤ src then s
  else match w3rThere p 0 with
    | none => s
    | some d =>
      let old := find s.casc.reports src
      let keep (o : Nat) (g : CascReport → Word) : Word := (w3rThere p o).getD ((old.map g).getD 0)
      let r : CascReport := { d := d, f := keep 3 CascReport.f, fb := keep 6 CascReport.fb, w := max 1 (p.getD 9 0).toNat, time := s.now, given := old.bind CascReport.given }
      { s.setFlag CASC_REACH src true with casc := { s.casc with reports := putKey s.casc.reports src r } }

/-- The largest EF18 value not above a number. -/
def floorEF (q : Rat) : Word :=
  match (List.range 32).find? (fun k : Nat => decide ((q / pow10 ((k : Int) - 16)).floor ≤ 8191)) with
  | some k => efNorm (q / pow10 ((k : Int) - 16)).floor.toNat ((k : Int) - 16)
  | none => efWord 8191 15

/-- One chip of a division: position, demand, floor and weight, in watts. -/
structure Share where
  pos : Nat
  d : Rat
  f : Rat
  w : Rat
  deriving DecidableEq, Repr

/-- A sum over the chips of a division. -/
def sumOf (l : List Share) (g : Share → Rat) : Rat := l.foldl (fun a x => a + g x) 0

/-- The division of a limit among chips (R294). -/
def divide (l : Rat) (chips : List Share) : List (Nat × Rat) :=
  let sd := sumOf chips Share.d
  let sf := sumOf chips Share.f
  let x (k : Share) : Rat := k.w * max 0 (k.d - k.f)
  let sx := sumOf chips x
  chips.map fun k => (k.pos,
    if sd ≤ l then k.d + (l - sd) * k.w / sumOf chips Share.w
    else if sf ≤ l then (if sx = 0 then k.f else k.f + (l - sf) * x k / sx)
    else l * k.f / sf)

/-- Whether a chip's last report is recent enough (R297). -/
def State.reachable (s : State) (r : CascReport) : Bool := decide (s.now < r.time + us 300)

/-- What the master keeps back for an unreachable chip (R297). -/
def State.reserved (s : State) (r : CascReport) : Rat :=
  let fb := ef r.fb
  if s.now < r.time + ms 10 then max fb ((r.given.map ef).getD 0) else fb

/-- The allocation of each chip that takes part: watts, or none for no limit. -/
def State.allocations (s : State) : List (Nat × Option Word) :=
  let own : Share := { pos := 0, d := ef (s.wattsOf CTX_PMEAS).1, f := ef (s.wattsOf SHELF_RFLOOR).1, w := ((s.cw 0 SHELF_RWEIGHT).toNat : Nat) }
  let live := (sortBy (fun (p : Nat × CascReport) => p.1) s.casc.reports).filter (fun p => s.reachable p.2)
  let gone := s.casc.reports.filter (fun p => !s.reachable p.2)
  let chips := own :: live.map (fun p => { pos := p.1, d := ef p.2.d, f := ef p.2.f, w := (p.2.w : Nat) })
  let limit := ef (s.cw 0 SHELF_RACKLIM)
  if limit = 0 then (List.range s.casc.nchip).map (fun k => (k, none))
  else (divide (max 0 (limit - gone.foldl (fun a p => a + s.reserved p.2) 0)) chips).map (fun a => (a.1, some (floorEF a.2)))

/-- One entry of an ALLOC (R436, R440). -/
def allocEntry (l : List (Nat × Option Word)) (k : Nat) : List Byte := match find l k with
  | some (some w) => 1 :: wordBytes w 0
  | some none => 2 :: zeros 3
  | none => zeros 4

/-- An allocation taken for the next tick (R295, R296): in watts, or no limit. -/
def State.takeAlloc (s : State) (a : Option Word) : State :=
  let w := match a with
    | some x => toPU (ef x / s.pbase)
    | none => 0x1FFFF
  let s1 := { s with casc := { s.casc with capDue := some w, lastAlloc := some s.now, lost := false } }
  let s2 := (s1.setFlag (ctxAddr 0 SHELF_CAPLIVE) 3 true).setFlag (ctxAddr 0 SHELF_CAPLIVE) 4 false
  (s2.setFlag CASC_REACH 0 true).start .allocAge

/-- The allocations computed, sent, and the master's own taken (R294, R440). -/
def State.allocOut (s : State) : State :=
  let l := s.allocations
  let cycle := s.rackTime - us 50
  let s1 := s.send true 0x11 toAll (leBytes 7 cycle ++ zeros 1 ++ (List.range 8).flatMap (allocEntry l))
  let s2 := { s1 with casc := { s1.casc with reports := s1.casc.reports.map (fun p => (p.1, { p.2 with given := match find l p.1 with
    | some a => a
    | none => p.2.given })) } }
  match find l 0 with
  | some a => s2.takeAlloc a
  | none => s2

/-- An ALLOC taken in (R295, R440). An entry with bit 1 means no limit; one with neither bit is no allocation. -/
def State.takeAllocs (s : State) (p : List Byte) : State :=
  let f := (p.getD (8 + 4 * s.cpos) 0).toNat
  if s.master ∨ ¬ s.laneRuns then s
  else if f / 2 % 2 = 1 then s.takeAlloc none
  else if f % 2 = 1 then s.takeAlloc (some (w3rField p (9 + 4 * s.cpos)).1)
  else s

/-- The allocation due, in force at a tick (R295). -/
def State.applyAlloc (s : State) : State := match s.casc.capDue with
  | some w => { s.setC 0 SHELF_RACKCAP w with casc := { s.casc with capDue := none } }
  | none => s

/-! ### Remote access of the master (R441, R442) -/

/-- A remote access that ends with an error code, or none. -/
def State.endRemote (s : State) (err : Nat) : State :=
  let s1 := ((s.setFlag CASC_RSTS 0 false).setFld CASC_RSTS 4 2 err).stop .remote
  { if err = 0 then s1.setFlag CASC_RSTS 1 true else s1 with casc := { s1.casc with remote := none } }

/-- A write of CASC.RCMD (R441, R442). -/
def State.remoteCmd (s : State) (w : Word) : State :=
  let op := bits w 1 0
  let pos := bits w 4 2
  if op = 0 ∨ s.flag CASC_RSTS 0 then s
  else if !s.master then s.setFld CASC_RSTS 4 2 1
  else if pos = s.cpos ∨ s.casc.nchip ≤ pos then s.setFld CASC_RSTS 4 2 2
  else
    let tag := (s.casc.tag + 1) % 256
    let addr := leBytes 2 (s.regN CASC_RADDR)
    let s1 := { s with casc := { s.casc with tag := tag, remote := some (pos, tag, op) } }
    let s2 := ((s1.setFlag CASC_RSTS 0 true).setFld CASC_RSTS 4 2 0).start .remote
    if op = 1 then s2.send true 0x20 (toPos pos) (addr ++ [BitVec.ofNat 8 tag, 0])
    else if op = 2 then s2.send true 0x21 (toPos pos) (addr ++ [BitVec.ofNat 8 tag, 0] ++ wordBytes (s2.reg CASC_RDATA) 0)
    else s2.send true 0x30 (toPos pos) [0xC5, 0x5C, 0, 0]

/-- A REMOTE ANSWER that matches the access in progress (R441); any other is discarded. -/
def State.takeAnswer (s : State) (src : Nat) (p : List Byte) : State := match s.casc.remote with
  | some (pos, tag, op) =>
    if src = pos ∧ (p.getD 0 0).toNat = tag ∧ op ≠ 3 then
      if (p.getD 1 0).toNat = 0 then
        let f := w3rField p 2
        let s1 := if op = 1 then { s.setReg CASC_RDATA f.1 with remoteQ := f.2 } else s
        s1.endRemote 0
      else s.endRemote 4
    else s
  | none => s

/-- Whether the target of a remote access answers as done: CASC.CFG.RACC (R441). -/
def State.remoteOpen (s : State) : Bool := s.flag CASC_CFG 6

/-- A REMOTE ANSWER sent to the master. -/
def State.answer (s : State) (tag : Byte) (result : Nat) (x : Word × Nat) : State :=
  s.send false 0x22 (toPos 0) ([tag, BitVec.ofNat 8 result] ++ w3rOf x ++ zeros 1)

/-! ### Meanings -/

/-- HELLO_SEND: sent every 10 us in Handshake (R437), not in Dormant, where a port only watches (R17). -/
def execHelloSend (down : Bool) (t : Nat) (s : State) : Host.Outcome State Fault Refusal :=
  let s := (s.at t).clearOut
  finish s (if s.linkState down = linkHandshake ∧ s.sys ≠ sysDormant then s.helloOut down else s)

/-- ECHO_REQUEST_SEND: every 100 ms on a down port that is Up (R439). -/
def execEchoRequestSend (t : Nat) (s : State) : Host.Outcome State Fault Refusal :=
  let s := (s.at t).clearOut
  finish s (if s.laneRuns && s.linkState true == linkIsUp && (!s.running .echo || s.expiredTicks .echo (ms 100)) then s.echoSend else s)

/-- TIME_SEND: every 1 ms of rack time (R439). -/
def execTimeSend (t : Nat) (s : State) : Host.Outcome State Fault Refusal :=
  let s := (s.at t).clearOut
  finish s (if s.laneRuns && s.rackTime % ms 1 == 0 then s.timeOut else s)

/-- CASCADE_REPORT_SEND: at every 100 us of rack time, from every chip but the master (R294, R440). -/
def execCascadeReportSend (t : Nat) (s : State) : Host.Outcome State Fault Refusal :=
  let s := (s.at t).clearOut
  finish s (if s.laneRuns && !s.master && decide (1 < s.casc.nchip) && s.rackTime % us 100 == 0 then s.reportOut else s)

/-- CASCADE_ALLOC_SEND: 50 us after the cycle instant, from the master (R440). -/
def execCascadeAllocSend (t : Nat) (s : State) : Host.Outcome State Fault Refusal :=
  let s := (s.at t).clearOut
  finish s (if s.laneRuns && s.master && s.rackTime % us 100 == us 50 then s.allocOut else s)

/-- ALLOC_TIMEOUT: no allocation for 300 us: RACK clears, MLOST (R296). -/
def execAllocTimeout (t : Nat) (s : State) : Host.Outcome State Fault Refusal :=
  let s := s.at t
  finish s (if s.laneRuns && s.expiredTicks .allocAge (us 300) && s.casc.capDue.isNone && (s.flag (ctxAddr 0 SHELF_CAPLIVE) 3 || !s.casc.lost) then
    (({ s with casc := { s.casc with lost := true } }.setFlag (ctxAddr 0 SHELF_CAPLIVE) 3 false).setFlag CASC_REACH 0 s.master).sts 0 8
  else s)

/-- FBALLOC_APPLY: 10 ms after the last allocation: SHELF.FBALLOC in force, FB, FBAL and a class 12 fault (R296). An allocation due at the same tick wins (R299). -/
def execFballocApply (t : Nat) (s : State) : Host.Outcome State Fault Refusal :=
  let s := s.at t
  finish s (if s.laneRuns && s.expiredTicks .allocAge (ms 10) && s.casc.capDue.isNone && !s.flag (ctxAddr 0 SHELF_CAPLIVE) 4 then
    let s1 := (s.setC 0 SHELF_RACKCAP (s.cw 0 SHELF_FBALLOC)).setFlag (ctxAddr 0 SHELF_CAPLIVE) 4 true
    ((s1.setFlag (ctxAddr 0 SHELF_CAPLIVE) 3 false).sts 0 9).laneRaise 12 0 none 1204
  else s)

/-- REPORT_TIMEOUT: no report of a chip for 300 us: the master takes it as unreachable (R297, R443). -/
def execReportTimeout (n t : Nat) (s : State) : Host.Outcome State Fault Refusal :=
  let s := s.at t
  finish s (match s.laneRuns && s.master, find s.casc.reports n with
    | true, some r => if s.reachable r then s else s.setFlag CASC_REACH n false
    | _, _ => s)

/-- REMOTE_ACCESS_TIMEOUT: no answer within 1 ms (R441). -/
def execRemoteAccessTimeout (t : Nat) (s : State) : Host.Outcome State Fault Refusal :=
  let s := s.at t
  finish s (if s.laneRuns && s.casc.remote.isSome && s.expiredTicks .remote (ms 1) then s.endRemote 3 else s)

/-- LINK_LOSS_OF_LOCK: code or disparity violations, as many as were seen outside frames, or silence; a port that is Up loses lock, in Training and Handshake they are counted (R437, R443). -/
def execLinkLossOfLock (down : Bool) (violations t : Nat) (s : State) : Host.Outcome State Fault Refusal :=
  let s := (s.at t).clearOut
  let s1 := s.countCodes down violations
  finish s (if s1.linkState down = linkIsUp then ((s1.setFlag CASC_STS 0 true).train down).linkEvent down 2 else s1)

/-- LINK_UP_TIMEOUT: an enabled port not Up within 10 ms (R438). -/
def execLinkUpTimeout (down : Bool) (t : Nat) (s : State) : Host.Outcome State Fault Refusal :=
  let s := s.at t
  finish s (if s.linkEnabled down && s.sys != sysDormant && decide (s.linkState down ≠ linkIsUp) && !(s.link down).raised && s.expiredTicks (.linkUp down) (ms 10) then
    ((s.setLink down (fun p => { p with raised := true })).linkEvent down 6).coreRaise 12 0 none 1205
  else s)

end Sys2Proof.Machine
end

