-- ==== Sys2Proof/Machine/Crypto.lean ====
section
/-! DEFINITION. The signature scheme of images and firmware (R70): SHA-256 and ECDSA over P-256 as FIPS 180 and FIPS 186 define them, on plain numbers. -/

namespace Sys2Proof.Machine

/-! ### SHA-256 -/

/-- Words of 32 bits. -/
abbrev word32 : Nat := 0x100000000

/-- The primes below 312, which are the first 64: no number from 2 to 17 but itself divides one. -/
def primes64 : List Nat := (List.range 312).filter fun n => decide (2 ≤ n) && (List.range 16).all fun d => decide (n ≤ d + 2) || n % (d + 2) != 0

/-- The k-th root of x rounded down, found bit by bit from bit n - 1 on, r being what is found so far. -/
def rootBits (k x : Nat) : Nat → Nat → Nat
  | 0, r => r
  | n + 1, r => rootBits k x n (if (r + 2 ^ n) ^ k ≤ x then r + 2 ^ n else r)

/-- The first 32 bits of the fraction of a k-th root, as FIPS 180 takes its constants from primes. -/
def rootFraction (k p : Nat) : Nat := rootBits k (p * word32 ^ k) 36 0 % word32

/-- The constants of the 64 rounds, from cube roots. -/
def roundConstants : List Nat := primes64.map (rootFraction 3)

/-- The row of the hash value before the first block, from square roots. -/
def hashStart : Nat := (primes64.take 8).foldr (fun p row => row * word32 + rootFraction 2 p) 0

/-- The exclusive or of a word turned right by each of some places: turning is a division of the word written twice. -/
def turned (places : List Nat) (x : Nat) : Nat := places.foldl (fun acc n => acc ^^^ (x * (word32 + 1) / 2 ^ n % word32)) 0

/-- Word i of a row of words written as one number, the first word lowest. -/
def wordAt (row i : Nat) : Nat := row / word32 ^ i % word32

/-- The next word of the schedule from the row of the sixteen before it, newest first. -/
def nextWord (row : Nat) : Nat :=
  (wordAt row 15 + (turned [7, 18] (wordAt row 14) ^^^ wordAt row 14 / 8) + wordAt row 6 + (turned [17, 19] (wordAt row 1) ^^^ wordAt row 1 / 1024)) % word32

/-- The rounds of a block over the row of the eight working words: a round takes the oldest word of the schedule, which moves on by one, and a constant. -/
def shaRounds : List Nat → Nat → Nat → Nat
  | [], _, v => v
  | k :: ks, row, v =>
    let pick := wordAt v 6 ^^^ (wordAt v 4 &&& (wordAt v 5 ^^^ wordAt v 6))
    let most := (wordAt v 0 &&& wordAt v 1) ||| (wordAt v 2 &&& (wordAt v 0 ||| wordAt v 1))
    let sum := wordAt v 7 + pick + k + wordAt row 15 + turned [6, 11, 25] (wordAt v 4)
    let v1 := (sum + most + turned [2, 13, 22] (wordAt v 0)) % word32 + v % word32 ^ 3 * word32 + (wordAt v 3 + sum) % word32 * word32 ^ 4 + v / word32 ^ 4 % word32 ^ 3 * word32 ^ 5
    shaRounds ks ((row * word32 + nextWord row) % word32 ^ 16) v1

/-- One 64-byte block taken into the row of the hash value. -/
def shaBlock (h : Nat) (blk : List Byte) : Nat :=
  let v := shaRounds roundConstants (ofBe blk) h
  (List.range 8).foldl (fun acc i => acc + (wordAt h i + wordAt v i) % word32 * word32 ^ i) 0

/-- The blocks of a padded message taken in one after the other. -/
def shaBlocks : Nat → Nat → List Byte → Nat
  | 0, h, _ => h
  | n + 1, h, m => shaBlocks n (shaBlock h (m.take 64)) (m.drop 64)

/-- A number as n bytes, high byte first. -/
def beBytes (n v : Nat) : List Byte := (leBytes n v).reverse

/-- SHA-256 of a list of bytes. -/
def sha256 (m : List Byte) : List Byte :=
  let pad := m ++ 0x80 :: List.replicate ((119 - m.length % 64) % 64) 0 ++ beBytes 8 (8 * m.length)
  let h := shaBlocks (pad.length / 64) hashStart pad
  (List.range 8).flatMap fun i => beBytes 4 (wordAt h i)

/-! ### P-256 -/

/-- The field prime, the group order, the coefficient b and the base point. -/
def p256 : Nat := 0xffffffff00000001000000000000000000000000ffffffffffffffffffffffff
def n256 : Nat := 0xffffffff00000000ffffffffffffffffbce6faada7179e84f3b9cac2fc632551
def b256 : Nat := 0x5ac635d8aa3a93e7b3ebbd55769886bc651d06b0cc53b0f63bce3c3e27d2604b
def g256 : Nat × Nat := (0x6b17d1f2e12c4247f8bce6e563a440f277037d812deb33a0f4a13945d898c296, 0x4fe342e2fe1a7f9b8ee7eb4a7c0f9e162bce33576b315ececbb6406837bf51f5)

/-- A power modulo m, over n bits of the exponent. -/
def powMod (m : Nat) : Nat → Nat → Nat → Nat
  | 0, _, _ => 1 % m
  | n + 1, b, e =>
    let r := powMod m n (b * b % m) (e / 2)
    if e % 2 = 1 then b * r % m else r

/-- The inverse modulo a prime. -/
def invMod (m a : Nat) : Nat := powMod m 256 (a % m) (m - 2)

/-- The difference in the field. -/
def subP (a b : Nat) : Nat := (a + p256 - b) % p256

/-- A point of the curve as (x, y, z) for the pair (x / z^2, y / z^3); z is 0 for the point at infinity. -/
structure Point where
  x : Nat
  y : Nat
  z : Nat
  deriving DecidableEq, Repr

/-- The double of a point. -/
def pointDouble (p : Point) : Point :=
  let yy := p.y * p.y % p256
  let s := 4 * p.x * yy % p256
  let zz := p.z * p.z % p256
  let m := 3 * subP p.x zz * (p.x + zz) % p256
  let x := subP (m * m % p256) (2 * s % p256)
  { x := x, y := subP (m * subP s x % p256) (8 * yy * yy % p256), z := 2 * p.y * p.z % p256 }

/-- The sum of two points. -/
def pointAdd (p q : Point) : Point :=
  if p.z = 0 then q
  else if q.z = 0 then p
  else
    let u := p.x * (q.z * q.z) % p256
    let s := p.y * (q.z * q.z * q.z) % p256
    let h := subP (q.x * (p.z * p.z) % p256) u
    let r := subP (q.y * (p.z * p.z * p.z) % p256) s
    if h = 0 then if r = 0 then pointDouble p else { x := 1, y := 1, z := 0 }
    else
      let uh := u * (h * h) % p256
      let hhh := h * h * h % p256
      let x := subP (r * r % p256) ((hhh + 2 * uh) % p256)
      { x := x, y := subP (r * subP uh x % p256) (s * hhh % p256), z := h * p.z * q.z % p256 }

/-- A multiple of a point, over n bits of the factor. -/
def pointMul : Nat → Nat → Point → Point
  | 0, _, _ => { x := 1, y := 1, z := 0 }
  | n + 1, k, p =>
    let r := pointMul n (k / 2) (pointDouble p)
    if k % 2 = 1 then pointAdd p r else r

/-- Whether a pair is a point of the curve. -/
def onCurve (x y : Nat) : Bool :=
  decide (x < p256) && decide (y < p256) && decide (y * y % p256 = (x * x * x + (p256 - 3) * x + b256) % p256)

/-- Whether (r, s) is a signature of a digest under the key (x, y). -/
def ecdsaOk (x y r s : Nat) (digest : List Byte) : Bool :=
  if r = 0 ∨ n256 ≤ r ∨ s = 0 ∨ n256 ≤ s ∨ ¬ onCurve x y then false
  else
    let w := invMod n256 s
    let e := pointAdd (pointMul 256 (ofBe digest * w % n256) { x := g256.1, y := g256.2, z := 1 }) (pointMul 256 (r * w % n256) { x := x, y := y, z := 1 })
    if e.z = 0 then false
    else
      let v := invMod p256 e.z
      decide (e.x * (v * v) % p256 % n256 = r)

end Sys2Proof.Machine
end

