-- ==== Sys2Proof/Machine/ImageBytes.lean ====
section
/-! DEFINITION. The bytes of an image (R64 to R89): reading a slot, its directory, and the records of its sections as data. -/

namespace Sys2Proof.Machine

/-- The bytes of a slot by offset: those that are not zero, in the canonical form, and how many the slot has. -/
structure Raw where
  cells : List (Nat × Byte)
  size : Nat

/-- The byte at an offset; zero beyond the slot. -/
def Raw.at (b : Raw) (o : Nat) : Byte := if o < b.size then lookup 0 b.cells o else 0

/-- n bytes from an offset on. -/
def Raw.bytes (b : Raw) (o n : Nat) : List Byte := (List.range n).map fun i => b.at (o + i)

/-- An unsigned integer of n bytes (R64). -/
def Raw.u (b : Raw) (o n : Nat) : Nat := ofLe (b.bytes o n)

/-- The word of a W3 field (R65). -/
def Raw.w3 (b : Raw) (o : Nat) : Word := bytesWord (b.at o) (b.at (o + 1)) (b.at (o + 2))

/-- Whether n bytes are zero. -/
def Raw.zero (b : Raw) (o n : Nat) : Bool := (b.bytes o n).all (· == 0)

/-- Whether the bits of a W3 field that must be zero are zero. -/
def Raw.w3ok (b : Raw) (o : Nat) : Bool := decide ((b.at (o + 2)).toNat < 4)

/-! ### Directory (R69) -/

/-- A directory entry. -/
structure DirEntry where
  id : Nat
  ver : Nat
  off : Nat
  len : Nat
  count : Nat
  size : Nat
  deriving DecidableEq, Repr

/-- TOTLEN. -/
def Raw.totlen (b : Raw) : Nat := b.u 0x08 4

/-- The directory of an image. -/
def Raw.dir (b : Raw) : List DirEntry := (List.range (b.u 0x12 2)).map fun i =>
  let o := 0x80 + 16 * i
  { id := b.u o 2, ver := b.u (o + 2) 2, off := b.u (o + 4) 4, len := b.u (o + 8) 4, count := b.u (o + 12) 2, size := b.u (o + 14) 2 }

/-- A section of the directory. -/
def Raw.sect (b : Raw) (id : Nat) : Option DirEntry := b.dir.find? (·.id = id)

/-- The offsets of the records of a section. -/
def Raw.recs (b : Raw) (id : Nat) : List Nat := match b.sect id with
  | some e => (List.range e.count).map (fun i => e.off + e.size * i)
  | none => []

/-- The record size of a section the manual defines (R71). -/
def sectSize : Nat → Option Nat
  | 1 => some 16 | 3 => some 36 | 4 => some 28 | 5 => some 8 | 6 => some 16 | 7 => some 4
  | 8 => some 8 | 9 => some 4 | 10 => some 16 | 11 => some 4 | 12 => some 6 | 13 => some 12
  | _ => none

/-! ### Records as data -/

/-- A source identifier (R75). -/
def srcOf (v : Nat) : Src := match v / 16384 with
  | 0 => .word (v / 128 % 128) (v % 64)
  | 1 => .scan (v % 128)
  | 2 => if v / 256 % 2 = 0 then .slot (v % 256) else .group (v % 64)
  | _ => .none

/-- The context record at an offset (R72). -/
def Raw.ctxRec (b : Raw) (o : Nat) : CtxRec where
  ctx := b.u o 1
  typ := (CtxType.ofCode (b.u (o + 1) 1)).getD .zone
  inst := b.u (o + 2) 1
  enabled := b.u (o + 3) 1 % 2 == 1
  vbase := b.w3 (o + 4)
  ibase := b.w3 (o + 7)
  prigrp := b.u (o + 10) 1
  dormant := b.u (o + 11) 1
  a0 := b.u (o + 12) 1
  a1 := b.u (o + 13) 1
  a2 := b.u (o + 14) 1
  a3 := b.u (o + 15) 1

/-- The coefficients of a slot, from its record (R77). -/
def Raw.coefs (b : Raw) (slot : Nat) : List Word := match (b.recs 4).find? (fun o => b.u o 1 = slot) with
  | some o => (List.range (min 8 (b.u (o + 1) 1))).map (fun i => b.w3 (o + 4 + 3 * i))
  | none => []

/-- The slot program record at an offset (R76). -/
def Raw.slotRec (b : Raw) (o : Nat) : SlotRec where
  slot := b.u o 1
  law := b.u (o + 1) 1
  group := b.u (o + 2) 1
  ref := srcOf (b.u (o + 4) 2)
  fb := srcOf (b.u (o + 6) 2)
  ff := srcOf (b.u (o + 8) 2)
  words := (List.range 8).map (fun i => b.w3 (o + 12 + 3 * i))
  coef := b.coefs (b.u o 1)

/-- The instance numbers whose bits are set in the eight bytes of PRED (R80). -/
def Raw.pred (b : Raw) (o : Nat) : List Nat := (List.range 64).filter (fun n => (b.u o 8).testBit n)

/-- The whole image as data. -/
def Raw.image (b : Raw) : Image where
  rollback := b.u 0x14 1
  keySlot := b.u 0x15 1
  imgVer := b.u 0x18 4
  minFw := b.u 0x30 4
  ckptVer := b.u 0x1C 2
  setVer := b.u 0x1E 2
  contexts := (b.recs 1).map b.ctxRec
  slots := (b.recs 3).map b.slotRec
  groups := (b.recs 5).map fun o => { group := b.u o 1, tkind := b.u (o + 1) 1, tindex := b.u (o + 2) 1, owner := b.u (o + 3) 1, fallback := b.w3 (o + 4) }
  graphs := (b.recs 6).map fun o => { rail := b.u o 1, graph := b.u (o + 1) 1, discharge := b.u (o + 2) 1 % 2 == 1, segment := if b.u (o + 2) 1 / 2 % 2 = 1 then some (b.u (o + 3) 1) else none, pred := b.pred (o + 4), disch := b.u (o + 12) 1 }
  matrix := (b.recs 7).map fun o => { typ := b.u o 1, cls := b.u (o + 1) 1, sev := b.u (o + 2) 1, react := b.u (o + 3) 1 }
  safe := (b.recs 8).map fun o => { ctx := b.u o 1, menu := b.u (o + 1) 1, param := b.w3 (o + 5) }
  pins := (b.recs 9).map fun o => { pin := b.u o 1, func := b.u (o + 1) 1, ctx := b.u (o + 2) 1, invert := b.u (o + 3) 1 % 2 == 1 }
  fallback := (b.recs 10).map fun o => { grp := b.u o 1, gm := b.u (o + 1) 1, fz := b.w3 (o + 4), fp := b.w3 (o + 7), ilim := b.w3 (o + 10) }
  overrides := (b.recs 11).map fun o => { pin := b.u o 1, state := b.u (o + 1) 1 }
  init := (b.recs 12).map fun o => { addr := b.u o 2, value := b.w3 (o + 2) }
  migration := (b.recs 13).map fun o => { kind := b.u o 1, op := b.u (o + 1) 1, fromVer := b.u (o + 2) 2, old := b.u (o + 4) 2, new := b.u (o + 6) 2, const := b.w3 (o + 8) }

end Sys2Proof.Machine
end

