-- ==== Sys2Proof/Machine/LoaderChecks.lean ====
section
/-! DEFINITION. The loader checks (R93, R513) on the bytes of an image slot, in ascending order of code, with the section and record of the first failure. -/

namespace Sys2Proof.Machine

/-- A failed check: its code, the low byte of the SECTID concerned, and the index of the record, 0x3FFFF for none (R97). -/
structure Bad where
  code : Nat
  sect : Nat := 0
  idx : Nat := 0x3FFFF
  deriving DecidableEq, Repr

/-- A check that must hold. -/
def need (ok : Bool) (code sect : Nat) : Option Bad := if ok then none else some { code := code, sect := sect }

/-- A check that every element of a list must meet; the first that fails gives the record index. -/
def needAll {α : Type} (l : List α) (code sect : Nat) (ok : α → Bool) : Option Bad :=
  (l.findIdx? (fun x => !ok x)).map fun i => { code := code, sect := sect, idx := i }

/-- Checks in order: the first failure. -/
def firstOf (l : List (Option Bad)) : Option Bad := l.findSome? id

/-- Whether an element of a list has a key that no earlier one has; by position. -/
def dupAt {α : Type} (key : α → Nat) (l : List α) (code sect : Nat) : Option Bad :=
  ((List.range l.length).find? (fun i => match l[i]? with
    | some x => (l.take i).any (fun y => key y = key x)
    | none => false)).map fun i => { code := code, sect := sect, idx := i }

/-! ### Header, binding and signature: codes 0x02 to 0x0C (R67, R68, R70, R468) -/

/-- The OTP byte at an offset. -/
def State.otpByte (s : State) (o : Nat) : Byte := lookup 0 s.otp o

/-- OTP bytes from an offset on. -/
def State.otpBytes (s : State) (o n : Nat) : List Byte := (List.range n).map fun i => s.otpByte (o + i)

/-- The anti-rollback count: consecutive set bits from bit 0 of byte 0x11 (R469). -/
def State.rollbackCount (s : State) : Nat :=
  ((List.range 64).takeWhile (fun i => (s.otpByte (0x11 + i / 8)).getLsbD (i % 8))).length

/-- What of the header differs between an image and firmware (R67, R467): magic, length range, and the offsets of ROLLBACK, KEYSLOT and UNITID. -/
structure HeadKind where
  magic : List Byte
  lo : Nat
  hi : Nat
  rollback : Nat
  key : Nat
  deriving DecidableEq, Repr

/-- The header of an image. -/
def imageHead : HeadKind := { magic := [0x53, 0x59, 0x4E, 0x48], lo := 1024, hi := 131072, rollback := 0x14, key := 0x15 }

/-- The header of firmware. -/
def firmwareHead : HeadKind := { magic := [0x47, 0x51, 0x46, 0x57], lo := 4096, hi := 262144, rollback := 0x12, key := 0x13 }

/-- Whether the key of a trailer is the provisioned key of its slot, and the slot is not revoked (check 0x0A). -/
def State.keyOk (s : State) (b : Raw) (slot : Nat) : Bool :=
  let hash := s.otpBytes (0x20 + 32 * slot) 32
  decide (slot < 4) && hash.any (· != 0) && !(s.otpByte 0x10).getLsbD slot && decide (sha256 (b.bytes (b.totlen - 128) 64) = hash)

/-- Whether the signature of a trailer is right (check 0x0B). -/
def Raw.signatureOk (b : Raw) : Bool :=
  let n := b.totlen
  let be (o : Nat) : Nat := ofBe (b.bytes o 32)
  ecdsaOk (be (n - 128)) (be (n - 96)) (be (n - 64)) (be (n - 32)) (sha256 (b.bytes 0 (n - 64)))

/-- Codes 0x02 to 0x0C. -/
def State.headChecks (s : State) (b : Raw) (k : HeadKind) : Option Bad :=
  let first := b.bytes 0 16
  let n := b.totlen
  let variants := b.u 0x10 1
  let bound := b.u 0x11 1 % 2 == 1
  firstOf [need (!(first.all (· == 0) || first.all (· == 0xFF))) 0x02 0, need (decide (b.bytes 0 4 = k.magic)) 0x03 0,
    need (b.u 0x04 2 == 1 && b.u 0x06 2 == 0x80) 0x04 0, need (decide (k.lo ≤ n) && decide (n ≤ k.hi) && n % 4 == 0) 0x05 0,
    need (decide (crc32 (b.bytes 0 0x7C) = b.u 0x7C 4)) 0x06 0, need (b.u 0x0C 4 == 0x8127) 0x07 0,
    need (if s.variantBE then variants / 2 % 2 == 1 else variants % 2 == 1) 0x08 0,
    need (if bound then decide (b.bytes 0x20 16 = s.otpBytes 0 16) else b.zero 0x20 16) 0x09 0, need (s.keyOk b (b.u k.key 1)) 0x0A 0,
    need b.signatureOk 0x0B 0, need (decide (s.rollbackCount ≤ b.u k.rollback 1) && decide (b.u k.rollback 1 ≤ 64)) 0x0C 0]

/-! ### Directory: codes 0x0E to 0x10 (R66, R69 to R71) -/

/-- Whether an identifier is informational. -/
def informational (id : Nat) : Bool := decide (0x80 ≤ id) && decide (id ≤ 0xFF)

/-- Whether a section that must be present is (R71). -/
def Raw.present (b : Raw) : Bool :=
  let has (id : Nat) : Bool := (b.sect id).isSome
  let typed (t : Nat) : Bool := (b.recs 1).any (fun o => b.u (o + 1) 1 == t)
  [1, 3, 5, 7, 8].all has && (!typed 8 || has 6) && (!typed 5 || has 10)

/-- Check 0x0E. -/
def Raw.dirOk (b : Raw) : Bool :=
  let n := b.u 0x12 2
  let d := b.dir
  let room := b.totlen - 128
  decide (1 ≤ n) && decide (n ≤ 32) && decide (0x80 + 16 * n ≤ room) &&
    (d.zip (d.drop 1)).all (fun p => decide (p.1.id < p.2.id)) &&
    d.all (fun e => ((sectSize e.id).isSome || informational e.id) && e.off % 4 == 0 && decide (0x80 + 16 * n ≤ e.off) && decide (e.off + e.len ≤ room)) &&
    d.all (fun e => d.all (fun f => e.id == f.id || decide (e.off + e.len ≤ f.off) || decide (f.off + f.len ≤ e.off))) && b.present

/-- Codes 0x0E to 0x10. -/
def Raw.dirChecks (b : Raw) : Option Bad :=
  let known := b.dir.filter (fun e => (sectSize e.id).isSome)
  let bad (code : Nat) (ok : DirEntry → Bool) : Option Bad := (known.find? (fun e => !ok e)).map fun e => { code := code, sect := e.id % 256 }
  firstOf [need b.dirOk 0x0E 0, bad 0x0F (fun e => e.ver == 1),
    bad 0x10 (fun e => sectSize e.id == some e.size && e.len == e.count * e.size && (e.id != 7 || e.count == 144))]

/-! ### Declared zeros: code 0x11 (R513) -/

/-- Whether the bits of a source identifier that must be zero are zero (R75). -/
def srcZero (v : Nat) : Bool := match v / 16384 with
  | 0 => v / 64 % 2 == 0
  | 1 => v / 128 % 128 == 0
  | 2 => v / 512 % 32 == 0 && (v / 256 % 2 == 0 || v / 64 % 4 == 0)
  | _ => true

/-- The declared-zero bytes of a context record: FLAGS, DORMANT of a type without one, and the ATTACH bytes R73 gives as 0. -/
def Raw.ctxZero (b : Raw) (o : Nat) : Bool :=
  let z (k : Nat) : Bool := b.u (o + k) 1 == 0
  let dh := b.u (o + 1) 1 == 4 && b.u (o + 12) 1 != 0xFF
  decide (b.u (o + 3) 1 < 2) && b.w3ok (o + 4) && b.w3ok (o + 7) && (b.u (o + 1) 1 == 2 || dh || z 11) &&
    match b.u (o + 1) 1 with
    | 1 => z 13 && z 14 && z 15
    | 2 => true
    | 4 => decide (b.u (o + 13) 1 < 2) && z 15
    | 8 => z 14 && z 15
    | _ => z 15

/-- Whether every W3 field of a run is right. -/
def Raw.w3run (b : Raw) (o n : Nat) : Bool := (List.range n).all (fun i => b.w3ok (o + 3 * i))

/-- The records of each section against check 0x11. -/
def Raw.zeroChecks (b : Raw) : List (Option Bad) :=
  let u (o : Nat) : Nat := b.u o 1
  [needAll (b.recs 1) 0x11 1 b.ctxZero,
   needAll (b.recs 3) 0x11 3 (fun o => u (o + 3) == 0 && b.zero (o + 10) 2 && srcZero (b.u (o + 4) 2) && srcZero (b.u (o + 6) 2) && srcZero (b.u (o + 8) 2) && b.w3run (o + 12) 8),
   needAll (b.recs 4) 0x11 4 (fun o => b.zero (o + 2) 2 && b.w3run (o + 4) 8 && b.zero (o + 4 + 3 * min 8 (u (o + 1))) (24 - 3 * min 8 (u (o + 1)))),
   needAll (b.recs 5) 0x11 5 (fun o => u (o + 7) == 0 && b.w3ok (o + 4) && (u (o + 1) != 0 || u (o + 2) == 0)),
   needAll (b.recs 6) 0x11 6 (fun o => decide (u (o + 2) < 4) && b.zero (o + 13) 3),
   needAll (b.recs 7) 0x11 7 (fun o => decide (u (o + 3) < 8)),
   needAll (b.recs 8) 0x11 8 (fun o => b.zero (o + 2) 3 && b.w3ok (o + 5)),
   needAll (b.recs 9) 0x11 9 (fun o => decide (u (o + 3) < 2)),
   needAll (b.recs 10) 0x11 10 (fun o => b.zero (o + 2) 2 && b.w3run (o + 4) 3 && b.zero (o + 13) 3),
   needAll (b.recs 11) 0x11 11 (fun o => b.zero (o + 2) 2),
   needAll (b.recs 12) 0x11 12 (fun o => u (o + 5) == 0 && b.w3ok (o + 2)),
   needAll (b.recs 13) 0x11 13 (fun o => u (o + 11) == 0 && b.w3ok (o + 8))]

/-- Whether a byte between the directory and the trailer belongs to a section. -/
def Raw.inSect (b : Raw) (o : Nat) : Bool := b.dir.any (fun e => decide (e.off ≤ o) && decide (o < e.off + e.len))

/-- Check 0x11: the header's zeros, the padding, and the records. -/
def Raw.checkZeros (b : Raw) : Option Bad :=
  let start := 0x80 + 16 * b.u 0x12 2
  firstOf (need (b.zero 0x16 2 && b.zero 0x34 72 && decide (b.u 0x10 1 < 4) && decide (b.u 0x11 1 < 2)) 0x11 0 ::
    need ((List.range (b.totlen - 128 - start)).all (fun i => b.inSect (start + i) || b.at (start + i) == 0)) 0x11 0 :: b.zeroChecks)

/-! ### Contexts: codes 0x12 and 0x13 (R51, R52, R72 to R74) -/

/-- Whether a byte is a number below n, or 0xFF. -/
def upTo (x n : Nat) : Bool := decide (x < n) || x == 0xFF

/-- Whether the ATTACH bytes of a context are values R73 allows for its type, and name what the image defines (R513). -/
def attachOk (im : Image) (r : CtxRec) : Bool := match r.typ with
  | .shelf => decide (r.a0 < 8)
  | .feed => decide (r.a0 < 16) && decide (r.a1 < 2) && upTo r.a2 32 && decide (r.a3 < 6)
  | .rectifier => upTo r.a0 16 && upTo r.a1 4 && decide (r.a2 < 128)
  | .string => upTo r.a0 16 && (r.a1 == 0 || decide (r.inst < 2)) && upTo r.a2 8 && (r.a2 == 0xFF || (im.inst? .group r.a2).isSome)
  | .group => true
  | .branch => decide (r.a0 < 16) && (decide (r.a1 < 96) || r.a1 == 0xFE) && upTo r.a2 16
  | .pol => decide (r.a0 < 4) && decide (r.a1 < 128)
  | .rail => decide (r.a0 < 96) && decide (r.a1 < 8)
  | .zone => upTo r.a0 96 && decide (r.a1 < 3) && ((r.a0 == 0xFF) == (r.a1 == 2)) && (r.a2 == 0xFF || (zoneServes im r).isSome)

/-- Check 0x12. -/
def checkContexts (b : Raw) (im : Image) : Option Bad :=
  firstOf [needAll (b.recs 1) 0x12 1 (fun o => decide (b.u o 1 < 128) && (CtxType.ofCode (b.u (o + 1) 1)).isSome && ((b.u o 1 == 0) == (b.u (o + 1) 1 == 1))),
    dupAt CtxRec.ctx im.contexts 0x12 1, dupAt (fun r => r.typ.code * 256 + r.inst) im.contexts 0x12 1, need (im.ctx? 0).isSome 0x12 1,
    needAll im.contexts 0x12 1 (fun r => decide (r.inst < r.typ.maxCount) && decide (r.dormant < 2) && attachOk im r),
    need (CtxType.all.all (fun t => decide ((im.ofType t).length ≤ t.maxCount))) 0x12 1, need (decide (im.contexts.length ≤ 128)) 0x12 1]

/-- Check 0x13. -/
def checkBases (im : Image) : Option Bad := needAll im.contexts 0x13 1 fun r =>
  let high := r.typ = .feed ∨ r.typ = .branch ∨ r.directHang
  decide (1 / 10 ≤ ef r.vbase) && decide (ef r.vbase ≤ if high then 80 else 100) && decide (1 / 100 ≤ ef r.ibase) && decide (ef r.ibase ≤ 10000)

/-! ### Resources: codes 0x14 and 0x15 (R4, R486) -/

/-- What a context uses, as numbers by kind: gate channels from 0, phases from 100, trim outputs from 200, throttle outputs from 300, scan inputs from 400, downstream targets from 1000 (port, address, page). -/
def usesOf (im : Image) (r : CtxRec) : List Nat := match r.typ with
  | .shelf => if (im.inst? .group r.a0).isSome then [] else [400 + r.a0]
  | .feed => [r.a0]
  | .rectifier => (if r.a0 < 16 then [200 + r.a0] else []) ++ (if r.a1 < 4 then [1000 + (r.a1 * 128 + r.a2) * 257 + 256] else [])
  | .string => if r.a0 < 16 then [r.a0] else []
  | .group => r.phases.map (100 + ·) ++ [400 + r.inst]
  | .branch => [r.a0] ++ (if r.a1 < 96 then [400 + r.a1] else []) ++ (if r.a2 < 16 then [300 + r.a2] else [])
  | .pol => [1000 + (r.a0 * 128 + r.a1) * 257 + r.a2]
  | .rail => [400 + r.a0]
  | .zone => if r.a0 < 96 then [400 + r.a0] else []

/-- What a pin is used for: a function with its context. -/
abbrev PinUse := Nat × Nat × Nat

/-- The uses of general pins beside the pin functions section: a feed's AC-OK input and a graph record's discharge output, as pin, function and context (R73, R80). -/
def ctxPin (r : CtxRec) : Option PinUse := if r.typ = .feed ∧ r.a2 < 32 then some (r.a2, 0x01, r.ctx) else none
def graphPin (g : GraphRec) : Option PinUse := if g.discharge then some (g.disch, 0x05, g.rail) else none

/-- Whether a use meets another use of the same pin; a record that says the same is no second use. -/
def clashes (l : List PinUse) (u : PinUse) : Bool := l.any (fun v => v.1 == u.1 && v.2 != u.2)

/-- The uses the pin functions section makes of general pins. -/
def recordUses (im : Image) : List PinUse := im.pins.map (fun p => (p.pin, p.func, p.ctx))

/-- Whether a POL and a rectifier share a target address. -/
def sharesTarget (im : Image) (r : CtxRec) : Bool :=
  r.typ == .rectifier && decide (r.a1 < 4) && im.contexts.any (fun q => q.typ == .pol && q.a0 == r.a1 && q.a1 == r.a2)

/-- Check 0x14. -/
def checkResources (im : Image) : Option Bad :=
  let used (i : Nat) : List Nat := (im.contexts.take i).flatMap (usesOf im)
  let pins (i : Nat) : List PinUse := (im.contexts.take i).filterMap ctxPin ++ recordUses im
  let clash := ((List.range im.contexts.length).find? (fun i => match im.contexts[i]? with
    | some r => (usesOf im r).any (used i).contains || (ctxPin r).any (clashes (pins i)) || sharesTarget im r || (r.typ == .group && (r.phases.isEmpty || decide (12 < r.phases.length)))
    | none => false)).map fun i => ({ code := 0x14, sect := 1, idx := i } : Bad)
  let rails := ((List.range im.graphs.length).find? (fun i => match im.graphs[i]? with
    | some g => (graphPin g).any (clashes ((im.graphs.take i).filterMap graphPin ++ im.contexts.filterMap ctxPin ++ recordUses im))
    | none => false)).map fun i => ({ code := 0x14, sect := 6, idx := i } : Bad)
  firstOf [clash, rails, dupAt PinRec.pin im.pins 0x14 9, dupAt OvrRec.pin im.overrides 0x14 11]

/-- Check 0x15. -/
def State.checkVariant (s : State) (im : Image) : Option Bad :=
  needAll im.contexts 0x15 1 (fun r => !(s.variantBE && r.typ == .string && r.a1 % 2 == 1))

/-! ### Strand dependencies: code 0x16 (R24, R56, R206, R207, R238, R279, R288) -/

/-- The members of the group of a kind that drives a target. -/
def targetMembers (im : Image) (tkind tindex : Nat) : List SlotRec := match im.groups.find? (fun g => g.tkind = tkind ∧ g.tindex = tindex) with
  | some g => im.members g.group
  | none => []

/-- The served strings of a group. -/
def servedBy (im : Image) (g : CtxRec) : List CtxRec := (im.ofType .string).filter (fun r => im.servingOf r = some g.ctx)

/-- The serving groups of an image. -/
def servingOfImage (im : Image) : List CtxRec := (im.ofType .group).filter (fun g => !(servedBy im g).isEmpty)

/-- Whether a slot takes its reference and feedback from the words named. -/
def slotFrom (r : SlotRec) (ref fb : Src) : Bool := decide (r.ref = ref) && decide (r.fb = fb)

/-- SLOT.CTL.DIR and RFF of a slot program. -/
def SlotRec.dir (r : SlotRec) : Bool := bit (r.words.getD 0 0) 8
def SlotRec.rff (r : SlotRec) : Bool := bit (r.words.getD 0 0) 9

/-- The rules of a serving group (R207, R238, R288). -/
def servingOk (im : Image) (g : CtxRec) : Bool :=
  let volt := targetMembers im 1 g.inst
  let cur := targetMembers im 3 g.inst
  let sup := im.groups.filter (fun q => q.tkind = 4 ∧ q.tindex = g.ctx ∧ q.owner = g.ctx)
  let n (k : Nat) : Nat := (im.groups.filter (fun q => q.tkind = k ∧ q.tindex = g.inst)).length
  (im.ctx? 0).any (fun z => ef z.vbase == ef g.vbase) && n 1 == 1 && n 3 == 1 &&
    (volt.filter (fun r => r.ref = .none ∧ r.rff)).length == 1 && (cur.filter (fun r => r.ref = .none)).length == 1 && !(im.ofType .feed).isEmpty &&
    (servedBy im g).all (fun b => cur.any (fun r => slotFrom r (.word b.ctx CHG_ICREQ) (.word b.ctx CTX_IMEAS) && r.dir) &&
      cur.any (fun r => slotFrom r (.word b.ctx CHG_VCV) (.word b.ctx CTX_VMEAS) && !r.dir)) &&
    match sup with
    | [q] => (im.members q.group).any (fun r => slotFrom r (.word 0 SHELF_ALLOW) (.word 0 SHELF_PSRC) && r.dir) &&
        (servedBy im g).all (fun b => (im.members q.group).any (fun r => slotFrom r (.word b.ctx BAT_IDPERM) (.word b.ctx CTX_IMEAS))) &&
        cur.any (fun r => decide (r.ref = .group q.group))
    | _ => false

/-- The rules of the allowance group (R288). -/
def allowanceOk (im : Image) : Bool := match im.groups.filter (fun q => q.tkind = 4 ∧ q.tindex = 0 ∧ q.owner = 0) with
  | [q] => (im.members q.group).any (fun r => slotFrom r (.word 0 SHELF_PCAPEFF) (.word 0 SHELF_PSRC)) &&
      (im.ofType .feed).all (fun f => (im.members q.group).any (fun r => decide (r.fb = .word f.ctx CTX_IMEAS)))
  | _ => false

/-- The share slots of a rectifier: members of its trim groups with the words of R279. -/
def shareSlots (im : Image) (r : CtxRec) : List SlotRec :=
  (im.groups.filter (fun q => q.owner = r.ctx ∧ (q.tkind = 2 ∨ q.tkind = 0))).flatMap fun q => (im.members q.group).filter (fun x => slotFrom x (.word r.ctx RECT_IREF) (.word r.ctx CTX_IMEAS))

/-- The rules of a rectifier whose SHARE can be 1 (R279). -/
def rectOk (im : Image) (r : CtxRec) : Bool :=
  let l := im.groups.filter (fun q => q.owner = r.ctx)
  decide (4 ≤ r.a1) || (l.length == 1 && l.all (fun q => if r.a0 < 16 then q.tkind == 2 && q.tindex == r.a0 else q.tkind == 0) && (shareSlots im r).length == 1)

/-- Check 0x16. The command of every converter group is the result of a min-select group (R24, last row; DEDUCED, log 91). -/
def checkStrands (im : Image) : Option Bad :=
  let shares := (im.ofType .rectifier).flatMap (shareSlots im)
  firstOf [needAll im.contexts 0x16 1 (fun r => !(r.typ == .string && r.a0 != 0xFF && r.a2 != 0xFF)),
    need (decide (((im.ofType .feed).filter (·.a1 = 0)).length ≤ 1) || !(servingOfImage im).isEmpty) 0x16 1,
    need ((im.ctx? 0).all (fun z => (im.contexts.filter (fun g => g.typ = .group ∧ g.inst = z.a0)).all (fun g => ef g.vbase == ef z.vbase))) 0x16 1,
    needAll im.contexts 0x16 1 (fun g => !(g.typ == .group && !(servedBy im g).isEmpty) || servingOk im g),
    needAll im.contexts 0x16 1 (fun r => r.typ != .rectifier || rectOk im r), need (shares.all (fun x => x.coef == (shares.head?.map (·.coef)).getD [])) 0x16 4,
    needAll im.contexts 0x16 1 (fun r => r.typ != .group || im.groups.any (fun q => q.tkind = 1 ∧ q.tindex = r.inst)), need (allowanceOk im) 0x16 5, needAll im.groups 0x16 5 (fun q => q.tkind != 5 || (im.ofType .branch).any (·.a2 = q.tindex))]

/-! ### Slot programs and groups: codes 0x17 and 0x18 (R76 to R79, R101 to R108, R514) -/

/-- Whether a context word is held in PU18 or T18: the formats a source may have (R108). -/
def sourceFormat (t : CtxType) (k : Nat) : Bool :=
  if k < 0x10 then k == CTX_VMEAS || k == CTX_IMEAS || k == CTX_PMEAS || k == CTX_TMEAS
  else match descAt (typeDescs t) k with
    | some (.pu _ _) | some (.temp _ _) => true
    | some .readOnly => (match t with
        | .shelf => [SHELF_RACKCAP, SHELF_PCAPEFF, SHELF_PSRC, SHELF_PBAT, SHELF_ALLOW, SHELF_PBAVAIL, SHELF_HEAD]
        | .feed => [FEED_VIN]
        | .rectifier => [RECT_IREF, RECT_SHERR, RECT_TRIM]
        | .string => [BAT_IDPERM, CHG_ICREQ, EST_SOC, EST_SOCRAW, EST_UNC, EST_IDLIM]
        | .group => [GRP_VCMD, GRP_ICMD]
        | .branch => [BR_ILIMEFF, BR_VDS]
        | .pol => [POL_VIN]
        | .zone => [ZONE_TPEAK]
        | .rail => []).contains k
    | _ => false

/-- Whether a source may be named by a slot: it exists, and a fast slot takes no fast result (R75, R79, R108). -/
def sourceOk (im : Image) (r : SlotRec) (src : Src) : Bool := match src with
  | .none => true
  | .scan n => decide (n < 96)
  | .word c k => match im.ctx? c with
    | some x => wordThere im x k && sourceFormat x.typ k
    | none => false
  | .slot n => (im.slot? n).any (fun q => !(im.fast r && im.fast q))
  | .group g => (im.group? g).any (fun q => !(im.fast r && q.tkind == 1))

/-- Whether the raw source identifiers of a slot record are legal: 0b11 only as 0xC000 (R75). -/
def Raw.srcLegal (b : Raw) (o : Nat) : Bool := [4, 6, 8].all (fun k => decide (b.u (o + k) 2 < 0xC000) || b.u (o + k) 2 == 0xC000)

/-- Whether the initial words of a slot are legal (R102, R103). -/
def slotWordsOk (r : SlotRec) : Bool :=
  let w (k : Nat) : Word := r.words.getD k 0
  bits (w 0) 5 1 == 0 && !bit (w 0) 11 && w 3 == 0 && w 6 == 0 && w 7 == 0 && decide ((w 5).toInt ≤ (w 4).toInt)

/-- The fast slots of a slice. -/
def fastOn (im : Image) (k : Nat) : List SlotRec := im.slots.filter (fun r => im.fast r && r.slot % 4 == k)

/-- The converter group instance that a fast slot serves. -/
def servesGroup (im : Image) (r : SlotRec) : Nat := ((im.group? r.group).map (·.tindex)).getD 8

/-- Whether the fast slots keep the limits of R108. -/
def fastLimits (im : Image) : Bool :=
  decide ((im.slots.filter im.fast).length ≤ 32) && (List.range 4).all (fun k => decide ((fastOn im k).length ≤ 8) &&
    (List.range 8).all (fun g => decide (((fastOn im k).filter (fun r => servesGroup im r == g)).length ≤ 2)))

/-- The cycles a slice is busy with fast work after a tick (R514). -/
def fastWork (im : Image) (k : Nat) : Nat := 5 * ((fastOn im k).map (fun r => lawCost r.law)).sum

/-- The completion times of the shelf slots in their order (R514). -/
def completions (im : Image) : List (SlotRec × Nat) :=
  im.shelfOrder.foldl (fun done r =>
    let before := ((done.filter (fun p => p.1.slot % 4 == r.slot % 4)).map (·.2)).foldl max 0
    let waits := r.waits im
    let sources := ((done.filter (fun p => waits.contains p.1.slot)).map (·.2)).foldl max 0
    done ++ [(r, max (max (fastWork im (r.slot % 4)) before) sources + lawCost r.law)]) []

/-- FAB.LOAD: the largest slice completion (R514). -/
def Image.load (im : Image) : Nat :=
  ((completions im).map (·.2) ++ (List.range 4).map (fastWork im)).foldl max 0

/-- Check 0x17. -/
def checkSlots (b : Raw) (im : Image) : Option Bad :=
  let coefSlots := (b.recs 4).map (fun o => b.u o 1)
  firstOf [needAll (b.recs 3) 0x17 3 b.srcLegal, dupAt SlotRec.slot im.slots 0x17 3,
    needAll im.slots 0x17 3 (fun r => decide (r.law < 5) && (im.group? r.group).isSome && slotWordsOk r && [r.ref, r.fb, r.ff].all (sourceOk im r)),
    dupAt id coefSlots 0x17 4, needAll (b.recs 4) 0x17 4 (fun o => (im.slot? (b.u o 1)).any (fun r => b.u (o + 1) 1 == ncoef r.law) && decide (1 ≤ b.u (o + 1) 1)),
    needAll im.slots 0x17 3 (fun r => ncoef r.law == 0 || coefSlots.contains r.slot), need (im.acyclic && im.shelfOrder.length == im.shelfSlots.length) 0x17 3,
    needAll im.groups 0x17 5 (fun g => !(im.members g.group).isEmpty && decide ((im.members g.group).length ≤ if g.tkind = 1 then 8 else 32)), need (fastLimits im) 0x17 3, need (decide (im.load ≤ 950)) 0x17 3]

/-- Whether the target of a group exists (R78, R287). -/
def targetOk (im : Image) (g : GroupRec) : Bool := match g.tkind with
  | 0 => true
  | 1 | 3 => (im.inst? .group g.tindex).isSome
  | 2 | 5 => decide (g.tindex < 16)
  | 4 => g.tindex == 0 || (servingOfImage im).any (·.ctx = g.tindex)
  | _ => false

/-- Check 0x18. -/
def checkGroups (im : Image) : Option Bad :=
  firstOf [dupAt GroupRec.group im.groups 0x18 5,
    needAll im.groups 0x18 5 (fun g => decide (g.group < 64) && targetOk im g && (im.ctx? g.owner).isSome && !(im.members g.group).isEmpty),
    dupAt (fun g => if g.tkind = 0 then 4096 + g.group else 256 * g.tkind + g.tindex) im.groups 0x18 5,
    needAll im.contexts 0x18 1 (fun r => r.prigrp == 0xFF || (im.group? r.prigrp).isSome)]

/-! ### Graphs, matrix, safe states, pins, compensation, initial values: codes 0x19 to 0x1E -/

/-- The record of a rail instance. -/
def railRec (im : Image) (inst : Nat) : Option GraphRec := (im.inst? .rail inst).bind (fun c => im.graphs.find? (·.rail = c.ctx))

/-- The rails that can be placed after their predecessors; as many as there are when no graph has a cycle. -/
def placeable (im : Image) : Nat → List Nat → List Nat
  | 0, done => done
  | n + 1, done =>
    let instOf (g : GraphRec) : Nat := ((im.ctx? g.rail).map (·.inst)).getD 64
    placeable im n ((im.graphs.filter (fun g => g.pred.all done.contains)).map instOf)

/-- Check 0x19. -/
def checkGraphs (b : Raw) (im : Image) : Option Bad :=
  firstOf [needAll (b.recs 6) 0x19 6 (fun o => (if b.u (o + 2) 1 / 2 % 2 = 1 then decide (b.u (o + 3) 1 < 4) else b.u (o + 3) 1 == 0xFF) &&
      (if b.u (o + 2) 1 % 2 = 1 then decide (b.u (o + 12) 1 < 0x20) else b.u (o + 12) 1 == 0xFF)), dupAt GraphRec.rail im.graphs 0x19 6,
    needAll im.graphs 0x19 6 (fun g => decide (g.graph < 8) && (im.ctx? g.rail).any (·.typ = .rail) && g.pred.all (fun i => (railRec im i).any (·.graph = g.graph))),
    need ((im.ofType .rail).all (fun r => im.graphs.any (·.rail = r.ctx))) 0x19 6, need ((placeable im 64 []).length == im.graphs.length) 0x19 6,
    dupAt (fun g => g.segment.getD (100 + g.rail)) im.graphs 0x19 6]

/-- Check 0x1A (R82). -/
def checkMatrix (im : Image) : Option Bad :=
  ((List.range im.matrix.length).find? (fun i => match im.matrix[i]? with
    | some m => !(m.typ == i / 16 + 1 && m.cls == i % 16 && decide (m.sev < 4) && (m.react % 2 == 0 || decide (2 ≤ m.sev)))
    | none => false)).map fun i => { code := 0x1A, sect := 7, idx := i }

/-- Whether a menu code and its PARAM are legal for a type (R353). -/
def safeOk (t : CtxType) (m : SafeRec) : Bool :=
  let zero := m.param == 0
  match t with
  | .shelf => decide (m.menu < 4) && zero
  | .feed | .string | .branch | .rail | .zone => decide (m.menu < 2) && zero
  | .rectifier => (m.menu == 0 && decide (0 ≤ m.param.toInt) && decide (m.param.toInt ≤ 65536)) || (m.menu == 1 && zero)
  | .group => (m.menu == 0 && zero) || (m.menu == 1 && decide (1 / 1000 ≤ ef m.param) && decide (ef m.param ≤ 1))
  | .pol => (m.menu == 0 && zero) || m.menu == 1

/-- Check 0x1B. -/
def checkSafe (im : Image) : Option Bad :=
  firstOf [dupAt SafeRec.ctx im.safe 0x1B 8, needAll im.safe 0x1B 8 (fun m => (im.ctx? m.ctx).any (fun r => safeOk r.typ m)),
    need (im.contexts.all (fun r => im.safe.any (·.ctx = r.ctx))) 0x1B 8]

/-- Whether a pin function is legal (R84, R85). -/
def pinOk (im : Image) (p : PinRec) : Bool :=
  let is (t : CtxType) : Bool := (im.ctx? p.ctx).any (·.typ = t)
  (decide (p.pin < 0x20) && match p.func with
    | 0 | 4 | 6 | 7 => p.ctx == 0xFF
    | 1 => is .feed
    | 2 | 3 | 5 => is .rail
    | _ => false) ||
  (p.pin == 0x40 && ((p.func == 0 && p.ctx == 0xFF) || (p.func == 0x10 && is .group)))

/-- Check 0x1C. -/
def checkPins (im : Image) : Option Bad :=
  firstOf [needAll im.pins 0x1C 9 (pinOk im), needAll im.overrides 0x1C 11 (fun o => decide (o.pin ≤ 0x40) && decide (o.state < 5))]

/-- Check 0x1D (R86). -/
def checkFallback (im : Image) : Option Bad :=
  firstOf [dupAt FbRec.grp im.fallback 0x1D 10,
    needAll im.fallback 0x1D 10 (fun f => (im.inst? .group f.grp).isSome && decide (100 ≤ ef f.fz) && decide (ef f.fz ≤ 100000) && decide (1000 ≤ ef f.fp) && decide (ef f.fp ≤ 1000000) &&
      decide (ef f.fz < ef f.fp) && decide (0 ≤ f.ilim.toInt) && decide (f.ilim.toInt ≤ 81920)),
    need ((im.ofType .group).all (fun r => im.fallback.any (·.grp = r.inst))) 0x1D 10]

/-- Whether a shape can be written and read back: an RW word (R88). -/
def Shape.writable : Shape → Bool
  | .readOnly | .trigger => false
  | .fields fs => fs.any (fun f => f.access = .rw)
  | _ => true

/-- Whether an initial value's address names an RW word (R88). -/
def initAddrOk (im : Image) (a : Nat) : Bool :=
  if a < 0x480 then (descAt (pageDescs (a / 0x40)) a).any Shape.writable
  else if isCtxAddr a then match im.ctx? (ctxOf a).1 with
    | some r => decide (0x10 ≤ (ctxOf a).2) && wordThere im r (ctxOf a).2 && (descAt (typeDescs r.typ) (ctxOf a).2).any Shape.writable
    | none => false
  else if isSlotAddr a then (im.slot? (slotOf a).1).isSome && (descAt descSlot (slotOf a).2).any Shape.writable
  else false

/-- Check 0x1E. -/
def checkInit (im : Image) : Option Bad := needAll im.init 0x1E 12 (fun r => initAddrOk im r.addr)

/-! ### Live checks: codes 0x1F and 0x20 (R92, R94) -/

/-- Whether a context present in both images changes a base. -/
def baseChanged (old new : Image) : Bool :=
  old.contexts.any (fun r => (new.ctx? r.ctx).any (fun q => q.typ == r.typ && (ef q.vbase != ef r.vbase || ef q.ibase != ef r.ibase)))

/-- Whether the checkpoint of one image is carried into another unchanged (R90). -/
def carriesOver (old new : Image) : Bool := old.ckptVer == new.ckptVer && !baseChanged old new

/-- Whether a migration record's offsets lie in their area: register addresses for the checkpoint and the settings, words of a 256-byte record for learned data; its KIND and OP are among those R89 lists (R513; DEDUCED, log 139). -/
def migIn (m : MigRec) : Bool :=
  let top := if m.kind = 2 then 128 else 0x3800
  decide (m.old < top) && decide (m.new < top) && decide (m.kind ≤ 2) && decide (m.op ≤ 4)

/-- Whether a context of the running image owns a live resource: a gate that is on, an enabled group, a trim or throttle output under fabric command (R94). -/
def State.liveCtx (s : State) (im : Image) (r : CtxRec) : Bool := match r.typ with
  | .feed | .branch => decide (s.fld (GCH_STS + r.a0) 1 0 ≠ 0) || (r.typ == .branch && decide (r.a2 < 16) && im.groups.any (fun g => g.tkind = 5 ∧ g.tindex = r.a2))
  | .string => r.directHang && decide (s.fld (GCH_STS + r.a0) 1 0 ≠ 0)
  | .group => bit (s.cw r.ctx GRP_CTL) 0
  | .rectifier => decide (r.a0 < 16) && im.groups.any (fun g => g.tkind = 2 ∧ g.tindex = r.a0)
  | _ => false

/-- Codes 0x1F and 0x20, for a slot checked while an image runs. -/
def State.checkLive (s : State) (new : Image) : Option Bad := match s.image with
  | none => none
  | some old =>
    let covered := new.migration.any (fun m => m.kind = 0 ∧ m.fromVer = old.ckptVer)
    firstOf [need (carriesOver old new || covered) 0x1F 13, needAll new.migration 0x1F 13 migIn,
      need (old.contexts.all (fun r => !s.liveCtx old r || new.contexts.any (fun q => q.typ = r.typ ∧ q.a0 = r.a0 ∧ q.a1 = r.a1 ∧ q.a2 = r.a2 ∧ q.a3 = r.a3))) 0x20 1]

/-! ### The whole check -/

/-- A part of the MRAM, with the commits that wait for charge as made. -/
def State.mramSlice (s : State) (start n : Nat) : Raw :=
  { cells := (s.settled.filter (fun c => decide (start ≤ c.1) && decide (c.1 < start + n))).map (fun c => (c.1 - start, c.2)), size := n }

/-- The bytes of an image slot (R22). -/
def State.imageSlot (s : State) (slot : Nat) : Raw := s.mramSlice (0x100000 + 131072 * (slot % 2)) 131072

/-- FWVER of the running firmware. -/
def State.fwver (s : State) : Nat := s.wide UPD_FWVER 2

/-- Every check of a slot in ascending order of code; none where it passes. -/
def State.checkImage (s : State) (slot : Nat) (live : Bool) : Option Bad :=
  let b := s.imageSlot slot
  match firstOf [s.headChecks b imageHead, need (decide (b.u 0x30 4 ≤ s.fwver)) 0x0D 0] with
  | some x => some x
  | none => match firstOf [b.dirChecks, b.checkZeros] with
    | some x => some x
    | none =>
      let im := b.image
      firstOf [checkContexts b im, checkBases im, checkResources im, s.checkVariant im, checkStrands im, checkSlots b im, checkGroups im, checkGraphs b im, checkMatrix im,
        checkSafe im, checkPins im, checkFallback im, checkInit im, if live then s.checkLive im else none]

end Sys2Proof.Machine
end

