-- ==== Sys2Proof/Machine/Install.lean ====
section
/-! DEFINITION. An image taken into use (R88 to R92, R131, R132, R462 t8 to t9, R481): the words a cold start gives, the saved settings, and the checkpoint of an old image carried into a new one. -/

namespace Sys2Proof.Machine

/-! ### Values a write is held to by rules beside its range -/

/-- GRP.CTL with the fields that a write may not set: MODE and DIR of a serving group keep what the strand holds (R147), and a group without a current group takes only MODE 0b00 (R146). -/
def State.groupCtl (s : State) (r : CtxRec) (w : Word) : Word × Bool :=
  let old := s.cw r.ctx GRP_CTL
  if (s.served r.ctx).isEmpty then
    if bits w 2 1 ≠ 0 ∧ (s.minGroup r.ctx 3).isNone then (putBits w 2 1 0, true) else (w, false)
  else
    let v := putBits w 3 1 (bits old 3 1)
    (v, v != w)

/-- What a written value becomes before the clamping of its word: MODE and DIR of a converter group (R146, R147), a zone's source must name a POL or rectifier (R372), a rectifier without a port does not share (R277), an interval below 1 s is 1 s (R343), a slot without a law stays disabled (R104), bits of throttle outputs without a branch are ignored (R293). -/
def State.legal (s : State) (a : Nat) (w : Word) : Word × Bool :=
  let keepBits (l : List Nat) : Word := Word.ofNat ((List.range 18).foldl (fun n k => n + b2n (bit w k && l.contains k) * 2 ^ k) 0)
  if a = LANE_ARTIME then (if 0 < ef w ∧ ef w < 1 then (0x3A3E8, true) else (w, false))
  else if a = THR_HARDEN ∨ a = THR_FORCE then (keepBits ((List.range 16).filter s.throttled), false)
  else if isCtxAddr a then
    let (c, k) := ctxOf a
    match s.ctx? c with
    | some r =>
      if r.typ = .zone ∧ k = ZONE_SRC then
        let x := w.toNat
        if x = 0xFF ∨ (r.a1 = 2 ∧ (s.isType x .pol || s.isType x .rectifier)) then (w, false) else (0xFF, true)
      else if r.typ = .group ∧ k = GRP_CTL then s.groupCtl r w
      else if r.typ = .rectifier ∧ k = RECT_CTL ∧ r.a1 ≥ 4 ∧ bit w 0 then (putBit w 0 false, true)
      else (w, false)
    | none => (w, false)
  else if isSlotAddr a ∧ (slotOf a).2 = SLOT_CTL ∧ bits (s.reg a) 3 1 = 0 ∧ bit w 0 then (putBit w 0 false, true)
  else (w, false)

/-- A value that rules beside the range have made legal, stored as a write stores it; the flag says whether they replaced anything. -/
def State.putAs (s : State) (a : Nat) (l : Word × Bool) : State :=
  if !s.implemented a then s
  else match s.shape? a with
    | none | some .readOnly => s
    | some _ =>
      let r := s.clampWord a l.1
      s.storeAs a (r.1, r.2 || l.2)

/-- A word stored as a write stores it (R43 to R48). -/
def State.put (s : State) (a : Nat) (w : Word) : State := s.putAs a (s.legal a w)

/-! ### Cold-start words -/

/-- Settings of the global pages that an image gives values to, with the fabric words: pages 1 to 17 without the clock and reset registers. -/
def coldGlobal (a : Nat) : Bool :=
  decide (0x40 ≤ a) && decide (a < 0x480) && !(decide (0x3F0 ≤ a) && decide (a < 0x400)) &&
    ((descAt (pageDescs (a / 0x40)) a).any Shape.writable || (decide (FAB_GRES ≤ a) && decide (a < FAB_GMARG)) || a == FAB_LOAD)

/-- The enable bit a context record gives at cold start, for the types that have one (R72); a rectifier without a port cannot share. -/
def enableWord (r : CtxRec) : List (Nat × Word) :=
  let on (k : Nat) (w : Word) : List (Nat × Word) := [(k, putBit w 0 r.enabled)]
  match r.typ with
  | .feed => on FEED_CTL 0x0001E
  | .rectifier => [(RECT_CTL, if r.enabled ∧ r.a1 < 4 then 1 else 0)]
  | .string => on BAT_CTL 0x00006
  | .group => on GRP_CTL 0x00040
  | .branch => on BR_CTL 0x00006
  | .pol => on POL_CTL 0
  | .shelf | .rail | .zone => []

/-- Words that the image fixes for a context: priority, role, address, and the rows of the Steppe table (R73, R160, R185, R210, R428). -/
def fixedWords (im : Image) (r : CtxRec) : List (Nat × Word) := match r.typ with
  | .feed => [(FEED_PRIO, Word.ofNat r.a3)]
  | .string => [(BAT_PSTS, if r.directHang then 1 else if (im.servingOf r).isSome then 2 else 0)]
  | .pol => [(POL_ADDR, Word.ofNat (r.a1 % 128))]
  | .group =>
    let n : Rat := (r.phases.length : Nat)
    (List.range (r.phases.length - 1)).flatMap fun i =>
      let x : Rat := ((i + 1 : Nat) : Rat) / n
      [(STEPPE_ADD + i, toPU (4 / 5 * x)), (STEPPE_SHED + i, toPU (3 / 5 * x))]
  | _ => []

/-- The words of a context block at a cold start, before the initial values. -/
def coldCtx (im : Image) (r : CtxRec) : List (Nat × Word) :=
  [(CTX_TYPE, Word.ofNat (r.typ.code + 16 * r.inst)), (CTX_VBASE, efCanon r.vbase), (CTX_IBASE, efCanon r.ibase), (CTX_PBASE, toEF (ef r.vbase * ef r.ibase))] ++
    typeDefaults r.typ ++ enableWord r ++ fixedWords im r

/-- The words of a slot at a cold start: the record's initial values, with LAW, SLICE and CLS filled in, reserved bits zero and SLOT.RATE canonical (R10, R35, R101, R103, R104). -/
def coldSlot (im : Image) (r : SlotRec) : List (Nat × Word) :=
  let ctl := putBit (putBits (putBits (putBits (r.words.getD 0 0) 17 12 0) 3 1 r.law) 5 4 (r.slot % 4)) 11 (im.fast r)
  let ctl := if bits ctl 7 6 = 3 then putBits ctl 7 6 0 else ctl
  let ctl := if r.law = 0 then putBit ctl 0 false else ctl
  (SLOT_CTL, ctl) :: (List.range 5).map (fun k => (k + 1, if k + 1 = SLOT_RATE then efCanon (r.words.getD (k + 1) 0) else r.words.getD (k + 1) 0))

/-- The open-circuit voltage table of a string at a cold start (R260). -/
def coldOcv (inst : Nat) : List (Nat × Word) := socPoints.zipIdx.map fun p => (EST_OCV + 8 * inst + p.2, toPU (4 / 5 + p.1 / 5))

/-- Words replaced one by one. -/
def State.setAll (s : State) (l : List (Nat × Word)) : State := s.forEach l (fun p s => s.setReg p.1 p.2)

/-- Words whose address passes a test taken from one list, the others from another. -/
def overlay {α : Type} [DecidableEq α] (d : α) (take : Nat → Bool) (src rest : List (Nat × α)) : List (Nat × α) :=
  (src.filter (fun p => take p.1)).foldl (fun l p => assign d l p.1 p.2) (rest.filter (fun p => !take p.1))

/-- Phases and gate channels told what owns them (R143, R183). -/
def State.setOwners (s : State) (im : Image) : State :=
  let s1 := s.forEach (im.ofType .group) (fun r s => s.forEach r.phases (fun p s => s.setFld (PH_STS + p) 2 0 r.inst))
  s1.forEach (List.range 16) fun g s =>
    let own := im.contexts.find? (fun r => (r.typ = .feed ∨ r.typ = .branch ∨ r.directHang) ∧ r.a0 = g)
    s.setReg (GCH_OWNER + g) (Word.ofNat ((own.map CtxRec.ctx).getD 0xFF))

/-- The words an image gives before its initial values; status and measured words of the global pages stay. -/
def State.imageWords (s : State) (im : Image) : State :=
  let s1 := { s with regs := overlay 0 coldGlobal resetRegs (s.regs.filter (fun p => decide (p.1 < 0x480))), image := some im, clamped := s.clamped.filter (fun p => decide (p.1 < 0x40)), staleMark := s.staleMark.filter (fun p => decide (p.1 < 0x480)) }
  let s2 := s1.forEach im.contexts (fun r s => s.forEach (coldCtx im r) (fun p s => s.setC r.ctx p.1 p.2))
  let s3 := s2.forEach im.slots (fun r s => s.forEach (coldSlot im r) (fun p s => s.setS r.slot p.1 p.2))
  let s4 := s3.forEach im.groups (fun g s => (s.setReg (FAB_GRES + g.group) g.fallback).setReg (FAB_GGOV + g.group) 0x00200)
  let s5 := s4.forEach (im.ofType .string) (fun r s => s.setAll (coldOcv r.inst))
  let harden := (im.ofType .branch).foldl (fun n r => if r.a2 < 16 then n ||| 2 ^ r.a2 else n) 0
  ((s5.setReg THR_HARDEN (Word.ofNat harden)).setReg FAB_LOAD (Word.ofNat im.load)).setOwners im

/-- The initial values section, in record order (R88); words of global page 0 belong to the core and are written at a cold start only. A record of FAB.CDATA gives a coefficient its value (coldCoefs). -/
def State.initialValues (s : State) (im : Image) (cold : Bool) : State :=
  s.forEach (im.init.filter (fun r => r.addr != FAB_CDATA && (cold || decide (0x40 ≤ r.addr)))) (fun r s => s.put r.addr r.value)

/-! ### Saved settings (R481) -/

/-- Start of a settings slot; true is B. -/
def setBase (b : Bool) : Nat := if b then 0x143000 else 0x141000

/-- The magic of a settings slot. -/
def setMagic : List Byte := [0x53, 0x45, 0x54, 0x53]

/-- Sequence number, version and words of a settings slot, if it is valid. -/
def State.settingsSlot (s : State) (b : Bool) : Option (Nat × Nat × List (Nat × Word)) :=
  let h := s.readBack (setBase b) 16
  let n := ofLe ((h.drop 10).take 2)
  if h.take 4 ≠ setMagic ∨ 1362 < n then none
  else
    let bs := s.readBack (setBase b) (16 + 6 * n + 4)
    if ofLe (bs.drop (16 + 6 * n)) ≠ crc32 (bs.take (16 + 6 * n)) then none
    else some (ofLe ((h.drop 4).take 4), ofLe ((h.drop 8).take 2), (List.range n).map (fun i =>
      let r := (bs.drop (16 + 6 * i)).take 6
      (ofLe (r.take 2), bytesWord (r.getD 2 0) (r.getD 3 0) (r.getD 4 0))))

/-- The newest copy of the settings: the valid slot of higher SEQ. -/
def State.newestSettings (s : State) : Option (Bool × Nat × Nat × List (Nat × Word)) :=
  match s.settingsSlot false, s.settingsSlot true with
  | some a, some b => if a.1 < b.1 then some (true, b) else some (false, a)
  | some a, none => some (false, a)
  | none, some b => some (true, b)
  | none, none => none

/-- A field of a migrated word: a setting made legal, a status or read-only field as it is, a trigger not held (R9, R10). -/
def migField (w acc : Word) (f : FieldDesc) : Word :=
  let v := bits w f.hi f.lo
  match f.access with
  | .rw => putBits acc f.hi f.lo (f.rule.apply v).1
  | .ro | .w1c => putBits acc f.hi f.lo v
  | .wt => acc

/-- How many bits, from bit 0 on, a read-only word of the lane's state has (R10). -/
def State.statusBits (s : State) (a : Nat) : Nat :=
  if a = SAD_STATE then 12
  else if SEQ_GSTATE ≤ a ∧ a < SEQ_GSTATE + 8 then 7
  else if isCtxAddr a then
    let k := (ctxOf a).2
    if k = CTX_GOV then 9 else if k = CTX_STATE then 11
    else if s.isType (ctxOf a).1 .string then (if k = CHG_STATE then 11 else if k = EST_STS then 6 else 18) else 18
  else 18

/-- A word as the new image may hold it: a setting at its limits and in canonical form, reserved bits zero, no trigger (R9, R10, R35, R43). -/
def State.fitWord (s : State) (a : Nat) (w : Word) : Word := match s.shape? a with
  | none | some .trigger => s.reg a
  | some .readOnly => Word.ofNat (w.toNat % 2 ^ s.statusBits a)
  | some (.fields fs) => fs.foldl (migField w) 0
  | some _ => (s.clampWord a w).1

/-- The image of an old settings and learned-data version: at a start, the one that the other slot still holds (R92); its heading must be sound. -/
def State.imageOf (s : State) (ver : Nat) : Option Image :=
  ([0, 1].find? (fun slot => (s.headChecks (s.imageSlot slot) imageHead).isNone && (s.imageSlot slot).image.setVer == ver)).map (fun slot => (s.imageSlot slot).image)

/-- The ratio of a context's old base to its new one, for an operation of R89; 1 where no old image is known (DESIGN CHOICE, log 37). -/
def State.migRatio (s : State) (old : Option Image) (op c : Nat) : Rat := match old.bind (·.ctx? c) with
  | some r =>
    let new (k : Nat) : Rat := ef (s.cw c k)
    if op = 2 then ef r.ibase / new CTX_IBASE else if op = 3 then ef r.vbase / new CTX_VBASE else ef (toEF (ef r.vbase * ef r.ibase)) / new CTX_PBASE
  | none => 1

/-- Whether a word is a tracking margin, which an image switch takes from the new image and its initial values alone (R132). -/
def isMargin (a : Nat) : Bool := decide (FAB_GMARG ≤ a) && decide (a < FAB_GMARG + 64)

/-- The saved settings applied after the initial values, migrated where their version differs (R90, R481); at an image switch the tracking margins are left out (R132). -/
def State.applySaved (s : State) (im : Image) (old : Option Image) : State := match s.newestSettings with
  | none => s
  | some (_, _, ver, words) =>
    let same := ver == im.setVer && old.all (fun o => !baseChanged o im)
    let l := if same then words else migrated im 1 ver (fun a => find words a) (s.migRatio (old.or (s.imageOf ver)))
    s.forEach (l.filter (fun p => old.isNone || !isMargin p.1)) (fun p s => s.put p.1 p.2)

/-- Every word as a cold start under an image gives it. -/
def State.coldWords (s : State) (im : Image) (old : Option Image) : State :=
  ((s.imageWords im).initialValues im old.isNone).applySaved im old

/-! ### A start without a checkpoint (R462, R464) -/

/-- Coefficients of every slot in use, KDF and SH held in their ranges (R77, R114). -/
def imageCoefs (im : Image) : List (Nat × List Word) := im.slots.map (fun r => (r.slot, r.coef.zipIdx.map (fun p => (coefClamp r.law p.2 p.1).1)))

/-- The coefficients of a cold start: those of the slot records, then those that initial-value records give through FAB.SLOT and FAB.CDATA, in record order (R88, R115, R132; DEDUCED, log 134). -/
def coldCoefs (im : Image) : List (Nat × List Word) :=
  (im.init.foldl (fun (x : Nat × List (Nat × List Word)) r =>
    if r.addr = FAB_SLOT then (r.value.toNat % 2048, x.2)
    else if r.addr = FAB_CDATA then
      let n := x.1 % 256
      let law := ((im.slot? n).map SlotRec.law).getD 0
      (x.1, x.2.map (fun p => if p.1 = n then (n, p.2.set (x.1 / 256) (coefClamp law (x.1 / 256) r.value).1) else p))
    else x) (0, imageCoefs im)).2

/-- Ports with a target begin in use, their targets' set-points queued (R418). -/
def State.startPorts (s : State) (im : Image) : State :=
  let s1 := s.forEach (List.range 4) (fun p s => if (s.targets p).isEmpty then s else s.setPortCode p 1)
  s1.forEach (im.contexts.filter (fun r => r.dsPort.isSome)) (fun r s => s.qualifyTarget r.ctx)

/-- The versions and the slot in use (R97). -/
def State.showImage (s : State) (im : Image) (slot : Nat) : State :=
  (((s.setReg IMG_CKPTVER (Word.ofNat im.ckptVer)).setReg IMG_SETVER (Word.ofNat im.setVer)).setFlag IMG_ACTIVE 0 (slot == 1)).setFlag IMG_ACTIVE 3 false

/-- An image accepted at start-up: cold words, a fresh lane with learned data, ports, and the on requests of AUTOON (R310). -/
def State.installCold (s : State) (im : Image) (slot : Nat) : State :=
  let s1 := s.coldWords im none
  let s2 := { s1 with lane := { coefs := coldCoefs im } }
  let s3 := (s2.startPorts im).estimatorStart im (fun ver => s2.migRatio (s2.imageOf ver))
  let s4 := { s3 with clk := { s3.clk with overrides := im.overrides } }.startTargets im (fun _ => true)
  ((s4.forEach (s4.graphList.filter (fun g => s4.gcfg g 0)) (fun g s => s.onRequest g)).showImage im slot).seeStale

/-! ### A checkpoint taken over (R21, R131, R132) -/

/-- Words of a context that only the lane writes, beside the settings. -/
def laneCtxWords : CtxType → List Nat
  | .string => [CHG_STATE, CHG_TELAP, CHG_ICREQ, BAT_IDPERM, EST_QCAP, EST_SOC, EST_SOCRAW, EST_UNC, EST_IDLIM, EST_STS]
  | .rectifier => [RECT_IREF, RECT_SHERR, RECT_TRIM]
  | .rail => [CTX_STATE, RAIL_TRISEM, RAIL_TFALLM]
  | _ => []

/-- Whether a word is part of the lane's state, so that a restore takes it from the checkpoint: the settings outside global page 0 and the core's clock and reset registers, the fabric's words, the sequencer's and the Saddle's states, and the words of laneCtxWords. A rail that the fault path forced keeps its state. -/
def State.laneOwned (s : State) (a : Nat) : Bool :=
  if a < 0x480 then (coldGlobal a && a != CASC_RDATA) || (decide (SEQ_GSTATE ≤ a) && decide (a < SEQ_GSTATE + 8)) || a == SAD_STATE
  else if isSlotAddr a then true
  else if isCtxAddr a then
    let (c, k) := ctxOf a
    match s.ctx? c with
    | some r => (s.shape? a).any Shape.writable || k == CTX_GOV || ((laneCtxWords r.typ).contains k && !(r.typ == .rail && k == CTX_STATE && s.safe c))
    | none => false
  else false

/-- Whether a lane timer of a checkpoint is taken over: not the timers of a rail that the fault path forced. -/
def State.timerTaken (s : State) : Timer → Bool
  | .rail c | .railOff c | .discharge c => !s.safe c
  | k => k.ofLane

/-- The timers after a restore: the lane's from the checkpoint, the core's as they run. -/
def State.mergeTimers (s : State) (ck : Ckpt) : List (Timer × Nat) :=
  s.timers.filter (fun p => !s.timerTaken p.1) ++ ck.timers.filter (fun p => s.timerTaken p.1)

/-- What the core did while no lane ran wins over the checkpoint: the Hollow detector's mark, the MODE and DIR that held groups use, changed by the core or not (R170, R221, R249, R253), groups it stopped at cut-off, rectifiers and strings in their safe states (R353), and rails held (R58). -/
def State.keepCore (s cur : State) : State :=
  let s1 := s.setFlag SAD_STATE 11 (cur.flag SAD_STATE 11)
  let s2 := s1.forEach (s1.ofType .group) (fun r s =>
    let g := s.grp r.ctx
    (s.onlyIf (s.held r.ctx) (fun s => s.setMode r.ctx g.mode g.dir)).onlyIf g.cutStop (fun s => s.setFlag (ctxAddr r.ctx GRP_CTL) 0 false))
  let s3 := s2.forEach (s2.ofType .rectifier) (fun r s => if s.safe r.ctx then s.setFlag (ctxAddr r.ctx RECT_CTL) 0 false else s)
  let s4 := s3.forEach (s3.ofType .string) (fun r s => if !s.safe r.ctx then s else (s.setC r.ctx CHG_ICREQ 0).onlyIf ((s.safeRec r.ctx).menu == 0 && !r.directHang) (fun s => s.setC r.ctx BAT_IDPERM 0))
  s4.forEach (s4.ofType .rail) (fun r s => s.setHeld r.ctx (cur.held r.ctx))

/-- The fabric rebuilt (R131): every fast slot restarts its ramp, and every voltage group resumes at the command its converter group holds. -/
def State.rebuildFabric (s : State) (im : Image) : State :=
  let s1 := { s with lane := { s.lane with resumeGroups := (im.groups.filter (fun g : GroupRec => g.tkind = 1)).map GroupRec.group } }
  s1.forEach (im.slots.filter im.fast) (fun r s => s.restartRamp r.slot)

/-- The charge that a string's coulomb counter integrated during a Col advances the safety timer, where it runs: in Precharge, Bulk and Absorb, and of a supervised string that is not full and charges above CHG.ITERM (R247, R251). -/
def State.catchUp (s : State) : State := s.forEach (s.ofType .string) fun r s =>
  let c := r.ctx
  let ph := s.chgPhase c
  let icc := pu (s.cw c CHG_ICC) * ef (s.cw c CTX_IBASE)
  let q := max 0 (((find s.arb.colCharge c).getD {}).acc - (s.coul c).acc)
  let least := pu (s.cw c CHG_ITERM) * ef (s.cw c CTX_IBASE) * (((s.now - s.arb.colStart : Nat) : Rat) / ticksPerSecond)
  if ((1 ≤ ph ∧ ph ≤ 3) ∨ (ph = 7 ∧ ¬ s.chgBit c 10 ∧ least < q)) ∧ icc ≠ 0 then s.setTelap c ((s.str c).telap + q / icc) else s

/-- The state of a checkpoint under the image it was made with. -/
def State.restoreSame (s : State) (ck : Ckpt) : State :=
  let s1 := { s with regs := overlay 0 s.laneOwned ck.regs s.regs, clamped := overlay false s.laneOwned ck.clamped s.clamped, timers := s.mergeTimers ck, lane := ck.lane }
  s1.keepCore s

/-- Whether a context of the new image stands for the same one in the old: same number and type. -/
def sameCtx (old new : Image) (c : Nat) : Bool := match old.ctx? c, new.ctx? c with
  | some a, some b => a.typ == b.typ
  | _, _ => false

/-- Whether a slot is the same in both images: number, law and group (R132). -/
def sameSlot (old new : Image) (n : Nat) : Bool := match old.slot? n, new.slot? n with
  | some a, some b => a.law == b.law && a.group == b.group
  | _, _ => false

/-- Whether a word of the lane's state stands in both images. -/
def sharedWord (old new : Image) (a : Nat) : Bool :=
  if isCtxAddr a then sameCtx old new (ctxOf a).1
  else if isSlotAddr a then sameSlot old new (slotOf a).1
  else if FAB_GRES ≤ a ∧ a < FAB_GMARG then (old.group? (a % 64)).isSome && (new.group? (a % 64)).isSome
  else !(decide (FAB_GMARG ≤ a) && decide (a < FAB_GMARG + 64)) && a != FAB_LOAD

/-- The words of contexts that both images have and the core or a measurement owns: they stay. -/
def keepsWord (s : State) (old new : Image) (a : Nat) : Bool :=
  isCtxAddr a && sameCtx old new (ctxOf a).1 && !s.laneOwned a && !([CTX_TYPE, CTX_VBASE, CTX_IBASE, CTX_PBASE].contains (ctxOf a).2) &&
    !(s.isType (ctxOf a).1 .feed && (ctxOf a).2 == FEED_PRIO) && !(s.isType (ctxOf a).1 .pol && (ctxOf a).2 == POL_ADDR)

/-- What a string's estimator keeps over a change of its bases: state of charge, uncertainty, charge and learning, which no base enters (R276). -/
def StringVar.overBases (v : StringVar) : StringVar :=
  { acc := v.acc, evalAt := v.evalAt, soc := v.soc, unc := v.unc, socz := v.socz, fresh := v.fresh, uncRaised := v.uncRaised, qstart := v.qstart, qret := v.qret, emptied := v.emptied, emptyOwed := v.emptyOwed, emptyAt := v.emptyAt, anchored := v.anchored, qnom := v.qnom, committed := v.committed, lrnCnt := v.lrnCnt, ancht := v.ancht }

/-- The lane's own variables under a new image to which the checkpoint is carried unchanged: slots that stay keep their state, contexts that stay keep theirs, coefficients come from the image (R132). -/
def LaneVars.under (v : LaneVars) (old new : Image) : LaneVars :=
  let keep (c : Nat) : Bool := sameCtx old new c
  { v with
    slots := v.slots.filter (fun p => sameSlot old new p.1), coefs := coldCoefs new, shadow := none, resumeGroups := [], govRun := v.govRun.filter (fun p => (old.group? p.1).isSome && (new.group? p.1).isSome), feedQual := v.feedQual.filter keep,
    foster := v.foster.filter (fun p => keep p.1), strings := v.strings.filter (fun p => keep p.1), heldEn := v.heldEn.filter (fun p => sameSlot old new p.1), change := v.change }

/-- Whether a string's estimator goes on over an image switch whose checkpoint is not carried unchanged: where its bases change (R276), and under an equal CKPTVER where another context's do (DEDUCED, log 121). -/
def estimatorStays (old new : Image) (c : Nat) : Bool := match old.ctx? c, new.ctx? c with
  | some a, some b => a.typ == .string && b.typ == .string && (old.ckptVer == new.ckptVer || ef a.vbase != ef b.vbase || ef a.ibase != ef b.ibase)
  | _, _ => false

/-- The lane's own variables where the checkpoint is not carried over unchanged: as at a cold start (R90), but for what R276 keeps of the estimators, and the qualified feeds, which are judged again (R186). -/
def LaneVars.anew (v : LaneVars) (old new : Image) : LaneVars :=
  { coefs := coldCoefs new, feedQual := v.feedQual.filter (sameCtx old new), strings := (v.strings.filter (fun p => estimatorStays old new p.1)).map (fun p => (p.1, p.2.overBases)) }

/-- The words of a string's estimator that a change of its bases keeps (R276). -/
def estimatorWord (old new : Image) (a : Nat) : Bool :=
  isCtxAddr a && estimatorStays old new (ctxOf a).1 && [EST_QCAP, EST_SOC, EST_SOCRAW, EST_UNC, EST_STS].contains (ctxOf a).2

/-- Strings whose estimator an image switch starts: as at a cold start, from the newest learned data (R90, R272). -/
def State.startEstimators (s : State) (old new : Image) (is : CtxRec → Bool) : State :=
  s.forEach ((new.ofType .string).filter is) (fun r s => s.coldLearned new r (fun ver => s.migRatio (if ver = old.setVer then some old else s.imageOf ver)))

/-- What the new image fixes in words that a carried checkpoint may have replaced: LAW, DIR, RFF and CLS of every slot, of whose SLOT.CTL only the settings stay (R103, R104, R132), MODE of a group that has no current group (R146), and a string's role (R210). -/
def State.keepFixed (s cold : State) (new : Image) : State :=
  let s1 := s.forEach new.slots fun r s =>
    let now := s.sw r.slot SLOT_CTL
    s.setS r.slot SLOT_CTL (putBits (putBits (putBits (cold.sw r.slot SLOT_CTL) 0 0 (if r.law = 0 then 0 else bits now 0 0)) 7 6 (bits now 7 6)) 10 10 (bits now 10 10))
  let s2 := s1.forEach (new.ofType .group) fun r s =>
    let x := s.groupCtl r (s.cw r.ctx GRP_CTL)
    ((s.setC r.ctx GRP_CTL x.1).followMode r.ctx).onlyIf x.2 (fun s => s.markClamped (ctxAddr r.ctx GRP_CTL) true)
  s2.forEach (new.ofType .string) (fun r s => s.setFld (ctxAddr r.ctx BAT_PSTS) 1 0 (bits (cold.cw r.ctx BAT_PSTS) 1 0))

/-- The checkpoint of the old image carried into a new one under which nothing needs migrating (R90, R132). -/
def State.carryOver (s cold : State) (ck : Ckpt) (old new : Image) : State :=
  let kept := overlay 0 (keepsWord cold old new) s.regs cold.regs
  let s1 := { cold with regs := overlay 0 (fun a => cold.laneOwned a && sharedWord old new a) ck.regs kept, timers := s.mergeTimers ck, lane := ck.lane.under old new }
  s1.keepFixed cold new

/-- The checkpoint migrated: the words of a cold start, with what R276 keeps and with the migration records applied in their order; the lane's timers start anew (R90, R91). -/
def State.carryAnew (s cold : State) (ck : Ckpt) (old new : Image) : State :=
  let kept := overlay 0 (keepsWord cold old new) s.regs cold.regs
  let s0 := { cold with regs := overlay 0 (estimatorWord old new) ck.regs kept, timers := s.timers.filter (fun p => !p.1.ofLane), lane := ck.lane.anew old new }
  let s1 := s0.startEstimators old new (fun r => sameCtx old new r.ctx && !estimatorStays old new r.ctx)
  let l := (migrated new 0 old.ckptVer (fun a => some (lookup 0 ck.regs a)) (cold.migRatio (some old))).filter (fun p => cold.implemented p.1 && cold.laneOwned p.1 && !isMargin p.1 && p.1 != FAB_LOAD)
  let s2 := s1.forEach l (fun p s => s.setReg p.1 (s.fitWord p.1 p.2))
  let named (r : CtxRec) : Bool := l.any (fun p => p.1 = ctxAddr r.ctx EST_SOCRAW ∨ p.1 = ctxAddr r.ctx EST_UNC)
  let s3 := s2.forEach ((new.ofType .string).filter named) (fun r s => s.setStr r.ctx (fun v => { v with soc := pu (s.cw r.ctx EST_SOCRAW), unc := pu (s.cw r.ctx EST_UNC), fresh := v.fresh && !l.any (fun p => p.1 = ctxAddr r.ctx EST_SOCRAW) }))
  s3.keepFixed cold new

/-- The checkpoint of the old image carried into a new one (R90 to R92, R132). -/
def State.restoreUnder (s : State) (ck : Ckpt) (old new : Image) : State :=
  let cold := s.coldWords new (some old)
  let s1 := if carriesOver old new then s.carryOver cold ck old new else s.carryAnew cold ck old new
  let s2 := (s1.setOwners new).startEstimators old new (fun r => !sameCtx old new r.ctx)
  let s3 := s2.forEach (new.contexts.filter (fun r => r.dsPort.isSome && !sameCtx old new r.ctx)) (fun r s => s.qualifyTarget r.ctx)
  let s4 := s3.forEach (List.range 4) (fun p s => if s.portCode p = 0 ∧ ¬ (s.targets p).isEmpty then s.setPortCode p 1 else s)
  (s4.keepCore s).startTargets new (fun g => (old.group? g.group).isNone)

end Sys2Proof.Machine
end

