-- ==== Sys2Proof/Machine/Arbiter.lean ====
section
/-! DEFINITION. The arbiter's words (R322, R326, R343): bad marks, lane states, the token, and when a swap is refused (R341). -/

namespace Sys2Proof.Machine

/-- Lane states of LANE.HEALTH (R322, R343). -/
abbrev laneCold : Nat := 0
abbrev laneRunning : Nat := 1
abbrev laneHalted : Nat := 2
abbrev lanePowering : Nat := 3

/-- 0 for Lane A, 1 for Lane B: the place of a lane in LANE.HEALTH and in RST.CAUSE.LANE. -/
def LaneId.index : LaneId → Nat
  | .a => 0
  | .b => 1

/-- Whether a lane is marked bad. -/
def State.isBad (s : State) (l : LaneId) : Bool := s.flag LANE_HEALTH l.index

/-- The state of a lane. -/
def State.laneState (s : State) (l : LaneId) : Nat := s.fld LANE_HEALTH (9 + 2 * l.index) (8 + 2 * l.index)

/-- The state with a lane's state replaced. -/
def State.setLane (s : State) (l : LaneId) (v : Nat) : State := s.setFld LANE_HEALTH (9 + 2 * l.index) (8 + 2 * l.index) v

/-- A lane marked bad with a cause; the arbiter notes whose mark is the earlier one (R340, R343). -/
def State.markBad (s : State) (l : LaneId) (cause : Nat) : State :=
  let first := if s.isBad l.other then some l.other else some l
  let s1 := (s.setFlag LANE_HEALTH l.index true).setFld LANE_HEALTH (4 + 3 * l.index) (2 + 3 * l.index) cause
  { s1 with arb := { s1.arb with firstBad := first } }

/-- Both marks and their causes cleared (R343). -/
def State.clearBad (s : State) : State :=
  let s1 := s.setFld LANE_HEALTH 7 0 0
  { s1 with arb := { s1.arb with firstBad := none } }

/-- The code of a holder in LANE.AUTH. -/
def holderCode : Option LaneId → Nat
  | some l => l.code
  | none => 0

/-- A token change (R326): the generation increments; a cause is recorded, or kept where the table gives none; WDRAW says whether it is a withdrawal at the die level or on loss of VREG5. -/
def State.tokenTo (s : State) (h : Option LaneId) (cause : Option Nat) (wdraw : Bool) : State :=
  let s1 := (s.setFld LANE_AUTH 1 0 (holderCode h)).setFld LANE_AUTH 9 2 (s.fld LANE_AUTH 9 2 + 1)
  let s2 := match cause with
    | some c => s1.setFld LANE_AUTH 12 10 c
    | none => s1
  let s3 := s2.setFlag LANE_AUTH 14 wdraw
  { s3 with arb := { s3.arb with lastHolder := if h.isSome then h else s3.arb.lastHolder, stamped := false, silent := false } }

/-- The lane started at a device reset (R464): Lane A, unless it is marked bad and Lane B is not. -/
def State.startLane (s : State) : LaneId := if s.isBad .a && !s.isBad .b then .b else .a

/-- The lane started from Plain hold (R340). -/
def State.chooseLane (s : State) : LaneId := match s.isBad .a, s.isBad .b with
  | true, false => .b
  | false, true => .a
  | false, false => s.arb.lastHolder.getD .a
  | true, true => s.arb.firstBad.getD .a

/-- Whether the die and VREG5 let a lane run (R338, R340, R368, R375). -/
def State.mayStart (s : State) : Bool := s.clk.vreg5 && decide (s.fld TDIE_STS 1 0 < 2)

/-- IMG.LDSTAT.BUSY. -/
def State.imgBusy (s : State) : Bool := s.flag IMG_LDSTAT 0

/-- Whether a swap or a switch waits for its boundary or runs. -/
def State.switching (s : State) : Bool := s.arb.swapAsked || s.arb.imgAsked || s.flag LANE_AUTH 13

/-- Whether a swap is refused (R341, R344): a Col, Plain hold, an image check or switch, another swap, a Dormant entry, or the other lane bad; without a lane in charge there is nothing to swap. -/
def State.swapRefused (s : State) : Bool :=
  !s.laneHeld || s.switching || s.sys == sysPlain || s.imgBusy || s.arb.entryWait || s.holder.any (fun l => s.isBad l.other)

/-- A swap request refused: SWAPREF with a Note (R341). -/
def State.refuseSwap (s : State) : State := (s.setFlag LANE_STS 3 true).note 1307 0

end Sys2Proof.Machine
end

