-- ==== Sys2Proof/Machine/Update.lean ====
section
/-! DEFINITION. Firmware and image update (R467 to R484) and the loader's commands (R95 to R99): the boot-control record, the check of a firmware slot, staging, activation, trials, and saved settings. -/

namespace Sys2Proof.Machine

/-! ### Slot states (R470, R471) -/

/-- Slot states. -/
abbrev slotEmpty : Nat := 0
abbrev slotStaged : Nat := 1
abbrev slotTrial : Nat := 2
abbrev slotActive : Nat := 3
abbrev slotPrevious : Nat := 4
abbrev slotFailed : Nat := 5

/-- The magic of the boot-control record. -/
def bootMagic : List Byte := [0x42, 0x43, 0x54, 0x4C]

/-- Start of the boot-control record. -/
def bootBase : Nat := 0x1C8000

/-- The boot-control copy in force; true is the second. -/
def State.bootRec (s : State) : Option (Bool × List Byte) := inForce bootMagic (s.readBack bootBase 256) (s.readBack (bootBase + 256) 256)

/-- The states of firmware slots A and B and image slots A and B; 0x00 where no copy is valid. -/
def State.slotStates (s : State) : List Nat := match s.bootRec with
  | some (_, bs) => ((bs.drop 8).take 4).map BitVec.toNat
  | none => [0, 0, 0, 0]

/-- The place of a slot in that list. -/
def slotPlace (image : Bool) (slot : Nat) : Nat := 2 * b2n image + slot % 2

/-- The state of a slot. -/
def State.slotState (s : State) (image : Bool) (slot : Nat) : Nat := s.slotStates.getD (slotPlace image slot) 0

/-- The boot-control record written anew: one commit to the copy not in force, with SEQ one higher. -/
def State.writeBoot (s : State) (states : List Nat) : State :=
  let next := match s.bootRec with
    | some (b, bs) => (!b, sealedSeq bs + 1)
    | none => (false, 1)
  s.commitBytes (bootBase + (if next.1 then 256 else 0)) (sealed (bootMagic ++ leBytes 4 next.2 ++ states.map (BitVec.ofNat 8)))

/-- Whether a lane may write the MRAM: one in authority, the start lane, or the one that runs the loader (R20). -/
def State.mayWrite (s : State) : Bool := s.laneRuns || s.sys == sysStartUp

/-- Slot states changed together; nothing is written where nothing changes. Without a lane in authority the change waits for one: no record but the core's own is written then (R17, R20). -/
def State.setSlots (s : State) (l : List (Nat × Nat)) : State :=
  if !s.mayWrite then { s with upd := { s.upd with bootDue := s.upd.bootDue ++ l } }
  else
    let new := l.foldl (fun st p => st.set p.1 p.2) s.slotStates
    if new = s.slotStates ∧ s.bootRec.isSome then s else s.writeBoot new

/-- The changes of slot states that waited for a lane, written by it. -/
def State.flushSlots (s : State) : State :=
  if s.upd.bootDue.isEmpty then s else { s with upd := { s.upd with bootDue := [] } }.setSlots s.upd.bootDue

/-- The state of one slot changed. -/
def State.setSlotState (s : State) (image : Bool) (slot v : Nat) : State := s.setSlots [(slotPlace image slot, v)]

/-- The states of two slots of one kind as start-up finds them (R471): a trial has failed, and the slot kept from before it is Active. -/
def bootFound (a b : Nat) : Nat × Nat :=
  let fix (x y : Nat) : Nat := if x = slotTrial then slotFailed else if x = slotPrevious ∧ y = slotTrial then slotActive else x
  (fix a b, fix b a)

/-- The slot states at a start-up, corrected. -/
def State.bootStates (s : State) : State :=
  let f := bootFound (s.slotState false 0) (s.slotState false 1)
  let i := bootFound (s.slotState true 0) (s.slotState true 1)
  if s.bootRec.isNone then s else s.setSlots [(0, f.1), (1, f.2), (2, i.1), (3, i.2)]

/-- The slot preferred at start-up, and the other (R471). -/
def State.bootOrder (s : State) (image : Bool) : List Nat :=
  let has (v : Nat) : Option Nat := [0, 1].find? (fun n => s.slotState image n = v)
  let first := ((has slotActive).orElse (fun _ => has slotStaged)).getD 0
  [first, 1 - first]

/-- A slot that loaded at start-up where none was Active is Active from here on (R471, R477). -/
def State.bootLoaded (s : State) (image : Bool) (slot : Nat) : State :=
  if [0, 1].any (fun n => s.slotState image n = slotActive) then s else s.setSlotState image slot slotActive

/-! ### Firmware slots (R467, R468) -/

/-- The bytes of a firmware slot. -/
def State.firmwareSlot (s : State) (slot : Nat) : Raw := s.mramSlice (524288 * (slot % 2)) 524288

/-- The checks of a firmware slot; code 0x0D only for an activation. -/
def State.checkFirmware (s : State) (slot : Nat) (activation : Bool) : Option Bad :=
  let b := s.firmwareSlot slot
  let entry := b.u 0x18 4
  let len := b.u 0x1C 4
  firstOf [s.headChecks b firmwareHead, need (!activation || s.image.isNone || decide (((b.u 0x14 4 : Nat)) ≥ (s.image.map Image.minFw).getD 0)) 0x0D 0,
    need (entry % 4 == 0 && decide (entry < len) && decide (1 ≤ len) && decide (len ≤ 196608) && decide (0x80 + len + 128 ≤ b.totlen)) 0x21 0,
    need (b.zero 0x30 76) 0x22 0]

/-- A failed check shown in IMG.LDERR and IMG.LDREC (R97, R468). -/
def State.showBad (s : State) (x : Bad) (slot : Nat) (live : Bool) : State :=
  (s.setReg IMG_LDERR (Word.ofNat (x.code + 256 * x.sect + 65536 * (slot % 2) + 131072 * b2n live))).setReg IMG_LDREC (Word.ofNat x.idx)

/-- Firmware taken into use. -/
def State.runFirmware (s : State) (slot : Nat) : State :=
  let s1 := s.setWide UPD_FWVER 2 ((s.firmwareSlot slot).u 0x14 4)
  { s1 with upd := { s1.upd with fw := some slot } }

/-- The code of a firmware slot written into a lane's SRAM (R323). -/
def State.fillLane (s : State) (l : LaneId) (slot : Nat) : State := { s with upd := { s.upd with mem := putKey s.upd.mem l slot } }

/-- The fabric programs of an image slot written into a lane's program store (R323). -/
def State.fillPrograms (s : State) (l : LaneId) (slot : Nat) : State := { s with upd := { s.upd with progs := putKey s.upd.progs l slot } }

/-- The fabric programs of the active image written into the other lane's program store (R323). -/
def State.fillOtherPrograms (s : State) : State := match s.holder, s.image with
  | some l, some _ => s.fillPrograms l.other (s.fld IMG_ACTIVE 0 0)
  | _, _ => s

/-- The code that the holder runs written into the other lane's retained SRAM (R323). -/
def State.fillOther (s : State) : State := match s.holder, s.upd.fw with
  | some l, some slot => s.fillLane l.other slot
  | _, _ => s

/-- Firmware loaded into the start lane and taken into use (R462, t7). -/
def State.loadFirmware (s : State) (slot : Nat) : State := match s.holder with
  | some l => (s.fillLane l slot).runFirmware slot
  | none => s.runFirmware slot

/-- FBWAIT where the firmware that runs has failed its trial and its fallback could not be carried out (R479). -/
def State.fallbackWaits (s : State) : State := if s.upd.fw.any (fun n => s.slotState false n = slotFailed) then s.setFlag UPD_STS 4 true else s

/-! ### Loader results (R96, R97) -/

/-- IMG.ACTIVE.VALIDA or VALIDB. -/
def State.setImgValid (s : State) (slot : Nat) (b : Bool) : State := s.setFlag IMG_ACTIVE (1 + slot % 2) b

/-- A check that passed. -/
def State.loaderPass (s : State) (slot : Nat) : State := ((s.setImgValid slot true).gOffer 4 1).alert 3

/-- A check that failed: FAIL, the cause, and one raise of class 14 at the severity of its situation. -/
def State.loaderFail (s : State) (x : Bad) (slot : Nat) (live : Bool) (sev : Nat) : State :=
  ((((s.setImgValid slot false).showBad x slot live).gOffer 4 2).alert 3).laneRaise 14 0 (some sev) 1602

/-- The check of a slot as it stands for the shelf: with the live checks while an image runs. -/
def State.check (s : State) (slot : Nat) : Option Bad := s.checkImage slot s.image.isSome

/-- A switch turned away (R98, R484): the failed check 0x01, with FAIL and one raise of class 14 at severity 0 (R93, R96). -/
def State.refuseSwitch (s : State) (slot : Nat) : State := (((s.showBad { code := 1 } slot true).gOffer 4 2).alert 3).laneRaise 14 0 (some 0) 1605

/-- IMG.SWITCH acted on: key, then BUSY, a trial, a Col or Plain hold; else the check begins (R98, R99). -/
def State.imgRequest (s : State) (w : Word) (kind : CheckKind) : State :=
  let slot := b2n (bit w 16)
  if bits w 15 0 ≠ 0x3C3C ∨ ¬ s.laneRuns then s
  else if s.imgBusy || s.switching || s.upd.trial.isSome || s.arb.entryWait then s.refuseSwitch slot
  else
    let s1 := s.setFlag IMG_LDSTAT 0 true
    { s1 with upd := { s1.upd with check := some (kind, slot) } }

/-- A checked switch asked for: it begins at the next boundary (R99, R334); the other lane must be able to take it (R341). -/
def State.askSwitch (s : State) (slot : Nat) : State :=
  { s with arb := { s.arb with imgAsked := true, askedAt := s.now }, nextImage := some (s.imageSlot slot).image, upd := { s.upd with check := some (.switch, slot) } }

/-- IMG.ACTIVE.SLOT. -/
def State.activeSlot (s : State) : Nat := s.fld IMG_ACTIVE 0 0

/-- While the active slot is a failed trial, its fallback is due: FBWAIT, and a retry after 1 s (R479). -/
def State.keepFalling (s : State) : State :=
  if s.image.isSome ∧ s.slotState true s.activeSlot = slotFailed then (s.setFlag UPD_STS 4 true).start .fallback else s

/-- A passed switch abandoned (R100): ABANDON, a class 14 fault, and the slot not valid. -/
def State.abandonSwitch (s : State) : State := match s.upd.check with
  | some (.switch, slot) =>
    let s1 := { s with arb := { s.arb with imgAsked := false }, nextImage := none, upd := { s.upd with check := none } }
    (((((s1.setFlag IMG_LDSTAT 0 false).setImgValid slot false).gOffer 4 4).alert 3).coreRaise 14 0 (some 1) 1603).keepFalling
  | _ => s

/-! ### Trials (R478 to R480) -/

/-- A trial begins at the first stamped command under its copy; an image trial keeps the newest settings and learned data of the old image (R273, R478, R481). -/
def State.startTrial (s : State) (image : Bool) (slot : Nat) : State :=
  let s1 := ((s.setFlag UPD_STS 0 true).setFlag UPD_STS 1 image).setFlag UPD_STS 4 false
  let keep := image && (s.flag LRN_STS 1 || s.flag LRN_STS 2)
  let s2 := s1.setFlag LRN_STS 3 keep
  let s3 := { s2 with upd := { s2.upd with trial := some { image := image, slot := slot, broken := false, window := s.reg UPD_TRIAL, lane := s.holder.getD .a }, kept := if image then s.newestSettings.map (fun (p : Bool × Nat × Nat × List (Nat × Word)) => b2n p.1) else none }, learned := { s2.learned with kept := if keep then some (s.flag LRN_STS 0) else none } }
  s3.start .trial

/-- The copies of settings and learned data kept for a trial released (R273, R478, R481). -/
def State.releaseKept (s : State) : State :=
  { s.setFlag LRN_STS 3 false with upd := { s.upd with kept := none }, learned := { s.learned with kept := none } }

/-- The trial is over. -/
def State.endTrial (s : State) : State := { s.setFlag UPD_STS 0 false with upd := { s.upd with trial := none } }.stop .trial

/-- The anti-rollback counter raised to a count (R480); it is never lowered. -/
def State.raiseRollback (s : State) (n : Nat) : State :=
  let s1 := { s with otp := (List.range (min n 64)).foldl (fun o i => assign 0 o (0x11 + i / 8) (lookup 0 o (0x11 + i / 8) ||| BitVec.ofNat 8 (2 ^ (i % 8)))) s.otp }
  s1.setReg UPD_ARB (Word.ofNat s1.rollbackCount)

/-- What a fault of the same instant takes back of a confirmation (R484). -/
def State.beforeConfirm (s : State) (x : Trial) : Confirmed :=
  { at_ := s.now, trial := x, conf := s.flag UPD_STS 2, keep := s.flag LRN_STS 3, arb := s.reg UPD_ARB, count := s.otpBytes 0x11 8, settings := s.upd.kept, learned := s.learned.kept, mem := s.upd.mem, progs := s.upd.progs, began := s.now - s.age .trial }

/-- A confirmation (R478, R480); a fault of its instant takes it back (R484). The cold lane then holds the confirmed firmware, or the confirmed image's fabric programs, too (R323). -/
def State.confirmTrial (s : State) (x : Trial) : State :=
  let s1 := s.setSlots [(slotPlace x.image x.slot, slotActive), (slotPlace x.image (1 - x.slot), slotPrevious)]
  let fw := (s1.upd.fw.map (fun n => (s1.firmwareSlot n).u 0x12 1)).getD 0
  let im := (s1.image.map Image.rollback).getD 0
  let s2 := (s1.endTrial.releaseKept.setFlag UPD_STS 2 true).raiseRollback (min fw im)
  let s3 := { s2 with upd := { s2.upd with confirmed := some (s.beforeConfirm x) } }
  if x.image then s3.fillOtherPrograms else s3.fillOther

/-- The image switch back to the old slot begins, or waits 1 s (R479). -/
def State.fallBack (s : State) (slot : Nat) : State :=
  if s.laneRuns && !s.imgBusy && !s.switching && !s.arb.entryWait && !s.holder.any (fun l => s.isBad l.other) then
    let s1 := s.setFlag IMG_LDSTAT 0 true
    ({ s1 with upd := { s1.upd with check := some (.switch, slot) } }.stop .fallback).setFlag UPD_STS 4 false
  else (s.setFlag UPD_STS 4 true).start .fallback

/-- A fallback (R479); an image trial keeps the old copies until the old image is back in use (R273). onOld says that a Col has already handed the shelf to the lane with the old firmware. -/
def State.failTrial (s : State) (x : Trial) (onOld : Bool) : State :=
  let old := 1 - x.slot
  let s1 := s.setSlots [(slotPlace x.image x.slot, slotFailed), (slotPlace x.image old, slotActive)]
  let s2 := (s1.endTrial.setFlag UPD_STS 3 true).laneRaise 14 0 (some 1) 1604
  if x.image then s2.fallBack old
  else if onOld then s2.runFirmware old
  else if s2.swapRefused then s2.setFlag UPD_STS 4 true
  else { s2 with arb := { s2.arb with swapAsked := true, askedAt := s2.now } }

/-- Whether a trial's own conditions hold now (R478). -/
def State.trialGood (s : State) (x : Trial) : Bool := !x.broken && s.sys == sysNormal

/-! ### Staging (R472 to R476) -/

/-- Fields of UPD.STAGE. -/
def State.stageOpen (s : State) : Bool := s.flag UPD_STAGE 0
def State.stageTarget (s : State) : Nat := s.fld UPD_STAGE 3 1
def State.stageSlot (s : State) : Nat := s.fld UPD_STAGE 4 4

/-- Whether the open session belongs to an interface. -/
def State.stageMine (s : State) (p : Port) : Bool := s.stageOpen && (s.flag UPD_STAGE 5 == (p == .spi))

/-- A staging frame refused (R473). -/
def State.stageRefuse (s : State) (code : Nat) : State := s.setFld UPD_STAGE 11 8 code

/-- Whether a check or a switch locks an image slot, or a CLOSE check any slot (R98, R473). -/
def State.slotLocked (s : State) (target slot : Nat) : Bool :=
  (target == 2 && s.imgBusy && s.upd.check.any (fun c => c.2 == slot)) || s.upd.closing == some (target, slot)

/-- First and end offset of a target in its address space (R22, R469): a firmware slot, an image slot, the fuse map, the security row. -/
def stageRange : Nat → Nat × Nat
  | 1 => (0, 524288)
  | 2 => (0, 131072)
  | 3 => (0x20, 0xBB)
  | _ => (0, 0x19)

/-- Start of a slot in the MRAM. -/
def stageBase (target slot : Nat) : Nat := if target = 1 then 524288 * slot else 0x100000 + 131072 * slot

/-- Whether the Thrumast loader entered by the straps runs. -/
def State.strapLoader (s : State) : Bool := s.flag UPD_STS 8 && s.flag RST_STRAP 1

/-- OPEN (R473). -/
def State.stageBegin (s : State) (p : Port) (target slot : Nat) : State :=
  let st := s.slotState (target == 2) slot
  if target ≤ 2 ∧ (st = slotActive ∨ st = slotTrial ∨ s.slotLocked target slot) then s.stageRefuse 3
  else if s.stageOpen then s.stageRefuse 4
  else if 3 ≤ target ∧ ¬ s.strapLoader then s.stageRefuse 5
  else
    let s1 := s.setFld UPD_STAGE 5 0 (1 + 2 * target + 16 * slot + 32 * b2n (p == .spi))
    if 3 ≤ target then s1
    else
      let s2 := (s1.commitBytes (stageBase target slot) (List.replicate 16 0xFF)).setSlotState (target == 2) slot slotEmpty
      if target = 2 then s2.setImgValid slot false else s2

/-- Why a DATA frame is refused; none where it is accepted (R473). -/
def State.dataBad (s : State) (p : Port) (off : Nat) (data : List Byte) : Option Nat :=
  let t := s.stageTarget
  let r := stageRange t
  if !s.stageMine p then some 1
  else if off % 4 ≠ 0 ∨ off < r.1 ∨ r.2 < off + data.length then some 2
  else if t ≤ 2 ∧ s.slotLocked t s.stageSlot then some 3
  else if t ≤ 2 then none
  else
    let touches (a b : Nat) : Bool := decide (off < b) && decide (a < off + data.length)
    let clears := data.zipIdx.any (fun q => s.otpByte (off + q.2) &&& ~~~q.1 != 0)
    if clears || (t == 3 && (s.otpByte 0xBA).getLsbD 0) || (t == 4 && (touches 0 0x10 || touches 0x11 0x19)) then some 6 else none

/-- An accepted DATA frame, kept by the core until its commit (R474). -/
def State.stageData (s : State) (p : Port) (off : Nat) (data : List Byte) : State := match s.dataBad p off data with
  | some c => s.stageRefuse c
  | none => { s with upd := { s.upd with frame := some { target := s.stageTarget, slot := s.stageSlot, off := off, data := data } } }

/-- The kept frame carried out: one MRAM commit, or one OTP write. -/
def State.stageApply (s : State) (f : StageFrame) : State :=
  let s1 := { s with upd := { s.upd with frame := none } }
  if f.target ≤ 2 then s1.commitBytes (stageBase f.target f.slot + f.off) f.data
  else { s1 with otp := f.data.zipIdx.foldl (fun o q => assign 0 o (f.off + q.2) (lookup 0 o (f.off + q.2) ||| q.1)) s1.otp }

/-- CLOSE (R475): check says whether a check follows. -/
def State.stageClose (s : State) (p : Port) (check : Bool) : State :=
  if !s.stageMine p then s.stageRefuse 1
  else
    let t := s.stageTarget
    let s1 := s.setFlag UPD_STAGE 0 false
    if !check || decide (3 ≤ t) then s1
    else
      let s2 := if t = 2 then s1.setFlag IMG_LDSTAT 0 true else s1
      { s2 with upd := { s2.upd with closing := some (t, s.stageSlot) } }

/-- IMG.LDSTAT.BUSY follows the checks that run. -/
def State.showBusy (s : State) : State := s.setFlag IMG_LDSTAT 0 (s.upd.check.isSome || s.upd.closing.any (fun c => c.1 == 2))

/-! ### Window (R476) -/

/-- Word k of the staging window; none beyond the end of the target. -/
def State.stageWindow (s : State) (k : Nat) : Option Word :=
  let o := 512 * s.regN UPD_WBASE + 2 * k
  let t := s.stageTarget
  let r := stageRange t
  let get (o : Nat) : Nat := if r.2 ≤ o ∨ o < r.1 then 0 else if t ≤ 2 then (lookup freshByte s.settled (stageBase t s.stageSlot + o)).toNat else (s.otpByte o).toNat
  if t = 0 ∨ 4 < t ∨ r.2 ≤ o then none else some (Word.ofNat (get o + 256 * get (o + 1)))

/-! ### Settings (R481) -/

/-- Bytes committed in pieces of at most 256 (R23). -/
def State.commitLong (s : State) : Nat → Nat → List Byte → State
  | 0, _, _ => s
  | n + 1, a, bs => if bs.isEmpty then s else State.commitLong (s.commitBytes a (bs.take 256)) n (a + 256) (bs.drop 256)

/-- The addresses of the RW words the image implements, ascending. -/
def State.rwWords (s : State) (im : Image) : List Nat :=
  let ctx := (sortBy (·.ctx) im.contexts).flatMap (fun r => (List.range 64).map (ctxAddr r.ctx))
  let slots := (sortBy (·.slot) im.slots).flatMap (fun r => (List.range 8).map (slotAddr r.slot))
  (List.range 0x480 ++ ctx ++ slots).filter (fun a => s.implemented a && (s.shape? a).any Shape.writable)

/-- The RW words that differ from their cold-start values. -/
def State.changedWords (s : State) (im : Image) : List (Nat × Word) :=
  let cold := (({ s with regs := resetRegs }).imageWords im).initialValues im true
  ((s.rwWords im).filter (fun a => s.reg a ≠ cold.reg a)).map (fun a => (a, s.reg a))

/-- Whether a save still waits for its commits (R484). -/
def State.saving (s : State) : Bool := s.commits.any (fun c => decide (0x141000 ≤ c.1) && decide (c.1 < 0x145000))

/-- The settings saved: records and CRC first, the header last. -/
def State.writeSettings (s : State) : State := match s.image with
  | none => s
  | some im =>
    let all := s.changedWords im
    let words := all.take 1362
    let newest := s.newestSettings
    let b := match s.upd.kept with
      | some k => k == 0
      | none => match newest with
        | some p => !p.1
        | none => false
    let seq := match newest with
      | some p => p.2.1 + 1
      | none => 1
    let head := setMagic ++ leBytes 4 seq ++ leBytes 2 im.setVer ++ leBytes 2 words.length ++ zeros 4
    let body := words.flatMap (fun p => leBytes 2 p.1 ++ wordBytes p.2 0 ++ zeros 1)
    let s1 := s.commitLong 33 (setBase b + 16) (body ++ leBytes 4 (crc32 (head ++ body)))
    let s2 := (s1.commitBytes (setBase b) head).setFlag UPD_STS 6 true
    if 1362 < all.length then s2.setFlag UPD_STS 7 true else s2

/-- UPD.SAVE carried out by a lane in authority; a write that a restore replays waits for the first stamped command (R17, R20, R332, R481). -/
def State.saveSettings (s : State) : State := if s.mayWrite then s.writeSettings else { s with upd := { s.upd with saveDue := true } }

/-- A save of the settings that waited for a lane. -/
def State.flushSave (s : State) : State := if s.upd.saveDue then { s with upd := { s.upd with saveDue := false } }.saveSettings else s

/-! ### Requests of the host (R477, R478, R481) -/

/-- A firmware activation turned away or failed. -/
def State.fwFail (s : State) : State := { s.setFlag UPD_STS 5 true with upd := { s.upd with act := none, copied := false } }

/-- A write of UPD.FWACT (R477, R482, R484). -/
def State.fwRequest (s : State) (w : Word) : State :=
  let slot := b2n (bit w 16)
  if bits w 15 0 ≠ 0x6996 then s
  else
    let staged := s.slotState false slot == slotStaged
    let ok := staged && s.upd.act.isNone && (s.flag UPD_STS 8 || (s.upd.trial.isNone && !s.swapRefused))
    if ok then { s with upd := { s.upd with act := some slot, copied := false } } else s.setFlag UPD_STS 5 true

/-- A write of UPD.CONFIRM: confirms once every other condition has held until now (R478). -/
def State.confirmRequest (s : State) (w : Word) : State := match s.upd.trial with
  | some x => if bits w 15 0 = 0xC33C ∧ s.trialGood x then s.confirmTrial x else s
  | none => s

/-- A write of UPD.SAVE (R481, R484). -/
def State.saveRequest (s : State) (w : Word) : State := if bits w 15 0 = 0x5AA5 ∧ ¬ s.saving then s.saveSettings else s

/-! ### Meanings -/

/-- STAGING_CHECK_DONE: a CLOSE check ends: the slot is Staged and DONE is set, or FAIL with the cause (R475). -/
def execStagingCheckDone (t : Nat) (s : State) : Host.Outcome State Fault Refusal :=
  let s := s.at t
  finish s (match s.upd.closing with
    | none => s
    | some (target, slot) =>
      if !s.laneRuns && !s.flag UPD_STS 8 then s
      else
      let s1 := { s with upd := { s.upd with closing := none } }.showBusy
      if target = 2 then match s1.check slot with
        | some x => (s1.loaderFail x slot true 0).setFlag UPD_STAGE 7 true
        | none => ((s1.loaderPass slot).setSlotState true slot slotStaged).setFlag UPD_STAGE 6 true
      else match s1.checkFirmware slot false with
        | some x => (s1.showBad x slot s1.laneRuns).setFlag UPD_STAGE 7 true
        | none => (s1.setSlotState false slot slotStaged).setFlag UPD_STAGE 6 true)

/-- The image check of start-up begins with the preferred slot (R471). -/
def State.checkFirst (s : State) : State := match s.bootOrder true with
  | a :: rest => { s.setFlag IMG_LDSTAT 0 true with upd := { s.upd with check := some (.start, a), toTry := rest } }
  | [] => s

/-- The check of a start-up slot that passed (R96, R462 t8 to t9). -/
def State.startPass (s : State) (slot : Nat) : State :=
  let s1 := s.onlyIf s.holder.isSome (fun s => s.fillPrograms (s.holder.getD .a) slot)
  (((s1.loaderPass slot).bootLoaded true slot).installCold (s1.imageSlot slot).image slot).startCascade

/-- The check of a start-up slot that failed: the other slot is checked, or the shelf is unconfigured, outside any cascade unless the strap says otherwise (R96, R431). -/
def State.startFail (s : State) (x : Bad) (slot : Nat) : State := match s.upd.toTry with
  | next :: rest =>
    let s1 := s.loaderFail x slot false 1
    { s1.setFlag IMG_LDSTAT 0 true with upd := { s1.upd with check := some (.start, next), toTry := rest } }
  | [] =>
    let s1 := ((s.loaderFail x slot false 3).setFlag IMG_ACTIVE 3 true).startCascade
    let s2 := { s1 with arb := { s1.arb with col := none, stamped := true, lastBeat := s1.now / 1000 * 1000, beatAt := s1.now } }
    (match s2.holder with
      | some l => s2.setLane l laneRunning
      | none => s2).setSys sysUnconf

/-- LOADER_CHECK_DONE: the check that runs ends with a pass or its first failure (R93 to R99). -/
def execLoaderCheckDone (t : Nat) (s : State) : Host.Outcome State Fault Refusal :=
  let s := s.at t
  finish s (match s.upd.check with
    | none => s
    | some (kind, slot) =>
      if s.arb.imgAsked then s
      else
        let s1 := { s with upd := { s.upd with check := none } }.showBusy
        match kind with
        | .start => if s.holder.isNone then s1
          else match s1.check slot with
            | none => s1.startPass slot
            | some x => s1.startFail x slot
        | .dry => match s1.check slot with
          | none => s1.loaderPass slot
          | some x => s1.loaderFail x slot true 0
        | .switch => match s1.check slot with
          | some x => (s1.loaderFail x slot true 0).keepFalling
          | none =>
            if s1.image.isSome then ((s1.loaderPass slot).askSwitch slot).setFlag IMG_LDSTAT 0 true
            else
              let s2 := (s1.loaderPass slot).setSlots [(slotPlace true slot, slotActive)]
              let s3 := (s2.installCold (s2.imageSlot slot).image slot).startCascade
              { s3 with arb := { s3.arb with col := some .startUp, stamped := false, powered := true, restored := true } })

/-- FW_ACTIVATE_READY: the slot is checked again by the running lane and its code copied: the slot is in Trial, and a swap runs at the next boundary; in the loader the lane starts the firmware at once (R477, R482). -/
def execFwActivateReady (t : Nat) (s : State) : Host.Outcome State Fault Refusal :=
  let s := s.at t
  finish s (match s.laneRuns || s.flag UPD_STS 8, s.upd.act, s.upd.copied with
    | true, some slot, false =>
      match s.checkFirmware slot true with
      | some x => (s.showBad x slot s.laneRuns).fwFail
      | none =>
        if s.flag UPD_STS 8 then
          let other := s.slotState false (1 - slot)
          let trial := other = slotActive ∨ other = slotPrevious
          let s1 := (s.setSlotState false slot (if trial then slotTrial else slotActive)).setFlag UPD_STS 8 false
          let s2 := { s1 with upd := { s1.upd with act := if trial then some slot else none, copied := decide trial } }.loadFirmware slot
          s2.checkFirst
        else if s.swapRefused then s.fwFail
        else
          let s1 := (s.setSlotState false slot slotTrial).onlyIf s.holder.isSome (fun s => s.fillLane ((s.holder.getD .a).other) slot)
          { s1 with upd := { s1.upd with copied := true }, arb := { s1.arb with swapAsked := true, askedAt := s1.now } }
    | _, _, _ => s)

/-- TRIAL_WINDOW_END: UPD.TRIAL has passed: the trial confirms itself, or falls back (R478, R479, R484). -/
def execTrialWindowEnd (t : Nat) (s : State) : Host.Outcome State Fault Refusal :=
  let s := s.at t
  finish s (match s.upd.trial with
    | some x =>
      if s.laneRuns && s.expired .trial x.window then
        if s.trialGood x && !s.flag UPD_CTL 0 then s.confirmTrial x else s.failTrial x false
      else s
    | none => s)

/-- FALLBACK_RETRY: a refused image fallback is tried again each second (R479). -/
def execFallbackRetry (t : Nat) (s : State) : Host.Outcome State Fault Refusal :=
  let s := s.at t
  finish s (if s.flag UPD_STS 4 && s.expiredTicks .fallback ticksPerSecond then s.fallBack (1 - s.activeSlot) else s)

end Sys2Proof.Machine
end

