-- ==== Sys2Proof/Machine/Violations.lean ====
section
/-! DEFINITION. Protocol violations of the host targets (R411, R412), and what becomes of a transaction held back when Plain hold follows (R404, R410). -/

namespace Sys2Proof.Machine

/-- The HOST.STS bit of a violation code (R411). -/
def violationBit : Nat → Nat
  | 1 | 2 | 3 | 4 => 3
  | 5 | 6 => 1
  | 8 | 9 => 0
  | 0x0B => 2
  | 0x0C | 0x0D => 4
  | _ => 5

/-- The result an SPI frame reports after a violation (R408, R411); that of a byte beyond the frame is DEDUCED, log 128. -/
def violationResult : Nat → Byte
  | 8 | 9 => 0x96
  | 7 | 0x0C => 0x69
  | _ => 0xC3

/-- The 7-bit address of the two-wire target (R395). -/
def State.hostAddr (s : State) : Nat := 0x58 + s.fld HOST_ID 1 0

/-- The sixteenth violation of an interface within 1 s raises class 10 and restarts its count; a bus timeout raises at once; code 0x02 is not counted (R411, R412). -/
def State.countViolation (s : State) (p : Port) (code : Nat) : State :=
  if code = 2 then s
  else
    let l := ((s.iface p).violations.filter (fun t0 => decide (s.now < t0 + ticksPerSecond))) ++ [s.now]
    let full := decide (16 ≤ l.length)
    let s1 := s.setIface p (fun i => { i with violations := if full then [] else l })
    if full || code = 0x0B then s1.raise { cls := 10, ctx := 0, sev := none, site := 1001, init := p.code } else s1

/-- A violation with the command code and the index of its byte: counts, status, HALERT_N cause, the offered record, and the answer, which over SPI shows in this frame only where it is a read (R407, R411). -/
def State.violation (s : State) (p : Port) (code cmd idx : Nat) (read : Bool) : State :=
  let s1 := (s.inc HOST_VIOLCNT).setReg HOST_LASTVIOL (Word.ofNat (code % 32 + 32 * b2n (p == .spi) + 64 * (cmd % 256)))
  let s2 := (s1.setFlag HOST_STS (violationBit code) true).alert 1
  let addr := match p with
    | .twoWire => s2.hostAddr
    | .spi => 0
  let s3 := s2.offerRec 0x0206 0xFF ([BitVec.ofNat 8 p.code, BitVec.ofNat 8 code, BitVec.ofNat 8 cmd, BitVec.ofNat 8 idx, BitVec.ofNat 8 addr] ++ zeros 3)
  let s4 := s3.countViolation p code
  s4.setIface p fun i => match p with
    | .twoWire => { i with resp := [], acked := false }
    | .spi => { i with resp := i.result :: (if read then [violationResult code] else []), result := violationResult code, acked := false }

/-- The command code a transaction carries. -/
def HostOp.code : HostOp → Nat
  | .wordRead c => c
  | .wordWrite c _ _ _ _ => c
  | .regRead a | .regWrite a _ => if a < 0x480 then 0x40 + a % 0x40 else a % 0x40
  | .blockRead _ | .blockWrite _ _ _ => 0xE1
  | .stageWrite c _ _ => c
  | .stageRead => 0xF3

/-- Whether a transaction writes. -/
def HostOp.writes : HostOp → Bool
  | .wordWrite .. | .regWrite .. | .blockWrite .. | .stageWrite .. => true
  | _ => false

/-- What an address or a command needs: the core alone, the header words for reads, page 15 or staging, or the lane. -/
inductive Need where
  | core | header | image | lane
  deriving DecidableEq, Repr

/-- What the word at an address needs (R404, R507, R509). -/
def needOf (a : Nat) (write : Bool) : Need :=
  if a < 0x40 then .core
  else if 0x3C0 ≤ a ∧ a < 0x400 then .image
  else if a < 0x480 then .lane
  else if isCtxAddr a then (if !write && decide ((ctxOf a).2 < 0x10) then .header else .lane)
  else if isSlotAddr a then .lane
  else if 0x4000 ≤ a ∧ a < 0x4200 then .lane
  else .core

/-- Whether the command byte of a transaction is one of a served word, so that it is refused at the byte after it: a write of a header word at its first data byte, a block at its N (R404). -/
def HostOp.late (ptr : Nat) : HostOp → Bool
  | .wordWrite c .. => decide (c < 0x10)
  | .regWrite a _ => isCtxAddr a && decide ((ctxOf a).2 < 0x10)
  | .blockRead _ => needOf ptr false != .lane
  | .blockWrite .. => needOf ptr true != .lane
  | _ => false

/-- A transaction not served without a lane (R404, R410): violation 0x02 at its command byte, or at the byte after it. -/
def State.refuseOp (s : State) (p : Port) (op : HostOp) : State :=
  s.violation p 2 op.code (if op.late (s.iface p).ptr then 2 else 1) (!op.writes)

/-- A transaction held back that is not served after all: Plain hold followed (R404, R410). -/
def State.refuseWaiting (s : State) (p : Port) : State := match (s.iface p).waiting with
  | some op => (s.setIface p (fun i => { i with waiting := none })).refuseOp p op
  | none => s

end Sys2Proof.Machine
end

