-- ==== Sys2Proof/Machine/Lanes.lean ====
section
/-! DEFINITION. What the arbiter does (R326 to R341, R464): a Col begins, Plain hold is entered, a lane is started, and a restore fails. -/

namespace Sys2Proof.Machine

/-! ### Records of the arbiter (R17, R381) -/

/-- LANE.AUTH and LANE.HEALTH as W3R fields. -/
def State.laneBytes (s : State) : List Byte := s.w3r LANE_AUTH ++ s.w3r LANE_HEALTH

/-! ### Beginning a take-over -/

/-- No run of transactions to a POL spans a switch of lanes (R418). -/
def State.endRuns (s : State) : State := s.forEach (List.range 4) (fun p s => s.setPort p (fun e => { e with runFor := none, cur := e.cur.map (fun x => { x with cut := true }), held := e.held.map (fun x => ({ x.1 with cut := true }, x.2)) }))

/-- What every switch of lanes ends: a commit in progress, the runs on the downstream ports, the first-command and silent marks, and the incoming lane's progress. -/
def State.takeOver (s : State) (k : ColKind) : State :=
  { s.endRuns with commit := none, arb := { s.arb with col := some k, stamped := false, silent := false, powered := false, restored := false, colStart := s.now, colCharge := s.coulomb } }

/-- A firmware activation whose swap does not run, or fails: its slot is Failed and FWFAIL is set (R477); a firmware fallback then waits (R479). -/
def State.swapLost (s : State) : State := match s.upd.act, s.upd.copied with
  | some n, true => (s.setSlotState false n slotFailed).fwFail
  | _, _ => s.fallbackWaits

/-- A swap that waits for its boundary turned away (R341, R344). -/
def State.dropSwap (s : State) : State := { s with arb := { s.arb with swapAsked := false } }.refuseSwap.swapLost

/-- What a failed swap or switch leaves: the abandoned switch, or SWAPFAIL where the swap ends by a return (R100, R341, R477). -/
def State.failedChange (s : State) (k : ColKind) (returns : Bool) : State :=
  if k = .imageSwitch then s.abandonSwitch else (s.onlyIf returns (fun s => s.setFlag LANE_STS 2 true)).swapLost

/-- A switch or swap that waits is displaced by an event before it (R344): an image switch is abandoned, a swap refused; a firmware activation that waited for it has failed (R477). One whose Col still runs is abandoned or has failed (R100, R341). -/
def State.displace (s : State) : State :=
  let s0 := match s.arb.col with
    | some .imageSwitch => s.failedChange .imageSwitch false
    | some .swap => s.failedChange .swap false
    | _ => s
  let s1 := if s0.arb.imgAsked then s0.abandonSwitch else s0
  if s1.arb.swapAsked then s1.dropSwap else s1

/-- Start of a Col (R334, t1): the token is with the incoming lane, every switching group on its fallback loop, the record written; safe states that the outgoing lane still owed are forced by the core (R352). -/
def State.startCol (s : State) (k : ColKind) (l : LaneId) (cause : Nat) : State :=
  let s1 := (((s.applyDue.takeOver k).tokenTo (some l) (some cause) false).setLane l lanePowering).toFallback.holdChannels
  let s2 := ((s1.setFlag LANE_AUTH 13 true).setFlag LANE_STS 0 true).inc LANE_COLCNT
  let s3 := (s2.setSys sysCol).breakTrial
  s3.coreRec 0x0001 (s3.laneBytes ++ zeros 2)

/-- Plain hold (R338): both lanes cold, every switching group on its fallback loop with its standby mode, the record and PLAIN; the class 13 fault except for a die-level entry. The token change is the caller's. -/
def State.enterPlain (s : State) (cause : Nat) : State :=
  let s0 := s.applyDue.displace
  let s1 := ((s0.setLane .a laneCold).setLane .b laneCold).setFlag LANE_AUTH 13 false
  let s2 := { s1 with commit := none, arb := { s1.arb with col := none, stamped := false, silent := false, powered := false, restored := false, entryWait := false, holdStart := s1.now, holdCause := cause } }
  let s3 := (((s2.toFallback.toStandby true).holdChannels).setFlag LANE_STS 5 true).setReg LANE_ARCNT 0
  let s4 := (s3.setSys sysPlain).start .autoRestart
  let s5 := s4.coreRec 0x0002 (s4.laneBytes ++ s4.w3r TDIE_TJ ++ [BitVec.ofNat 8 cause] ++ zeros 2)
  let s6 := { if cause = 2 then s5 else s5.coreRaise 13 0 none 1301 with clk := { s5.clk with pll := true } }
  (s6.refuseWaiting .twoWire).refuseWaiting .spi

/-- Plain hold at the die level or on loss of VREG5 (R326, R338): the token is withdrawn from a holder; in Plain hold already, a lane that was being started goes cold. -/
def State.plainByLevel (s : State) (cause : Nat) : State :=
  let s1 := if s.holder.isSome then s.tokenTo none none true else s
  if s.sys = sysPlain then
    let s2 := (s1.setLane .a laneCold).setLane .b laneCold
    { s2 with arb := { s2.arb with col := none, powered := false, restored := false } }
  else s1.enterPlain cause

/-- A lane is started from Plain hold (R340): the token goes to it, and it powers up; LANE.ARTIME counts from this attempt. -/
def State.startFromPlain (s : State) : State :=
  let l := s.chooseLane
  (((s.takeOver .restart).tokenTo (some l) (some 5) false).setLane l lanePowering).start .autoRestart

/-- A start from Plain hold, where the die and VREG5 permit and no lane is being started already. -/
def State.tryStart (s : State) : State := if s.sys == sysPlain && s.holder.isNone && s.mayStart then s.startFromPlain else s

/-- The other lane takes over from a holder that failed (R326): the holder, which writes nothing any more (R20), is cold and marked bad; Plain hold where the other lane is bad. -/
def State.loseHolder (s : State) (l : LaneId) (kind : ColKind) (mark cause : Nat) : State :=
  let s1 := (({ s with arb := { s.arb with silent := true } }.displace).setLane l laneCold).markBad l mark
  if s1.isBad l.other then (s1.tokenTo none (some cause) false).enterPlain 0 else s1.startCol kind l.other cause

/-! ### Failures of an incoming lane (R28, R336, R341, R464) -/

/-- The start lane or the other one gone on from a device reset: the token with a lane, powering up (R462, R464). -/
def State.powerStart (s : State) (l : LaneId) : State :=
  let s1 := (s.setFld LANE_AUTH 1 0 l.code).setLane l lanePowering
  { s1 with arb := { s1.arb with col := some .startUp, stamped := false, silent := false, powered := false, restored := false, colStart := s1.now, lastHolder := some l } }

/-- The firmware and image slots to be tried, anew (R471); with BOOT 0b10 or 0b11 the loader, and no slot of the MRAM (R458, R482). -/
def State.restartBoot (s : State) : State :=
  let boot := s.flag RST_STRAP 1
  let s1 := { s with image := none, nextImage := none, upd := { s.upd with check := none, fw := none, toTry := if boot then [] else s.bootOrder false, mem := [], progs := [] } }
  (s1.setFlag IMG_LDSTAT 0 false).setFlag UPD_STS 8 boot

/-- A start lane that fails is marked bad, for a conflict with cause 4 (R328); the other is started once; when both have failed SYS.STATE stays at start-up (R464). -/
def State.startFails (s : State) (cause : Nat) : State := match s.holder with
  | none => s
  | some l =>
    let s1 := ((s.setLane l laneCold).markBad l (if cause = 4 then 4 else 5)).setFlag UPD_STS 8 false
    if s.arb.startTried then
      let s2 := s1.setFld LANE_AUTH 1 0 0
      { s2 with arb := { s2.arb with col := none } }.coreRaise 13 0 none 1302
    else
      let s2 := { s1 with arb := { s1.arb with startTried := true } }
      (s2.restartBoot).powerStart l.other

/-- The token returns to the halted lane (R336). -/
def State.returnToken (s : State) (l : LaneId) : State :=
  let s1 := (s.tokenTo (some l) (some 6) false).setLane l laneRunning
  { s1 with arb := { s1.arb with col := some .ret, powered := true, restored := true } }

/-- A failed restore (R336): cause 3, or 4 for a conflict. -/
def State.restoreFails (s : State) (cause : Nat) : State := match s.holder, s.arb.col with
  | some l, some k =>
    if k = .startUp then s.startFails cause
    else
      let mark := if k = .restart ∧ cause = 3 then 5 else cause
      let s1 := (((s.setLane l laneCold).markBad l mark).setFlag LANE_STS 6 true).coreRaise 13 0 none 1303
      let halted := s1.laneState l.other == laneHalted
      if (k = .swap ∨ k = .imageSwitch) ∧ halted then (s1.failedChange k true).returnToken l.other
      else
        let s2 := if k = .swap ∨ k = .imageSwitch then s1.failedChange k false else s1
        let s3 := s2.tokenTo none none false
        if k = .restart then { s3 with arb := { s3.arb with col := none } }
        else
          let s4 := s3.enterPlain 1
          if k = .abort then s4.tryStart else s4
  | _, _ => s

end Sys2Proof.Machine
end

