-- ==== Sys2Proof/Machine/Die.lean ====
section
/-! DEFINITION. The die sensors, the die temperature and its levels (R363 to R369). -/

namespace Sys2Proof.Machine

/-! ### Sensors (R363, R364) -/

/-- The neighbours of a sensor in the grid of 4 rows and 6 columns. -/
def dieNeighbours (i : Nat) : List Nat :=
  let r := i / 6
  let c := i % 6
  (if 0 < r then [i - 6] else []) ++ (if r < 3 then [i + 6] else []) ++ (if 0 < c then [i - 1] else []) ++ (if c < 5 then [i + 1] else [])

/-- Whether a sensor is excluded. -/
def State.excluded (s : State) (i : Nat) : Bool := if i < 12 then s.flag TDIE_EXCL0 i else s.flag TDIE_EXCL1 (i - 12)

/-- The sensors that are not excluded. -/
def State.sensors (s : State) : List Nat := (List.range 24).filter (fun i => !s.excluded i)

/-- Twice the median of a list of words: the middle one twice, or the sum of the two middle ones. -/
def median2 (l : List Nat) : Nat :=
  let o := sortBy id l
  if o.length % 2 = 1 then 2 * o.getD (o.length / 2) 0 else o.getD (o.length / 2 - 1) 0 + o.getD (o.length / 2) 0

/-- Whether a sensor lies more than 6 K from the median of its neighbours; one with fewer than two such neighbours is not checked. -/
def State.sensorOff (s : State) (i : Nat) : Bool :=
  let l := (dieNeighbours i).filter (fun k => !s.excluded k)
  decide (2 ≤ l.length) && decide (2 * 6 * 256 < ((2 * s.regN (TDIE_S + i) : Nat) - (median2 (l.map (fun k => s.regN (TDIE_S + k))) : Int)).natAbs)

/-- A sensor excluded, with its fault. -/
def State.exclude (s : State) (i : Nat) : State :=
  let s1 := if i < 12 then s.setFlag TDIE_EXCL0 i true else s.setFlag TDIE_EXCL1 (i - 12) true
  (s1.clearCount (.excl i)).coreRaise 1 0 (some 1) 101

/-- The cross-check of every sensor against the readings and exclusions of this measurement. -/
def State.crossCheck (s : State) : State :=
  let s1 := s.forEach s.sensors (fun i x => x.qualify (.excl i) (s.sensorOff i))
  s1.forEach (s1.sensors.filter (fun i => decide (8 ≤ s1.count (.excl i)))) (fun i s => s.exclude i)

/-- The die temperature formed from the sensors that are not excluded (R365). -/
def State.formTj (s : State) : State :=
  let l := s.sensors
  let few := decide (l.length < 4)
  let was := s.flag TDIE_STS 5
  let s1 := s.setFlag TDIE_STS 5 few
  let s2 := if few && !was then s1.coreRaise 1 0 (some 3) 102 else s1
  if l.isEmpty then (s2.markStale TDIE_TJ true).markStale (ctxAddr 0 CTX_TMEAS) true
  else
    let w := Word.ofNat (l.foldl (fun m i => max m (s.regN (TDIE_S + i))) 0)
    let s3 := ((s2.markStale TDIE_TJ false).markStale (ctxAddr 0 CTX_TMEAS) false).measure TDIE_TJ w
    let s4 := if (s3.ctx? 0).isSome then s3.measure (ctxAddr 0 CTX_TMEAS) w else s3
    if s4.regN TDIE_PEAK < w.toNat then s4.setReg TDIE_PEAK w else s4

/-! ### Levels (R366, R367, R369) -/

/-- Where the lifetime counters stand in the MRAM: 4 bytes each (DESIGN CHOICE, log 36). -/
def phLifeBase : Nat := 0x1C8200
def hsLifeBase : Nat := 0x1C8204

/-- A lifetime counter one higher, in its register and in the MRAM. -/
def State.lifeInc (s : State) (r base : Nat) : State :=
  let s1 := s.inc r
  s1.commitBytes base (leBytes 4 (s1.regN r))

/-- The outputs a hard stop forces (R367): gates, groups, trim, throttle, enable and discharge pins, with the states of their contexts. -/
def State.hardStop (s : State) : State :=
  let s1 := s.forEach (List.range 16) (fun g s => s.gateDown g)
  let s2 := s1.forEach (s1.ofType .group) (fun r s => ((((s.groupStop r .hiZ).setCode r.ctx 7).sts r.ctx stsGroupLatch).setHeld r.ctx false).setSafe r.ctx true)
  let s3 := s2.forEach (s2.ofType .feed) (fun r s => ((s.setCode r.ctx 7).sts r.ctx stsFeedLatch).setSafe r.ctx true)
  let s4 := s3.forEach (s3.ofType .branch) (fun r s => ((((((s.clearLive r.ctx).setCode r.ctx 5).sts r.ctx stsBranchLatch).stop (.cool r.ctx)).stop (.brPgHeld r.ctx)).setC r.ctx BR_COOLREM 0).setSafe r.ctx true)
  let s5 := s4.forEach ((s4.ofType .string).filter CtxRec.directHang) (fun r s => ((((s.clearLive r.ctx).setCode r.ctx 5).sts r.ctx stsDhLatch).stop (.cool r.ctx)).setSafe r.ctx true)
  let rails := (s5.ofType .rail).filter (fun r => (s5.graphOf r.ctx).isSome)
  let s6 := s5.forEach rails (fun r s => ((s.railFall r.ctx).stop (.discharge r.ctx)).setSafe r.ctx true)
  let s7 := (s6.forEach (List.range 16) (fun k s => (s.stop (.thrHold k)).stop (.thrRel k))).setReg THR_LIVE 0
  let forced := ((s7.ofType .group) ++ (s7.ofType .feed) ++ (s7.ofType .branch) ++ (s7.ofType .string).filter CtxRec.directHang ++ rails).map CtxRec.ctx
  { s7 with trim := [], driven := [], clk := { s7.clk with overrides := [] }, flt := { s7.flt with hardStopped := forced } }

/-- TDIE.STS.LEVEL. -/
def State.dieLevel (s : State) : Nat := s.fld TDIE_STS 1 0

/-- The Warning level reached. -/
def State.reachWarning (s : State) : State := ((s.setFld TDIE_STS 1 0 1).gOffer 3 2).coreRaise 1 0 (some 1) 103

/-- Plain hold at the die level, unless the shelf is in it or is Dormant, where a wake enters it (R366, R368). -/
def State.reachPlain (s : State) : State :=
  let s1 := (s.setFld TDIE_STS 1 0 2).setFlag TDIE_STS 3 true
  let s2 := s1.coreRaise 1 0 (some 1) 104
  if s2.sys = sysDormant ∧ s2.holder.isNone then s2
  else if s2.sys = sysPlain then s2.plainByLevel 2
  else (s2.plainByLevel 2).lifeInc TDIE_PHLIFE phLifeBase

/-- The hard stop, with Plain hold where the shelf is not in it. -/
def State.reachHard (s : State) : State :=
  let s1 := ((s.hardStop.setFld TDIE_STS 1 0 3).setFlag TDIE_STS 4 true).lifeInc TDIE_HSLIFE hsLifeBase
  let s2 := (s1.coreRec 0x0004 (s1.w3r TDIE_TJ ++ s1.w3r TDIE_EXCL0 ++ s1.w3r TDIE_EXCL1 ++ s1.w3r TDIE_HSLIFE)).coreRaise 1 0 (some 3) 105
  if s2.sys = sysPlain ∨ (s2.sys = sysDormant ∧ s2.holder.isNone) then s2 else s2.plainByLevel 2

/-- The levels judged after a measurement: each is reached on 2 consecutive measurements; none left means the Plain hold level (R365, R366). -/
def State.judgeDie (s : State) : State :=
  let none? := s.sensors.isEmpty
  let tj := s.regN TDIE_TJ
  let above (th : Nat) : Bool := !none? && decide (th ≤ tj)
  let s1 := ((s.qualify (.level 0) (none? || above 0x1A726)).qualify (.level 1) (none? || above 0x1B626)).qualify (.level 2) (above 0x1C026)
  let s2 := if 2 ≤ s1.count (.level 0) ∧ s1.dieLevel < 1 then s1.reachWarning else s1
  let s3 := if 2 ≤ s2.count (.level 1) ∧ s2.dieLevel < 2 then s2.reachPlain else s2
  let s4 := if 2 ≤ s3.count (.level 2) ∧ s3.dieLevel < 3 then s3.reachHard else s3
  if !none? && decide (tj < 0x19D26) && decide (s4.dieLevel ≠ 0) then s4.startOnce .dieLeave else s4.stop .dieLeave

/-- The level left: back to normal, and a lane is started where Plain hold waits for it (R340, R368). -/
def State.leaveDie (s : State) : State :=
  let was := s.dieLevel
  let s1 := (s.setFld TDIE_STS 1 0 0).stop .dieLeave
  if 2 ≤ was then s1.tryStart else s1

/-! ### Meanings -/

/-- DIE_SENSOR_MEASURE: the 24 readings in millikelvin; exclusions first, then the die temperature, then its levels (R363 to R366, R375). -/
def execDieSensorMeasure (temps : List Int) (t : Nat) (s : State) : Host.Outcome State Fault Refusal :=
  let s := s.at t
  let s1 := s.forEach (temps.take 24).zipIdx (fun p s => s.measureTAt 0 (TDIE_S + p.2) ((p.1 : Rat) / 1000))
  finish s ((s1.crossCheck).formTj).judgeDie

/-- DIE_LEVEL_LEAVE: below 140 °C for 10 ms without a break (R366, R368). -/
def execDieLevelLeave (t : Nat) (s : State) : Host.Outcome State Fault Refusal :=
  let s := s.at t
  finish s (if s.dieLevel ≠ 0 ∧ s.expiredTicks .dieLeave (ms 10) then s.leaveDie else s)

end Sys2Proof.Machine
end

