-- ==== Sys2Proof/Machine/Clocks.lean ====
section
/-! DEFINITION. Supplies, resets, start-up, the frequency counter and the test access port (R13 to R23, R445 to R466, R487, R491 to R493, R506). -/

namespace Sys2Proof.Machine

/-! ### Device reset (R452 to R456) -/

/-- The words a device reset leaves: reset values, the cause, the lifetime counters of the MRAM, and the bad marks except where VIN was lost. -/
def State.resetWords (s : State) (code : Nat) : State :=
  let r : State := { State.reset with mram := s.mram }
  let life (base : Nat) : Word := Word.ofNat (min 262143 (ofLe (s.readMram base 4)))
  let r1 := ((r.setReg RST_CAUSE (Word.ofNat code)).setReg TDIE_PHLIFE (life phLifeBase)).setReg TDIE_HSLIFE (life hsLifeBase)
  if code ≤ 2 then r1 else r1.setReg LANE_HEALTH (Word.ofNat (s.fld LANE_HEALTH 7 0))

/-- A device reset by a code of R452 (R454): the MRAM, the OTP, the variant, the supplies and, while VIN stays, the bad marks and the reference are kept, else the reference starts again; a learned-data commit that has started is completed (R23, R271) and commits that wait for charge are lost; XTAL_DLY is waited only when the reference starts. The test access port belongs to its own reset. -/
def State.deviceReset (s : State) (code : Nat) : State :=
  let r := (s.lrnDurable).resetWords code
  { r with otp := s.otp, variantBE := s.variantBE, freeCtr := s.freeCtr, vresOk := s.vresOk, tap := s.tap, arb := { firstBad := if code ≤ 2 then none else s.arb.firstBad }, clk := { vin := s.clk.vin, held := false, xtal := decide (code ≤ 2), vio := s.clk.vio, ref := decide (code ≤ 2) || s.clk.ref } }

/-! ### Start-up (R462 to R464) -/

/-- The lifetime and fuse words shown once the fuse map is read (R448, R461, R483). -/
def State.readFuses (s : State) : State :=
  let xdly := (s.otpByte 0xA0).toNat % 8
  let lock := (s.otpByte 0xBA).getLsbD 0
  let s1 := (s.setReg CLK_STS (Word.ofNat (xdly + 8 * b2n lock))).setReg UPD_ARB (Word.ofNat s.rollbackCount)
  { s1.setFlag HOST_ID 2 s.variantBE with clk := { s1.clk with fuses := true, fuseMap := s1.otp } }

/-- The straps held (R445, R458): BOOT, CLKMODE, ADDR and CPOS as RST.STRAP lays them out, CLKBAD, the host address and the chain position. -/
def State.holdStraps (s : State) (straps : Nat) : State :=
  let b := straps % 512
  let s1 := s.setReg RST_STRAP (Word.ofNat (b + 512 * b2n (b / 4 % 4 == 3)))
  let s2 := (s1.setFld HOST_ID 1 0 (b / 16 % 4)).setFld CASC_STATE 2 0 (b / 64 % 8)
  { s2 with clk := { s2.clk with strapped := true } }

/-- The clocks released (R462, t5): shelf time starts at 0, the slot states are set right, and the start lane is powered; the straps may ask for the loader (R458, R482). -/
def State.releaseClocks (s : State) : State :=
  let s1 := ({ s with clocks := true, now := 0 }).bootStates
  (s1.restartBoot).powerStart s1.startLane

/-- Whether the start lane is on its way: a lane holds the token since a device reset and no image or firmware result has ended the start-up. -/
def State.startingUp (s : State) : Bool := s.sys == sysStartUp && s.holder.isSome && s.arb.col == some .startUp

/-! ### Frequency counter (R450, R451) -/

/-- FCNT.STS.BUSY. -/
def State.gateRuns (s : State) : Bool := s.flag FCNT_STS 0

/-- The gate ends. -/
def State.gateStop (s : State) : State := (s.setFlag FCNT_STS 0 false).stop (.gate 0)

/-- A write of FCNT.CMD: STOP wins; START is ignored while a gate runs. -/
def State.fcntCmd (s : State) (w : Word) : State :=
  if bit w 1 then s.gateStop
  else if bit w 0 && !s.gateRuns then ({ s.setFlag FCNT_STS 0 true with clk := { s.clk with gate := s.reg FCNT_CTL } }).start (.gate 0)
  else s

/-- The lane whose clock a source code names. -/
def gateLane : Nat → Option LaneId
  | 3 => some .a
  | 4 => some .b
  | _ => none

/-- Whether the pin that code 7 of a gate names is assigned as a general input (R450). -/
def State.gatePin (s : State) : Bool := s.image.any (fun im => (im.pins.find? (·.pin = bits s.clk.gate 10 6)).any (·.func = 6))

/-- Whether a source of the running gate has edges now: a cold lane's clock, a lost reference and a pin that is no general input have none (R449, R450). -/
def State.hasEdges (s : State) (code : Nat) : Bool := match gateLane code with
  | some l => decide (s.laneState l ≠ laneCold)
  | none => if code = 0 then s.clk.ref else if code = 7 then s.gatePin else true

/-! ### Test access port (R487, IEEE 1149.1) -/

/-- The next state of the controller for a level of TMS. -/
def TapState.next : TapState → Bool → TapState
  | .reset, tms => if tms then .reset else .idle
  | .idle, tms => if tms then .selectDR else .idle
  | .selectDR, tms => if tms then .selectIR else .captureDR
  | .captureDR, tms => if tms then .exit1DR else .shiftDR
  | .shiftDR, tms => if tms then .exit1DR else .shiftDR
  | .exit1DR, tms => if tms then .updateDR else .pauseDR
  | .pauseDR, tms => if tms then .exit2DR else .pauseDR
  | .exit2DR, tms => if tms then .updateDR else .shiftDR
  | .updateDR, tms => if tms then .selectDR else .idle
  | .selectIR, tms => if tms then .reset else .captureIR
  | .captureIR, tms => if tms then .exit1IR else .shiftIR
  | .shiftIR, tms => if tms then .exit1IR else .shiftIR
  | .exit1IR, tms => if tms then .updateIR else .pauseIR
  | .pauseIR, tms => if tms then .exit2IR else .pauseIR
  | .exit2IR, tms => if tms then .updateIR else .shiftIR
  | .updateIR, tms => if tms then .selectDR else .idle

/-- IDCODE, least significant bit first. -/
def idcodeBits : List Bool := (List.range 32).map (fun i => (0x181279A7 : Nat).testBit i)

/-- The instruction a shifted code names: all ones is BYPASS, the others are free. -/
def tapDecode (l : List Bool) : TapInstr :=
  if l.all id then .bypass
  else match Config.irCode l % 4 with
    | 0 => .bypass
    | 1 => .sample
    | 2 => .extest
    | _ => .idcode

/-- n free bits, and the counter after them. -/
def State.freeBits (s : State) (n : Nat) : List Bool × State :=
  ((List.range n).map (fun i => Config.freeBit (s.freeCtr + i)), { s with freeCtr := s.freeCtr + n })

/-- What the present state does at the rising edge of TCK. -/
def State.tapEdge (s : State) (tdi : Bool) : State :=
  let p := s.tap
  match p.st with
  | .captureDR => match p.instr with
    | .bypass => { s with tap := { p with shift := [false] } }
    | .idcode => { s with tap := { p with shift := idcodeBits } }
    | .sample | .extest =>
      let f := s.freeBits Config.chainLength
      { f.2 with tap := { p with shift := f.1 } }
  | .captureIR =>
    let f := s.freeBits (Config.irLength - 2)
    { f.2 with tap := { p with shift := [true, false] ++ f.1 } }
  | .shiftDR | .shiftIR => { s with tap := { p with shift := p.shift.drop 1 ++ [tdi] } }
  | _ => s

/-- TDO as the state drives it: the bit nearest it in a shift state, else high impedance. -/
def Tap.driven (p : Tap) : Option Bool := if p.st = .shiftDR ∨ p.st = .shiftIR then p.shift.head? else none

/-- What the state entered does by the falling edge of TCK; TDO is at high impedance without VIO (R16). -/
def Tap.settle (p : Tap) (vio : Bool) : Tap :=
  let q := match p.st with
    | .reset => { p with instr := .idcode }
    | .updateIR => { p with instr := tapDecode p.shift }
    | .updateDR => if p.instr = TapInstr.sample ∨ p.instr = TapInstr.extest then { p with latch := p.shift } else p
    | _ => p
  { q with tdo := if vio then q.driven else none }

/-! ### Meanings -/

/-- POWER_ON: VIN rises through the power-on threshold, after a brown-out too: the power-on is then the most recent reset (R452, R456, R462). -/
def execPowerOn (s : State) : Host.Outcome State Fault Refusal :=
  finish s (if s.clk.vin then s
    else
      let s1 := ({ s with tap := {} }).deviceReset 1
      { s1 with clk := { s1.clk with vin := true } })

/-- VIN_BROWN_OUT: VIN below the brown-out level for 2 us (R31, R452, R506). -/
def execVinBrownOut (t : Nat) (s : State) : Host.Outcome State Fault Refusal :=
  let s := s.at t
  finish s (if s.clk.vin then
    let s1 := s.deviceReset 2
    { s1 with clk := { s1.clk with vin := false } }
  else s)

/-- RST_N_LOW: a low on RST_N that has lasted a number of 5 ns ticks: below 5 us ignored, from 20 us on a reset, between them free (R453); ignored without VIO (R491). -/
def execRstNLow (ticks t : Nat) (s : State) : Host.Outcome State Fault Refusal :=
  let s := s.at t
  finish s (if !s.clk.vin || !s.clk.vio || decide (ticks < us 5) then s
    else
      let s0 := if us 20 ≤ ticks then s else { s with freeCtr := s.freeCtr + 1 }
      if us 20 ≤ ticks ∨ Config.freeBit s.freeCtr = true then
        let s1 := s0.deviceReset 3
        { s1 with clk := { s1.clk with held := true } }
      else s0)

/-- RST_N_RELEASE: RST_N high for 20 us ends the reset (R453). -/
def execRstNRelease (t : Nat) (s : State) : Host.Outcome State Fault Refusal :=
  let s := s.at t
  finish s { s with clk := { s.clk with held := false } }

/-- FUSE_MAP_READ (R459, R462, t2). -/
def execFuseMapRead (t : Nat) (s : State) : Host.Outcome State Fault Refusal :=
  let s := s.at t
  finish s (if s.clk.vin && !s.clk.held && !s.clk.fuses then s.readFuses else s)

/-- VREG5_IN_REGULATION: above its level for 1 ms: the straps are sampled once in a device reset (R458, R462, t3), and a Plain hold that waits for VREG5 starts a lane (R340). -/
def execVreg5InRegulation (straps t : Nat) (s : State) : Host.Outcome State Fault Refusal :=
  let s := s.at t
  finish s (if !s.clk.vin || s.clk.held || s.clk.vreg5 then s
    else
      let s1 := { s with clk := { s.clk with vreg5 := true, lost := false } }
      if s1.clocks then s1.tryStart else if s1.clk.strapped then s1 else s1.holdStraps straps)

/-- VREG5_OUT_OF_REGULATION: below its level for 10 us: a class 0 fault (R493). -/
def execVreg5OutOfRegulation (t : Nat) (s : State) : Host.Outcome State Fault Refusal :=
  let s := s.at t
  finish s (if s.clk.vreg5 then { s with clk := { s.clk with vreg5 := false } }.coreRaise 0 0 none 1 else s)

/-- VREG5_LOST: below the lost level for 2 us: the class 0 fault where it was not raised yet, then both lanes off and Plain hold (R15, R338, R493). -/
def execVreg5Lost (t : Nat) (s : State) : Host.Outcome State Fault Refusal :=
  let s := s.at t
  finish s (if s.clk.lost then s
    else
      let s1 := if s.clk.vreg5 then { s with clk := { s.clk with vreg5 := false } }.coreRaise 0 0 none 1 else s
      let s2 := { s1 with clk := { s1.clk with lost := true } }
      if s2.clocks then s2.plainByLevel 3 else s2)

/-- VIO_LOSS: every VIO-level output at high impedance, the transactions in progress lost, RST_N ignored (R16, R491, R506). -/
def execVioLoss (t : Nat) (s : State) : Host.Outcome State Fault Refusal :=
  let s := s.at t
  finish s { s with clk := { s.clk with vio := false, held := false }, tap := { s.tap with tdo := none }, tw := { s.tw with waiting := none, resp := [] }, spi := { s.spi with waiting := none, resp := [] } }

/-- VIO_RETURN: the lines are driven again and the targets start idle (R506). -/
def execVioReturn (t : Nat) (s : State) : Host.Outcome State Fault Refusal :=
  let s := s.at t
  finish s { s with clk := { s.clk with vio := true }, tap := { s.tap with tdo := s.tap.driven } }

/-- PLL_ENABLE: XTAL_DLY has passed and VREG5 is in regulation (R448, R462, t4). -/
def execPllEnable (t : Nat) (s : State) : Host.Outcome State Fault Refusal :=
  let s := s.at t
  finish s (if s.clk.fuses && s.clk.vreg5 && !s.clk.held && !s.clk.pll && !s.clocks then { s with clk := { s.clk with pll := true, xtal := false } } else s)

/-- CLOCKS_RELEASE: 100 us after the PLL is enabled, whether or not the reference runs (R448, R449, R462, t5). -/
def execClocksRelease (s : State) : Host.Outcome State Fault Refusal :=
  finish s (if s.clk.pll && !s.clocks then s.releaseClocks else s)

/-- FIRMWARE_CHECKED: the ROM's check of a firmware slot ends: the firmware runs and the image check begins, else the other slot is tried, else the loader runs (R462, R468, R471, R482). -/
def execFirmwareChecked (t : Nat) (s : State) : Host.Outcome State Fault Refusal :=
  let s := s.at t
  finish s (if s.startingUp && !s.flag UPD_STS 8 && s.upd.fw.isNone then match s.upd.toTry with
    | slot :: rest =>
      let s1 := { s with upd := { s.upd with toTry := rest } }
      match s1.checkFirmware slot false with
      | none => ((s1.loadFirmware slot).bootLoaded false slot).checkFirst
      | some x => (s1.showBad x slot false).setFlag UPD_STS 8 rest.isEmpty
    | [] => s
  else s)

/-- START_LANE_FAIL: a trap, an uncorrectable error or a missed bound of the start lane (R464). -/
def execStartLaneFail (t : Nat) (s : State) : Host.Outcome State Fault Refusal :=
  let s := s.at t
  finish s (if s.startingUp then (s.startFails 5) else s)

/-- FCNT_GATE_COMPLETE: REF has completed its edges while MEAS counted (R451): FCNT.RES, DONE, and OVF where the count passed its width. A REF without edges completes nothing, and a MEAS without edges counts nothing (R450). -/
def execFcntGateComplete (count t : Nat) (s : State) : Host.Outcome State Fault Refusal :=
  let s := s.at t
  finish s (if s.gateRuns && s.hasEdges (bits s.clk.gate 5 3) then
    let n := if s.hasEdges (bits s.clk.gate 2 0) then count else 0
    let s1 := (s.gateStop.setFlag FCNT_STS 1 true).setWide FCNT_RES 2 (min n 4294967295)
    if 4294967295 < n then s1.setFlag FCNT_STS 2 true else s1
  else s)

/-- FCNT_TIMEOUT: the gate has not completed within 10 s (R451). -/
def execFcntTimeout (t : Nat) (s : State) : Host.Outcome State Fault Refusal :=
  let s := s.at t
  finish s (if s.gateRuns && s.expiredTicks (.gate 0) (10 * ticksPerSecond) then s.gateStop.setFlag FCNT_STS 3 true else s)

/-- VRES_RESERVE_LOW: no commit starts, and a class 0 fault is raised (R23, R345). -/
def execVresReserveLow (t : Nat) (s : State) : Host.Outcome State Fault Refusal :=
  let s := s.at t
  finish s (if s.vresOk then { s with vresOk := false }.coreRaise 0 0 none 2 else s)

/-- VRES_CHARGED: the commits that waited are carried out, in order, and what waited for them goes on (R23, R386). -/
def execVresCharged (t : Nat) (s : State) : Host.Outcome State Fault Refusal :=
  let s := s.at t
  finish s (if s.vresOk then s
    else
      let s1 := ({ s with vresOk := true }).flushCommits
      (s1.commitStaged s1.newestEpoch).lrnStart)

/-- VDD08_REGULATOR_FAULT: a class 0 fault (R345). -/
def execVdd08RegulatorFault (t : Nat) (s : State) : Host.Outcome State Fault Refusal :=
  let s := s.at t
  finish s (s.coreRaise 0 0 none 3)

/-- REFERENCE_CLOCK_LOSS: nothing detects it; the root free-runs, and the reference has no edges for the frequency counter (R449). Instants of commands are in shelf time, whatever its rate. -/
def execReferenceClockLoss (t : Nat) (s : State) : Host.Outcome State Fault Refusal :=
  let s := s.at t
  finish s { s with clk := { s.clk with ref := false } }

/-- TEST_ACCESS_PORT_TCK: one cycle of TCK with its TMS and TDI (R487). -/
def execTestAccessPortTck (tms tdi : Bool) (t : Nat) (s : State) : Host.Outcome State Fault Refusal :=
  let s := s.at t
  finish s (if s.tap.run then
    let s1 := s.tapEdge tdi
    { s1 with tap := ({ s1.tap with st := s1.tap.st.next tms }).settle s1.clk.vio }
  else s)

/-- TRST_N_CHANGE: low holds the port in Test-Logic-Reset (R487). -/
def execTrstNChange (level : Bool) (t : Nat) (s : State) : Host.Outcome State Fault Refusal :=
  let s := s.at t
  finish s { s with tap := if level then { s.tap with run := true } else {} }

end Sys2Proof.Machine
end

