-- ==== Sys2Proof/Machine/Epochs.lean ====
section
/-! DEFINITION. Epochs, checkpoints and the arbiter's events (R325 to R341, R455), and Dormant (R25 to R31). -/

namespace Sys2Proof.Machine

/-! ### Checkpoints (R21, R330 to R333) -/

/-- The lane's state as it stands. -/
def State.snapshotNow (s : State) : Ckpt :=
  { epoch := s.epoch, regs := s.regs, clamped := s.clamped, timers := s.timers, lane := s.lane }

/-- A checkpoint in the buffer that does not hold the newest one. -/
def State.storeCkpt (s : State) (ck : Ckpt) : State := match s.ckptA, s.ckptB with
  | none, _ => { s with ckptA := some ck }
  | some _, none => { s with ckptB := some ck }
  | some a, some b => if a.epoch < b.epoch then { s with ckptA := some ck } else { s with ckptB := some ck }

/-- A commit begins: its buffer, the one that does not hold the newest epoch, is not valid until the epoch number is written (R21, R330). -/
def State.startCommit (s : State) : State :=
  let s1 := match s.ckptA, s.ckptB with
    | some a, some b => if a.epoch < b.epoch then { s with ckptA := none } else { s with ckptB := none }
    | _, _ => s
  { s1 with commit := some s.snapshotNow }

/-- The older epoch that a restore may still use. -/
def State.oldestEpoch (s : State) : Nat := match s.ckptA, s.ckptB with
  | some a, some b => min a.epoch b.epoch
  | some a, none => a.epoch
  | none, some b => b.epoch
  | none, none => 0

/-- The journal once a checkpoint of an epoch has committed: an entry goes with the second commit whose boundary lies after it was applied (R332). -/
def State.ageJournal (s : State) (epoch : Nat) : State :=
  let aged := s.journal.map (fun e => if e.applied < 1000 * epoch then { e with commits := e.commits + 1 } else e)
  { s with journal := aged.filter (fun e => decide (e.commits < 2)) }

/-- A checkpoint committed: buffer, LANE.EPOCH, the heartbeat, the journal, the staged records, the log entries whose records the checkpoint covers, and the end of the match list (R330 to R333, R357, R358, R386). -/
def State.commitCkpt (s : State) (ck : Ckpt) : State :=
  let s1 := ({ s with commit := none }.storeCkpt ck).setWide LANE_EPOCH 4 ck.epoch
  let s2 := { s1 with arb := { s1.arb with lastBeat := 1000 * ck.epoch, beatAt := s1.now } }
  let s3 := (s2.ageJournal ck.epoch).commitStaged ck.epoch
  { s3 with inputQueue := s3.inputQueue.filter (fun q => decide (1000 * s3.oldestEpoch ≤ q.2.2)), flt := { s3.flt with matches_ := [], log := s3.flt.log.filter (fun e => !e.recorded.any (fun n => decide (n ≤ ck.epoch))), laneRaises := s3.flt.laneRaises.filter (fun r => decide (s3.oldestEpoch ≤ r.2.2.2)) } }

/-! ### Swaps, switches and their start (R99, R334, R341) -/

/-- LANE.SWAP (R341, R484). -/
def State.swapRequest (s : State) (w : Word) : State :=
  if bits w 15 0 ≠ 0x5A3C then s
  else if s.swapRefused || s.upd.trial.isSome then s.refuseSwap
  else { s with arb := { s.arb with swapAsked := true, askedAt := s.now } }

/-- LANE.RESTART: CLRBAD acts in every state, START from Plain hold (R340, R343, R344). -/
def State.restartRequest (s : State) (w : Word) : State :=
  if bits w 15 0 ≠ 0x3CA5 then s
  else
    let s1 := if bit w 17 then s.clearBad else s
    if bit w 16 then s1.tryStart else s1

/-- The outgoing lane of a swap or a switch halts with the epoch it has just committed, and the Col begins (R334, R336, R344). -/
def State.stepDown (s : State) (k : ColKind) (l : LaneId) (cause : Nat) : State :=
  ({ s with halted := s.newestCkpt }.setLane l laneHalted).startCol k l.other cause

/-- What waits for the final commit of the first boundary after its request (R334): an image switch before a swap (R344); with a bad other lane an image switch is abandoned, and a swap refused. An image switch writes the other lane's fabric programs as it begins (R323). -/
def State.changeLanes (s : State) (boundary : Nat) : State := match s.holder with
  | none => s
  | some l =>
    if boundary ≤ s.arb.askedAt then s
    else if s.arb.imgAsked then
      let s0 := if s.arb.swapAsked then s.dropSwap else s
      if s0.isBad l.other then s0.abandonSwitch
      else ({ s0 with arb := { s0.arb with imgAsked := false } }.onlyIf s0.upd.check.isSome (fun s => s.fillPrograms l.other ((s.upd.check.map Prod.snd).getD 0))).stepDown .imageSwitch l 4
    else if s.arb.swapAsked then
      if s.isBad l.other then s.dropSwap else { s with arb := { s.arb with swapAsked := false } }.stepDown .swap l 3
    else s

/-! ### Dormant (R25 to R31) -/

/-- Whether a Utwiesk link is up (R437). -/
def State.linkUp (s : State) : Bool := s.fld CASC_STATE 4 3 == 3 || s.fld CASC_STATE 6 5 == 3

/-- Whether a sequence is in progress: a graph on its way, or a segment power cycle (R25, R310, R313). -/
def State.sequencing (s : State) : Bool :=
  s.graphList.any (fun g => s.gcode g == 1 || s.gcode g == 3) || !s.lane.seq.cycles.isEmpty

/-- The conditions of a Dormant request (R25, R484). A swap or an image switch that waits for its boundary refuses it too (DEDUCED, log 152). -/
def State.dormantOk (s : State) : Bool :=
  s.laneRuns && s.sys == sysNormal && !s.switching && !s.arb.entryWait &&
    (s.ofType .group).all (fun r => !s.grpEn r.ctx && !enGCode (s.code r.ctx)) && (s.ofType .branch).all (fun r => s.drive r.a0 == 0) &&
    (s.ofType .string).all (fun r => !(decide (1 ≤ s.chgPhase r.ctx) && decide (s.chgPhase r.ctx ≤ 4))) &&
    !s.sequencing && s.sad == 0 && !s.linkUp && s.upd.trial.isNone && !s.stageOpen

/-- SYS.DORMANT: refused with a Note, or the final checkpoint with the learned data begins (R25, R26, R271). -/
def State.dormantRequest (s : State) (w : Word) : State :=
  if bits w 15 0 ≠ 0x5A5A then s
  else if s.dormantOk then
    let s1 := s.lrnRequest
    { s1 with arb := { s1.arb with entryWait := true, askedAt := s1.now } }
  else (s.setFlag SYS_DSTAT 0 true).note 4 0

/-- The gates of feeds and direct-hang strings held or opened by their dormant policy (R26, R72); a latched feed, and a string in Cool-down, Latched or Cut-off, keeps its state. -/
def State.dormantGates (s : State) : State := match s.image with
  | none => s
  | some im =>
    let open_ := im.contexts.filter (fun r => (r.typ = .feed ∨ r.directHang) ∧ r.dormant = 0)
    s.forEach open_ fun r s =>
      let s1 := ((s.gateDownOf r.ctx).clearLive r.ctx).setCode r.ctx (if (if r.directHang then dhLive (s.code r.ctx) else s.code r.ctx != 7) then 0 else s.code r.ctx)
      if s1.activeFeed = some r.ctx then s1.setFld FSEL_ACTIVE 3 0 8 else s1

/-- Every converter group Off, its enable output low (R17). -/
def State.dormantGroups (s : State) : State := s.forEach ((s.ofType .group).filter (fun r => enGCode (s.code r.ctx))) (fun r s => s.groupTo r 0)

/-- Steps 2 to 4 of the entry: safe states that the lane still owed are forced (R352), then hand-back, both lanes cold and the PLL stopped, groups off, gates by policy (R17, R26). -/
def State.enterDormant (s : State) : State :=
  let s0 := s.applyDue
  let keep : EntryKeep := { at_ := s0.now, regs := s0.regs, channels := s0.channels, timers := s0.timers, counts := s0.counts }
  let s1 := s0.tokenTo none (some 2) false
  let s2 := { s1 with arb := { s1.arb with entryWait := false, entryFrom := some keep }, clk := { s1.clk with pll := false } }
  (((s2.setLane .a laneCold).setLane .b laneCold).setSys sysDormant).dormantGroups.dormantGates.holdChannels

/-- The words the last step of an entry changes: contexts, gate channels and the active feed. -/
def entryWord (a : Nat) : Bool := isCtxAddr a || (decide (GCH_STS ≤ a) && decide (a < GCH_STS + 16)) || a == FSEL_ACTIVE

/-- The timers that a gate's pull-down starts or stops. -/
def Timer.ofGate : Timer → Bool
  | .gateOff _ | .inrush _ | .limit _ | .brPgHeld _ | .dhHeld _ => true
  | _ => false

/-- The last step of a Dormant entry undone: every gate as last stamped, with its attempt, timers and counts (R28). -/
def State.undoEntry (s : State) (k : EntryKeep) : State :=
  { s with regs := overlay 0 entryWord k.regs s.regs, channels := k.channels, timers := s.timers.filter (fun p => !p.1.ofGate) ++ k.timers.filter (fun p => p.1.ofGate), counts := k.counts }

/-- SYS.DSTAT of a wake or an abort. -/
def State.noteWake (s : State) (src : Nat) : State := (s.setFlag SYS_DSTAT 1 true).setFld SYS_DSTAT 5 2 src

/-- Whether a wake source is enabled (R29, R30, R32). -/
def State.wakeEnabled (s : State) (src : Nat) : Bool := match src with
  | 1 | 2 | 6 | 7 => true
  | 3 => s.flag SYS_WAKEEN 0
  | 4 => s.flag SYS_WAKEEN 1
  | 5 => s.flag SYS_WAKEEN 2
  | _ => false

/-- The lane that last held the token powers up again (R29). -/
def State.wakeLane (s : State) : State :=
  let l := s.arb.lastHolder.getD .a
  let s1 := ((s.takeOver .wake).tokenTo (some l) (some 7) false).setLane l lanePowering
  { s1 with arb := { s1.arb with entryFrom := none }, clk := { s1.clk with pll := true } }

/-- An enabled source wakes a Dormant shelf (R29, R30); at a die level or without VREG5 it enters Plain hold instead (R338, R368). -/
def State.wakeBy (s : State) (src : Nat) : State :=
  if s.sys = sysDormant ∧ s.holder.isNone ∧ s.wakeEnabled src = true then
    let s0 := { s with clk := { s.clk with exactAt := some ((s.now / 1000 + 1) * 1000) } }
    let s1 := (s0.noteWake src).alert 5
    let s2 := if src = 1 then s1.setFlag HOST_STS 6 true else s1
    if 2 ≤ s2.dieLevel then (s2.enterPlain 2).lifeInc TDIE_PHLIFE phLifeBase
    else if !s2.clk.vreg5 then s2.enterPlain 3
    else s2.wakeLane
  else s

/-- A wake source before the lanes are off (R27, R28): before the hand-back the shelf never leaves Normal; after it the lane gets the token back. -/
def State.abortEntry (s : State) (src : Nat) : State :=
  if !s.wakeEnabled src then s
  else if s.arb.entryWait then { s with arb := { s.arb with entryWait := false } }.noteWake src
  else match s.arb.entryFrom, s.arb.lastHolder with
    | some k, some l =>
      if s.sys = sysDormant ∧ s.holder.isNone ∧ k.at_ = s.now then
        let s1 := s.undoEntry k
        let s2 := (((s1.takeOver .abort).tokenTo (some l) (some 7) false).setLane l lanePowering).noteWake src
        { s2 with arb := { s2.arb with powered := true, entryFrom := none }, clk := { s2.clk with pll := true } }
      else s
    | _, _ => s

/-- A wake source becomes active: it aborts an entry (R27, R28), or wakes a Dormant shelf (R29, R30). -/
def State.wakeEvent (s : State) (src : Nat) : State :=
  if s.arb.entryWait || s.arb.entryFrom.any (fun k => k.at_ == s.now) then s.abortEntry src else s.wakeBy src

/-- The wake source that an accepted level is: a press of PB_N, or a wake input of the image at its active level (R32, R85). -/
def State.inputSource (s : State) (pin : Nat) (level : Bool) : Option Nat :=
  if pin = 0x80 then (if level then none else some 3)
  else match s.image.bind (fun im => im.pins.find? (fun p => p.pin = pin ∧ p.func = 4)) with
    | some p => if level = p.invert then none else some 4
    | none => none

/-! ### Meanings -/

/-- INPUT_ACCEPT: a control input's level has been stable for its stable time (R314). Pins 0x80 and 0x81 are PB_N and SEQ_FLT_N; pins 0x90 to 0x93 are the downstream alert lines (R424). A press or a wake input aborts a Dormant entry or wakes (R27, R29). -/
def execInputAccept (pin : Nat) (level : Bool) (t : Nat) (s : State) : Host.Outcome State Fault Refusal :=
  let s := s.at t
  let s1 := (s.acceptInput pin level).pumpAll
  finish s (match s.inputSource pin level with
    | some src => s1.wakeEvent src
    | none => s1)

/-- EPOCH_BOUNDARY: the commit engine takes the lane's state as it stands (R329, R330); a broken trial falls back first (R479). -/
def execEpochBoundary (t : Nat) (s : State) : Host.Outcome State Fault Refusal :=
  let s := s.at t
  finish s (if s.laneRuns && s.now % 1000 == 0 then
    let s1 := match s.upd.trial with
      | some x => if x.broken then s.failTrial x false else s
      | none => s
    s1.startCommit
  else s)

/-- HEARTBEAT_TIMEOUT: the eighth boundary without a heartbeat (R326, R331, R344). -/
def execHeartbeatTimeout (t : Nat) (s : State) : Host.Outcome State Fault Refusal :=
  let s := s.at t
  finish s (match s.laneHeld, s.holder with
    | true, some l => if s.arb.lastBeat + 8000 ≤ s.now then s.loseHolder l .timeout 1 1 else s
    | _, _ => s)

/-- LANE_HANDBACK: the running lane gives the token up for a fault (R326, R327); a heartbeat timeout due at the same boundary acts first (R344). -/
def execLaneHandback (t : Nat) (s : State) : Host.Outcome State Fault Refusal :=
  let s := s.at t
  finish s (match s.laneRuns, s.holder with
    | true, some l => if s.arb.lastBeat + 8000 ≤ s.now then s.loseHolder l .timeout 1 1 else s.loseHolder l .handback 2 2
    | _, _ => s)

/-- Whether the arbiter accepts a stamp (R325): every bit differs from its complement rail, and holder and generation are the token's. The holder comes as two bits with their complement rail above them, the generation as eight and eight (DESIGN CHOICE, log 135). -/
def State.stampOk (s : State) (holder gen : Nat) : Bool :=
  holder / 4 % 4 == 3 - holder % 4 && gen / 256 % 256 == 255 - gen % 256 && holder % 4 == s.fld LANE_AUTH 1 0 && gen % 256 == s.fld LANE_AUTH 9 2

/-- AUTHORITY_CONFLICT: a stamped word of a lane with the holder and generation it carries, both rails. One that the arbiter accepts is no conflict (R325); one that fails is dropped: record, CONFLICT, fault, and the sender stopped (R328). -/
def execAuthorityConflict (l : LaneId) (holder gen acc addr t : Nat) (s : State) : Host.Outcome State Fault Refusal :=
  let s := s.at t
  finish s (if s.stampOk holder gen then s
    else
      let s1 := s.coreRec 0x0005 ([BitVec.ofNat 8 (s.fld LANE_AUTH 1 0), BitVec.ofNat 8 (s.fld LANE_AUTH 9 2), BitVec.ofNat 8 (holder % 4), BitVec.ofNat 8 gen, BitVec.ofNat 8 l.code, BitVec.ofNat 8 (acc % 8)] ++ leBytes 3 (addr % 2 ^ 21) ++ zeros 3)
      let s2 := (s1.setFlag LANE_STS 4 true).raise { cls := 13, ctx := 0, sev := none, site := 1304, init := l.code, acc := acc % 8, addr := addr % 2 ^ 21 }
      if s2.holder ≠ some l then (s2.setLane l laneCold).markBad l 4
      else if s2.arb.stamped then s2.loseHolder l .timeout 4 1
      else s2.restoreFails 4)

/-- LANE_POWERED: the incoming lane is out of reset with its retained memory readable (R334, t2); the lane of an image switch is reset before it loads (R452, R456). -/
def execLanePowered (t : Nat) (s : State) : Host.Outcome State Fault Refusal :=
  let s := s.at t
  finish s (match s.holder, s.arb.col with
    | some l, some k =>
      if s.arb.powered then s
      else
        let s1 := { s with arb := { s.arb with powered := true } }
        if k = .imageSwitch then s1.setReg RST_CAUSE (Word.ofNat (6 + 8 * l.index)) else s1
    | _, _ => s)

/-- RESTORE_FAIL: the incoming lane's restore fails, for a conflict or another reason (R336). -/
def execRestoreFail (conflict : Bool) (t : Nat) (s : State) : Host.Outcome State Fault Refusal :=
  let s := s.at t
  finish s (if s.arb.stamped then s else s.restoreFails (if conflict then 4 else 3))

/-- LANE_AUTO_RESTART: LANE.ARTIME has passed since the entry or the last attempt (R340). -/
def execLaneAutoRestart (t : Nat) (s : State) : Host.Outcome State Fault Refusal :=
  let s := s.at t
  finish s (if s.sys == sysPlain && s.holder.isNone && s.mayStart && decide (0 < ef (s.reg LANE_ARTIME)) && decide (s.regN LANE_ARCNT < s.regN LANE_ARMAX) &&
      s.expired .autoRestart (s.reg LANE_ARTIME) then (s.inc LANE_ARCNT).startFromPlain else s)

/-- LANE_WATCHDOG_EXPIRY: the core resets a lane and holds it cold (R455): the heartbeat of a running lane stops; an incoming lane has failed to restore, a start lane to start. -/
def execLaneWatchdogExpiry (l : LaneId) (t : Nat) (s : State) : Host.Outcome State Fault Refusal :=
  let s := s.at t
  finish s (if s.holder = some l ∧ s.laneState l ≠ laneCold then
    let s1 := (s.setReg RST_CAUSE (Word.ofNat (4 + 8 * l.index))).setLane l laneCold
    if s1.arb.stamped then { s1 with arb := { s1.arb with silent := true } } else s1.restoreFails 3
  else s)

/-- LANE_STOP: the running lane stops without a sign, its commit with it (R331, R449). -/
def execLaneStop (t : Nat) (s : State) : Host.Outcome State Fault Refusal :=
  let s := s.at t
  finish s (if s.holder.isSome then { s with commit := none, arb := { s.arb with silent := true } } else s)

/-- DORMANT_ENTRY_ABORT: a wake source before the lanes are off (R27, R28). -/
def execDormantEntryAbort (src t : Nat) (s : State) : Host.Outcome State Fault Refusal :=
  let s := s.at t
  finish s (s.abortEntry src)

/-- WAKE: a wake source becomes active (R29, R30). -/
def execWake (src t : Nat) (s : State) : Host.Outcome State Fault Refusal :=
  let s := s.at t
  finish s (s.wakeBy src)

/-- GATE_TRIP: a channel's window comparator sees a voltage across the shunt (nV) beyond a threshold, and the gate goes down (R180, R194). On a held channel of a Dormant shelf, or before its lanes are off, it wakes the shelf after the pull-down (R27, R30). -/
def execGateTrip (ch : Nat) (nv : Int) (t : Nat) (s : State) : Host.Outcome State Fault Refusal :=
  let s := s.at t
  finish s (match (s.ownerRec ch).bind (fun r => s.crossing r nv) with
    | some reverse => (s.gateTrip ch reverse).onlyIf (s.drive ch != 0) (fun s => s.wakeEvent 6)
    | none => s)

/-- CELL_OV_TRIP: a cell whose lowest voltage of 64 us stands at or above CELL.OVTH trips its comparator (R249, R250): acted on, then a wake source of a Dormant shelf (R27, R30). -/
def execCellOvTrip (n : Nat) (k : CellIn) (t : Nat) (s : State) : Host.Outcome State Fault Refusal :=
  let s := s.at t
  finish s (if (s.cellString n k.cell).isNone || s.cellTripped.contains (16 * n + k.cell) || decide (cellPu k.uv < pu (s.reg (CELL_OVTH + n))) then s else (s.cellTrip n k.cell).wakeEvent 7)

end Sys2Proof.Machine
end

