-- ==== Sys2Proof/Machine/Frame.lean ====
section
/-! DEFINITION. The two periodic steps: the 1 us frame, in which the core forms its averages, the shelf's principal quantities and its own thresholds (R56, R106, R285, R291), and the 10 us shelf tick, in which the shelf slots are evaluated and the lane's machines run (R105, R126). -/

namespace Sys2Proof.Machine

/-! ### The shelf's words of a frame (R56, R285) -/

/-- The feeds whose gate is not Off. -/
def State.drivenFeeds (s : State) : List CtxRec := (s.ofType .feed).filter (fun r => s.drive r.a0 ≠ 0)

/-- The direct-hang strings. -/
def State.hangStrings (s : State) : List CtxRec := (s.ofType .string).filter CtxRec.directHang

/-- A context's voltage, current and power in volts, amperes and watts, from its words. -/
def State.voltsOf (s : State) (c : Nat) : Rat := pu (s.cw c CTX_VMEAS) * ef (s.cw c CTX_VBASE)
def State.ampsOf (s : State) (c : Nat) : Rat := pu (s.cw c CTX_IMEAS) * ef (s.cw c CTX_IBASE)

/-- A sum over contexts. -/
def sumOver (l : List CtxRec) (f : CtxRec → Rat) : Rat := l.foldl (fun a r => a + f r) 0

/-- The current into the bus from the sources: feeds that are driven, or every rectifier in an image without a feed (R56). -/
def State.sourceAmps (s : State) : Rat :=
  if (s.ofType .feed).isEmpty then sumOver (s.ofType .rectifier) (fun r => s.ampsOf r.ctx) else sumOver s.drivenFeeds (fun r => (s.chan r.a0).cur)

/-- The power into the bus from the sources, in watts (R285). -/
def State.sourceWatts (s : State) : Rat :=
  if (s.ofType .feed).isEmpty then sumOver (s.ofType .rectifier) (fun r => pu (s.cw r.ctx CTX_PMEAS) * ef (s.cw r.ctx CTX_PBASE))
  else sumOver s.drivenFeeds (fun r => (s.chan r.a0).cur * s.voltsOf r.ctx)

/-- The current into the bus (R56). -/
def State.busAmps (s : State) : Rat :=
  s.sourceAmps + sumOver s.servingGroups (fun r => s.ampsOf r.ctx) + sumOver s.hangStrings (fun r => (s.chan r.a0).cur)

/-- The contexts whose CTX.IMEAS is a term of the shelf's current. -/
def State.busTerms (s : State) : List CtxRec :=
  (if (s.ofType .feed).isEmpty then s.ofType .rectifier else s.drivenFeeds) ++ s.servingGroups ++ s.hangStrings

/-- Whether a term of the shelf's current reads stale. -/
def State.busStale (s : State) : Bool := s.busTerms.any (fun r => (s.read (ctxAddr r.ctx CTX_IMEAS)).2 == 1)

/-- The shelf's words at the end of a frame: the bus voltage of its sense input, the current, the power, and the powers of sources and serving groups (R56, R285). -/
def State.shelfFrame (s : State) (vout : List Int) : State := match s.ctx? 0 with
  | none => s
  | some r =>
    let stale := s.busStale
    let s1 := s.principal 0 (((vout.getD (r.a0 % 8) 0 : Int) : Rat) / 1000000) s.busAmps
    let s2 := (s1.markStale (ctxAddr 0 CTX_IMEAS) stale).markStale (ctxAddr 0 CTX_PMEAS) stale
    let s3 := s2.measurePU 0 SHELF_PSRC (s2.puW s2.sourceWatts)
    s3.measurePU 0 SHELF_PBAT (s3.puW (sumOver s3.servingGroups (fun r => s3.voltsOf r.ctx * s3.ampsOf r.ctx)))

/-! ### Other work of a frame -/

/-- A frame's inputs with the voltages as the group converters give them, held in their range (R47, R494). -/
def FrameIn.held (inp : FrameIn) : FrameIn :=
  { inp with vout := inp.vout.map (clampInt 0 groupTop), vlow := inp.vlow.map (clampInt 0 groupTop) }

/-- RANGE of a context whose VSn lay outside the group converter's range: a group, and the shelf (R47, R56, R494). -/
def State.rangeMarks (s : State) (inp : FrameIn) : State :=
  s.forEach (s.ofType .group ++ (s.ctx? 0).toList) (fun r s => s.onlyIf (beyond groupTop (inp.vout.getD (if r.ctx = 0 then r.a0 % 8 else r.inst) 0)) (fun s => s.sts r.ctx 2))

/-- Whether a frame ends a millisecond of shelf time. -/
def State.msEnd (s : State) : Bool := s.now % 200000 == 0

/-- Whether a channel is measured in Dormant: one that is driven or on its way off, and that of an ideal-diode feed which the policy holds (R17, R26, R194). -/
def State.dormantChannel (s : State) (ch : Nat) : Bool :=
  s.drive ch != 0 || s.enhanced ch || s.running (.gateOff ch) || (s.ownerRec ch).any (fun r => r.typ == .feed && r.a1 == 1 && r.dormant == 1)

/-- The gate channels of a frame (R17, R26). -/
def State.framesChannels (s : State) (l : List GateIn) : State :=
  s.forEach (l.zipIdx.take 16) (fun p s => if s.sys == sysDormant && !s.dormantChannel p.2 then s else s.frameChannel p.2 p.1)

/-- The coulomb front ends of a frame, which run in every state (R17, R255). -/
def State.frameStrings (s : State) (inp : FrameIn) (msEnd : Bool) : State :=
  s.forEach (s.ofType .string) (fun r s => s.frameString r (inp.coulomb.getD r.inst 0) (inp.ccn.getD r.inst 0) msEnd)

/-- A group held Low by its safe state for PARAM goes to high impedance (R353). -/
def State.stopLowEnd (s : State) (r : CtxRec) : State :=
  if s.expired (.stopLow r.ctx) (s.safeRec r.ctx).param then (s.forEach r.phases (fun p s => s.phaseStop .hiZ p)).stop (.stopLow r.ctx) else s

/-- The converter groups of a frame: words, power-good counts, and a recall on a current step (R106, R163). -/
def State.frameGroups (s : State) (inp : FrameIn) : State :=
  s.forEach (s.ofType .group) (fun r s =>
    ((s.frameGroup r (inp.vout.getD r.inst 0) inp.phase).frameRecall r (s.frameCurrent r inp.phase)).stopLowEnd r)

/-- The cell words of a string with taps in use, at the end of a millisecond; those at or above NCELL read as zero (R250). -/
def State.frameCells (s : State) (cells : List Int) : State :=
  s.forEach ((List.range 32).filter (fun i => s.cellTaps (i / 16))) (fun i s =>
    let used := decide (i % 16 < (s.reg (CELL_CFG + i / 16)).toNat % 32)
    let uv := cells.getD i 0
    let c := (s.inst? .string (i / 16)).getD 0
    if used then (s.measureAt c (CELL_V + i) ((clampInt 0 cellTop uv : Rat) / 5000000)).onlyIf (beyond cellTop uv) (fun s => s.sts c 2) else s.measure (CELL_V + i) 0)

/-- A feed opened without a change to follow is open once its gate is below the off threshold (R178, R187). -/
def State.feedsOpen (s : State) : State :=
  s.forEach ((s.ofType .feed).filter (fun r => s.code r.ctx == 5 && !s.lane.change.any (fun ch => ch.old = some r.ctx) && decide ((s.chan r.a0).vgs < 1000000))) (fun r s =>
    (s.setCode r.ctx (s.openCode r.ctx)).stop (.gateOff r.a0))

/-- What the core forms of a frame beside channels and coulomb counters, in every state but Dormant. -/
def State.frameShelf (s : State) (inp : FrameIn) : State :=
  let s1 := ((s.frameGroups inp).hollowFrame inp.vout inp.vlow).shelfFrame inp.vout
  let s2 := if s1.msEnd then s1.frameCells inp.cells else s1
  let s3 := s2.hardCause.throttleFollow
  if s3.works then (s3.feedsOpen).forEach (s3.ofType .branch) (fun r s => s.enterFailed r) else s3

/-! ### The shelf tick (R105) -/

/-- What the core does at a shelf tick, with or without a lane. -/
def State.tickCore (s : State) : State := (s.forEach (s.ofType .group) (fun r s => s.groupCoreTick r)).hollowTick

/-- The groups, branches and feeds at a shelf tick. -/
def State.tickPower (s : State) : State :=
  let s1 := s.forEach (s.ofType .group) (fun r s => s.groupTick r)
  (s1.forEach (s1.ofType .branch) (fun r s => s.branchTick r)).feedSelect

/-- The strings and serving groups at a shelf tick: permitted discharge, direct-hang strings, charge enables, the Saddle, restarts after cut-off. -/
def State.tickStrings (s : State) : State :=
  let s1 := s.forEach (s.ofType .string) (fun r s => (s.permit r).dhTick r)
  let s2 := s1.saddleTick
  let s3 := s2.forEach s2.servingGroups (fun r s => s.cutRestart r)
  s3.forEach s3.servingGroups (fun r s => s.chargeEnables r.ctx)

/-- What the authority lane does at a shelf tick: an allocation and the safe states it owes, the strand, the shelf slots in the order of the source graph with the overruns among them (R127), sharing, the sequencer and the downstream engine. -/
def State.tickLane (s : State) (im : Image) (late : List Nat) : State :=
  let s1 := s.applyAlloc.applyDue.capEffective
  let s2 := s1.tickPower.tickStrings.shareRefs
  let s3 := ((s2.evalShelf im).overruns im (s2.lateOf im.shelfOrder late)).shareTick
  s3.seqTick.dsTick.sourcelessZones

/-! ### Meanings -/

/-- FRAME: the averages of the frame that ends at inp.t (R106, R140, R175, R255): channels, strings, groups, the Hollow detector, the shelf's principal quantities, and the hard throttle cause; the raises of the frame are taken by class and context (R351). -/
def execFrame (inp : FrameIn) (s : State) : Host.Outcome State Fault Refusal :=
  let s := s.at inp.t
  finish s (s.orderRaises (if s.clocks && s.now % 200 == 0 then
    let s := s.watchStale
    let s1 := (s.framesChannels inp.gate).frameStrings inp s.msEnd
    if s1.sys = sysDormant then s1 else (s1.rangeMarks inp).frameShelf inp.held
  else s))

/-- SHELF_TICK: the tick at t (R105): the core's part, the lane's while one is in charge in Normal, and SHELF.ALLOW and SHELF.HARD handed to the core (R291); the raises of the tick are taken by class and context (R351). -/
def execShelfTick (late : List Nat) (t : Nat) (s : State) : Host.Outcome State Fault Refusal :=
  let s := s.at t
  finish s (s.orderRaises (if s.clocks && s.now % 2000 == 0 && s.sys != sysDormant then
    let s1 := s.tickCore
    match s1.works, s1.image with
    | true, some im => (s1.tickLane im late).latchHard.throttleFollow
    | _, _ => s1.throttleFollow
  else s))

end Sys2Proof.Machine
end

