-- ==== Sys2Proof/Machine/Writes.lean ====
section
/-! DEFINITION. What a write from outside does to each word: the registers that trigger an action, the words that the strand or an acknowledgement holds, and every other word stored as it is (R43 to R48). The journal replays writes through the same operation (R332). -/

namespace Sys2Proof.Machine

/-! ### The holding copy of a writable wide value (R39) -/

/-- The holding copy of an interface, by initiator code: two-wire, SPI, or the link. -/
def State.holding (s : State) (via : Nat) : List (Nat × Word) :=
  if via = 3 then s.tw.holding else if via = 4 then s.spi.holding else s.casc.holding

/-- The state with an interface's holding copy replaced. -/
def State.setHolding (s : State) (via : Nat) (l : List (Nat × Word)) : State :=
  if via = 3 then { s with tw := { s.tw with holding := l } }
  else if via = 4 then { s with spi := { s.spi with holding := l } }
  else { s with casc := { s.casc with holding := l } }

/-- The second word of FCNT.GATE: both words are committed, a zero as 1 (R39, R466). A first word that was not written keeps its value. -/
def State.commitGate (s : State) (via : Nat) (w : Word) : State :=
  let lo := (find (s.holding via) FCNT_GATE).getD (s.reg FCNT_GATE)
  let v := lo.toNat + 262144 * (w.toNat % 16384)
  let s1 := (s.setHolding via []).setWide FCNT_GATE 2 (max v 1)
  (s1.markClamped FCNT_GATE (v == 0)).markClamped (FCNT_GATE + 1) (v == 0)

/-! ### Re-enable routes (R354) -/

/-- The word of a context that re-enables it: EN, or SHARE of a rectifier; rails, zones and the shelf have none. -/
def enableOf : CtxType → Option Nat
  | .group => some GRP_CTL
  | .feed => some FEED_CTL
  | .branch => some BR_CTL
  | .string => some BAT_CTL
  | .pol => some POL_CTL
  | .rectifier => some RECT_CTL
  | _ => none

/-- Whether a write re-enables a context against an unacknowledged level 3 fault. -/
def State.routeRefused (s : State) (r : CtxRec) (k : Nat) (w : Word) : Bool :=
  enableOf r.typ == some k && bit w 0 && !bit (s.cw r.ctx k) 0 && s.reenableRefused r.ctx

/-! ### Context words -/

/-- CHG.CTL with CHEM kept while the string charges, or where another string of its charge set has another chemistry (R235). -/
def State.chargeCtl (s : State) (r : CtxRec) (w : Word) : Word × Bool :=
  let old := s.chem r.ctx
  let new := bits w 3 1
  let ph := s.chgPhase r.ctx
  let mates : List CtxRec := match s.setOf r.ctx with
    | some g => if s.batEn r.ctx then (s.chargeSet g).filter (fun b : CtxRec => b.ctx ≠ r.ctx) else []
    | none => []
  if new ≠ old ∧ ((1 ≤ ph ∧ ph ≤ 4) ∨ mates.any (fun b : CtxRec => s.chem b.ctx ≠ new)) then (putBits w 3 1 old, true) else (w, false)

/-- What a write of EST.CTL, EST.RSHUNT, EST.QNOM or BAT.CTL does besides storing it (R258, R269, R271, R275). -/
def State.stringWritten (s : State) (c k : Nat) (w : Word) : State :=
  if k = EST_CTL then
    let s1 := if bit w 2 then s.qclr c else s
    let s2 := if bit w 3 then s1.relearn c else s1
    let s3 := if bit (s2.cw c EST_CTL) 1 then s2 else s2.disarm c
    if bit w 4 then s3.lrnRequest else s3
  else if k = EST_RSHUNT then s.disarm c
  else if k = EST_QNOM then (if bits (s.cw c EST_STS) 1 0 = 0 then s.setC c EST_QCAP (s.cw c EST_QNOM) else s)
  else if k = BAT_CTL then (if s.batEn c then s else s.disarm c)
  else s

/-- A write of a word of a context block that no rule turns away. -/
def State.writeOwn (s : State) (r : CtxRec) (k : Nat) (w : Word) : State :=
  let c := r.ctx
  let a := ctxAddr c k
  match r.typ with
    | .group => if k = GRP_CTL then (s.put a w).followMode c else if k = GRP_FSW then s.writeFsw c w else s.put a w
    | .feed => if k = FEED_CTL then (s.put a w).feedEnable c (s.feedEn c) else s.put a w
    | .pol =>
      if k = POL_CTL then (s.put a w).polEn c (bit (s.cw c POL_CTL) 0)
      else if k = POL_VSET then (s.put a w).polVset c
      else s.put a w
    | .rectifier =>
      let s1 := s.put a w
      if k = RECT_CTL ∧ bit (s1.cw c RECT_CTL) 0 then s1.setSafe c false else s1
    | .string => if k = CHG_CTL then s.putAs a (s.chargeCtl r w) else (s.put a w).stringWritten c k w
    | _ => s.put a w

/-- A write of a word of a context block; one that enables the context begins CTX.GOV.VALID anew (R61). -/
def State.writeCtx (s : State) (r : CtxRec) (k : Nat) (w : Word) : State :=
  if s.routeRefused r k w then s.refuse (ctxAddr r.ctx k)
  else
    let s1 := s.writeOwn r k w
    if enableOf r.typ = some k ∧ bit (s.cw r.ctx k) 0 = false ∧ bit (s1.cw r.ctx k) 0 then s1.setFlag (ctxAddr r.ctx CTX_GOV) 8 false else s1

/-! ### Slot words -/

/-- Whether the strand owns EN of a slot: a charge slot of a serving group (R239). -/
def State.chargeSlot (s : State) (n : Nat) : Bool := s.servingGroups.any (fun r => (s.currentSlots r.ctx ++ s.voltageSlots r.ctx).contains n)

/-- A write of SLOT.CTL: an EN that the strand holds keeps its value and reads as clamped; of a slot held for a time the written value is kept (R239, R281). -/
def State.writeSlotCtl (s : State) (n : Nat) (w : Word) : State :=
  let a := slotAddr n SLOT_CTL
  let l := s.legal a w
  let now := bit (s.sw n SLOT_CTL) 0
  if (find s.lane.heldEn n).isSome then
    ({ s with lane := { s.lane with heldEn := putKey s.lane.heldEn n (bit l.1 0) } }).putAs a (putBit l.1 0 now, true)
  else if s.chargeSlot n then s.putAs a (putBit l.1 0 now, true)
  else s.putAs a l

/-- A write of a word of a loop slot (R101, R122, R208). -/
def State.writeSlot (s : State) (n k : Nat) (w : Word) : State :=
  let a := slotAddr n k
  if k = SLOT_CTL then s.writeSlotCtl n w
  else if k = SLOT_SET then
    if s.strandSlots.contains n then s.refuse a
    else
      let s1 := s.put a w
      if (s1.image.bind (·.slot? n)).any (fun r => decide (r.ref = .none)) then s1.restartRamp n else s1
  else s.put a w

/-! ### The coefficient bank (R114, R115) -/

/-- FAB.CDATA: the coefficient goes into the shadow bank. -/
def State.writeCdata (s : State) (w : Word) : State :=
  let n := s.fld FAB_SLOT 7 0
  let k := s.fld FAB_SLOT 10 8
  let law := ((s.image.bind (·.slot? n)).map SlotRec.law).getD 0
  let r := coefClamp law k w
  let sh := match s.lane.shadow with
    | some sh => if sh.slot = n then sh else { slot := n, vals := [], apply := false }
    | none => { slot := n, vals := [], apply := false }
  { s with lane := { s.lane with shadow := some { sh with vals := putKey sh.vals k r.1 } } }.markClamped FAB_CDATA r.2

/-- FAB.SLOT: another slot discards the pending shadow. Also one that is commanded and not yet taken (DESIGN CHOICE, log 153). -/
def State.writeFabSlot (s : State) (w : Word) : State :=
  let s1 := s.put FAB_SLOT w
  if s1.fld FAB_SLOT 7 0 = s.fld FAB_SLOT 7 0 then s1 else { s1 with lane := { s1.lane with shadow := none } }

/-- FAB.CAPPLY: DISCARD wins over APPLY. -/
def State.writeCapply (s : State) (w : Word) : State :=
  if bit w 1 then { s with lane := { s.lane with shadow := none } }
  else if bit w 0 then { s with lane := { s.lane with shadow := s.lane.shadow.map (fun sh => if sh.slot = s.fld FAB_SLOT 7 0 then { sh with apply := true } else sh) } }
  else s

/-! ### Resets (R452, R457) -/

/-- One block put into reset: a host target loses its transaction, a downstream port resets once the transaction on the wire has ended, a link port goes back to Training, a gate ends as if stopped. -/
def State.resetBlock (s : State) (b : Nat) : State :=
  if s.flag RST_BLKSTS b then s
  else if 2 ≤ b ∧ b ≤ 5 then (if (s.port (b - 2)).cur.isSome then s.setPort (b - 2) (fun e => { e with resetDue := true }) else s.portReset (b - 2))
  else
    let s1 := s.setFlag RST_BLKSTS b true
    match b with
    | 0 => s1.setIface .twoWire (fun i => { i with waiting := none })
    | 1 => s1.setIface .spi (fun i => { i with waiting := none })
    | 6 => if s1.linkEnabled false then s1.train false else s1
    | 7 => if s1.linkEnabled true then s1.train true else s1
    | _ => s1.gateStop

/-- RST.BLK. -/
def State.writeBlk (s : State) (w : Word) : State := s.forEach ((List.range 9).filter (fun b => bit w b)) (fun b s => s.resetBlock b)

/-- Whether a word written to RST.SW resets the device. -/
def resetKey (w : Word) : Bool := bits w 15 0 == 0xA55A

/-! ### Faults (R359 to R361) -/

/-- An acknowledgement of one context; a POL is sent CLEAR_FAULTS (R360, R418). -/
def State.acknowledgeCtx (s : State) (c : Nat) : State :=
  let s1 := s.ackOne c
  if s1.isType c .pol then s1.queueCmd c 0x03 0 false else s1

/-- FLT.ACK: the context named, or every context, those included that an image switch has taken out of the image. -/
def State.writeAck (s : State) (w : Word) : State :=
  let here := match s.image with
    | some im => (sortBy (·.ctx) im.contexts).map CtxRec.ctx
    | none => [0]
  let all := here ++ ((s.flt.pending.map Pending.ctx).filter (fun c => !here.contains c)).dedup
  (s.forEach (if bit w 7 then all else [bits w 6 0]) (fun c s => s.acknowledgeCtx c)).pumpAll

/-- FLT.INJECT: a test raise by the interface that writes it; ignored while INJEN is 0. -/
def State.writeInject (s : State) (via : Nat) (w : Word) : State :=
  if s.flag FLT_CTL 1 then s.raise { cls := bits w 10 7, ctx := bits w 6 0, sev := none, site := 1305, init := via, acc := 2, addr := FLT_INJECT, test := true }
  else s

/-- FE.INFO: VALID written with 1 clears every FE word. -/
def State.writeFe (s : State) (w : Word) : State :=
  let s1 := s.put FE_INFO w
  if bit w 0 then ({ s1 with flt := { s1.flt with clearedAt := some s1.now } } |>.setReg FE_INFO 0 |>.setReg FE_SRC 0 |>.setReg FE_ADDR 0).setWide FE_TIME 4 0 else s1

/-! ### Global words -/

/-- A clearing write of HOST.ALERT without the bits that were set in its own cycle, which stay set (R416). -/
def State.spareNew (s : State) (w : Word) : Word :=
  (s.alertSet.filter (·.2 = s.now)).foldl (fun w p => putBits w p.1 p.1 0) w

/-- The alert mask ends once no enabled bit of HOST.ALERT is set (R414). -/
def State.settleMask (s : State) : State := if s.reg HOST_ALERT &&& s.reg HOST_ALERTEN = 0 then { s with alertMask := false } else s

/-- A write of a word of global page 0, which the core serves in every state (R361, R391, R415). -/
def State.writeCore (s : State) (via a : Nat) (w : Word) : State :=
  if a = HOST_ALERT then (s.put a (s.spareNew w)).settleMask
  else if a = HOST_ALERTEN then (s.put a w).settleMask
  else if a = SYS_DORMANT then s.dormantRequest w
  else if a = LANE_SWAP then s.swapRequest w
  else if a = LANE_RESTART then s.restartRequest w
  else if a = FLT_ACK then s.writeAck w
  else if a = FLT_INJECT then s.writeInject via w
  else if a = FE_INFO then s.writeFe w
  else if a = BB_CLR then (if bits w 15 0 = 0x6C6C then s.clearBox via else s)
  else s.put a w

/-- A W1C write of an exclusion word re-admits the excluded sensors it names, whose counts start again; FEW falls once 4 sensors are not excluded (R364, R370). -/
def State.readmit (s : State) (second : Bool) (w : Word) : State :=
  let s1 := s.put (if second then TDIE_EXCL1 else TDIE_EXCL0) w
  let l := ((List.range 12).filter (fun i => bit w i)).map (fun i => if second then 12 + i else i)
  let s2 := s1.forEach (l.filter s.excluded) (fun i s => s.clearCount (.excl i))
  s2.setFlag TDIE_STS 5 (s2.flag TDIE_STS 5 && decide (s2.sensors.length < 4))

/-- A write of a word of global pages 1 to 17. -/
def State.writePage (s : State) (via a : Nat) (w : Word) : State :=
  if a = SEQ_CMD then { s with lane := { s.lane with seq := { s.lane.seq with cmd := some w } } }
  else if a = TDIE_EXCL0 then s.readmit false w
  else if a = TDIE_EXCL1 then s.readmit true w
  else if a = FAB_SLOT then s.writeFabSlot w
  else if a = FAB_CDATA then s.writeCdata w
  else if a = FAB_CAPPLY then s.writeCapply w
  else if a = SAD_CMD then (if bit w 0 then s.cmdSaddle else s).onlyIf (bit w 1) State.cmdReturn
  else if a = SAD_VHOLD then
    let s1 := s.put a w
    if s1.sad = 2 ∨ s1.sad = 3 then s1.setHold (s1.reg SAD_VHOLD) false else s1
  else if a = SAD_VSOFS then
    let s1 := s.put a w
    { s1 with lane := { s1.lane with stdbyDue := true } }
  else if a = THR_FORCE then (s.put a w).throttleFollow
  else if a = IMG_SWITCH then s.imgRequest w (if bit w 17 then .dry else .switch)
  else if a = UPD_FWACT then s.fwRequest w
  else if a = UPD_CONFIRM then s.confirmRequest w
  else if a = UPD_SAVE then s.saveRequest w
  else if a = RST_SW then (if resetKey w then s.deviceReset 5 else s)
  else if a = RST_BLK then s.writeBlk w
  else if a = FCNT_CMD then s.fcntCmd w
  else if a = FCNT_GATE then s.setHolding via [(FCNT_GATE, w)]
  else if a = FCNT_GATE + 1 then s.commitGate via w
  else if DSP_CFG ≤ a ∧ a < DSP_CFG + 4 then ((s.put a w).pollEnable (a - DSP_CFG)).onlyIf (bit w 4) (fun s => s.requalWrite (a - DSP_CFG))
  else if a = CASC_CFG then (s.put a w).portEnables
  else if a = CASC_RCMD then s.remoteCmd w
  else if a = CASC_RDATA then { s.put a w with remoteQ := 0 }
  else s.put a w

/-- A write by an interface, given by its initiator code (R361), of the word at an address: dropped and counted where the block behind it is in reset (R457), ignored where the word is not implemented (R45, R508); a write of another register discards the interface's holding copy (R39). -/
def State.applyWrite (s : State) (via a : Nat) (w : Word) : State :=
  let s := if a = FCNT_GATE ∨ a = FCNT_GATE + 1 then s else s.setHolding via []
  if !s.implemented a then s
  else if s.isolatedWord a then s.inc RST_ISOCNT
  else if a < 0x40 then s.writeCore via a w
  else if a < 0x480 then s.writePage via a w
  else if isCtxAddr a then
    match s.ctx? (ctxOf a).1 with
    | some r => s.writeCtx r (ctxOf a).2 w
    | none => s
  else s.writeSlot (slotOf a).1 (slotOf a).2 w

/-- BLOCK_RESET_END: the reset of a block ends; a downstream port starts what it can (R457). -/
def execBlockResetEnd (blk t : Nat) (s : State) : Host.Outcome State Fault Refusal :=
  let s := s.at t
  finish s (if blk < 9 && s.flag RST_BLKSTS blk then
    let s1 := s.setFlag RST_BLKSTS blk false
    if 2 ≤ blk ∧ blk ≤ 5 then s1.pump (blk - 2) else s1
  else s)

end Sys2Proof.Machine
end

