-- ==== Sys2Proof/Machine/HostPort.lean ====
section
/-! DEFINITION. The two host targets (R393 to R416): which command is served in which state, what a read returns, what a write does, PEC and CRC, and the answers. Rows that write one named register are word writes of it. -/

namespace Sys2Proof.Machine

/-! ### Wide values (R37, R38) -/

/-- The first word and the length of the wide value that a word belongs to. -/
def State.wideOf (s : State) (a : Nat) : Option (Nat × Nat) :=
  let known : List (Nat × Nat) := [(LANE_EPOCH, 4), (FE_TIME, 4), (BB_RSEQ, 2), (BB_CLRSEQ, 2), (UPD_FWVER, 2), (FCNT_GATE, 2), (FCNT_RES, 2), (CASC_TOFS, 4)]
  match known.find? (fun p => decide (p.1 ≤ a) && decide (a < p.1 + p.2)) with
  | some p => some p
  | none =>
    if isCtxAddr a ∧ s.isType (ctxOf a).1 .string ∧ EST_QNET ≤ (ctxOf a).2 ∧ (ctxOf a).2 < EST_QNET + 4 then some (ctxAddr (ctxOf a).1 EST_QNET, 4) else none

/-! ### Reads -/

/-- What an address holds, the two windows included (R390, R476). -/
def State.readAt (s : State) (a : Nat) : Word × Nat :=
  if 0x4000 ≤ a ∧ a < 0x4100 then (s.bytePair (bbBase + 512 * s.regN BB_WBASE + 2 * (a - 0x4000)), 0)
  else if 0x4100 ≤ a ∧ a < 0x4200 then
    match s.stageWindow (a - 0x4100) with
    | some w => (w, 0)
    | none => (0, 3)
  else s.read a

/-- What a read of an address does besides: BB.PDATA advances its pointer (R390), an access behind a block in reset is counted (R457). -/
def State.afterRead (s : State) (a : Nat) : State :=
  let s1 := if s.implemented a && s.isolatedWord a then s.inc RST_ISOCNT else s
  if a = BB_PDATA then s1.setReg BB_PPTR (s1.reg BB_PPTR + 1) else s1

/-- A read of one word by an interface that holds a shadow copy: what it returns, and the copy after it (R38). A later word reads as it stands while the copy is of another value or none is held (DESIGN CHOICE, log 77). -/
def State.latchRead (s : State) (shadow : Option (Nat × List Word)) (a : Nat) : (Word × Nat) × Option (Nat × List Word) :=
  let x := s.readAt a
  match s.wideOf a with
  | some (b, n) =>
    if a = b then (x, some (b, (List.range (n - 1)).map (fun k => (s.readAt (b + 1 + k)).1)))
    else ((match shadow with
      | some (b', rest) => if b' = b then rest.getD (a - b - 1) x.1 else x.1
      | none => x.1, x.2), shadow)
  | none => (x, shadow)

/-- A read of one word by a host target, with the shadow copy of a wide value (R38). -/
def State.hostRead (s : State) (p : Port) (a : Nat) : (Word × Nat) × State :=
  let x := s.latchRead (s.iface p).shadow a
  (x.1, (s.afterRead a).setIface p (fun i => { i with shadow := x.2 }))

/-! ### The service set (R18, R404, R410, R482) -/

/-- How a host target serves: not at all, every command, the Col rows, the Plain hold rows, the rows of an unconfigured shelf (and of the loader's own interface), or as the interface that the loader does not serve. -/
inductive Service where
  | away | full | col | plain | loader | other
  deriving DecidableEq, Repr

/-- The bit of RST.BLKSTS of a host target. -/
def Port.block : Port → Nat
  | .twoWire => 0
  | .spi => 1

/-- The service a target gives now. -/
def State.service (s : State) (p : Port) : Service :=
  if !s.clocks || !s.clk.vio || s.flag RST_BLKSTS p.block || s.sys == sysDormant then .away
  else if s.sys = sysUnconf then .loader
  else if s.sys = sysNormal then (if s.laneRuns then .full else .col)
  else if s.sys = sysCol then .col
  else if s.sys = sysStartUp ∧ s.flag UPD_STS 8 then (if s.flag RST_STRAP 0 = (p == .spi) then .loader else .other)
  else .plain

/-- Whether a service serves a need. -/
def Service.serves : Service → Need → Bool
  | .full, _ => true
  | .loader, .lane => false
  | .loader, _ => true
  | .col, n | .plain, n => n == .core || n == .header
  | .away, _ | .other, _ => false

/-- The address a command code names under an interface's selections (R398). -/
def Iface.addrOf (i : Iface) (code : Nat) : Nat := if code < 0x40 then 0x1000 + 0x40 * i.ctx + code else 0x40 * i.page + (code - 0x40)

/-- The addresses of a block at the pointer, wrapping. -/
def Iface.blockAddrs (i : Iface) (n : Nat) : List Nat := (List.range (n / 3)).map (fun k => (i.ptr + k) % 65536)

/-- What the command byte of a transaction needs, and what all of it needs. -/
def HostOp.needs (i : Iface) (op : HostOp) : Need × List Need := match op with
  | .wordRead c => (needOf (i.addrOf c) false, [])
  | .wordWrite c .. => (needOf (i.addrOf c) true, [])
  | .regRead a => (needOf a false, [])
  | .regWrite a _ => (needOf a true, [])
  | .blockRead n => (needOf i.ptr false, (i.blockAddrs n).map (fun a => needOf a false))
  | .blockWrite n _ _ => (needOf i.ptr true, (i.blockAddrs n).map (fun a => needOf a true))
  | .stageWrite .. | .stageRead => (.image, [])

/-! ### Checks and answers (R402, R409) -/

/-- The address byte of a two-wire transaction. -/
def State.addrByte (s : State) (read : Bool) : Byte := BitVec.ofNat 8 (2 * s.hostAddr + b2n read)

/-- The check of a write frame, over the command and what follows it. -/
def State.writeSum (s : State) (p : Port) (bs : List Byte) : Byte := match p with
  | .twoWire => crc8 (s.addrByte false :: bs)
  | .spi => crc8 (0x01 :: bs)

/-- The check of a read, over the command with its N and the response. -/
def State.readSum (s : State) (p : Port) (head data : List Byte) : Byte := match p with
  | .twoWire => crc8 ((s.addrByte false :: head) ++ (s.addrByte true :: data))
  | .spi => crc8 ((0x02 :: head) ++ data)

/-- The violation of a write frame's check: a mismatch, or its absence where it is mandatory. -/
def State.checkBad (s : State) (p : Port) (bs : List Byte) (pec : Option Byte) : Option Nat := match pec with
  | some b => if b = s.writeSum p bs then none else some 8
  | none => if s.flag HOST_CFG (match p with
      | .twoWire => 0
      | .spi => 1) then some 9 else none

/-- A read answered with its data. -/
def State.reply (s : State) (p : Port) (head data : List Byte) : State :=
  let r := data ++ [s.readSum p head data]
  s.setIface p fun i => match p with
    | .twoWire => { i with resp := r, acked := true }
    | .spi => { i with resp := i.result :: 0x5A :: r, result := 0x5A, acked := true }

/-- A write frame accepted. -/
def State.done (s : State) (p : Port) : State :=
  s.setIface p fun i => match p with
    | .twoWire => { i with resp := [], acked := true }
    | .spi => { i with resp := [i.result], result := 0x5A, acked := true }

/-- An SPI write frame that meets a passing condition (R410). -/
def State.busy (s : State) (p : Port) : State := s.setIface p (fun i => { i with resp := [i.result], result := 0x3C, acked := false })

/-- The code of a host target as a wake source (R32). -/
def Port.wakeSource : Port → Nat
  | .twoWire => 1
  | .spi => 2

/-- A target that does not answer: not acknowledged, or 0x3C shifted out with the frame ignored, which the next frame reports as Busy (nothing without VIO, R16, R408); in Dormant and until the target is ready an address that is not acknowledged sets DORMNAK, and the first one wakes (R405, R410, R463). -/
def State.notAwake (s : State) (p : Port) : State :=
  let s1 := s.setIface p fun i => match p with
    | .twoWire => { i with resp := [], acked := false }
    | .spi => { i with resp := if s.clk.vio then [0x3C] else [], result := if s.clk.vio && !s.flag RST_BLKSTS p.block then 0x3C else i.result, acked := false }
  if s1.sys = sysDormant ∧ s1.clocks ∧ s1.clk.vio then (s1.onlyIf (p == .twoWire) (fun s => s.setFlag HOST_STS 6 true)).wakeEvent p.wakeSource else s1

/-- The interface that the loader does not serve: not acknowledged, and 0xC3 over SPI (R482). -/
def State.notServed (s : State) (p : Port) : State :=
  s.setIface p fun i => match p with
    | .twoWire => { i with resp := [], acked := false }
    | .spi => { i with resp := [i.result, 0xC3], result := 0xC3, acked := false }

/-- A transaction held back: the clock is stretched, or wait tokens are sent for a read; an SPI write reports Busy (R404, R410). -/
def State.holdBack (s : State) (p : Port) (op : HostOp) : State :=
  if p = .spi ∧ op.writes then s.busy p else s.setIface p (fun i => { i with waiting := some op })

/-! ### Writes by a host target (R332, R400) -/

/-- Whether a write goes to the authority lane and so into the journal. -/
def journalled (a : Nat) : Bool := needOf a true == .lane || needOf a true == .image

/-- One word written by a target: journalled where a lane serves it, then applied. -/
def State.hostWrite (s : State) (p : Port) (a : Nat) (w : Word) : State :=
  let s1 := if journalled a && s.service p == .full then { s with journal := s.journal ++ [{ addr := a, word := w, via := p.code, applied := s.now, commits := 0 }] } else s
  s1.applyWrite p.code a w

/-- The words of a block written in ascending order; those not served are dropped, and a device reset ends the block (R399, R404, R465). -/
def State.hostBlock (p : Port) (sv : Service) : List (Nat × Word) → State → State
  | [], s => s
  | (a, w) :: r, s =>
    if !sv.serves (needOf a true) then State.hostBlock p sv r s
    else
      let s1 := s.hostWrite p a w
      if a = RST_SW ∧ resetKey w then s1 else State.hostBlock p sv r s1

/-- The words three bytes each spell (R40). -/
def wordsOf : List Byte → List Word
  | a :: b :: c :: r => bytesWord a b c :: wordsOf r
  | _ => []

/-- The words of a block read, with the effects of each read; one not served is zero with 0b01 (R399, R404). DEDUCED, log 142. -/
def State.hostBlockRead (p : Port) (sv : Service) : List Nat → State → List Byte × State
  | [], s => ([], s)
  | a :: r, s =>
    let x := if sv.serves (needOf a false) then s.hostRead p a else ((0, 1), s)
    let y := State.hostBlockRead p sv r x.2
    (wordBytes x.1.1 x.1.2 ++ y.1, y.2)

/-- The lane-served words a transaction would enter in the journal. -/
def HostOp.entries (i : Iface) : HostOp → Nat
  | .wordWrite c .. => b2n (journalled (i.addrOf c))
  | .regWrite a _ => b2n (journalled a)
  | .blockWrite n _ _ => ((i.blockAddrs n).filter journalled).length
  | _ => 0

/-! ### Staging codes (R472 to R475) -/

/-- Whether N and the parameters of a staging write are in range. -/
def stageLegal (code : Nat) (data : List Byte) : Bool :=
  let at_ (k : Nat) : Nat := (data.getD k 0).toNat
  if code = 0xF0 then decide (data.length = 2) && decide (1 ≤ at_ 0) && decide (at_ 0 ≤ 4) && decide (at_ 1 ≤ (if at_ 0 ≤ 2 then 1 else 0))
  else if code = 0xF1 then decide (5 ≤ data.length) && decide (data.length ≤ 255)
  else if code = 0xF2 then decide (data.length = 1) && decide (at_ 0 ≤ 1)
  else false

/-- A staging write carried out. -/
def State.stageRun (s : State) (p : Port) (code : Nat) (data : List Byte) : State :=
  let at_ (k : Nat) : Nat := (data.getD k 0).toNat
  if code = 0xF0 then s.stageBegin p (at_ 0) (at_ 1)
  else if code = 0xF1 then s.stageData p (ofLe (data.take 4)) (data.drop 4)
  else s.stageClose p (at_ 0 == 1)

/-! ### A transaction served -/

/-- A write frame with its check: discarded on a violation, else acknowledged and applied. -/
def State.framed (s : State) (p : Port) (bs : List Byte) (pec : Option Byte) (f : State → State) : State :=
  match s.checkBad p bs pec with
  | some v => s.violation p v ((bs.headD 0).toNat) (bs.length + 1) false
  | none => f (s.done p)

/-- The payload of STATUS (R472). -/
def State.statusBytes (s : State) : List Byte := s.w3r UPD_STS ++ s.w3r UPD_STAGE ++ s.w3r IMG_LDERR ++ s.w3r UPD_TREM

/-- The words of a block write that no lane serves are dropped: the frame stands acknowledged as a write frame is, and violation 0x02 is counted (R404). -/
def State.dropWords (s : State) (p : Port) (before : Iface) : State :=
  (s.violation p 2 0xE1 3 false).setIface p (fun i => { i with resp := if p = .spi then [before.result] else [], acked := true })

/-- A transaction of a target that serves its command byte; the byte after the data of a block write is its PEC (R402). -/
def State.serve (s : State) (p : Port) (sv : Service) (op : HostOp) : State :=
  let i := s.iface p
  match op with
  | .wordRead c =>
    let x := s.hostRead p (i.addrOf c)
    x.2.reply p [BitVec.ofNat 8 c] (wordBytes x.1.1 x.1.2)
  | .regRead a =>
    let x := s.hostRead p a
    x.2.reply p [BitVec.ofNat 8 op.code] (wordBytes x.1.1 x.1.2)
  | .wordWrite c b0 b1 b2 pec => s.framed p [BitVec.ofNat 8 c, b0, b1, b2] pec (fun s => s.hostWrite p (i.addrOf c) (bytesWord b0 b1 b2))
  | .regWrite a w => (s.done p).hostWrite p a w
  | .blockRead n =>
    let x := State.hostBlockRead p sv (i.blockAddrs n) s
    let s1 := x.2.setIface p (fun i => { i with ptr := (i.ptr + n / 3) % 65536 })
    s1.reply p [0xE1, BitVec.ofNat 8 n] (BitVec.ofNat 8 n :: x.1)
  | .blockWrite n data pec =>
    let body := [0xE1, BitVec.ofNat 8 n] ++ data.take n
    let check := data.drop n ++ pec.toList
    if data.length < n then s.violation p (if p = .spi then 0x0C else 6) 0xE1 (data.length + 3) false
    else if 2 ≤ check.length ∧ check.head? = some (s.writeSum p body) then s.violation p 7 0xE1 (n + 4) false
    else s.framed p body check.head? fun s =>
      let l := (i.blockAddrs n).zip (wordsOf (data.take n))
      let s1 := s.setIface p (fun i => { i with ptr := (i.ptr + n / 3) % 65536 })
      let s2 := if l.any (fun x => !sv.serves (needOf x.1 true)) then s1.dropWords p i else s1
      State.hostBlock p sv l s2
  | .stageWrite code data pec =>
    s.framed p ([BitVec.ofNat 8 code, BitVec.ofNat 8 data.length] ++ data) pec (fun s => s.stageRun p code data)
  | .stageRead => s.reply p [0xF3, 12] (12 :: s.statusBytes)

/-- Parameters checked before anything else changes: N of a block, or of a staging write (R397, R472). -/
def HostOp.legal : HostOp → Bool
  | .blockRead n | .blockWrite n _ _ => decide (3 ≤ n) && decide (n ≤ 96) && n % 3 == 0
  | .stageWrite code data _ => stageLegal code data
  | _ => true

/-- The index of the byte that is out of range: N of a block or of a staging write, or a staging parameter (R397, R411, R472). -/
def HostOp.badIndex : HostOp → Nat
  | .stageWrite code data _ =>
    let k := (data.getD 0 0).toNat
    if code = 0xF0 then (if data.length ≠ 2 then 2 else if 1 ≤ k ∧ k ≤ 4 then 4 else 3)
    else if code = 0xF2 then (if data.length ≠ 1 then 2 else 3)
    else 2
  | _ => 2

/-- Whether a transaction waits for something other than a lane: a full journal (R332), or a staging frame not yet committed (R474). -/
def State.mustWait (s : State) (p : Port) (op : HostOp) : Bool :=
  let k := op.entries (s.iface p)
  (s.service p == .full && decide (0 < k) && decide (128 < s.journal.length + k)) ||
  match op with
  | .stageWrite .. => s.upd.frame.isSome
  | _ => false

/-- A transaction that begins while a Dormant entry waits aborts the entry (R27, R30). -/
def State.hostWake (s : State) (p : Port) : State := if s.arb.entryWait && s.service p != .away then s.abortEntry p.wakeSource else s

/-- A transaction at a host target, new or held back until now. -/
def State.hostRun (s : State) (p : Port) (op : HostOp) : State :=
  let sv := s.service p
  let n := op.needs (s.iface p)
  if (s.iface p).waiting.isSome then s
  else if sv = .away then s.notAwake p
  else if sv = .other then s.notServed p
  else if !sv.serves n.1 then
    if sv = .col then s.holdBack p op
    else s.refuseOp p op
  else if !op.legal then s.violation p 4 op.code op.badIndex (!op.writes)
  else if sv = .col ∧ n.2.any (fun x => !sv.serves x) then s.holdBack p op
  else if s.mustWait p op then s.holdBack p op
  else s.serve p sv op

/-- A transaction reaches a host target. -/
def State.hostOp (s : State) (p : Port) (op : HostOp) : State := (s.hostWake p).hostRun p op

/-- A transaction held back is served, where nothing holds it back any more. -/
def State.resume (s : State) (p : Port) : State := match (s.iface p).waiting with
  | some op => if s.service p == .full || s.service p == .loader then (s.setIface p (fun i => { i with waiting := none })).hostRun p op else s
  | none => s

/-- Both targets serve what they held back. -/
def State.resumeAll (s : State) : State := (s.resume .twoWire).resume .spi

/-- A control command, which the core serves in every state but Dormant (R404). -/
def State.control (s : State) (p : Port) (f : State → State) : State :=
  let sv := s.service p
  if (s.iface p).waiting.isSome then s
  else if sv = .away then s.notAwake p
  else if sv = .other then s.notServed p
  else f (s.hostWake p)

/-! ### Meanings: words and blocks -/

/-- WORD_WRITE (R398, R400): codes 0x00 to 0x7F. -/
def execWordWrite (p : Port) (code : Nat) (b0 b1 b2 : Byte) (pec : Option Byte) (t : Nat) (s : State) : Host.Outcome State Fault Refusal :=
  finish s ((s.at t).hostOp p (.wordWrite (code % 128) b0 b1 b2 pec))

/-- WORD_READ (R398). -/
def execWordRead (p : Port) (code t : Nat) (s : State) : Host.Outcome State Fault Refusal :=
  finish s ((s.at t).hostOp p (.wordRead (code % 128)))

/-- WIDE_VALUE_FIRST_READ: a read of the first word latches the others (R38). -/
def execWideValueFirstRead (p : Port) (code t : Nat) (s : State) : Host.Outcome State Fault Refusal :=
  finish s ((s.at t).hostOp p (.wordRead (code % 128)))

/-- BLOCK_READ (R399). -/
def execBlockRead (p : Port) (n t : Nat) (s : State) : Host.Outcome State Fault Refusal := finish s ((s.at t).hostOp p (.blockRead n))

/-- BLOCK_WRITE (R399). -/
def execBlockWrite (p : Port) (n : Nat) (data : List Byte) (pec : Option Byte) (t : Nat) (s : State) : Host.Outcome State Fault Refusal :=
  finish s ((s.at t).hostOp p (.blockWrite n data pec))

/-! ### Meanings: control commands (R396, R397) -/

/-- PTR_WRITE: the pointer, low byte first. -/
def execPtrWrite (p : Port) (lo hi : Byte) (pec : Option Byte) (t : Nat) (s : State) : Host.Outcome State Fault Refusal :=
  finish s ((s.at t).control p fun s => s.framed p [0xE0, lo, hi] pec fun s => s.setIface p (fun i => { i with ptr := lo.toNat + 256 * hi.toNat }))

/-- PTR_READ. -/
def execPtrRead (p : Port) (t : Nat) (s : State) : Host.Outcome State Fault Refusal :=
  finish s ((s.at t).control p fun s => s.reply p [0xE0] (leBytes 2 (s.iface p).ptr))

/-- CPAGE_WRITE: a context from 0x00 to 0x7F. -/
def execCpageWrite (p : Port) (v : Byte) (pec : Option Byte) (t : Nat) (s : State) : Host.Outcome State Fault Refusal :=
  finish s ((s.at t).control p fun s =>
    if 0x7F < v.toNat then s.violation p 4 0xE2 2 false
    else s.framed p [0xE2, v] pec fun s => s.setIface p (fun i => { i with ctx := v.toNat }))

/-- CPAGE_READ. -/
def execCpageRead (p : Port) (t : Nat) (s : State) : Host.Outcome State Fault Refusal :=
  finish s ((s.at t).control p fun s => s.reply p [0xE2] [BitVec.ofNat 8 (s.iface p).ctx])

/-- GPAGE_WRITE: a global page from 0x00 to 0x11. -/
def execGpageWrite (p : Port) (v : Byte) (pec : Option Byte) (t : Nat) (s : State) : Host.Outcome State Fault Refusal :=
  finish s ((s.at t).control p fun s =>
    if 0x11 < v.toNat then s.violation p 4 0xE3 2 false
    else s.framed p [0xE3, v] pec fun s => s.setIface p (fun i => { i with page := v.toNat }))

/-- GPAGE_READ. -/
def execGpageRead (p : Port) (t : Nat) (s : State) : Host.Outcome State Fault Refusal :=
  finish s ((s.at t).control p fun s => s.reply p [0xE3] [BitVec.ofNat 8 (s.iface p).page])

/-- The recorder frozen by an interface; a freeze while frozen changes nothing (R389). -/
def State.freezeBox (s : State) (p : Port) : State :=
  if s.rcd.frozenAt.isSome then s
  else
    let s1 := (s.setFlag BB_STATE 0 true).setFld BB_STATE 12 11 (p.code - 2)
    { s1 with rcd := { s1.rcd with frozenAt := some s1.now } }.start .freeze

/-- FREEZE: 0xE4 with 0x01. -/
def execFreeze (p : Port) (pec : Option Byte) (t : Nat) (s : State) : Host.Outcome State Fault Refusal :=
  finish s ((s.at t).control p fun s => s.framed p [0xE4, 0x01] pec fun s => s.freezeBox p)

/-- THAW: 0xE4 with 0x00; changes nothing while not frozen (R388, R389). -/
def execThaw (p : Port) (pec : Option Byte) (t : Nat) (s : State) : Host.Outcome State Fault Refusal :=
  finish s ((s.at t).control p fun s => s.framed p [0xE4, 0x00] pec fun s => s.thaw (p.code - 3))

/-- FREEZE_READ. -/
def execFreezeRead (p : Port) (t : Nat) (s : State) : Host.Outcome State Fault Refusal :=
  finish s ((s.at t).control p fun s => s.reply p [0xE4] [if s.rcd.frozenAt.isSome then 1 else 0])

/-- The eight words of the summary (R401). -/
def State.summaryBytes (s : State) : List Byte :=
  [SYS_STATE, LANE_AUTH, FLT_SUM, FLT_CLSPEND, HOST_ALERT, ctxAddr 0 CTX_VMEAS, ctxAddr 0 CTX_IMEAS, TDIE_TJ].flatMap s.w3r

/-- SUMMARY (R401). -/
def execSummary (p : Port) (t : Nat) (s : State) : Host.Outcome State Fault Refusal :=
  finish s ((s.at t).control p fun s => s.reply p [0xE5] (0x18 :: s.summaryBytes))

/-- RECEIVE_WITHOUT_COMMAND: a read of the two-wire target without a command returns the summary (R396). -/
def execReceiveWithoutCommand (t : Nat) (s : State) : Host.Outcome State Fault Refusal :=
  finish s ((s.at t).control .twoWire fun s =>
    let data := 0x18 :: s.summaryBytes
    s.setIface .twoWire (fun i => { i with resp := data ++ [crc8 (s.addrByte true :: data)], acked := true }))

/-- ADDRESS_PROBE: acknowledged, and changes nothing else (R396). -/
def execAddressProbe (t : Nat) (s : State) : Host.Outcome State Fault Refusal :=
  finish s ((s.at t).control .twoWire fun s => s.setIface .twoWire (fun i => { i with resp := [], acked := true }))

/-- SPI_NOOP: the result of the previous frame (R407). -/
def execSpiNoop (t : Nat) (s : State) : Host.Outcome State Fault Refusal :=
  finish s ((s.at t).control .spi fun s => s.setIface .spi (fun i => { i with resp := [i.result], result := 0x5A, acked := true }))

/-- ALERT_RESPONSE: answered while HALERT_N is asserted and ARAEN is 1; arbitration won masks the line (R414). It is no match of the target's own address, so it wakes nothing (R405). -/
def execAlertResponse (won : Bool) (t : Nat) (s : State) : Host.Outcome State Fault Refusal :=
  let s := s.at t
  let sv := s.service .twoWire
  finish s (if (s.iface .twoWire).waiting.isSome then s
    else if sv != .away && sv != .other && s.flag HOST_CFG 2 && (outputs s).halert then
      let b : Byte := BitVec.ofNat 8 (2 * s.hostAddr)
      let pec := if s.flag HOST_CFG 0 then [crc8 [0x19, b]] else []
      let s1 := s.setIface .twoWire (fun i => { i with resp := b :: pec, acked := true })
      if won then { s1 with alertMask := true } else s1
    else s.setIface .twoWire (fun i => { i with resp := [], acked := false }))

/-! ### Meanings: staging (R472 to R475) -/

/-- OPEN. -/
def execOpenSession (p : Port) (data : List Byte) (pec : Option Byte) (t : Nat) (s : State) : Host.Outcome State Fault Refusal :=
  finish s ((s.at t).hostOp p (.stageWrite 0xF0 data pec))

/-- DATA. -/
def execDataFrame (p : Port) (data : List Byte) (pec : Option Byte) (t : Nat) (s : State) : Host.Outcome State Fault Refusal :=
  finish s ((s.at t).hostOp p (.stageWrite 0xF1 data pec))

/-- CLOSE_CHECK: CLOSE with 0x01. -/
def execCloseCheck (p : Port) (pec : Option Byte) (t : Nat) (s : State) : Host.Outcome State Fault Refusal :=
  finish s ((s.at t).hostOp p (.stageWrite 0xF2 [0x01] pec))

/-- CLOSE_ABANDON: CLOSE with 0x00. -/
def execCloseAbandon (p : Port) (pec : Option Byte) (t : Nat) (s : State) : Host.Outcome State Fault Refusal :=
  finish s ((s.at t).hostOp p (.stageWrite 0xF2 [0x00] pec))

/-- STATUS. -/
def execStatus (p : Port) (t : Nat) (s : State) : Host.Outcome State Fault Refusal := finish s ((s.at t).hostOp p .stageRead)

/-- STAGING_COMMIT_DONE: the running lane, or the loader's, has carried out the kept frame; a staging frame held back is served (R474). An MRAM commit starts only with charge on VRES (R23). -/
def execStagingCommitDone (t : Nat) (s : State) : Host.Outcome State Fault Refusal :=
  let s := s.at t
  finish s (match s.upd.frame with
    | some f =>
      if (s.laneRuns || s.flag UPD_STS 8) && (decide (3 ≤ f.target) || (s.vresOk && s.commits.isEmpty)) then (s.stageApply f).resumeAll else s
    | none => s)

/-! ### Meanings: violations (R411, R412) -/

/-- Whether a target detects a violation of a code itself; service and parameters are judged at the commands, and a timeout has its own command. -/
def Port.detects (p : Port) (code : Nat) : Bool := match p with
  | .twoWire => [1, 3, 4, 5, 6, 7, 8, 9, 0x0A, 0x0E].contains code
  | .spi => [1, 3, 4, 7, 8, 9, 0x0C, 0x0D].contains code

/-- HOST_PROTOCOL_VIOLATION: counted and answered; a transaction held back ends with an abort; a read beyond the PEC returns 0xFF. The read row before it brings what a read that is cut off does (DEDUCED, log 141). -/
def execHostProtocolViolation (p : Port) (code : Nat) (cmd : Byte) (idx t : Nat) (s : State) : Host.Outcome State Fault Refusal :=
  let s := s.at t
  finish s (if s.service p == .away || s.service p == .other || !p.detects code then s
  else
    let s1 := ((s.hostWake p).setIface p (fun i => { i with waiting := none })).violation p code cmd.toNat idx (code == 1)
    if code = 0x0A ∨ code = 0x0E then s1.setIface p (fun i => { i with resp := [0xFF], acked := true }) else s1)

/-- HOST_BUS_TIMEOUT: both lines released, the frame discarded, class 10 at once (R411, R416). -/
def execHostBusTimeout (p : Port) (cmd : Byte) (idx t : Nat) (s : State) : Host.Outcome State Fault Refusal :=
  let s := s.at t
  finish s (if p = .spi ∨ s.service p = .away ∨ s.service p = .other then s
  else (s.setIface p (fun i => { i with waiting := none })).violation p 0x0B cmd.toNat idx false)

end Sys2Proof.Machine
end

