-- ==== Sys2Proof/Machine/HostRows.lean ====
section
/-! DEFINITION. The rows that write or read one named register: each is that word's transaction through a host target (R396, R400), with its check byte taken as correct. A row of a context names the context; where the context has another type, the row does not arise. -/

namespace Sys2Proof.Machine

/-- SYS_DORMANT_REQUEST: a write of SYS.DORMANT (R25). -/
def execSysDormantRequest (p : Port) (w : Word) (t : Nat) (s : State) : Host.Outcome State Fault Refusal := finish s ((s.at t).hostOp p (.regWrite SYS_DORMANT w))

/-- FAB_CDATA_WRITE: a coefficient into the shadow bank (R114, R115). -/
def execFabCdataWrite (p : Port) (w : Word) (t : Nat) (s : State) : Host.Outcome State Fault Refusal := finish s ((s.at t).hostOp p (.regWrite FAB_CDATA w))

/-- FAB_SLOT_WRITE: another slot discards the pending shadow (R115). -/
def execFabSlotWrite (p : Port) (w : Word) (t : Nat) (s : State) : Host.Outcome State Fault Refusal := finish s ((s.at t).hostOp p (.regWrite FAB_SLOT w))

/-- FAB_COEF_APPLY: FAB.CAPPLY with APPLY (R114). -/
def execFabCoefApply (p : Port) (w : Word) (t : Nat) (s : State) : Host.Outcome State Fault Refusal := finish s ((s.at t).hostOp p (.regWrite FAB_CAPPLY w))

/-- FAB_COEF_DISCARD: FAB.CAPPLY with DISCARD (R114). -/
def execFabCoefDiscard (p : Port) (w : Word) (t : Nat) (s : State) : Host.Outcome State Fault Refusal := finish s ((s.at t).hostOp p (.regWrite FAB_CAPPLY w))

/-- LANE_SWAP (R341). -/
def execLaneSwap (p : Port) (w : Word) (t : Nat) (s : State) : Host.Outcome State Fault Refusal := finish s ((s.at t).hostOp p (.regWrite LANE_SWAP w))

/-- LANE_RESTART_START: LANE.RESTART with START (R340). -/
def execLaneRestartStart (p : Port) (w : Word) (t : Nat) (s : State) : Host.Outcome State Fault Refusal := finish s ((s.at t).hostOp p (.regWrite LANE_RESTART w))

/-- LANE_CLRBAD: LANE.RESTART with CLRBAD (R343). -/
def execLaneClrbad (p : Port) (w : Word) (t : Nat) (s : State) : Host.Outcome State Fault Refusal := finish s ((s.at t).hostOp p (.regWrite LANE_RESTART w))

/-- IMG_CHECK: IMG.SWITCH with CHECK 1 (R98). -/
def execImgCheck (p : Port) (w : Word) (t : Nat) (s : State) : Host.Outcome State Fault Refusal := finish s ((s.at t).hostOp p (.regWrite IMG_SWITCH w))

/-- IMG_SWITCH: IMG.SWITCH with CHECK 0 (R99). -/
def execImgSwitch (p : Port) (w : Word) (t : Nat) (s : State) : Host.Outcome State Fault Refusal := finish s ((s.at t).hostOp p (.regWrite IMG_SWITCH w))

/-- SAD_CMD_SADDLE (R230). -/
def execSadCmdSaddle (p : Port) (w : Word) (t : Nat) (s : State) : Host.Outcome State Fault Refusal := finish s ((s.at t).hostOp p (.regWrite SAD_CMD w))

/-- SAD_CMD_RETURN (R230). -/
def execSadCmdReturn (p : Port) (w : Word) (t : Nat) (s : State) : Host.Outcome State Fault Refusal := finish s ((s.at t).hostOp p (.regWrite SAD_CMD w))

/-- THR_FORCE_WRITE (R292). -/
def execThrForceWrite (p : Port) (w : Word) (t : Nat) (s : State) : Host.Outcome State Fault Refusal := finish s ((s.at t).hostOp p (.regWrite THR_FORCE w))

/-- SEQ_ON: SEQ.CMD with ON; it acts at the next tick (R310, R321). -/
def execSeqOn (p : Port) (w : Word) (t : Nat) (s : State) : Host.Outcome State Fault Refusal := finish s ((s.at t).hostOp p (.regWrite SEQ_CMD w))

/-- SEQ_OFF: SEQ.CMD with OFF (R310). -/
def execSeqOff (p : Port) (w : Word) (t : Nat) (s : State) : Host.Outcome State Fault Refusal := finish s ((s.at t).hostOp p (.regWrite SEQ_CMD w))

/-- SEQ_FORCE: SEQ.CMD with FORCE (R312). -/
def execSeqForce (p : Port) (w : Word) (t : Nat) (s : State) : Host.Outcome State Fault Refusal := finish s ((s.at t).hostOp p (.regWrite SEQ_CMD w))

/-- FLTOUT_WRITE: FLT.CTL (R355). -/
def execFltoutWrite (p : Port) (w : Word) (t : Nat) (s : State) : Host.Outcome State Fault Refusal := finish s ((s.at t).hostOp p (.regWrite FLT_CTL w))

/-- FAULT_ACK: FLT.ACK (R360). -/
def execFaultAck (p : Port) (w : Word) (t : Nat) (s : State) : Host.Outcome State Fault Refusal := finish s ((s.at t).hostOp p (.regWrite FLT_ACK w))

/-- FAULT_INJECT: FLT.INJECT (R361). -/
def execFaultInject (p : Port) (w : Word) (t : Nat) (s : State) : Host.Outcome State Fault Refusal := finish s ((s.at t).hostOp p (.regWrite FLT_INJECT w))

/-- FE_CLEAR: FE.INFO with VALID 1 (R359). -/
def execFeClear (p : Port) (w : Word) (t : Nat) (s : State) : Host.Outcome State Fault Refusal := finish s ((s.at t).hostOp p (.regWrite FE_INFO w))

/-- BB_CLEAR: BB.CLR (R384). -/
def execBbClear (p : Port) (w : Word) (t : Nat) (s : State) : Host.Outcome State Fault Refusal := finish s ((s.at t).hostOp p (.regWrite BB_CLR w))

/-- CASC_PORT_ENABLE_WRITE: CASC.CFG (R437). -/
def execCascPortEnableWrite (p : Port) (w : Word) (t : Nat) (s : State) : Host.Outcome State Fault Refusal := finish s ((s.at t).hostOp p (.regWrite CASC_CFG w))

/-- CASC_REMOTE_READ: CASC.RCMD with a read (R441). -/
def execCascRemoteRead (p : Port) (w : Word) (t : Nat) (s : State) : Host.Outcome State Fault Refusal := finish s ((s.at t).hostOp p (.regWrite CASC_RCMD w))

/-- CASC_REMOTE_WRITE: CASC.RCMD with a write (R441). -/
def execCascRemoteWrite (p : Port) (w : Word) (t : Nat) (s : State) : Host.Outcome State Fault Refusal := finish s ((s.at t).hostOp p (.regWrite CASC_RCMD w))

/-- CASC_REMOTE_RESET: CASC.RCMD with a reset (R442). -/
def execCascRemoteReset (p : Port) (w : Word) (t : Nat) (s : State) : Host.Outcome State Fault Refusal := finish s ((s.at t).hostOp p (.regWrite CASC_RCMD w))

/-- RST_SW (R452). -/
def execRstSw (p : Port) (w : Word) (t : Nat) (s : State) : Host.Outcome State Fault Refusal := finish s ((s.at t).hostOp p (.regWrite RST_SW w))

/-- RST_BLK (R457). -/
def execRstBlk (p : Port) (w : Word) (t : Nat) (s : State) : Host.Outcome State Fault Refusal := finish s ((s.at t).hostOp p (.regWrite RST_BLK w))

/-- FCNT_START: FCNT.CMD with START (R451). -/
def execFcntStart (p : Port) (w : Word) (t : Nat) (s : State) : Host.Outcome State Fault Refusal := finish s ((s.at t).hostOp p (.regWrite FCNT_CMD w))

/-- FCNT_STOP: FCNT.CMD with STOP (R451). -/
def execFcntStop (p : Port) (w : Word) (t : Nat) (s : State) : Host.Outcome State Fault Refusal := finish s ((s.at t).hostOp p (.regWrite FCNT_CMD w))

/-- FW_ACTIVATE: UPD.FWACT (R477). -/
def execFwActivate (p : Port) (w : Word) (t : Nat) (s : State) : Host.Outcome State Fault Refusal := finish s ((s.at t).hostOp p (.regWrite UPD_FWACT w))

/-- TRIAL_CONFIRM: UPD.CONFIRM (R478). -/
def execTrialConfirm (p : Port) (w : Word) (t : Nat) (s : State) : Host.Outcome State Fault Refusal := finish s ((s.at t).hostOp p (.regWrite UPD_CONFIRM w))

/-- SETTINGS_SAVE: UPD.SAVE (R481). -/
def execSettingsSave (p : Port) (w : Word) (t : Nat) (s : State) : Host.Outcome State Fault Refusal := finish s ((s.at t).hostOp p (.regWrite UPD_SAVE w))

/-- SENSOR_READMIT: TDIE.EXCL0, or TDIE.EXCL1 (R364). -/
def execSensorReadmit (p : Port) (second : Bool) (w : Word) (t : Nat) (s : State) : Host.Outcome State Fault Refusal :=
  finish s ((s.at t).hostOp p (.regWrite (if second then TDIE_EXCL1 else TDIE_EXCL0) w))

/-- BB_PDATA_READ: two bytes at the port pointer, which advances (R390). -/
def execBbPdataRead (p : Port) (t : Nat) (s : State) : Host.Outcome State Fault Refusal := finish s ((s.at t).hostOp p (.regRead BB_PDATA))

/-- SLOT_SET_WRITE (R122, R208). -/
def execSlotSetWrite (p : Port) (slot : Nat) (w : Word) (t : Nat) (s : State) : Host.Outcome State Fault Refusal :=
  finish s (if slot < 256 then (s.at t).hostOp p (.regWrite (slotAddr slot SLOT_SET) w) else s.at t)

/-- DSP_REQUAL: DSP.CFG of a port with REQUAL (R426). -/
def execDspRequal (p : Port) (port : Nat) (w : Word) (t : Nat) (s : State) : Host.Outcome State Fault Refusal :=
  finish s (if port < 4 then (s.at t).hostOp p (.regWrite (DSP_CFG + port) w) else s.at t)

/-- A write of word k of a context of a type. -/
def State.ctxRow (s : State) (p : Port) (typ : CtxType) (c k : Nat) (w : Word) : State :=
  if s.isType c typ then s.hostOp p (.regWrite (ctxAddr c k) w) else s

/-- GRP_FSW_WRITE (R158). -/
def execGrpFswWrite (p : Port) (c : Nat) (w : Word) (t : Nat) (s : State) : Host.Outcome State Fault Refusal := finish s ((s.at t).ctxRow p .group c GRP_FSW w)

/-- FEED_ENABLE_WRITE: FEED.CTL (R185). -/
def execFeedEnableWrite (p : Port) (c : Nat) (w : Word) (t : Nat) (s : State) : Host.Outcome State Fault Refusal := finish s ((s.at t).ctxRow p .feed c FEED_CTL w)

/-- EST_QCLR: EST.CTL with QCLR (R258). -/
def execEstQclr (p : Port) (c : Nat) (w : Word) (t : Nat) (s : State) : Host.Outcome State Fault Refusal := finish s ((s.at t).ctxRow p .string c EST_CTL w)

/-- EST_RELEARN: EST.CTL with RELEARN (R258). -/
def execEstRelearn (p : Port) (c : Nat) (w : Word) (t : Nat) (s : State) : Host.Outcome State Fault Refusal := finish s ((s.at t).ctxRow p .string c EST_CTL w)

/-- EST_COMMIT: EST.CTL with COMMIT (R271). -/
def execEstCommit (p : Port) (c : Nat) (w : Word) (t : Nat) (s : State) : Host.Outcome State Fault Refusal := finish s ((s.at t).ctxRow p .string c EST_CTL w)

/-- POL_EN_WRITE: POL.CTL (R418). -/
def execPolEnWrite (p : Port) (c : Nat) (w : Word) (t : Nat) (s : State) : Host.Outcome State Fault Refusal := finish s ((s.at t).ctxRow p .pol c POL_CTL w)

/-- POL_VSET_WRITE: POL.VSET (R418). -/
def execPolVsetWrite (p : Port) (c : Nat) (w : Word) (t : Nat) (s : State) : Host.Outcome State Fault Refusal := finish s ((s.at t).ctxRow p .pol c POL_VSET w)

end Sys2Proof.Machine
end

