-- ==== Sys2Proof/Machine/Links.lean ====
section
/-! DEFINITION. Frames received on the Utwiesk ports (R434 to R442): the frame checks, what is taken in and passed on, and remote access as a third interface. -/

namespace Sys2Proof.Machine

/-! ### Remote access (R441, R442) -/

/-- Whether a remote message is served: from position 0, while a lane holds authority. -/
def State.remoteServed (s : State) (src : Nat) : Bool := s.laneRuns && src == 0

/-- A remote access refused while RACC is 0: result 0x01 and event 0x07. -/
def State.refuseRemote (s : State) (p : List Byte) : State := (s.answer (p.getD 2 0) 1 (0, 0)).linkEvent false 7

/-- REMOTE READ: the word with its quality code, a wide value from the shadow copy of remote accesses; the effects of a read act (R38, R398, R441). -/
def State.takeRead (s : State) (src : Nat) (p : List Byte) : State :=
  if !s.remoteServed src then s
  else if !s.remoteOpen then s.refuseRemote p
  else
    let a := field p 0 2
    let x := s.latchRead s.casc.shadow a
    let s1 := s.afterRead a
    { s1 with casc := { s1.casc with shadow := x.2 } }.answer (p.getD 2 0) 0 x.1

/-- REMOTE WRITE: journalled, applied and answered; held back while the journal is full (R332, R441). -/
def State.takeWrite (s : State) (src : Nat) (p : List Byte) : State :=
  if !s.remoteServed src then s
  else if !s.remoteOpen then s.refuseRemote p
  else
    let a := field p 0 2
    let w := (w3rField p 4).1
    if journalled a && decide (128 ≤ s.journal.length) then { s with casc := { s.casc with held := some p } }
    else
      let s1 := if journalled a then { s with journal := s.journal ++ [{ addr := a, word := w, via := 9, applied := s.now, commits := 0 }] } else s
      (s1.applyWrite 9 a w).answer (p.getD 2 0) 0 (0, 0)

/-- A remote write held back is served once the journal has room. -/
def State.resumeRemote (s : State) : State := match s.casc.held with
  | some p => if s.laneRuns then ({ s with casc := { s.casc with held := none } }).takeWrite 0 p else s
  | none => s

/-- RESET: accepted with RACC 1 and the two key bytes; the record is offered first (R442). -/
def State.takeReset (s : State) (src : Nat) (p : List Byte) : State :=
  if s.remoteServed src && s.remoteOpen && decide (p.getD 0 0 = 0xC5) && decide (p.getD 1 0 = 0x5C) then (s.linkEvent false 8).deviceReset 7 else s

/-! ### Frames (R434, R435) -/

/-- A message taken in. -/
def State.takeMessage (s : State) (down : Bool) (typ src : Nat) (p : List Byte) : State := match typ with
  | 0x01 => s.takeHello down p
  | 0x02 => s.takeEcho down p
  | 0x03 => if down then s.takeReply p else s
  | 0x04 => if down then s else s.takeTime p
  | 0x10 => s.takeReport src p
  | 0x11 => s.takeAllocs p
  | 0x20 => s.takeRead src p
  | 0x21 => s.takeWrite src p
  | 0x22 => s.takeAnswer src p
  | _ => s.takeReset src p

/-- A whole frame: counted, passed on where it is not for this chip alone, and taken in where it is for this chip. -/
def State.takeFrame (s : State) (down : Bool) (f : List Byte) : State :=
  let h := (f.getD 1 0).toNat
  let all := h / 8 % 2 = 1
  let mine := h / 16 % 8 = s.cpos
  let s1 := s.trackSeq down (f.getD 2 0).toNat
  let s2 := if all ∨ ¬ mine then s1.passOn down f else s1
  if all ∨ mine then s2.takeMessage down (f.getD 0 0).toNat (h % 8) ((f.drop 4).take (f.length - 8)) else s2

/-- Receive activity on a port that is not in reset or disabled: a wake source (R17, R27, R29, R32). -/
def State.linkActivity (s : State) (down : Bool) : State :=
  if s.linkEnabled down && !s.flag RST_BLKSTS (6 + b2n down) then s.wakeEvent 5 else s

/-- What reaches a port: its activity first; a Dormant port only watches (R17). DEDUCED, log 150. -/
def State.received (s : State) (down : Bool) (f : State → State) : State :=
  let s1 := s.linkActivity down
  if s.sys = sysDormant then s1 else f s1

/-- LINK_TRAINED: 128 valid idle pairs (R437), of a port that is not in reset (R457); in Dormant the activity only wakes (R17). -/
def execLinkTrained (down : Bool) (t : Nat) (s : State) : Host.Outcome State Fault Refusal :=
  finish s (((s.at t).clearOut).received down fun s =>
    if s.linkState down = linkTraining ∧ s.flag RST_BLKSTS (6 + b2n down) = false then ((s.setLinkState down linkHandshake).linkChange down linkTraining).helloOut down else s)

/-- A frame taken in: in Handshake only a HELLO counts, whatever position it is addressed to, since it checks the wiring; without a lane a port that is Up takes nothing (R437). -/
def State.frameIn (s : State) (down : Bool) (frame : List Byte) (violations : Nat) : State :=
  let ok := frameOk frame violations
  if s.linkState down = linkHandshake then
    if !ok then s.discardFrame down (frame.getD 0 0).toNat
    else
      let s1 := s.trackSeq down (frame.getD 2 0).toNat
      if frame.getD 0 0 = 0x01 then s1.takeHello down ((frame.drop 4).take (frame.length - 8)) else s1
  else if s.linkState down = linkIsUp && s.laneRuns then
    if !ok then s.discardFrame down (frame.getD 0 0).toNat else s.takeFrame down frame
  else s

/-- LINK_FRAME_RECEIVE: the bytes between K27.7 and K29.7 with the code violations seen in them. -/
def execLinkFrameReceive (down : Bool) (frame : List Byte) (violations t : Nat) (s : State) : Host.Outcome State Fault Refusal :=
  finish s (((s.at t).clearOut).received down fun s => (s.countCodes down violations).frameIn down frame violations)

/-- HELLO: a HELLO received on a port (R437). -/
def execHello (down : Bool) (payload : List Byte) (t : Nat) (s : State) : Host.Outcome State Fault Refusal :=
  finish s (((s.at t).clearOut).received down fun s => s.takeHello down payload)

/-- ECHO_REQUEST: answered with the turnaround (R436); request and reply leave at the same instant of the model. -/
def execEchoRequest (down : Bool) (payload : List Byte) (t : Nat) (s : State) : Host.Outcome State Fault Refusal :=
  finish s (((s.at t).clearOut).received down fun s => s.takeEcho down payload)

/-- ECHO_REPLY: the one-way delay measured (R439). -/
def execEchoReply (payload : List Byte) (t : Nat) (s : State) : Host.Outcome State Fault Refusal :=
  finish s (((s.at t).clearOut).received true fun s => s.takeReply payload)

/-- TIME: CASC.HOPDLY and CASC.TOFS (R439). -/
def execTime (payload : List Byte) (t : Nat) (s : State) : Host.Outcome State Fault Refusal :=
  finish s (((s.at t).clearOut).received false fun s => s.takeTime payload)

/-- REPORT: taken in by the master (R440). -/
def execReport (src : Nat) (payload : List Byte) (t : Nat) (s : State) : Host.Outcome State Fault Refusal :=
  finish s (((s.at t).clearOut).received true fun s => s.takeReport src payload)

/-- ALLOC: the allocation of this chip, for its next tick (R295). -/
def execAlloc (payload : List Byte) (t : Nat) (s : State) : Host.Outcome State Fault Refusal :=
  finish s (((s.at t).clearOut).received false fun s => s.takeAllocs payload)

/-- REMOTE_ANSWER: the master's access ends (R441). -/
def execRemoteAnswer (src : Nat) (payload : List Byte) (t : Nat) (s : State) : Host.Outcome State Fault Refusal :=
  finish s (((s.at t).clearOut).received true fun s => if s.laneRuns then s.takeAnswer src payload else s)

/-- REMOTE_READ (R441). -/
def execRemoteRead (src : Nat) (payload : List Byte) (t : Nat) (s : State) : Host.Outcome State Fault Refusal :=
  finish s (((s.at t).clearOut).received false fun s => s.takeRead src payload)

/-- REMOTE_WRITE (R441). -/
def execRemoteWrite (src : Nat) (payload : List Byte) (t : Nat) (s : State) : Host.Outcome State Fault Refusal :=
  finish s (((s.at t).clearOut).received false fun s => s.takeWrite src payload)

/-- RESET (R442). -/
def execReset (src : Nat) (payload : List Byte) (t : Nat) (s : State) : Host.Outcome State Fault Refusal :=
  finish s (((s.at t).clearOut).received false fun s => s.takeReset src payload)

end Sys2Proof.Machine
end

