-- ==== Sys2Proof/Machine/Takeover.lean ====
section
/-! DEFINITION. How a lane comes into charge: a checkpoint commit with what waited for it, the restore of an incoming lane, and its first stamped command, which ends a Col, a Plain hold, a wake or a start-up (R26, R334 to R340, R462). -/

namespace Sys2Proof.Machine

/-! ### A checkpoint commit (R26, R330 to R334) -/

/-- Whether no host transaction is held back (R416). -/
def State.targetsIdle (s : State) : Bool := s.tw.waiting.isNone && s.spi.waiting.isNone

/-- What follows a commit: a Dormant entry once both targets are idle, else an image switch or a swap that waited for this boundary, and the accesses held back by a full journal. -/
def State.afterCommit (s : State) (boundary : Nat) : State :=
  if s.arb.entryWait && decide (s.arb.askedAt ≤ boundary) && s.targetsIdle then s.enterDormant
  else if s.arb.entryWait then s.resumeAll.resumeRemote
  else ((s.changeLanes boundary).resumeAll).resumeRemote

/-- CHECKPOINT_COMMIT_DONE: the epoch number is written (R330, R331); a Dormant entry, an image switch or a swap that waited for it begins (R26, R334). -/
def execCheckpointCommitDone (t : Nat) (s : State) : Host.Outcome State Fault Refusal :=
  let s := s.at t
  finish s (match s.laneRuns, s.commit with
    | true, some ck => (s.commitCkpt ck).afterCommit (1000 * ck.epoch)
    | _, _ => s)

/-! ### Restore (R131, R332, R333, R358) -/

/-- The journal replayed in order, under the rules of any write (R332); a word that the image does not have is ignored. -/
def State.replay (s : State) : State := s.forEach s.journal (fun e s => s.applyWrite e.via e.addr e.word)

/-- What follows the lane's own state at a restore: the fabric rebuilt, the journal replayed, lane records of lost epochs discarded and owed again (R357), and the match list made of the raises of those epochs. -/
def State.afterRestore (s : State) (im : Image) (epoch : Nat) : State :=
  let s1 := ((s.rebuildFabric im).replay).discardStaged epoch
  let s2 := { s1 with inputQueue := s1.inputQueue.filter (fun q => decide (1000 * epoch ≤ q.2.2)) }
  let again := s1.flt.laneRaises.filter (fun r => decide (epoch ≤ r.2.2.2))
  { s2 with flt := { s2.flt with log := s2.flt.log.map (fun e => if e.recorded.any (fun n => decide (epoch < n)) then { e with recorded := none } else e), matches_ := again.map (fun r => (r.1, r.2.1, r.2.2.1)) } }

/-- An incoming lane restores: the newest checkpoint under the image it was made with. The restore of an image switch is made under the new image, at the first stamped command (R99). -/
def State.restoreLane (s : State) (k : ColKind) : State := match s.newestCkpt with
  | none => s.restoreFails 3
  | some ck =>
    let s1 := { s with arb := { s.arb with restored := true } }
    if k = .imageSwitch then s1
    else match s1.image with
      | some im => (s1.restoreSame ck).afterRestore im ck.epoch
      | none => s1

/-- A buffer in which SECDED flags a double-bit error is not valid: class 15 is raised and the restore falls back to the other one (R21, R345); LANE.EPOCH shows the newest that is left. -/
def State.dropBuffers (s : State) (badA badB : Bool) : State :=
  if !badA && !badB then s
  else
    let s0 := { s with ckptA := if badA then none else s.ckptA, ckptB := if badB then none else s.ckptB }
    let s1 := (s0.onlyIf (badA && s.ckptA.isSome) (fun s => s.coreRaise 15 0 none 1502)).onlyIf (badB && s.ckptB.isSome) (fun s => s.coreRaise 15 0 none 1502)
    match s1.newestCkpt with
    | some ck => s1.setWide LANE_EPOCH 4 ck.epoch
    | none => s1

/-- LANE_RESTORE_COMPLETE: the incoming lane has read the checkpoint, rebuilt the fabric and replayed the journal (R334, t3); the operand says in which buffers SECDED has flagged a double-bit error, a single-bit error being corrected (R21). Without a valid buffer the restore fails (R336). -/
def execLaneRestoreComplete (inp : RestoreIn) (s : State) : Host.Outcome State Fault Refusal :=
  let s := s.at inp.t
  finish s (match s.holder, s.arb.col with
    | some _, some k => if k = .startUp ∨ k = .ret ∨ s.arb.powered = false ∨ s.arb.restored = true then s else (s.dropBuffers inp.badA inp.badB).restoreLane k
    | _, _ => s)

/-! ### The first stamped command (R334, t4) -/

/-- Whether the holder may issue its first stamped command: restored, and at a start with an image. -/
def State.readyToStamp (s : State) : Bool :=
  s.holder.isSome && s.arb.col.isSome && !s.arb.silent && (if s.arb.col = some .startUp then s.image.isSome && s.upd.check.isNone else s.arb.restored)

/-- The lane in charge: running, a halted one cold, LANE.AUTH.COL 0 with LANE.COLLAST where a Col ends, SYS.STATE Normal, the heartbeat judged from here. -/
def State.inCharge (s : State) (l : LaneId) : State :=
  let s1 := s.setLane l laneRunning
  let s2 := if s1.laneState l.other = laneHalted then s1.setLane l.other laneCold else s1
  let s3 := if s2.flag LANE_AUTH 13 then (s2.setReg LANE_COLLAST (toSeconds (s2.now - s2.arb.beatAt))).setFlag LANE_AUTH 13 false else s2
  (({ s3 with halted := none, arb := { s3.arb with col := none, stamped := true, lastBeat := s3.now / 1000 * 1000, beatAt := s3.now } }).setSys sysNormal).freeChannels

/-- Qualification re-established where no checkpoint gives it (R186): an open feed restarts FEED.TQUAL; one that is driven stays qualified only while its conditions hold now. -/
def State.requalifyFeeds (s : State) : State := s.forEach (s.ofType .feed) fun r s =>
  let c := r.ctx
  if s.drive r.a0 = 0 then ((((s.setQualified c false).stop (.qualify c)).stop (.disqualify c)).trackFeed c)
  else if s.qualified c && !s.feedOk c then s.loseQualification c else s

/-- The checkpoint carried into the new image at the end of an image switch, and the new image in use (R99, R132). -/
def State.switchIn (s : State) : State := match s.nextImage, s.image, s.newestCkpt with
  | some new, some old, some ck =>
    let s1 := { s with image := some new, nextImage := none, clk := { s.clk with overrides := new.overrides } }.restoreUnder ck old new
    (((s1.afterRestore new ck.epoch).portEnables).onlyIf (!carriesOver old new) State.requalifyFeeds).seeStale
  | _, _, _ => s

/-- What an image switch shows at its end: SWITCHED, versions and slot, and a trial unless the slot is the Active one it falls back to (R97, R99, R477 to R479). -/
def State.switchDone (s : State) : State := match s.upd.check, s.image with
  | some (.switch, slot), some im =>
    let s1 := (((s.gOffer 4 3).alert 3).showImage im slot)
    let s2 := { s1 with upd := { s1.upd with check := none } }.showBusy
    if s2.slotState true slot = slotActive then (s2.setFlag UPD_STS 4 false).releaseKept
    else (s2.setSlotState true slot slotTrial).startTrial true slot
  | _, _ => s

/-- What a swap shows at its end, and the trial of firmware it was for (R341, R477, R478). -/
def State.swapDone (s : State) : State :=
  let s1 := (s.setFlag LANE_STS 1 true).inc LANE_SWAPCNT
  match s1.upd.act, s1.upd.copied with
  | some slot, true => ({ s1 with upd := { s1.upd with act := none, copied := false, fw := some slot } }).startTrial false slot
  | _, _ => s1

/-- The lane start record, the other lane's retained memory, and the trial of firmware that the loader started (R323, R381, R462, R482). -/
def State.startDone (s : State) : State :=
  let s1 := s.fillOther.fillOtherPrograms.writeRec 0x0204 0xFF (s.w3r RST_CAUSE ++ s.w3r IMG_ACTIVE ++ leBytes 4 (s.wide UPD_FWVER 2) ++ zeros 2)
  match s1.upd.act, s1.upd.copied with
  | some slot, true => ({ s1 with upd := { s1.upd with act := none, copied := false, fw := some slot } }).startTrial false slot
  | _, _ => s1

/-- The rest count of a string starts again (R266). -/
def State.restartRest (s : State) (c : Nat) : State := (s.stop (.rest c)).setFlag (ctxAddr c EST_STS) 3 false

/-- Rest counts over a Col: a count goes on where the charge of the Col stayed below EST.IREST times its length (R266). -/
def State.restsAfterCol (s : State) : State := s.forEach (s.ofType .string) fun r s =>
  let c := r.ctx
  let q := (s.coul c).acc - ((find s.arb.colCharge c).getD {}).acc
  let lim := pu (s.cw c EST_IREST) * ef (s.cw c CTX_IBASE) * (((s.now - s.arb.colStart : Nat) : Rat) / ticksPerSecond)
  if s.running (.rest c) && decide (lim ≤ max q (-q)) then s.restartRest c else s

/-- The end of a Plain hold: its record, LANE.ARCNT, and the counts that start again (R186, R226, R266, R340). The feeds are judged here and not at the first tick (DEDUCED, log 157). -/
def State.holdDone (s : State) : State :=
  let s1 := s.coreRec 0x0003 (s.laneBytes ++ leBytes 7 (s.now - s.arb.holdStart) ++ zeros 3)
  let s2 := ((s1.setReg LANE_ARCNT 0).stop .autoRestart).requalifyFeeds
  let s3 := (s2.stop .stable).setFlag SAD_STATE 4 false
  ({ s3 with lane := { s3.lane with stableFor := none, dwellEnd := s3.now } }).forEach (s3.ofType .string) (fun r s => s.restartRest r.ctx)

/-- The entry actions of the Saddle machine's state issued again (R225, R232). -/
def State.resumeSaddle (s : State) : State := match s.sad with
  | 1 => s.catchActions
  | 2 => s.setHold (s.reg SAD_VHOLD) false
  | 4 => match s.sadTarget with
    | some c => s.setHold (toPU (pu (s.cw c FEED_VIN) * ef (s.cw c CTX_VBASE) / ef (s.cw 0 CTX_VBASE))) true
    | none => s
  | 5 => s.closeActions
  | 6 => (s.modeAll 1 (some false)).setRelease s.availableGroups 0
  | _ => s

/-- The firmware that the lane in charge runs, which its SRAM holds; a firmware fallback that waited is over on a lane with other code (R479), and a trial whose lane lost the shelf has fallen back with it (R479). -/
def State.firmwareInCharge (s : State) (l : LaneId) : State :=
  let s1 := match find s.upd.mem l with
    | some slot => if s.flag UPD_STS 4 && !s.running .fallback && s.slotState false slot != slotFailed then (s.runFirmware slot).setFlag UPD_STS 4 false else s.runFirmware slot
    | none => s
  match s1.upd.trial with
  | some x => if !x.image && x.lane != l then s1.failTrial x true else s1
  | none => s1

/-- What each kind of take-over leaves at its end. -/
def State.takeoverDone (s : State) : ColKind → State
  | .swap => s.restsAfterCol.catchUp.swapDone
  | .imageSwitch => s.restsAfterCol.catchUp.switchDone
  | .timeout | .handback | .ret => s.restsAfterCol.catchUp
  | .restart => s.holdDone
  | .wake | .abort => s
  | .startUp => s.startDone

/-- The lane's state just before its first stamped command: the switch's restore, or the last committed epoch of a lane that had halted, which has kept it (R336). -/
def State.beforeStamp (s : State) (k : ColKind) : State := match k, s.image with
  | .imageSwitch, _ => s.switchIn
  | .ret, some im => match s.halted with
    | some ck => (s.restoreSame ck).afterRestore im ck.epoch
    | none => s
  | _, _ => s

/-- FIRST_STAMPED_COMMAND: the incoming lane takes charge (R334, t4): the Col or the Plain hold ends, the held groups return at their next sample instant (R172), and what waited for a lane goes on: the fault records, the inputs, the downstream commands (R420), and the accesses held back. -/
def execFirstStampedCommand (t : Nat) (s : State) : Host.Outcome State Fault Refusal :=
  let s := s.at t
  finish s (match s.readyToStamp, s.holder, s.arb.col with
    | true, some l, some k =>
      let s1 := (((s.beforeStamp k).inCharge l).flushSlots.flushSave).firmwareInCharge l
      let s2 := (s1.takeoverDone k).resumeSaddle
      ((s2.recordLog.drainInputs (k = .restart ∨ k = .startUp)).takeHeld.pumpAll.resumeAll).resumeRemote
    | _, _, _ => s)

end Sys2Proof.Machine
end

