-- ==== Sys2Proof/Machine/Dispatch.lean ====
section
/-! DEFINITION. One arm per command: the meaning it has. -/

namespace Sys2Proof.Machine

/-- What a command does to everything but the queue. -/
def exec (i : Instr) (s : State) : Host.Outcome State Fault Refusal :=
  match i with
  | .wordWrite p code b0 b1 b2 pec t => Sys2Proof.Machine.execWordWrite p code b0 b1 b2 pec t s
  | .wordRead p code t => Sys2Proof.Machine.execWordRead p code t s
  | .wideValueFirstRead p code t => Sys2Proof.Machine.execWideValueFirstRead p code t s
  | .ptrWrite p lo hi pec t => Sys2Proof.Machine.execPtrWrite p lo hi pec t s
  | .ptrRead p t => Sys2Proof.Machine.execPtrRead p t s
  | .blockRead p n t => Sys2Proof.Machine.execBlockRead p n t s
  | .blockWrite p n data pec t => Sys2Proof.Machine.execBlockWrite p n data pec t s
  | .cpageWrite p v pec t => Sys2Proof.Machine.execCpageWrite p v pec t s
  | .cpageRead p t => Sys2Proof.Machine.execCpageRead p t s
  | .gpageWrite p v pec t => Sys2Proof.Machine.execGpageWrite p v pec t s
  | .gpageRead p t => Sys2Proof.Machine.execGpageRead p t s
  | .freeze p pec t => Sys2Proof.Machine.execFreeze p pec t s
  | .thaw p pec t => Sys2Proof.Machine.execThaw p pec t s
  | .freezeRead p t => Sys2Proof.Machine.execFreezeRead p t s
  | .summary p t => Sys2Proof.Machine.execSummary p t s
  | .receiveWithoutCommand t => Sys2Proof.Machine.execReceiveWithoutCommand t s
  | .addressProbe t => Sys2Proof.Machine.execAddressProbe t s
  | .spiNoop t => Sys2Proof.Machine.execSpiNoop t s
  | .alertResponse won t => Sys2Proof.Machine.execAlertResponse won t s
  | .openSession p data pec t => Sys2Proof.Machine.execOpenSession p data pec t s
  | .dataFrame p data pec t => Sys2Proof.Machine.execDataFrame p data pec t s
  | .stagingCommitDone t => Sys2Proof.Machine.execStagingCommitDone t s
  | .closeCheck p pec t => Sys2Proof.Machine.execCloseCheck p pec t s
  | .stagingCheckDone t => Sys2Proof.Machine.execStagingCheckDone t s
  | .closeAbandon p pec t => Sys2Proof.Machine.execCloseAbandon p pec t s
  | .status p t => Sys2Proof.Machine.execStatus p t s
  | .hostProtocolViolation p code cmd idx t => Sys2Proof.Machine.execHostProtocolViolation p code cmd idx t s
  | .hostBusTimeout p cmd idx t => Sys2Proof.Machine.execHostBusTimeout p cmd idx t s
  | .sysDormantRequest p w t => Sys2Proof.Machine.execSysDormantRequest p w t s
  | .dormantEntryAbort src t => Sys2Proof.Machine.execDormantEntryAbort src t s
  | .wake src t => Sys2Proof.Machine.execWake src t s
  | .frame inp => Sys2Proof.Machine.execFrame inp s
  | .sampleInstant c v cur late t => Sys2Proof.Machine.execSampleInstant c v cur late t s
  | .shelfTick late t => Sys2Proof.Machine.execShelfTick late t s
  | .governorChange g t => Sys2Proof.Machine.execGovernorChange g t s
  | .fabCdataWrite p w t => Sys2Proof.Machine.execFabCdataWrite p w t s
  | .fabSlotWrite p w t => Sys2Proof.Machine.execFabSlotWrite p w t s
  | .fabCoefApply p w t => Sys2Proof.Machine.execFabCoefApply p w t s
  | .fabCoefDiscard p w t => Sys2Proof.Machine.execFabCoefDiscard p w t s
  | .slotSetWrite p slot w t => Sys2Proof.Machine.execSlotSetWrite p slot w t s
  | .slotEnable slot t => Sys2Proof.Machine.execSlotEnable slot t s
  | .epochBoundary t => Sys2Proof.Machine.execEpochBoundary t s
  | .checkpointCommitDone t => Sys2Proof.Machine.execCheckpointCommitDone t s
  | .heartbeatTimeout t => Sys2Proof.Machine.execHeartbeatTimeout t s
  | .laneHandback t => Sys2Proof.Machine.execLaneHandback t s
  | .authorityConflict l holder gen acc addr t => Sys2Proof.Machine.execAuthorityConflict l holder gen acc addr t s
  | .lanePowered t => Sys2Proof.Machine.execLanePowered t s
  | .laneRestoreComplete inp => Sys2Proof.Machine.execLaneRestoreComplete inp s
  | .firstStampedCommand t => Sys2Proof.Machine.execFirstStampedCommand t s
  | .restoreFail conflict t => Sys2Proof.Machine.execRestoreFail conflict t s
  | .laneSwap p w t => Sys2Proof.Machine.execLaneSwap p w t s
  | .laneRestartStart p w t => Sys2Proof.Machine.execLaneRestartStart p w t s
  | .laneClrbad p w t => Sys2Proof.Machine.execLaneClrbad p w t s
  | .laneAutoRestart t => Sys2Proof.Machine.execLaneAutoRestart t s
  | .laneWatchdogExpiry l t => Sys2Proof.Machine.execLaneWatchdogExpiry l t s
  | .imgCheck p w t => Sys2Proof.Machine.execImgCheck p w t s
  | .imgSwitch p w t => Sys2Proof.Machine.execImgSwitch p w t s
  | .loaderCheckDone t => Sys2Proof.Machine.execLoaderCheckDone t s
  | .groupEnable c t => Sys2Proof.Machine.execGroupEnable c t s
  | .groupDisable c t => Sys2Proof.Machine.execGroupDisable c t s
  | .grpFswWrite p c w t => Sys2Proof.Machine.execGrpFswWrite p c w t s
  | .groupPowerGood c t => Sys2Proof.Machine.execGroupPowerGood c t s
  | .groupPowerGoodLost c t => Sys2Proof.Machine.execGroupPowerGoodLost c t s
  | .softStartTimeout c t => Sys2Proof.Machine.execSoftStartTimeout c t s
  | .hiccupEnd c t => Sys2Proof.Machine.execHiccupEnd c t s
  | .groupRetrycntClear c t => Sys2Proof.Machine.execGroupRetrycntClear c t s
  | .phaseTrip ph nv t => Sys2Proof.Machine.execPhaseTrip ph nv t s
  | .phaseTripRepeat ph t => Sys2Proof.Machine.execPhaseTripRepeat ph t s
  | .phaseImbalanceBlockEnd c t => Sys2Proof.Machine.execPhaseImbalanceBlockEnd c t s
  | .syncAcquire c hz t => Sys2Proof.Machine.execSyncAcquire c hz t s
  | .syncAligned c t => Sys2Proof.Machine.execSyncAligned c t s
  | .syncLoss c t => Sys2Proof.Machine.execSyncLoss c t s
  | .shedTransitionEnd c t => Sys2Proof.Machine.execShedTransitionEnd c t s
  | .gateTrip ch nv t => Sys2Proof.Machine.execGateTrip ch nv t s
  | .channelEnhanced ch t => Sys2Proof.Machine.execChannelEnhanced ch t s
  | .channelEnhancementLost ch t => Sys2Proof.Machine.execChannelEnhancementLost ch t s
  | .attemptTimerExpiry ch t => Sys2Proof.Machine.execAttemptTimerExpiry ch t s
  | .feedEnableWrite p c w t => Sys2Proof.Machine.execFeedEnableWrite p c w t s
  | .feedQualified c t => Sys2Proof.Machine.execFeedQualified c t s
  | .feedQualificationLost c t => Sys2Proof.Machine.execFeedQualificationLost c t s
  | .feedOldGateOff t => Sys2Proof.Machine.execFeedOldGateOff t s
  | .feedSlowOff t => Sys2Proof.Machine.execFeedSlowOff t s
  | .feedDeadTimeEnd t => Sys2Proof.Machine.execFeedDeadTimeEnd t s
  | .feedSlowOn t => Sys2Proof.Machine.execFeedSlowOn t s
  | .idealDiodeTurnOn c t => Sys2Proof.Machine.execIdealDiodeTurnOn c t s
  | .branchEnable c t => Sys2Proof.Machine.execBranchEnable c t s
  | .branchDisable c t => Sys2Proof.Machine.execBranchDisable c t s
  | .branchPowerGood c t => Sys2Proof.Machine.execBranchPowerGood c t s
  | .branchPowerGoodDrop c t => Sys2Proof.Machine.execBranchPowerGoodDrop c t s
  | .branchLimitStart c t => Sys2Proof.Machine.execBranchLimitStart c t s
  | .branchLimitEnd c t => Sys2Proof.Machine.execBranchLimitEnd c t s
  | .branchOvertemp c t => Sys2Proof.Machine.execBranchOvertemp c t s
  | .branchCooldownEnd c t => Sys2Proof.Machine.execBranchCooldownEnd c t s
  | .brCoolremUpdate c t => Sys2Proof.Machine.execBrCoolremUpdate c t s
  | .branchRetrycntClear c t => Sys2Proof.Machine.execBranchRetrycntClear c t s
  | .stringEnable c t => Sys2Proof.Machine.execStringEnable c t s
  | .stringDisable c t => Sys2Proof.Machine.execStringDisable c t s
  | .stringCutoff c t => Sys2Proof.Machine.execStringCutoff c t s
  | .stringCutoffExit c t => Sys2Proof.Machine.execStringCutoffExit c t s
  | .dhCooldownEnd c t => Sys2Proof.Machine.execDhCooldownEnd c t s
  | .dhRetrycntClear c t => Sys2Proof.Machine.execDhRetrycntClear c t s
  | .hollowStart v t => Sys2Proof.Machine.execHollowStart v t s
  | .hollowEnd t => Sys2Proof.Machine.execHollowEnd t s
  | .hollowTloss t => Sys2Proof.Machine.execHollowTloss t s
  | .hrefFormed t => Sys2Proof.Machine.execHrefFormed t s
  | .sadCmdSaddle p w t => Sys2Proof.Machine.execSadCmdSaddle p w t s
  | .sadCmdReturn p w t => Sys2Proof.Machine.execSadCmdReturn p w t s
  | .saddleFeedsOff t => Sys2Proof.Machine.execSaddleFeedsOff t s
  | .saddleComplete t => Sys2Proof.Machine.execSaddleComplete t s
  | .saddleDwellEnd t => Sys2Proof.Machine.execSaddleDwellEnd t s
  | .saddleStable t => Sys2Proof.Machine.execSaddleStable t s
  | .returnMatchDone t => Sys2Proof.Machine.execReturnMatchDone t s
  | .returnCloseDone t => Sys2Proof.Machine.execReturnCloseDone t s
  | .returnUnloadDone t => Sys2Proof.Machine.execReturnUnloadDone t s
  | .chargeEvaluation c t => Sys2Proof.Machine.execChargeEvaluation c t s
  | .chargeSuspendEnd c t => Sys2Proof.Machine.execChargeSuspendEnd c t s
  | .chargeTermination c t => Sys2Proof.Machine.execChargeTermination c t s
  | .topoffEnd c t => Sys2Proof.Machine.execTopoffEnd c t s
  | .chargeSafetyTimeout c t => Sys2Proof.Machine.execChargeSafetyTimeout c t s
  | .prechargeTimeout c t => Sys2Proof.Machine.execPrechargeTimeout c t s
  | .rechargeStart c t => Sys2Proof.Machine.execRechargeStart c t s
  | .supervisedFull c t => Sys2Proof.Machine.execSupervisedFull c t s
  | .cellOvTrip n k t => Sys2Proof.Machine.execCellOvTrip n k t s
  | .estimatorEvaluation t => Sys2Proof.Machine.execEstimatorEvaluation t s
  | .restCorrection c t => Sys2Proof.Machine.execRestCorrection c t s
  | .estQclr p c w t => Sys2Proof.Machine.execEstQclr p c w t s
  | .estRelearn p c w t => Sys2Proof.Machine.execEstRelearn p c w t s
  | .estCommit p c w t => Sys2Proof.Machine.execEstCommit p c w t s
  | .learnedCommitPeriodic t => Sys2Proof.Machine.execLearnedCommitPeriodic t s
  | .learnedCommitDone t => Sys2Proof.Machine.execLearnedCommitDone t s
  | .rectShareError c t => Sys2Proof.Machine.execRectShareError c t s
  | .throttleRelease n t => Sys2Proof.Machine.execThrottleRelease n t s
  | .thrForceWrite p w t => Sys2Proof.Machine.execThrForceWrite p w t s
  | .cascadeReportSend t => Sys2Proof.Machine.execCascadeReportSend t s
  | .cascadeAllocSend t => Sys2Proof.Machine.execCascadeAllocSend t s
  | .allocTimeout t => Sys2Proof.Machine.execAllocTimeout t s
  | .fballocApply t => Sys2Proof.Machine.execFballocApply t s
  | .reportTimeout n t => Sys2Proof.Machine.execReportTimeout n t s
  | .scanComplete raw t => Sys2Proof.Machine.execScanComplete raw t s
  | .railTonExpiry c t => Sys2Proof.Machine.execRailTonExpiry c t s
  | .railRiseTimeout c t => Sys2Proof.Machine.execRailRiseTimeout c t s
  | .railToffExpiry c t => Sys2Proof.Machine.execRailToffExpiry c t s
  | .railFallTimeout c t => Sys2Proof.Machine.execRailFallTimeout c t s
  | .railDischargeEnd c t => Sys2Proof.Machine.execRailDischargeEnd c t s
  | .graphOffWaitEnd g t => Sys2Proof.Machine.execGraphOffWaitEnd g t s
  | .seqOn p w t => Sys2Proof.Machine.execSeqOn p w t s
  | .seqOff p w t => Sys2Proof.Machine.execSeqOff p w t s
  | .seqForce p w t => Sys2Proof.Machine.execSeqForce p w t s
  | .inputAccept pin level t => Sys2Proof.Machine.execInputAccept pin level t s
  | .inputIntervalEnd pin t => Sys2Proof.Machine.execInputIntervalEnd pin t s
  | .pbLongPress t => Sys2Proof.Machine.execPbLongPress t s
  | .seqFltDriveRelease t => Sys2Proof.Machine.execSeqFltDriveRelease t s
  | .faultRaise cls c sev site init acc addr t => Sys2Proof.Machine.execFaultRaise cls c sev site init acc addr t s
  | .fltPulseEnd t => Sys2Proof.Machine.execFltPulseEnd t s
  | .fltoutWrite p w t => Sys2Proof.Machine.execFltoutWrite p w t s
  | .faultAck p w t => Sys2Proof.Machine.execFaultAck p w t s
  | .faultInject p w t => Sys2Proof.Machine.execFaultInject p w t s
  | .feClear p w t => Sys2Proof.Machine.execFeClear p w t s
  | .dieSensorMeasure temps t => Sys2Proof.Machine.execDieSensorMeasure temps t s
  | .sensorReadmit p second w t => Sys2Proof.Machine.execSensorReadmit p second w t s
  | .dieLevelLeave t => Sys2Proof.Machine.execDieLevelLeave t s
  | .recordOffer code c payload t => Sys2Proof.Machine.execRecordOffer code c payload t s
  | .recordWrite code c payload t => Sys2Proof.Machine.execRecordWrite code c payload t s
  | .bucketRefill n t => Sys2Proof.Machine.execBucketRefill n t s
  | .bbClear p w t => Sys2Proof.Machine.execBbClear p w t s
  | .freezeExpiry t => Sys2Proof.Machine.execFreezeExpiry t s
  | .bbPdataRead p t => Sys2Proof.Machine.execBbPdataRead p t s
  | .bbRebuildDone t => Sys2Proof.Machine.execBbRebuildDone t s
  | .dsTransactionComplete port data t => Sys2Proof.Machine.execDsTransactionComplete port data t s
  | .dsTransactionFail port pec t => Sys2Proof.Machine.execDsTransactionFail port pec t s
  | .dsStretchTimeout port t => Sys2Proof.Machine.execDsStretchTimeout port t s
  | .pollCycle port t => Sys2Proof.Machine.execPollCycle port t s
  | .dsProbe port addr t => Sys2Proof.Machine.execDsProbe port addr t s
  | .dsAlert port t => Sys2Proof.Machine.execDsAlert port t s
  | .dsAlertRepeat port t => Sys2Proof.Machine.execDsAlertRepeat port t s
  | .polEnWrite p c w t => Sys2Proof.Machine.execPolEnWrite p c w t s
  | .polVsetWrite p c w t => Sys2Proof.Machine.execPolVsetWrite p c w t s
  | .segmentStuck port t => Sys2Proof.Machine.execSegmentStuck port t s
  | .segmentRequalify port t => Sys2Proof.Machine.execSegmentRequalify port t s
  | .segmentCycleFail port t => Sys2Proof.Machine.execSegmentCycleFail port t s
  | .dspRequal p port w t => Sys2Proof.Machine.execDspRequal p port w t s
  | .linkFrameReceive down frame violations t => Sys2Proof.Machine.execLinkFrameReceive down frame violations t s
  | .hello down payload t => Sys2Proof.Machine.execHello down payload t s
  | .helloSend down t => Sys2Proof.Machine.execHelloSend down t s
  | .echoRequestSend t => Sys2Proof.Machine.execEchoRequestSend t s
  | .echoRequest down payload t => Sys2Proof.Machine.execEchoRequest down payload t s
  | .echoReply payload t => Sys2Proof.Machine.execEchoReply payload t s
  | .timeSend t => Sys2Proof.Machine.execTimeSend t s
  | .time payload t => Sys2Proof.Machine.execTime payload t s
  | .report src payload t => Sys2Proof.Machine.execReport src payload t s
  | .alloc payload t => Sys2Proof.Machine.execAlloc payload t s
  | .remoteRead src payload t => Sys2Proof.Machine.execRemoteRead src payload t s
  | .remoteWrite src payload t => Sys2Proof.Machine.execRemoteWrite src payload t s
  | .remoteAnswer src payload t => Sys2Proof.Machine.execRemoteAnswer src payload t s
  | .reset src payload t => Sys2Proof.Machine.execReset src payload t s
  | .linkTrained down t => Sys2Proof.Machine.execLinkTrained down t s
  | .linkLossOfLock down violations t => Sys2Proof.Machine.execLinkLossOfLock down violations t s
  | .linkUpTimeout down t => Sys2Proof.Machine.execLinkUpTimeout down t s
  | .cascPortEnableWrite p w t => Sys2Proof.Machine.execCascPortEnableWrite p w t s
  | .cascRemoteRead p w t => Sys2Proof.Machine.execCascRemoteRead p w t s
  | .cascRemoteWrite p w t => Sys2Proof.Machine.execCascRemoteWrite p w t s
  | .cascRemoteReset p w t => Sys2Proof.Machine.execCascRemoteReset p w t s
  | .remoteAccessTimeout t => Sys2Proof.Machine.execRemoteAccessTimeout t s
  | .powerOn => Sys2Proof.Machine.execPowerOn s
  | .vinBrownOut t => Sys2Proof.Machine.execVinBrownOut t s
  | .rstNLow ticks t => Sys2Proof.Machine.execRstNLow ticks t s
  | .rstNRelease t => Sys2Proof.Machine.execRstNRelease t s
  | .rstSw p w t => Sys2Proof.Machine.execRstSw p w t s
  | .rstBlk p w t => Sys2Proof.Machine.execRstBlk p w t s
  | .blockResetEnd blk t => Sys2Proof.Machine.execBlockResetEnd blk t s
  | .fuseMapRead t => Sys2Proof.Machine.execFuseMapRead t s
  | .vreg5InRegulation straps t => Sys2Proof.Machine.execVreg5InRegulation straps t s
  | .vreg5OutOfRegulation t => Sys2Proof.Machine.execVreg5OutOfRegulation t s
  | .vreg5Lost t => Sys2Proof.Machine.execVreg5Lost t s
  | .vioLoss t => Sys2Proof.Machine.execVioLoss t s
  | .vioReturn t => Sys2Proof.Machine.execVioReturn t s
  | .pllEnable t => Sys2Proof.Machine.execPllEnable t s
  | .clocksRelease => Sys2Proof.Machine.execClocksRelease s
  | .firmwareChecked t => Sys2Proof.Machine.execFirmwareChecked t s
  | .startLaneFail t => Sys2Proof.Machine.execStartLaneFail t s
  | .fcntStart p w t => Sys2Proof.Machine.execFcntStart p w t s
  | .fcntStop p w t => Sys2Proof.Machine.execFcntStop p w t s
  | .fcntGateComplete count t => Sys2Proof.Machine.execFcntGateComplete count t s
  | .fcntTimeout t => Sys2Proof.Machine.execFcntTimeout t s
  | .fwActivate p w t => Sys2Proof.Machine.execFwActivate p w t s
  | .fwActivateReady t => Sys2Proof.Machine.execFwActivateReady t s
  | .trialConfirm p w t => Sys2Proof.Machine.execTrialConfirm p w t s
  | .trialWindowEnd t => Sys2Proof.Machine.execTrialWindowEnd t s
  | .fallbackRetry t => Sys2Proof.Machine.execFallbackRetry t s
  | .settingsSave p w t => Sys2Proof.Machine.execSettingsSave p w t s
  | .switchingPeriod c av ai t => Sys2Proof.Machine.execSwitchingPeriod c av ai t s
  | .cellOvRelease n k t => Sys2Proof.Machine.execCellOvRelease n k t s
  | .dhLimitStart c charge t => Sys2Proof.Machine.execDhLimitStart c charge t s
  | .dhLimitEnd c t => Sys2Proof.Machine.execDhLimitEnd c t s
  | .vresReserveLow t => Sys2Proof.Machine.execVresReserveLow t s
  | .vresCharged t => Sys2Proof.Machine.execVresCharged t s
  | .vdd08RegulatorFault t => Sys2Proof.Machine.execVdd08RegulatorFault t s
  | .referenceClockLoss t => Sys2Proof.Machine.execReferenceClockLoss t s
  | .laneStop t => Sys2Proof.Machine.execLaneStop t s
  | .testAccessPortTck tms tdi t => Sys2Proof.Machine.execTestAccessPortTck tms tdi t s
  | .trstNChange level t => Sys2Proof.Machine.execTrstNChange level t s

end Sys2Proof.Machine
end

