-- ==== Sys2Proof/Safety.lean ====
section
/-! DEFINITION. What counts as a safe run, and the words the statements use: canonical forms, what is kept, what a host target answers. -/

namespace Sys2Proof

open Machine

/-! ### Canonical forms and safe runs -/

/-- The register words are in their canonical form. -/
def RegsOk (s : State) : Prop := canonical 0 s.regs = true

/-- Every sparse table of the state is in its canonical form: the registers with their clamped marks, update times and stale marks, and the MRAM. -/
def Formed (s : State) : Prop :=
  RegsOk s ∧ canonical false s.clamped = true ∧ canonical 0 s.updated = true ∧ canonical false s.staleMark = true ∧ s.mram.wf = true

/-- The form every state of a run keeps: canonical tables, and the outputs those that the registers and states give. -/
def Good (s : State) : Prop := Formed s ∧ s.outs = outputs s

/-- A step that neither faults nor refuses. -/
def Advances (s : State) : Prop := ∃ s', step s = .next s'

/-! ### What is kept -/

/-- Every register word outside a list reads as before. -/
def Kept (s n : State) (l : List Nat) : Prop := ∀ a, a ∉ l → n.reg a = s.reg a

/-- Nothing has changed but one host target's own state. -/
def OnlyTarget (p : Port) (s n : State) : Prop := n = { s.setIface p (fun _ => n.iface p) with outs := n.outs }

/-- Nothing has changed but register words. -/
def OnlyRegs (s n : State) : Prop := n = { s with regs := n.regs, outs := n.outs }

/-- The status and counts of the recorder that an offered or written record may touch (R386, R387). -/
def recordWords : List Nat := [BB_STS, BB_MISSCNT, BB_DROPCNT]

/-- Nothing has changed but the recorder and its words: what an offered or written record may do. -/
def OnlyRecorder (s n : State) : Prop := n = { s with regs := n.regs, rcd := n.rcd } ∧ (RegsOk s → RegsOk n ∧ Kept s n recordWords)

/-- Nothing has changed but register words and what drives the outputs: timers and counts, gate channels, phases and groups, trim outputs, driven pins, downstream commands and graphs that owe an off request. -/
def OnlyOutputs (s n : State) : Prop :=
  n = { s with regs := n.regs, timers := n.timers, counts := n.counts, channels := n.channels, phases := n.phases, groups := n.groups, trim := n.trim, driven := n.driven, dsTable := n.dsTable, graphOffDue := n.graphOffDue } ∧
  (RegsOk s → RegsOk n)

/-- Nothing has changed but what a raise may change: register words and what drives the outputs, the recorder, the fault collector, the alert mask and the instants of the alert causes, rails that owe a snapshot, and the trial, with what a confirmation of the same instant had changed (R349 to R358, R318, R416, R478, R484). -/
def OnlyFault (s n : State) : Prop :=
  n = { s with regs := n.regs, timers := n.timers, counts := n.counts, channels := n.channels, phases := n.phases, groups := n.groups, trim := n.trim, driven := n.driven, dsTable := n.dsTable, graphOffDue := n.graphOffDue, rcd := n.rcd, flt := n.flt, alertMask := n.alertMask, alertSet := n.alertSet, snapDue := n.snapDue, otp := n.otp, learned := { s.learned with kept := n.learned.kept }, upd := { s.upd with trial := n.upd.trial, confirmed := n.upd.confirmed, kept := n.upd.kept, mem := n.upd.mem, progs := n.upd.progs } } ∧
  (RegsOk s → RegsOk n)

/-- The word that a plain write of w leaves at an address (R43 to R45, R48). -/
def Written (s : State) (a : Nat) (w : Word) : Word := (s.clampWord a (s.legal a w).1).1

/-- Every throttle output that a branch has and a cause asks for is asserted (R292). -/
def ThrottlesFollow (s : State) : Prop := ∀ k, k < 16 → s.throttled k = true → s.throttleCause k = true → s.flag THR_LIVE k = true

/-- The numbers of an image's records that are bytes of the slot (R72, R76, R78). -/
def ByteImage (im : Image) : Prop :=
  (∀ x ∈ im.contexts, x.ctx < 256 ∧ x.a0 < 256 ∧ x.a1 < 256 ∧ x.a2 < 256) ∧ (∀ g ∈ im.groups, g.group < 256) ∧ (∀ r ∈ im.slots, r.slot < 256)

/-- The active image and the one being switched to have records of bytes: every image the loader reads has. -/
def ImagesFit (s : State) : Prop := (∀ im, s.image = some im → ByteImage im) ∧ (∀ im, s.nextImage = some im → ByteImage im)

/-- Every gate channel that a defined context owns is one of the sixteen (R73), as the loader checks. -/
def ChannelsFit (s : State) : Prop := ∀ c g, s.channelOf c = some g → g < 16

/-! ### Faults -/

/-- A class stands unacknowledged against a context (R349). -/
def Faulted (s : State) (c cls : Nat) : Prop := ∃ p ∈ s.flt.pending, p.ctx = c ∧ p.cls = cls

/-- A state that is another one after the lane's raise of a class against a context (R349). -/
def AfterLaneRaise (m n : State) (cls c : Nat) (sev : Option Nat) : Prop := ∃ site, n = { m.laneRaise cls c sev site with pending := n.pending, outs := n.outs }

/-- A state that is another one after the core's raise of a class against a context. -/
def AfterCoreRaise (m n : State) (cls c : Nat) (sev : Option Nat) : Prop := ∃ site, n = { m.coreRaise cls c sev site with pending := n.pending, outs := n.outs }

/-! ### Receivers -/

/-- A port takes in what it receives: outside Dormant, where it only watches (R17), and with no Dormant entry waiting that its activity would abort (R27). -/
def Listens (s : State) : Prop := s.sys ≠ sysDormant ∧ s.arb.entryWait = false

/-! ### Host targets -/

/-- A target answers control commands: nothing is held back, it serves at all (R404), and no Dormant entry waits that the transaction would abort (R27). -/
def Answers (p : Port) (s : State) : Prop := (s.iface p).waiting = none ∧ s.arb.entryWait = false ∧ s.service p ≠ .away ∧ s.service p ≠ .other

/-- A target serves every command at once: a lane runs, nothing is held back, no Dormant entry waits, the journal has room, no staging frame waits. -/
def ServesAll (p : Port) (s : State) : Prop := (s.iface p).waiting = none ∧ s.arb.entryWait = false ∧ s.service p = .full ∧ s.journal.length < 96 ∧ s.upd.frame = none

/-- What a target returns to a read: over SPI the result of the frame before and the token come first (R402, R407, R409). -/
def replyBytes (s : State) (p : Port) (head data : List Byte) : List Byte := (match p with
  | .twoWire => []
  | .spi => [s.spi.result, 0x5A]) ++ data ++ [s.readSum p head data]

/-- What a target returns to a write frame it has accepted: over SPI the result of the frame before (R407, R408). -/
def doneBytes (s : State) (p : Port) : List Byte := match p with
  | .twoWire => []
  | .spi => [s.spi.result]

end Sys2Proof
end

