-- ==== Sys2Proof/Certificates/Slice0/Obligations.lean ====
section
/-! DEFINITION. The statements for the provers. Each says what commands do in every state that meets its hypotheses: where they complete, what they leave, and what they leave unchanged. Choices of the model that a statement rests on are named in its docstring with their log entry. -/

open Sys2Proof Sys2Proof.Machine

/-- The block model's form (log 1): a step takes the command at the front of the queue and is exec of it on the state with the queue's rest. The block model's form (log 1): with no command waiting a step changes nothing. -/
def Obligations.StepTakesTheFrontCommand : Prop :=
  (∀ (c : Instr) (rest : List Instr) (s : State), step { s with pending := c :: rest } = exec c { s with pending := rest }) ∧
  (∀ s : State, s.pending = [] → step s = .next s)

/-- No step faults or refuses, in any state: every command of the table has an effect, and the rest of the queue stays in its order. -/
def Obligations.EveryCommandAdvancesTheQueue : Prop :=
  ∀ (c : Instr) (rest : List Instr) (s : State), s.pending = c :: rest → ∃ n, step s = .next n ∧ n.pending = rest

/-- The tables of the state right after reset are canonical, and its outputs are those that its registers give. -/
def Obligations.ResetIsGood : Prop :=
  Good State.reset ∧ ImagesFit State.reset

/-- HALERT_N, FLT_N, SEQ_FLT_N, EN_G, the throttle outputs and every pin with a reset state are at every step those that the registers and states give. -/
def Obligations.EveryStepKeepsOutputsTrue : Prop :=
  ∀ s n : State, s.outs = outputs s → step s = .next n → n.outs = outputs n

/-- Every step keeps the register words, their marks and times, and the MRAM in canonical form, so that equal contents are equal states (log 2). Every step keeps the records of the images in use within bytes, as the loader reads them. -/
def Obligations.EveryStepKeepsTablesCanonical : Prop :=
  (∀ s n : State, Formed s → step s = .next n → Formed n) ∧
  (∀ s n : State, ImagesFit s → step s = .next n → ImagesFit n)

/-- What a commit writes is read back, and every other byte of the MRAM stays. -/
def Obligations.MramReadsBackWhatACommitWrites : Prop :=
  ∀ (s : State) (a : Nat) (bs : List Byte), s.mram.wf = true →
    (s.writeMram a bs).mram.wf = true ∧ (∀ (k : Nat) (h : k < bs.length), (s.writeMram a bs).byte (a + k) = bs[k]) ∧
    ∀ c, c < a ∨ a + bs.length ≤ c → (s.writeMram a bs).byte c = s.byte c

/-- The pointer, the context and the page of an interface are what a control write with a correct check sets (R396, R397); the frame is acknowledged, and nothing but the interface's own state changes. A control read returns the pointer low byte first, the selected context, the selected page, or whether the recorder is frozen (R396), with its check byte; nothing but the interface's own state changes. The summary returns eight words under the count 0x18 (R401), with a command byte or without; an address probe is acknowledged; the SPI no-operation returns the result of the frame before; an alert response with ARAEN set while HALERT_N is asserted returns the target's address and, once arbitration is won, masks the line (R414). -/
def Obligations.HostSelectionsAreSetAndReturned : Prop :=
  (∀ (p : Port) (lo hi : Byte) (pec : Option Byte) (t : Nat) (s : State), Answers p (s.at t) → (s.at t).checkBad p [0xE0, lo, hi] pec = none →
    ∃ n, exec (.ptrWrite p lo hi pec t) s = .next n ∧ (n.iface p).ptr = lo.toNat + 256 * hi.toNat ∧ (n.iface p).ctx = (s.iface p).ctx ∧ (n.iface p).page = (s.iface p).page ∧
      (n.iface p).acked = true ∧ (n.iface p).resp = doneBytes s p ∧ OnlyTarget p (s.at t) n) ∧
  (∀ (p : Port) (v : Byte) (pec : Option Byte) (t : Nat) (s : State), Answers p (s.at t) → v.toNat ≤ 0x7F → (s.at t).checkBad p [0xE2, v] pec = none →
    ∃ n, exec (.cpageWrite p v pec t) s = .next n ∧ (n.iface p).ctx = v.toNat ∧ (n.iface p).ptr = (s.iface p).ptr ∧ (n.iface p).page = (s.iface p).page ∧
      (n.iface p).acked = true ∧ (n.iface p).resp = doneBytes s p ∧ OnlyTarget p (s.at t) n) ∧
  (∀ (p : Port) (v : Byte) (pec : Option Byte) (t : Nat) (s : State), Answers p (s.at t) → v.toNat ≤ 0x11 → (s.at t).checkBad p [0xE3, v] pec = none →
    ∃ n, exec (.gpageWrite p v pec t) s = .next n ∧ (n.iface p).page = v.toNat ∧ (n.iface p).ptr = (s.iface p).ptr ∧ (n.iface p).ctx = (s.iface p).ctx ∧
      (n.iface p).acked = true ∧ (n.iface p).resp = doneBytes s p ∧ OnlyTarget p (s.at t) n) ∧
  (∀ (p : Port) (t : Nat) (s : State), Answers p (s.at t) →
    (∃ n, exec (.ptrRead p t) s = .next n ∧ (n.iface p).resp = replyBytes (s.at t) p [0xE0] [BitVec.ofNat 8 (s.iface p).ptr, BitVec.ofNat 8 ((s.iface p).ptr / 256)] ∧
      (n.iface p).acked = true ∧ (n.iface p).ptr = (s.iface p).ptr ∧ OnlyTarget p (s.at t) n) ∧
    (∃ n, exec (.cpageRead p t) s = .next n ∧ (n.iface p).resp = replyBytes (s.at t) p [0xE2] [BitVec.ofNat 8 (s.iface p).ctx] ∧ (n.iface p).acked = true ∧ OnlyTarget p (s.at t) n) ∧
    (∃ n, exec (.gpageRead p t) s = .next n ∧ (n.iface p).resp = replyBytes (s.at t) p [0xE3] [BitVec.ofNat 8 (s.iface p).page] ∧ (n.iface p).acked = true ∧ OnlyTarget p (s.at t) n) ∧
    (∃ n, exec (.freezeRead p t) s = .next n ∧ (n.iface p).resp = replyBytes (s.at t) p [0xE4] [if s.rcd.frozenAt.isSome then 0x01 else 0x00] ∧ (n.iface p).acked = true ∧
      OnlyTarget p (s.at t) n)) ∧
  (∀ (p : Port) (t : Nat) (s : State), Answers p (s.at t) → ∃ n, exec (.summary p t) s = .next n ∧
    (n.iface p).resp = replyBytes (s.at t) p [0xE5] (0x18 :: (s.at t).w3r SYS_STATE ++ (s.at t).w3r LANE_AUTH ++ (s.at t).w3r FLT_SUM ++ (s.at t).w3r FLT_CLSPEND ++
      (s.at t).w3r HOST_ALERT ++ (s.at t).w3r (ctxAddr 0 CTX_VMEAS) ++ (s.at t).w3r (ctxAddr 0 CTX_IMEAS) ++ (s.at t).w3r TDIE_TJ) ∧ (n.iface p).acked = true ∧ OnlyTarget p (s.at t) n) ∧
  (∀ (t : Nat) (s : State), Answers .twoWire (s.at t) → ∃ n, exec (.receiveWithoutCommand t) s = .next n ∧
    n.tw.resp = 0x18 :: (s.at t).summaryBytes ++ [crc8 ((s.at t).addrByte true :: 0x18 :: (s.at t).summaryBytes)] ∧ n.tw.acked = true ∧
    OnlyTarget .twoWire (s.at t) n) ∧
  (∀ (t : Nat) (s : State), Answers .twoWire (s.at t) → ∃ n, exec (.addressProbe t) s = .next n ∧ n.tw = { s.tw with resp := [], acked := true } ∧ OnlyTarget .twoWire (s.at t) n) ∧
  (∀ (t : Nat) (s : State), Answers .spi (s.at t) → ∃ n, exec (.spiNoop t) s = .next n ∧ n.spi.resp = [s.spi.result] ∧ n.spi.result = 0x5A ∧ n.spi.acked = true ∧ OnlyTarget .spi (s.at t) n) ∧
  (∀ (won : Bool) (t : Nat) (s : State), Answers .twoWire (s.at t) → s.flag HOST_CFG 2 = true → (outputs (s.at t)).halert = true →
    ∃ n, exec (.alertResponse won t) s = .next n ∧ n.tw.resp.head? = some (BitVec.ofNat 8 (2 * s.hostAddr)) ∧ n.tw.acked = true ∧
      n.alertMask = (won || s.alertMask) ∧ n.regs = s.regs ∧ n.mram = s.mram)

/-- A write of a word that is not implemented is acknowledged and changes no register; a write of an own word of a shelf, branch, rail or zone context that is writable stores the value made legal with its clamped mark, a clamped one setting CTX.STS.CLAMP, and changes no other register (R43, R45, R59, R398, R400). A read of a word returns the word and its quality code and changes nothing but the interface (R398, R42); a read of the first word of a wide value also takes the other words into the interface's shadow copy at the same instant (R38). -/
def Obligations.HostWordsAreWrittenAndRead : Prop :=
  (∀ (p : Port) (code t : Nat) (b0 b1 b2 : Byte) (pec : Option Byte) (s : State), ServesAll p (s.at t) → code < 128 → (s.at t).checkBad p [BitVec.ofNat 8 code, b0, b1, b2] pec = none →
    s.implemented ((s.iface p).addrOf code) = false →
    ∃ n, exec (.wordWrite p code b0 b1 b2 pec t) s = .next n ∧ (n.iface p).acked = true ∧ (n.iface p).resp = doneBytes s p ∧ n.regs = s.regs ∧ n.mram = s.mram) ∧
  (∀ (p : Port) (c k t : Nat) (b0 b1 b2 : Byte) (pec : Option Byte) (r : CtxRec) (s : State), RegsOk s → canonical false s.clamped = true → ServesAll p (s.at t) → c < 128 → 0x10 ≤ k → k < 0x40 →
    (s.at t).checkBad p [BitVec.ofNat 8 k, b0, b1, b2] pec = none → (s.iface p).ctx = c → s.ctx? c = some r → r.typ = .shelf ∨ r.typ = .branch ∨ r.typ = .rail ∨ r.typ = .zone →
    s.implemented (ctxAddr c k) = true → s.shape? (ctxAddr c k) ≠ some .readOnly → s.routeRefused r k (bytesWord b0 b1 b2) = false →
    ∃ n, exec (.wordWrite p k b0 b1 b2 pec t) s = .next n ∧ (n.iface p).acked = true ∧ (n.iface p).resp = doneBytes s p ∧
      n.cw c k = (s.clampWord (ctxAddr c k) (s.legal (ctxAddr c k) (bytesWord b0 b1 b2)).1).1 ∧
      n.isClamped (ctxAddr c k) = ((s.clampWord (ctxAddr c k) (s.legal (ctxAddr c k) (bytesWord b0 b1 b2)).1).2 || (s.legal (ctxAddr c k) (bytesWord b0 b1 b2)).2) ∧
      (n.isClamped (ctxAddr c k) = true → n.flag (ctxAddr c CTX_STS) 1 = true) ∧
      Kept s n [ctxAddr c k, ctxAddr c CTX_STS, ctxAddr c CTX_GOV] ∧ n.mram = s.mram ∧
      n.journal = s.journal ++ [{ addr := ctxAddr c k, word := bytesWord b0 b1 b2, via := p.code, applied := n.now, commits := 0 }]) ∧
  (∀ (p : Port) (code t : Nat) (s : State), ServesAll p (s.at t) → code < 128 → s.wideOf ((s.iface p).addrOf code) = none → (s.iface p).addrOf code ≠ BB_PDATA → s.isolatedWord ((s.iface p).addrOf code) = false →
    ∃ n, exec (.wordRead p code t) s = .next n ∧
      (n.iface p).resp = replyBytes (s.at t) p [BitVec.ofNat 8 code] (wordBytes ((s.at t).readAt ((s.iface p).addrOf code)).1 ((s.at t).readAt ((s.iface p).addrOf code)).2) ∧
      (n.iface p).acked = true ∧ OnlyTarget p (s.at t) n) ∧
  (∀ (p : Port) (code t m : Nat) (s : State), ServesAll p (s.at t) → code < 128 → s.wideOf ((s.iface p).addrOf code) = some ((s.iface p).addrOf code, m) → s.isolatedWord ((s.iface p).addrOf code) = false →
    ∃ n, exec (.wideValueFirstRead p code t) s = .next n ∧
      (n.iface p).resp = replyBytes (s.at t) p [BitVec.ofNat 8 code] (wordBytes ((s.at t).readAt ((s.iface p).addrOf code)).1 ((s.at t).readAt ((s.iface p).addrOf code)).2) ∧
      (n.iface p).shadow = some ((s.iface p).addrOf code, (List.range (m - 1)).map (fun k => ((s.at t).readAt ((s.iface p).addrOf code + 1 + k)).1)) ∧
      (n.iface p).acked = true ∧ OnlyTarget p (s.at t) n)

/-- A block read returns its count and N / 3 consecutive words from the pointer, and the pointer advances by N / 3, wrapping (R399); a block write is that many separate word writes in ascending order, and the pointer advances the same. -/
def Obligations.BlocksMoveThePointer : Prop :=
  (∀ (p : Port) (m t : Nat) (s : State), ServesAll p (s.at t) → 3 ≤ m → m ≤ 96 → m % 3 = 0 →
    (∀ a ∈ (s.iface p).blockAddrs m, s.wideOf a = none ∧ a ≠ BB_PDATA ∧ s.isolatedWord a = false) →
    ∃ n, exec (.blockRead p m t) s = .next n ∧
      (n.iface p).resp = replyBytes (s.at t) p [0xE1, BitVec.ofNat 8 m] (BitVec.ofNat 8 m :: ((s.iface p).blockAddrs m).flatMap (fun a => wordBytes ((s.at t).readAt a).1 ((s.at t).readAt a).2)) ∧
      (n.iface p).ptr = ((s.iface p).ptr + m / 3) % 65536 ∧ (n.iface p).acked = true ∧ OnlyTarget p (s.at t) n) ∧
  (∀ (p : Port) (m t : Nat) (data : List Byte) (pec : Option Byte) (s : State), ServesAll p (s.at t) → 3 ≤ m → m ≤ 96 → m % 3 = 0 → data.length = m →
    (s.at t).checkBad p ([0xE1, BitVec.ofNat 8 m] ++ data) pec = none → (∀ a ∈ (s.iface p).blockAddrs m, a ≠ RST_SW) →
    ∃ n x, exec (.blockWrite p m data pec t) s = .next n ∧ OnlyTarget p (s.at t) x ∧ (x.iface p).ptr = ((s.iface p).ptr + m / 3) % 65536 ∧ (x.iface p).acked = true ∧
      n = { (((s.iface p).blockAddrs m).zip (wordsOf data)).foldl (fun x q => x.hostWrite p q.1 q.2) x with pending := s.pending, outs := n.outs })

/-- The block of a context that the image does not define reads as zero with quality code 0b11, its writes are acknowledged and ignored, and it may be selected (R53); so does a word at an unimplemented address reached through the pointer, without a violation (R508). -/
def Obligations.UndefinedWordsReadAsZero : Prop :=
  (∀ (p : Port) (c k t : Nat) (s : State), ServesAll p (s.at t) → c < 128 → k < 0x40 → (s.iface p).ctx = c → s.ctx? c = none →
    ∃ n, exec (.wordRead p k t) s = .next n ∧ (n.iface p).resp = replyBytes (s.at t) p [BitVec.ofNat 8 k] (wordBytes 0 3) ∧ (n.iface p).acked = true ∧ OnlyTarget p (s.at t) n) ∧
  (∀ (p : Port) (c k t : Nat) (b0 b1 b2 : Byte) (pec : Option Byte) (s : State), ServesAll p (s.at t) → c < 128 → k < 0x40 → (s.iface p).ctx = c → s.ctx? c = none → (s.at t).checkBad p [BitVec.ofNat 8 k, b0, b1, b2] pec = none →
    ∃ n, exec (.wordWrite p k b0 b1 b2 pec t) s = .next n ∧ (n.iface p).acked = true ∧ (n.iface p).violations = (s.iface p).violations ∧ n.regs = s.regs ∧ n.lane = s.lane ∧ n.mram = s.mram) ∧
  (∀ (p : Port) (c t : Nat) (v : Byte) (pec : Option Byte) (s : State), Answers p (s.at t) → v.toNat = c → c ≤ 0x7F → s.ctx? c = none → (s.at t).checkBad p [0xE2, v] pec = none →
    ∃ n, exec (.cpageWrite p v pec t) s = .next n ∧ (n.iface p).ctx = c ∧ (n.iface p).acked = true ∧ OnlyTarget p (s.at t) n) ∧
  (∀ (p : Port) (t : Nat) (s : State), ServesAll p (s.at t) → s.implemented (s.iface p).ptr = false → (s.iface p).ptr < 0x4000 ∨ 0x4200 ≤ (s.iface p).ptr → (s.iface p).ptr < 65536 → s.wideOf (s.iface p).ptr = none →
    ∃ n, exec (.blockRead p 3 t) s = .next n ∧ (n.iface p).resp = replyBytes (s.at t) p [0xE1, 3] (3 :: wordBytes 0 3) ∧ (n.iface p).acked = true ∧ (n.iface p).violations = (s.iface p).violations ∧ OnlyTarget p (s.at t) n) ∧
  (∀ (p : Port) (t : Nat) (b0 b1 b2 : Byte) (pec : Option Byte) (s : State), ServesAll p (s.at t) → s.implemented (s.iface p).ptr = false → (s.iface p).ptr < 65536 → (s.at t).checkBad p [0xE1, 3, b0, b1, b2] pec = none →
    ∃ n, exec (.blockWrite p 3 [b0, b1, b2] pec t) s = .next n ∧ (n.iface p).acked = true ∧ (n.iface p).violations = (s.iface p).violations ∧ n.regs = s.regs ∧ n.lane = s.lane ∧ n.mram = s.mram)

/-- A violation that a target detects is counted and named in HOST.LASTVIOL, sets its status bit and the alert cause, ends what was held back, and is answered (R411, R412, R415); the sixteenth within a second, and every bus timeout, raises class 10. -/
def Obligations.ViolationsAreCountedAndAnswered : Prop :=
  (∀ (p : Port) (code idx t : Nat) (cmd : Byte) (s : State), RegsOk s → s.arb.entryWait = false → s.service p ≠ .away → s.service p ≠ .other → p.detects code = true →
    ((s.iface p).violations.filter (fun t0 => decide ((s.at t).now < t0 + ticksPerSecond))).length < 15 →
    ∃ n, exec (.hostProtocolViolation p code cmd idx t) s = .next n ∧ n.reg HOST_VIOLCNT = satInc (s.reg HOST_VIOLCNT) ∧
      n.reg HOST_LASTVIOL = Word.ofNat (code % 32 + 32 * b2n (p == .spi) + 64 * cmd.toNat) ∧ n.flag HOST_STS (violationBit code) = true ∧ n.flag HOST_ALERT 1 = true ∧ (n.iface p).waiting = none ∧
      (n.iface p).resp = (if code = 0x0A ∨ code = 0x0E then [0xFF] else if p = .spi then s.spi.result :: (if code = 1 then [violationResult code] else []) else []) ∧ (p = .spi → n.spi.result = violationResult code ∨ code = 0x0A ∨ code = 0x0E) ∧
      (n.iface p).acked = decide (code = 0x0A ∨ code = 0x0E) ∧
      Kept s n ([HOST_VIOLCNT, HOST_LASTVIOL, HOST_STS, HOST_ALERT] ++ recordWords) ∧ n.mram = s.mram) ∧
  (∀ (p : Port) (code idx t : Nat) (cmd : Byte) (s : State), s.service p ≠ .away → s.service p ≠ .other → p.detects code = true →
    15 ≤ ((s.iface p).violations.filter (fun t0 => decide ((s.at t).now < t0 + ticksPerSecond))).length →
    ∃ n, exec (.hostProtocolViolation p code cmd idx t) s = .next n ∧ Faulted n 0 10 ∧ (n.iface p).violations = [] ∧ n.mram = s.mram) ∧
  (∀ (idx t : Nat) (cmd : Byte) (s : State), s.service .twoWire ≠ .away → s.service .twoWire ≠ .other →
    ∃ n, exec (.hostBusTimeout .twoWire cmd idx t) s = .next n ∧ Faulted n 0 10 ∧ n.tw.waiting = none ∧ n.tw.resp = [] ∧ n.tw.acked = false ∧ n.spi = s.spi ∧ n.mram = s.mram)

/-- FREEZE marks the recorder frozen with the interface that asked (R389); THAW and the expiry of BB.FRZTO end it, and the expiry sets FRZEXP and its alert cause (R388). Nothing but the recorder's words changes. -/
def Obligations.FreezeAndThaw : Prop :=
  (∀ (p : Port) (pec : Option Byte) (t : Nat) (s : State), RegsOk s → Answers p (s.at t) → (s.at t).checkBad p [0xE4, 0x01] pec = none → s.rcd.frozenAt = none →
    ∃ n, exec (.freeze p pec t) s = .next n ∧ n.rcd.frozenAt = some n.now ∧ n.flag BB_STATE 0 = true ∧ n.fld BB_STATE 12 11 = p.code - 2 ∧ n.running .freeze = true ∧ n.age .freeze = 0 ∧
      (n.iface p).acked = true ∧ Kept s n [BB_STATE] ∧ n.mram = s.mram) ∧
  (∀ (p : Port) (pec : Option Byte) (t t0 : Nat) (s : State), RegsOk s → Answers p (s.at t) → (s.at t).checkBad p [0xE4, 0x00] pec = none → s.rcd.frozenAt = some t0 →
    ∃ n, exec (.thaw p pec t) s = .next n ∧ n.rcd.frozenAt = none ∧ n.flag BB_STATE 0 = false ∧ n.fld BB_STATE 12 11 = 0 ∧ n.running .freeze = false ∧ n.rcd.missed = [] ∧
      (n.iface p).acked = true ∧ Kept s n [BB_STATE, BB_RSEQ, BB_RSEQ + 1, BB_BFILL, BB_CHEAD]) ∧
  (∀ (t t0 : Nat) (s : State), RegsOk s → s.rcd.frozenAt = some t0 → (s.at t).expiredTicks .freeze (ms (s.regN BB_FRZTO)) = true →
    ∃ n, exec (.freezeExpiry t) s = .next n ∧ n.rcd.frozenAt = none ∧ n.flag BB_STATE 0 = false ∧ n.flag BB_STS 2 = true ∧ n.flag HOST_ALERT 4 = true ∧ n.rcd.missed = [] ∧
      Kept s n [BB_STATE, BB_STS, HOST_ALERT, BB_RSEQ, BB_RSEQ + 1, BB_BFILL, BB_CHEAD])

/-- OPEN of a slot that is neither Active, in Trial nor locked, with no session open, opens one for the interface and marks the slot empty (R473); DATA at an aligned offset of the open target is kept as one frame until its commit (R474); CLOSE ends the session, with a check of the slot or without (R475); STATUS returns four words (R472). A kept frame reaches its place in the MRAM with its commit, while VRES holds the charge, and no other byte changes (R23, R474); a CLOSE check that passes makes the slot Staged and sets DONE, and one that fails sets FAIL with its code in IMG.LDERR (R475). -/
def Obligations.StagingSessionsAndCommits : Prop :=
  (∀ (p : Port) (target slot : Byte) (pec : Option Byte) (t : Nat) (s : State), RegsOk s → ServesAll p (s.at t) → target = 1 ∨ target = 2 → slot.toNat ≤ 1 →
    (s.at t).checkBad p [0xF0, 2, target, slot] pec = none → s.slotState (target == 2) slot.toNat ≠ slotActive → s.slotState (target == 2) slot.toNat ≠ slotTrial →
    s.slotLocked target.toNat slot.toNat = false → s.stageOpen = false →
    ∃ n, exec (.openSession p [target, slot] pec t) s = .next n ∧ n.stageOpen = true ∧ n.stageTarget = target.toNat ∧ n.stageSlot = slot.toNat ∧ n.flag UPD_STAGE 5 = (p == .spi) ∧
      n.settled = ((s.commitBytes (stageBase target.toNat slot.toNat) (List.replicate 16 0xFF)).setSlotState (target == 2) slot.toNat slotEmpty).settled ∧
      (n.iface p).acked = true ∧ Kept s n [UPD_STAGE, IMG_ACTIVE]) ∧
  (∀ (p : Port) (bs : List Byte) (pec : Option Byte) (t : Nat) (s : State), ServesAll p (s.at t) → 5 ≤ bs.length → bs.length ≤ 255 → (s.at t).checkBad p ([0xF1, BitVec.ofNat 8 bs.length] ++ bs) pec = none →
    s.stageMine p = true → s.stageTarget = 1 ∨ s.stageTarget = 2 → ofLe (bs.take 4) % 4 = 0 → (stageRange s.stageTarget).1 ≤ ofLe (bs.take 4) →
    ofLe (bs.take 4) + (bs.drop 4).length ≤ (stageRange s.stageTarget).2 → s.slotLocked s.stageTarget s.stageSlot = false →
    ∃ n, exec (.dataFrame p bs pec t) s = .next n ∧ n.upd.frame = some { target := s.stageTarget, slot := s.stageSlot, off := ofLe (bs.take 4), data := bs.drop 4 } ∧ (n.iface p).acked = true ∧
      n.regs = s.regs ∧ n.mram = s.mram) ∧
  (∀ (p : Port) (pec : Option Byte) (t : Nat) (s : State), RegsOk s → ServesAll p (s.at t) → (s.at t).checkBad p [0xF2, 1, 0x01] pec = none → s.stageMine p = true → s.stageTarget = 1 ∨ s.stageTarget = 2 →
    ∃ n, exec (.closeCheck p pec t) s = .next n ∧ n.stageOpen = false ∧ n.upd.closing = some (s.stageTarget, s.stageSlot) ∧ (s.stageTarget = 2 → n.flag IMG_LDSTAT 0 = true) ∧ (n.iface p).acked = true ∧
      Kept s n [UPD_STAGE, IMG_LDSTAT] ∧ n.mram = s.mram) ∧
  (∀ (p : Port) (pec : Option Byte) (t : Nat) (s : State), RegsOk s → ServesAll p (s.at t) → (s.at t).checkBad p [0xF2, 1, 0x00] pec = none → s.stageMine p = true →
    ∃ n, exec (.closeAbandon p pec t) s = .next n ∧ n.stageOpen = false ∧ n.upd = s.upd ∧ (n.iface p).acked = true ∧ Kept s n [UPD_STAGE] ∧ n.mram = s.mram) ∧
  (∀ (p : Port) (t : Nat) (s : State), ServesAll p (s.at t) →
    ∃ n, exec (.status p t) s = .next n ∧
      (n.iface p).resp = replyBytes (s.at t) p [0xF3, 12] (12 :: (s.at t).w3r UPD_STS ++ (s.at t).w3r UPD_STAGE ++ (s.at t).w3r IMG_LDERR ++ (s.at t).w3r UPD_TREM) ∧ OnlyTarget p (s.at t) n) ∧
  (∀ (t : Nat) (f : StageFrame) (s : State), s.mram.wf = true → s.laneRuns = true → s.upd.frame = some f → f.target = 1 ∨ f.target = 2 → s.vresOk = true → s.commits = [] → s.tw.waiting = none → s.spi.waiting = none →
    ∃ n, exec (.stagingCommitDone t) s = .next n ∧ n.upd.frame = none ∧ (∀ (k : Nat) (h : k < f.data.length), n.byte (stageBase f.target f.slot + f.off + k) = f.data[k]) ∧
      (∀ a, a < stageBase f.target f.slot + f.off ∨ stageBase f.target f.slot + f.off + f.data.length ≤ a → n.byte a = s.byte a) ∧ n.regs = s.regs) ∧
  (∀ (t slot : Nat) (s : State), RegsOk s → s.laneRuns = true → s.upd.closing = some (1, slot) → slot < 2 → s.checkFirmware slot false = none →
    ∃ n, exec (.stagingCheckDone t) s = .next n ∧ n.upd.closing = none ∧ n.settled = (s.setSlotState false slot slotStaged).settled ∧ n.flag UPD_STAGE 6 = true ∧ Kept s n [UPD_STAGE, IMG_LDSTAT]) ∧
  (∀ (t slot : Nat) (x : Bad) (s : State), RegsOk s → s.laneRuns = true → s.upd.closing = some (1, slot) → slot < 2 → x.code < 256 → s.checkFirmware slot false = some x →
    ∃ n, exec (.stagingCheckDone t) s = .next n ∧ n.upd.closing = none ∧ n.flag UPD_STAGE 7 = true ∧ n.fld IMG_LDERR 7 0 = x.code ∧
      Kept s n [UPD_STAGE, IMG_LDSTAT, IMG_LDERR, IMG_LDREC] ∧ n.mram = s.mram)

/-- A boot-control record is written to the copy that is not in force and is in force from then on, with the slot states it was given (R470); the sequence number must have room. -/
def Obligations.BootRecordWrittenIsInForce : Prop :=
  ∀ (s : State) (states : List Nat), s.mram.wf = true → states.length = 4 → (∀ x ∈ states, x < 256) → (∀ b bs, s.bootRec = some (b, bs) → sealedSeq bs + 1 < 2 ^ 32) →
    (s.writeBoot states).slotStates = states ∧ (∀ b bs, s.bootRec = some (b, bs) → ∃ new, (s.writeBoot states).bootRec = some (!b, new) ∧ sealedSeq new = sealedSeq bs + 1)

/-- SYS.DORMANT with its key is accepted only while every condition holds, and then waits for its boundary; else it sets REFUSED (R25, R26). A wake source before the hand-back ends the wait and is noted, a host transaction among them (R27, R30); an enabled wake source in Dormant gives the token to the lane that last held it, starts the PLL and is noted (R29, R30). -/
def Obligations.DormantRequestAbortAndWake : Prop :=
  (∀ (p : Port) (w : Word) (t : Nat) (s : State), ServesAll p (s.at t) → bits w 15 0 = 0x5A5A → s.dormantOk = true →
    ∃ n, exec (.sysDormantRequest p w t) s = .next n ∧ n.arb.entryWait = true ∧ n.arb.askedAt = n.now ∧ n.sys = s.sys ∧ n.holder = s.holder ∧ (n.iface p).acked = true ∧ n.mram = s.mram) ∧
  (∀ (p : Port) (w : Word) (t : Nat) (s : State), RegsOk s → ServesAll p (s.at t) → bits w 15 0 = 0x5A5A → s.dormantOk = false →
    ∃ n, exec (.sysDormantRequest p w t) s = .next n ∧ n.flag SYS_DSTAT 0 = true ∧ n.arb = s.arb ∧ (n.iface p).acked = true ∧ Kept s n (SYS_DSTAT :: recordWords) ∧ n.mram = s.mram) ∧
  (∀ (p : Port) (t : Nat) (s : State), RegsOk s → s.arb.entryWait = true → (s.iface p).waiting = none → s.service p = .full →
    ∃ n, exec (.summary p t) s = .next n ∧ n.arb.entryWait = false ∧ n.flag SYS_DSTAT 1 = true ∧ n.fld SYS_DSTAT 5 2 = p.wakeSource ∧ (n.iface p).acked = true ∧ Kept s n [SYS_DSTAT] ∧ n.mram = s.mram) ∧
  (∀ (src t : Nat) (s : State), RegsOk s → src < 8 → s.wakeEnabled src = true → s.arb.entryWait = true →
    ∃ n, exec (.dormantEntryAbort src t) s = .next n ∧ n.arb.entryWait = false ∧ n.flag SYS_DSTAT 1 = true ∧ n.fld SYS_DSTAT 5 2 = src ∧ Kept s n [SYS_DSTAT] ∧ n.mram = s.mram) ∧
  (∀ (src t : Nat) (s : State), RegsOk s → src < 8 → s.wakeEnabled src = true → s.sys = sysDormant → s.holder = none → s.dieLevel < 2 → s.clk.vreg5 = true →
    ∃ n, exec (.wake src t) s = .next n ∧ n.holder = some (s.arb.lastHolder.getD .a) ∧ n.laneState (s.arb.lastHolder.getD .a) = lanePowering ∧ n.clk.pll = true ∧ n.sys = sysDormant ∧
      n.flag SYS_DSTAT 1 = true ∧ n.fld SYS_DSTAT 5 2 = src ∧ n.flag HOST_ALERT 5 = true ∧ Kept s n [SYS_DSTAT, HOST_ALERT, HOST_STS, LANE_AUTH, LANE_HEALTH] ∧ n.mram = s.mram)

/-- At an epoch boundary the running lane's state is taken for its checkpoint (R329, R330); a commit that completes fills the buffer that does not hold the newest checkpoint, shows its epoch number and is the heartbeat (R331); eight boundaries without one take the token from the holder, which is marked bad (R326, R331). -/
def Obligations.EpochsCommitAndTimeOut : Prop :=
  (∀ (t : Nat) (s : State), s.laneRuns = true → (s.at t).now % 1000 = 0 → s.upd.trial = none →
    ∃ n, exec (.epochBoundary t) s = .next n ∧ n.commit = some { epoch := (s.at t).now / 1000, regs := s.regs, clamped := s.clamped, timers := s.timers, lane := s.lane } ∧ n.regs = s.regs ∧ n.mram = s.mram) ∧
  (∀ (t : Nat) (ck : Ckpt) (s : State), RegsOk s → s.laneRuns = true → s.commit = some ck → ck.epoch < 2 ^ 64 → s.arb.entryWait = false → s.arb.swapAsked = false → s.arb.imgAsked = false →
    s.tw.waiting = none → s.spi.waiting = none → s.casc.held = none →
    ∃ n, exec (.checkpointCommitDone t) s = .next n ∧ n.commit = none ∧ (n.ckptA = some ck ∨ n.ckptB = some ck) ∧ (∀ a b, s.ckptA = some a → s.ckptB = some b → a.epoch < b.epoch → n.ckptB = some b) ∧
      (∀ a b, s.ckptA = some a → s.ckptB = some b → b.epoch ≤ a.epoch → n.ckptA = some a) ∧
      n.wide LANE_EPOCH 4 = ck.epoch ∧ n.arb.lastBeat = 1000 * ck.epoch ∧ n.holder = s.holder ∧
      Kept s n ([LANE_EPOCH, LANE_EPOCH + 1, LANE_EPOCH + 2, LANE_EPOCH + 3, BB_RSEQ, BB_RSEQ + 1, BB_BFILL, BB_CHEAD])) ∧
  (∀ (t : Nat) (l : LaneId) (s : State), RegsOk s → s.laneHeld = true → s.holder = some l → s.isBad l.other = false → s.arb.lastBeat + 8000 ≤ (s.at t).now → s.arb.swapAsked = false → s.arb.imgAsked = false →
    ∃ n, exec (.heartbeatTimeout t) s = .next n ∧ n.holder = some l.other ∧ n.isBad l = true ∧ n.laneState l = laneCold ∧ n.laneState l.other = lanePowering ∧ n.sys = sysCol ∧ n.flag LANE_AUTH 13 = true ∧
      n.fld LANE_AUTH 12 10 = 1 ∧ n.arb.col = some .timeout ∧ n.arb.stamped = false ∧ n.commit = none)

/-- A running lane hands the token back for a fault and is marked bad, where its heartbeat has not timed out by then (R326, R327, R344); a word whose stamp the arbiter accepts changes nothing of it (R325; the rails as log 135 reads them), and a word with a failing stamp is dropped, recorded as class 13, and its sender goes cold and bad (R328); the watchdog resets a lane and holds it cold (R455); a lane that stops silently keeps the token until it times out, and its commit is lost (R331). -/
def Obligations.LanesFailInTheirWays : Prop :=
  (∀ (t : Nat) (l : LaneId) (s : State), RegsOk s → s.laneRuns = true → s.holder = some l → s.isBad l.other = false → s.arb.swapAsked = false → s.arb.imgAsked = false →
    ∃ n, exec (.laneHandback t) s = .next n ∧ n.holder = some l.other ∧ n.isBad l = true ∧ n.laneState l = laneCold ∧ n.laneState l.other = lanePowering ∧ n.sys = sysCol ∧
      n.fld LANE_AUTH 12 10 = (if s.arb.lastBeat + 8000 ≤ (s.at t).now then 1 else 2) ∧ n.arb.col = some (if s.arb.lastBeat + 8000 ≤ (s.at t).now then .timeout else .handback) ∧ n.commit = none) ∧
  (∀ (t holder gen acc addr : Nat) (l : LaneId) (s : State), s.stampOk holder gen = true →
    ∃ n, exec (.authorityConflict l holder gen acc addr t) s = .next n ∧ n.arb = s.arb ∧ n.lane = s.lane ∧ n.regs = s.regs ∧ n.flt = s.flt ∧ n.mram = s.mram) ∧
  (∀ (t holder gen acc addr : Nat) (l : LaneId) (s : State), RegsOk s → s.stampOk holder gen = false → s.holder ≠ some l →
    ∃ n, exec (.authorityConflict l holder gen acc addr t) s = .next n ∧ n.isBad l = true ∧ n.laneState l = laneCold ∧ n.flag LANE_STS 4 = true ∧ n.holder = s.holder ∧ Faulted n 0 13) ∧
  (∀ (t : Nat) (l : LaneId) (s : State), RegsOk s → s.holder = some l → s.laneState l ≠ laneCold → s.arb.stamped = true →
    ∃ n, exec (.laneWatchdogExpiry l t) s = .next n ∧ n.laneState l = laneCold ∧ n.reg RST_CAUSE = Word.ofNat (4 + 8 * l.index) ∧ n.arb.silent = true ∧ n.holder = some l ∧
      Kept s n [RST_CAUSE, LANE_HEALTH] ∧ n.mram = s.mram) ∧
  (∀ (t : Nat) (l : LaneId) (s : State), s.holder = some l →
    ∃ n, exec (.laneStop t) s = .next n ∧ n.arb.silent = true ∧ n.commit = none ∧ n.holder = some l ∧ n.regs = s.regs ∧ n.mram = s.mram)

/-- An incoming lane is powered, restores the newest checkpoint, falling back to the other buffer where SECDED flags the newest (R21), and with its first stamped command is in charge: the shelf is in Normal, a Col has ended, and its heartbeat is judged from there (R334). A restore that fails leaves the lane cold and bad, and Plain hold where no halted lane can take the token back (R336). -/
def Obligations.TakeoverRunsToItsFirstCommand : Prop :=
  (∀ (t : Nat) (l : LaneId) (k : ColKind) (s : State), s.holder = some l → s.arb.col = some k → s.arb.powered = false → k ≠ .imageSwitch →
    ∃ n, exec (.lanePowered t) s = .next n ∧ n.arb.powered = true ∧ n.regs = s.regs ∧ n.mram = s.mram) ∧
  (∀ (t : Nat) (l : LaneId) (s : State), s.holder = some l → s.arb.col = some .imageSwitch → s.arb.powered = true → s.arb.restored = false → s.newestCkpt.isSome = true →
    ∃ n, exec (.laneRestoreComplete ⟨false, false, t⟩) s = .next n ∧ n.arb.restored = true ∧ n.regs = s.regs ∧ n.lane = s.lane ∧ n.mram = s.mram) ∧
  (∀ (t : Nat) (l : LaneId) (a b : Ckpt) (s : State), s.holder = some l → s.arb.col = some .imageSwitch → s.arb.powered = true → s.arb.restored = false → s.ckptA = some a → s.ckptB = some b →
    ∃ n, exec (.laneRestoreComplete ⟨true, false, t⟩) s = .next n ∧ n.arb.restored = true ∧ n.ckptA = none ∧ n.newestCkpt = some b ∧ Faulted n 0 15 ∧ n.lane = s.lane ∧ n.mram = s.mram) ∧
  (∀ (t : Nat) (l : LaneId) (k : ColKind) (ck : Ckpt) (im : Image) (s : State), s.holder = some l → s.arb.col = some k → k = .timeout ∨ k = .handback ∨ k = .swap ∨ k = .wake ∨ k = .restart → s.arb.powered = true →
    s.arb.restored = false → s.newestCkpt = some ck → s.image = some im → s.journal = [] →
    ∃ (n m : State), exec (.laneRestoreComplete ⟨false, false, t⟩) s = .next n ∧ n.arb.restored = true ∧ m.regs = overlay 0 s.laneOwned ck.regs s.regs ∧ m.lane = ck.lane ∧ m.mram = s.mram ∧
      n = { (((m.keepCore (s.at t)).catchUp.rebuildFabric im).discardStaged ck.epoch) with flt := n.flt, pending := s.pending, outs := n.outs }) ∧
  (∀ (t : Nat) (l : LaneId) (s : State), RegsOk s → s.holder = some l → s.arb.col = some .timeout → s.arb.restored = true → s.arb.silent = false → s.upd.bootDue = [] →
    ∃ (n m : State), exec (.firstStampedCommand t) s = .next n ∧ m.sys = sysNormal ∧ m.flag LANE_AUTH 13 = false ∧ m.laneState l = laneRunning ∧ m.holder = some l ∧ m.arb.col = none ∧ m.arb.stamped = true ∧ m.arb.lastBeat = m.now / 1000 * 1000 ∧
      n = { ((((m.firmwareInCharge l).restsAfterCol.resumeSaddle.recordLog.drainInputs false).takeHeld.pumpAll.resumeAll).resumeRemote) with pending := s.pending, outs := n.outs }) ∧
  (∀ (t : Nat) (l : LaneId) (conflict : Bool) (s : State), RegsOk s → s.holder = some l → s.arb.col = some .timeout → s.arb.stamped = false → s.arb.swapAsked = false → s.arb.imgAsked = false →
    s.tw.waiting = none → s.spi.waiting = none →
    ∃ n, exec (.restoreFail conflict t) s = .next n ∧ n.holder = none ∧ n.isBad l = true ∧ n.sys = sysPlain ∧ n.laneState .a = laneCold ∧ n.laneState .b = laneCold ∧ n.flag LANE_STS 6 = true ∧ n.flag LANE_STS 5 = true ∧
      n.arb.col = none ∧ Faulted n 0 13)

/-- LANE.SWAP with its key asks for a swap at the next boundary, or is refused with SWAPREF (R341); START with its key starts a lane from Plain hold, and so does LANE.ARTIME with a count (R340); CLRBAD with its key clears both marks and their causes (R343). IMG.SWITCH with its key begins a check of the slot it names, dry or for a switch, and shows BUSY (R98, R99); a dry check that passes marks the slot valid, and one that fails sets FAIL with its code and raises class 14 (R96 to R98). -/
def Obligations.SwapsRestartsAndImageChecks : Prop :=
  (∀ (p : Port) (w : Word) (t : Nat) (s : State), ServesAll p (s.at t) → bits w 15 0 = 0x5A3C → s.swapRefused = false → s.upd.trial = none →
    ∃ n, exec (.laneSwap p w t) s = .next n ∧ n.arb.swapAsked = true ∧ n.arb.askedAt = n.now ∧ (n.iface p).acked = true ∧ n.regs = s.regs ∧ n.mram = s.mram) ∧
  (∀ (p : Port) (w : Word) (t : Nat) (s : State), RegsOk s → ServesAll p (s.at t) → bits w 15 0 = 0x5A3C → s.swapRefused = true →
    ∃ n, exec (.laneSwap p w t) s = .next n ∧ n.flag LANE_STS 3 = true ∧ n.arb = s.arb ∧ (n.iface p).acked = true ∧ Kept s n (LANE_STS :: recordWords) ∧ n.mram = s.mram) ∧
  (∀ (p : Port) (w : Word) (t : Nat) (s : State), RegsOk s → s.service p = .plain → (s.iface p).waiting = none → s.arb.entryWait = false → s.sys = sysPlain → s.holder = none → s.mayStart = true → bits w 15 0 = 0x3CA5 → bit w 16 = true → bit w 17 = false →
    ∃ n, exec (.laneRestartStart p w t) s = .next n ∧ n.holder = some s.chooseLane ∧ n.laneState s.chooseLane = lanePowering ∧ n.fld LANE_AUTH 12 10 = 5 ∧ n.arb.col = some .restart ∧ n.sys = sysPlain ∧ n.age .autoRestart = 0 ∧
      Kept s n [LANE_AUTH, LANE_HEALTH] ∧ n.mram = s.mram) ∧
  (∀ (p : Port) (w : Word) (t : Nat) (s : State), RegsOk s → ServesAll p (s.at t) → bits w 15 0 = 0x3CA5 → bit w 17 = true →
    ∃ n, exec (.laneClrbad p w t) s = .next n ∧ n.isBad .a = false ∧ n.isBad .b = false ∧ n.fld LANE_HEALTH 7 0 = 0 ∧ n.laneState .a = s.laneState .a ∧ n.laneState .b = s.laneState .b ∧ n.arb.firstBad = none ∧
      (n.iface p).acked = true ∧ Kept s n [LANE_HEALTH] ∧ n.mram = s.mram) ∧
  (∀ (t : Nat) (s : State), RegsOk s → s.sys = sysPlain → s.holder = none → s.mayStart = true → 0 < ef (s.reg LANE_ARTIME) → s.regN LANE_ARCNT < s.regN LANE_ARMAX → (s.at t).expired .autoRestart (s.reg LANE_ARTIME) = true →
    ∃ n, exec (.laneAutoRestart t) s = .next n ∧ n.holder = some s.chooseLane ∧ n.laneState s.chooseLane = lanePowering ∧ n.reg LANE_ARCNT = s.reg LANE_ARCNT + 1 ∧ n.fld LANE_AUTH 12 10 = 5 ∧ n.sys = sysPlain ∧
      Kept s n [LANE_AUTH, LANE_HEALTH, LANE_ARCNT] ∧ n.mram = s.mram) ∧
  (∀ (p : Port) (w : Word) (t : Nat) (s : State), RegsOk s → ServesAll p (s.at t) → bits w 15 0 = 0x3C3C → bit w 17 = true → s.imgBusy = false → s.switching = false → s.upd.trial = none → s.arb.entryWait = false →
    ∃ n, exec (.imgCheck p w t) s = .next n ∧ n.upd.check = some (.dry, b2n (bit w 16)) ∧ n.imgBusy = true ∧ (n.iface p).acked = true ∧ Kept s n [IMG_LDSTAT] ∧ n.mram = s.mram) ∧
  (∀ (p : Port) (w : Word) (t : Nat) (s : State), RegsOk s → ServesAll p (s.at t) → bits w 15 0 = 0x3C3C → bit w 17 = false → s.imgBusy = false → s.switching = false → s.upd.trial = none → s.arb.entryWait = false →
    ∃ n, exec (.imgSwitch p w t) s = .next n ∧ n.upd.check = some (.switch, b2n (bit w 16)) ∧ n.imgBusy = true ∧ (n.iface p).acked = true ∧ Kept s n [IMG_LDSTAT] ∧ n.mram = s.mram) ∧
  (∀ (t slot : Nat) (s : State), RegsOk s → slot < 2 → s.upd.check = some (.dry, slot) → s.arb.imgAsked = false → s.upd.closing = none → s.check slot = none →
    ∃ n, exec (.loaderCheckDone t) s = .next n ∧ n.upd.check = none ∧ n.imgBusy = false ∧ n.flag IMG_ACTIVE (1 + slot) = true ∧ n.flag IMG_LDSTAT 1 = true ∧ n.flag HOST_ALERT 3 = true ∧ n.image = s.image ∧
      Kept s n ([IMG_LDSTAT, IMG_ACTIVE, HOST_ALERT] ++ recordWords) ∧ n.mram = s.mram) ∧
  (∀ (t slot : Nat) (x : Bad) (s : State), RegsOk s → ImagesFit s → slot < 2 → s.upd.check = some (.dry, slot) → s.arb.imgAsked = false → s.upd.closing = none → s.check slot = some x → x.code < 256 → s.flt.matches_ = [] →
    ∃ n, exec (.loaderCheckDone t) s = .next n ∧ n.upd.check = none ∧ n.flag IMG_ACTIVE (1 + slot) = false ∧ n.flag IMG_LDSTAT 2 = true ∧ n.fld IMG_LDERR 7 0 = x.code ∧ Faulted n 0 14 ∧ n.image = s.image ∧ n.mram = s.mram)

/-- A coefficient written goes into the shadow bank and is what FAB.CDATA then reads, while the coefficients in use stay; FAB.SLOT naming another slot, or DISCARD, drops the bank; APPLY marks it, and the next evaluation of the slot takes it into use (R114, R115). SLOT.SET takes a written set-point and restarts the ramp of a slot without a reference source, unless the strand owns the slot, when it keeps its value as clamped (R122, R208); a slot enabled since its last evaluation is initialised at its next one, with its ramp restarted (R116, R122). -/
def Obligations.CoefficientsAndSlots : Prop :=
  (∀ (p : Port) (w : Word) (t : Nat) (r : SlotRec) (s : State), RegsOk s → canonical false s.clamped = true → ServesAll p (s.at t) → s.image.bind (·.slot? (s.fld FAB_SLOT 7 0)) = some r → s.fld FAB_SLOT 10 8 < r.coef.length →
    ∃ n, exec (.fabCdataWrite p w t) s = .next n ∧ n.cdata = (coefClamp r.law (s.fld FAB_SLOT 10 8) w).1 ∧ n.isClamped FAB_CDATA = (coefClamp r.law (s.fld FAB_SLOT 10 8) w).2 ∧ n.lane.coefs = s.lane.coefs ∧
      (n.iface p).acked = true ∧ n.regs = s.regs ∧ n.mram = s.mram) ∧
  (∀ (p : Port) (w : Word) (t : Nat) (s : State), RegsOk s → ServesAll p (s.at t) →
    ∃ n, exec (.fabSlotWrite p w t) s = .next n ∧ n.reg FAB_SLOT = Written s FAB_SLOT w ∧ (n.fld FAB_SLOT 7 0 ≠ s.fld FAB_SLOT 7 0 → n.lane = { s.lane with shadow := none }) ∧
      (n.fld FAB_SLOT 7 0 = s.fld FAB_SLOT 7 0 → n.lane = s.lane) ∧ (n.iface p).acked = true ∧ Kept s n [FAB_SLOT] ∧ n.mram = s.mram) ∧
  (∀ (p : Port) (w : Word) (t : Nat) (sh : Shadow) (s : State), ServesAll p (s.at t) → bit w 0 = true → bit w 1 = false → s.lane.shadow = some sh → sh.slot = s.fld FAB_SLOT 7 0 →
    ∃ n, exec (.fabCoefApply p w t) s = .next n ∧ n.lane = { s.lane with shadow := some { sh with apply := true } } ∧ (n.iface p).acked = true ∧ n.regs = s.regs ∧ n.mram = s.mram) ∧
  (∀ (p : Port) (w : Word) (t : Nat) (s : State), ServesAll p (s.at t) → bit w 1 = true →
    ∃ n, exec (.fabCoefDiscard p w t) s = .next n ∧ n.lane = { s.lane with shadow := none } ∧ (n.iface p).acked = true ∧ n.regs = s.regs ∧ n.mram = s.mram) ∧
  (∀ (sh : Shadow) (s : State), s.lane.shadow = some sh → sh.apply = true →
    (s.takeShadow sh.slot).coefOf sh.slot = sh.vals.foldl (fun l p => l.set p.1 p.2) (s.coefOf sh.slot) ∧ (s.takeShadow sh.slot).lane.shadow = none ∧ (s.takeShadow sh.slot).regs = s.regs) ∧
  (∀ (p : Port) (n0 : Nat) (w : Word) (t : Nat) (r : SlotRec) (s : State), RegsOk s → ServesAll p (s.at t) → n0 < 256 → s.image.bind (·.slot? n0) = some r → s.strandSlots.contains n0 = false →
    ∃ n, exec (.slotSetWrite p n0 w t) s = .next n ∧ n.sw n0 SLOT_SET = Written s (slotAddr n0 SLOT_SET) w ∧ (r.ref = .none → (n.slot n0).restart = true) ∧ (n.iface p).acked = true ∧
      Kept s n [slotAddr n0 SLOT_SET] ∧ n.mram = s.mram) ∧
  (∀ (p : Port) (n0 : Nat) (w : Word) (t : Nat) (r : SlotRec) (s : State), RegsOk s → canonical false s.clamped = true → ServesAll p (s.at t) → n0 < 256 → s.image.bind (·.slot? n0) = some r →
    s.strandSlots.contains n0 = true →
    ∃ n, exec (.slotSetWrite p n0 w t) s = .next n ∧ Kept s n [] ∧ n.isClamped (slotAddr n0 SLOT_SET) = true ∧ n.lane = s.lane ∧ n.mram = s.mram) ∧
  (∀ (n0 t : Nat) (s : State), s.works = true → bit (s.sw n0 SLOT_CTL) 0 = true → (s.slot n0).start = true →
    ∃ n, exec (.slotEnable n0 t) s = .next n ∧ (n.slot n0).start = true ∧ (n.slot n0).restart = true ∧ (∀ m, m ≠ n0 → n.slot m = s.slot m) ∧ n.regs = s.regs ∧ n.mram = s.mram)

/-- A frame at a whole microsecond forms the shelf's voltage from its sense input and its power from voltage and current (R50, R54, R56), notes the time, and asserts every throttle output with a cause (R292); while the clocks are not released it changes nothing. A tick with a lane in charge hands the allowance and the margin it leaves to the core's hard throttle judgement (R291) and asserts every throttle output with a cause (R292). At its sample instant a group takes its voltage and its current over the sense resistor, each within the range of its converter (R47, R106, R140); without a lane nothing else changes, and a held group of a lane in charge returns to primary control, its state code as MODE and DIR say and its dwell restarted (R149, R172); a fast slot whose evaluation overran sets OVR, counts, and raises class 13 against the owner of its group (R127). The reported governor moves to a raw winner that has won GOVQ evaluations in a row: FAB.GGOV, and CTX.GOV with its status bit in every context that the group is primary for (R61, R120). -/
def Obligations.FramesTicksAndSamples : Prop :=
  (∀ (inp : FrameIn) (r : CtxRec) (s : State), Formed s → ImagesFit s → s.clocks = true → (s.at inp.t).now % 200 = 0 → s.sys ≠ sysDormant → s.ctx? 0 = some r →
    ∃ n, exec (.frame inp) s = .next n ∧ n.cw 0 CTX_VMEAS = toPU (s.puV 0 ((clampInt 0 groupTop (inp.vout.getD (r.a0 % 8) 0) : Rat) / 1000000)) ∧ n.updatedAt (ctxAddr 0 CTX_VMEAS) = n.now ∧
      n.cw 0 CTX_PMEAS = toPU (pu (n.cw 0 CTX_VMEAS) * pu (n.cw 0 CTX_IMEAS)) ∧ ThrottlesFollow n ∧ n.mram = s.mram) ∧
  (∀ (inp : FrameIn) (s : State), s.clocks = false → ∃ n, exec (.frame inp) s = .next n ∧ n.regs = s.regs ∧ n.lane = s.lane ∧ n.now = s.now ∧ n.mram = s.mram) ∧
  (∀ (late : List Nat) (t : Nat) (s : State), Formed s → ImagesFit s → s.clocks = true → (s.at t).now % 2000 = 0 → s.works = true →
    ∃ n, exec (.shelfTick late t) s = .next n ∧ n.hardLatched = some ((n.cw 0 SHELF_ALLOW).toInt, (n.cw 0 SHELF_HARD).toInt) ∧ ThrottlesFollow n ∧ n.mram = s.mram) ∧
  (∀ (c : Nat) (v i : Int) (late : List Nat) (t : Nat) (r : CtxRec) (s : State), RegsOk s → s.ctx? c = some r → r.typ = .group → (s.at t).now % 200 = 25 * r.inst → s.works = false →
    ∃ n, exec (.sampleInstant c v i late t) s = .next n ∧ n.cw c CTX_VMEAS = toPU (s.puV c ((clampInt 0 groupTop v : Rat) / 1000000)) ∧ n.cw c CTX_IMEAS = toPU (s.puI c ((clampInt (-(200000000 * (r.phases.length : Int))) (200000000 * (r.phases.length : Int)) i : Rat) / 1000000000 / ef (s.cw c GRP_RSENSE))) ∧
      Kept s n [ctxAddr c CTX_VMEAS, ctxAddr c CTX_IMEAS, ctxAddr c CTX_PMEAS, ctxAddr c CTX_STS] ∧ n.lane = s.lane ∧ n.mram = s.mram) ∧
  (∀ (c : Nat) (v i : Int) (t : Nat) (r : CtxRec) (s : State), RegsOk s → ImagesFit s → s.ctx? c = some r → r.typ = .group → (s.at t).now % 200 = 25 * r.inst → c < 128 → s.works = true → s.held c = true →
    ∃ n, exec (.sampleInstant c v i [] t) s = .next n ∧ n.cw c CTX_VMEAS = toPU (s.puV c ((clampInt 0 groupTop v : Rat) / 1000000)) ∧ n.held c = false ∧ n.code c = (if runningCode (s.code c) then runningFor (s.grpMode c) (s.grpDir c) else s.code c) ∧ n.running (.dwell c) = true ∧ n.age (.dwell c) = 0 ∧
      n.mram = s.mram) ∧
  (∀ (c : Nat) (v i : Int) (late : List Nat) (t : Nat) (r : CtxRec) (im : Image) (q : SlotRec) (g : GroupRec) (s : State), RegsOk s → ImagesFit s → s.ctx? c = some r → r.typ = .group → (s.at t).now % 200 = 25 * r.inst → c < 128 → s.works = true →
    s.image = some im → s.lateOf (im.fastSlots r.inst) late = [q] → im.group? q.group = some g → (s.ctx? g.owner).isSome = true → s.flt.matches_ = [] →
    ∃ n m, exec (.sampleInstant c v i late t) s = .next n ∧ AfterLaneRaise m n 13 g.owner none ∧ Faulted n g.owner 13 ∧ m.flag (slotAddr q.slot SLOT_STS) 7 = true ∧
      m.reg FAB_OVRCNT = satInc (s.reg FAB_OVRCNT) ∧ n.mram = s.mram) ∧
  (∀ (g t n0 k : Nat) (im : Image) (s : State), RegsOk s → s.works = true → s.image = some im → g < 64 → n0 < 256 → s.lane.govRun.find? (fun p => p.1 = g) = some (g, n0, k) → s.govq ≤ k →
    s.flag (FAB_GGOV + g) 8 = false ∨ s.fld (FAB_GGOV + g) 7 0 ≠ n0 →
    ∃ n, exec (.governorChange g t) s = .next n ∧ n.fld (FAB_GGOV + g) 7 0 = n0 ∧ n.flag (FAB_GGOV + g) 8 = true ∧
      (∀ x ∈ im.contexts, x.prigrp = g → n.cw x.ctx CTX_GOV = Word.ofNat (n0 + 256) ∧ n.flag (ctxAddr x.ctx CTX_STS) 4 = true) ∧ n.lane = s.lane ∧ n.mram = s.mram)

/-- EN latched as 1 in Off starts Soft start and clears the retry count, and the context leaves its safe state; EN latched as 0 outside Off takes a group that is not held to Off with every phase at high impedance (R151, R152); GRP.FSW takes a written frequency that lies in its range (R158). Eight frames of power-good move Soft start to the running state that MODE and DIR name (R150, R151); eight frames below lose it, and in a running state set PGLOST and raise class 3 (R151). GRP.SSTO without power-good leads to Hiccup while retries are left, counting one, and else to Latched with class 3 (R151, R152); GRP.HICCUP elapsed starts again with the count kept; one second of power-good clears it. -/
def Obligations.SoftStartRunsAndRetries : Prop :=
  (∀ (c t : Nat) (r : CtxRec) (s : State), RegsOk s → s.works = true → s.group? c = some r → (s.grp c).en = true → s.code c = 0 →
    ∃ n, exec (.groupEnable c t) s = .next n ∧ n.code c = 1 ∧ n.safe c = false ∧ n.held c = s.held c ∧ n.cw c GRP_RETRYCNT = 0 ∧ n.running (.softStart c) = true ∧ n.age (.softStart c) = 0 ∧
      (n.grp c).powerGood = false ∧ (n.grp c).fading = none ∧ (n.grp c).starting = r.phases.filter (fun p => !s.flag (PH_STS + p) 3) ∧
      Kept s n ([ctxAddr c CTX_STATE, ctxAddr c GRP_RETRYCNT] ++ r.phases.map (PH_STS + ·)) ∧ n.mram = s.mram) ∧
  (∀ (c t : Nat) (r : CtxRec) (s : State), RegsOk s → s.works = true → s.group? c = some r → (s.grp c).en = false → s.code c ≠ 0 → s.held c = false →
    ∃ n, exec (.groupDisable c t) s = .next n ∧ n.code c = 0 ∧ (∀ p ∈ r.phases, n.flag (PH_STS + p) 3 = false ∧ (n.phase p).level = .hiZ) ∧ n.cw c GRP_NACT = 0 ∧
      n.running (.softStart c) = false ∧ n.running (.hiccup c) = false ∧
      Kept s n ([ctxAddr c CTX_STATE, ctxAddr c GRP_NACT, ctxAddr c GRP_FMEAS] ++ r.phases.map (PH_STS + ·)) ∧ n.mram = s.mram) ∧
  (∀ (p : Port) (c : Nat) (w : Word) (t : Nat) (r : CtxRec) (s : State), RegsOk s → ServesAll p (s.at t) → s.group? c = some r → c < 128 →
    ∃ n, exec (.grpFswWrite p c w t) s = .next n ∧ n.cw c GRP_FSW = ((s.at t).clampWord (ctxAddr c GRP_FSW) w).1 ∧ (n.iface p).acked = true ∧
      Kept s n [ctxAddr c GRP_FSW, ctxAddr c CTX_STS] ∧ n.mram = s.mram) ∧
  (∀ (c t : Nat) (r : CtxRec) (s : State), RegsOk s → s.works = true → s.group? c = some r → s.code c = 1 → s.held c = false → (s.grp c).cutStop = false → 8 ≤ s.count (.pgUp c) →
    ∃ n, exec (.groupPowerGood c t) s = .next n ∧ n.code c = runningFor (s.grpMode c) (s.grpDir c) ∧ (n.grp c).powerGood = true ∧ n.running (.softStart c) = false ∧ n.age (.dwell c) = 0 ∧
      n.running (.dwell c) = true ∧ n.held c = false ∧ Kept s n [ctxAddr c CTX_STATE] ∧ n.mram = s.mram) ∧
  (∀ (c t : Nat) (r : CtxRec) (s : State), RegsOk s → s.works = true → s.group? c = some r → s.held c = false → (s.grp c).powerGood = true → 8 ≤ s.count (.pgDown c) →
    runningCode (s.code c) = true → s.flt.matches_ = [] →
    ∃ n m, exec (.groupPowerGoodLost c t) s = .next n ∧ AfterLaneRaise m n 3 c none ∧ Faulted n c 3 ∧ (m.grp c).powerGood = false ∧ m.flag (ctxAddr c CTX_STS) 5 = true ∧
      m.running (.pgHeld c) = false ∧ m.code c = s.code c ∧ Kept s m [ctxAddr c CTX_STS] ∧ n.mram = s.mram) ∧
  (∀ (c t : Nat) (r : CtxRec) (s : State), RegsOk s → s.works = true → s.group? c = some r → s.code c = 1 → s.held c = false →
    (s.at t).expired (.softStart c) (s.cw c GRP_SSTO) = true → s.count (.pgUp c) < 8 → (s.cw c GRP_RETRYCNT).toNat < (s.cw c GRP_RETRY).toNat →
    ∃ n, exec (.softStartTimeout c t) s = .next n ∧ n.code c = 6 ∧ n.cw c GRP_RETRYCNT = s.cw c GRP_RETRYCNT + 1 ∧ n.flag (ctxAddr c CTX_STS) 6 = true ∧ n.running (.hiccup c) = true ∧
      (∀ p ∈ r.phases, n.flag (PH_STS + p) 3 = false) ∧
      Kept s n ([ctxAddr c CTX_STATE, ctxAddr c CTX_STS, ctxAddr c GRP_NACT, ctxAddr c GRP_FMEAS, ctxAddr c GRP_RETRYCNT] ++ recordWords ++ r.phases.map (PH_STS + ·)) ∧ n.mram = s.mram) ∧
  (∀ (c t : Nat) (r : CtxRec) (s : State), RegsOk s → s.works = true → s.group? c = some r → s.code c = 1 → s.held c = false →
    (s.at t).expired (.softStart c) (s.cw c GRP_SSTO) = true → s.count (.pgUp c) < 8 → (s.cw c GRP_RETRY).toNat ≤ (s.cw c GRP_RETRYCNT).toNat → s.flt.matches_ = [] →
    ∃ n m, exec (.softStartTimeout c t) s = .next n ∧ AfterLaneRaise m n 3 c none ∧ OnlyOutputs (s.at t) m ∧ Faulted n c 3 ∧ m.code c = 7 ∧ m.flag (ctxAddr c CTX_STS) 7 = true ∧
      m.running (.softStart c) = false ∧ (∀ p ∈ r.phases, m.flag (PH_STS + p) 3 = false) ∧ n.mram = s.mram) ∧
  (∀ (c t : Nat) (r : CtxRec) (s : State), RegsOk s → s.works = true → s.group? c = some r → s.code c = 6 → (s.grp c).en = true →
    (s.at t).expired (.hiccup c) (s.cw c GRP_HICCUP) = true →
    ∃ n, exec (.hiccupEnd c t) s = .next n ∧ n.code c = 1 ∧ n.cw c GRP_RETRYCNT = s.cw c GRP_RETRYCNT ∧ n.running (.softStart c) = true ∧ n.running (.hiccup c) = false ∧
      Kept s n (ctxAddr c CTX_STATE :: r.phases.map (PH_STS + ·)) ∧ n.mram = s.mram) ∧
  (∀ (c t : Nat) (s : State), RegsOk s → s.works = true → s.isType c .group = true → (s.grp c).powerGood = true → (s.at t).expiredTicks (.pgHeld c) ticksPerSecond = true →
    ∃ n, exec (.groupRetrycntClear c t) s = .next n ∧ n.cw c GRP_RETRYCNT = 0 ∧ Kept s n [ctxAddr c GRP_RETRYCNT] ∧ OnlyRegs (s.at t) n)

/-- A group without a current group takes only MODE 0b00: another mode written is stored as 0b00 and the word is marked clamped, with CTX.STS.CLAMP (R146). -/
def Obligations.GroupModeNeedsACurrentGroup : Prop :=
  ∀ (p : Port) (c t : Nat) (b0 b1 b2 : Byte) (pec : Option Byte) (r : CtxRec) (s : State), RegsOk s → canonical false s.clamped = true → ServesAll p (s.at t) → c < 128 → (s.iface p).ctx = c → s.group? c = some r → s.served c = [] →
    s.minGroup c 3 = none → s.implemented (ctxAddr c GRP_CTL) = true → s.routeRefused r GRP_CTL (bytesWord b0 b1 b2) = false → (s.at t).checkBad p [BitVec.ofNat 8 GRP_CTL, b0, b1, b2] pec = none →
    ∃ n, exec (.wordWrite p GRP_CTL b0 b1 b2 pec t) s = .next n ∧ n.grpMode c = 0 ∧ (bits (bytesWord b0 b1 b2) 2 1 ≠ 0 → n.isClamped (ctxAddr c GRP_CTL) = true ∧ n.flag (ctxAddr c CTX_STS) 1 = true) ∧ (n.iface p).acked = true ∧
      Kept s n [ctxAddr c GRP_CTL, ctxAddr c CTX_STS, ctxAddr c CTX_STATE, ctxAddr c CTX_GOV] ∧ n.mram = s.mram

/-- A current beyond GRP.PHTRIP drives a switching phase Low, or to high impedance in reverse, and flags it (R154); 64 counted periods raise class 3 against the group (R155); at the end of 100 ticks every phase with too large a mean deviation is flagged imbalanced (R142); a switching period brings in the phases that wait, uses MODE and DIR of GRP.CTL, or of a held group those in use, and holds the peak command within its ceiling (R137, R145, R170). -/
def Obligations.PhasesTripAndSwitch : Prop :=
  (∀ (ph t : Nat) (nv : Int) (reverse : Bool) (r : CtxRec) (s : State), RegsOk s → ph < 24 → s.groupOfPhase ph = some r → s.phaseCrossing r nv = some reverse → s.flag (PH_STS + ph) 3 = true → (s.phase ph).skipping = false →
    ∃ n, exec (.phaseTrip ph nv t) s = .next n ∧ (n.phase ph).level = (if reverse then .hiZ else .low) ∧ (n.phase ph).tripped = true ∧
      n.flag (PH_STS + ph) (if reverse then 6 else 5) = true ∧ n.flag (ctxAddr r.ctx CTX_STS) 11 = true ∧ (∀ q, q ≠ ph → n.phase q = s.phase q) ∧
      Kept s n [PH_STS + ph, ctxAddr r.ctx CTX_STS] ∧ n.mram = s.mram) ∧
  (∀ (ph t : Nat) (r : CtxRec) (s : State), RegsOk s → s.groupOfPhase ph = some r → r.ctx < 128 → (s.ctx? r.ctx).isSome = true → 64 ≤ (s.phase ph).trips → (s.phase ph).raised = false →
    ∃ n m, exec (.phaseTripRepeat ph t) s = .next n ∧ AfterCoreRaise m n 3 r.ctx none ∧ Faulted n r.ctx 3 ∧ (m.phase ph).raised = true ∧ m.regs = s.regs ∧ n.mram = s.mram) ∧
  (∀ (c t : Nat) (s : State), RegsOk s → s.works = true → s.isType c .group = true → c < 128 → 100 ≤ (s.grp c).blockTicks → (∀ x ∈ (s.grp c).blockSum, x.1 < 24) →
    ∃ n, exec (.phaseImbalanceBlockEnd c t) s = .next n ∧ (n.grp c).blockTicks = 0 ∧ (n.grp c).blockSum = [] ∧
      (∀ x ∈ (s.grp c).blockSum, x.2 / ((s.grp c).blockTicks : Rat) < -1 / 4 ∨ 1 / 4 < x.2 / ((s.grp c).blockTicks : Rat) → n.flag (PH_STS + x.1) 7 = true ∧ n.flag (ctxAddr c CTX_STS) 15 = true) ∧
      Kept s n ([ctxAddr c CTX_STS] ++ recordWords ++ ((s.grp c).blockSum.map (fun x => PH_STS + x.1))) ∧ n.mram = s.mram) ∧
  (∀ (c : Nat) (av ai : Int) (t : Nat) (r : CtxRec) (s : State), s.group? c = some r → (s.grp c).starting ≠ [] ∨ s.active r ≠ [] →
    ∃ n, exec (.switchingPeriod c av ai t) s = .next n ∧ (n.grp c).starting = [] ∧ (n.grp c).mode = (if s.held c then (s.grp c).mode else s.grpMode c) ∧ (n.grp c).dir = (if s.held c then (s.grp c).dir else s.grpDir c) ∧
      (0 ≤ s.ceiling r → -(s.ceiling r) ≤ (n.grp c).peak ∧ (n.grp c).peak ≤ s.ceiling r) ∧ n.mram = s.mram)

/-- Sixteen valid SYNC_IN edges set the group's target to that frequency; phase 0 reaching its place sets SYNCACQ; a lost SYNC_IN sets SYNCLOST and gives the target back to GRP.FSW (R156, R157); after GRP.FADE periods a shed transition is marked as over (R162), and its frame takes the phase to high impedance, or keeps it with every phase recalled where the current of the frame is above the add threshold (R163, R174; the moment as log 136 reads it). -/
def Obligations.SyncAndShedFollowTheirEvents : Prop :=
  (∀ (c hz t : Nat) (s : State), s.isType c .group = true → bit (s.cw c GRP_CTL) 5 = true → s.syncValid c hz = true →
    ∃ n, exec (.syncAcquire c hz t) s = .next n ∧ (n.grp c).sync = some (hz : Rat) ∧ (n.grp c).aligned = false ∧ (n.grp c).freq = (s.grp c).freq ∧ n.regs = s.regs ∧ n.mram = s.mram) ∧
  (∀ (c t : Nat) (s : State), RegsOk s → s.isType c .group = true → bit (s.cw c GRP_CTL) 5 = true → (s.grp c).sync = some (s.grp c).freq → (s.grp c).aligned = false →
    ∃ n, exec (.syncAligned c t) s = .next n ∧ (n.grp c).aligned = true ∧ n.flag (ctxAddr c CTX_STS) 10 = true ∧ Kept s n [ctxAddr c CTX_STS] ∧ n.mram = s.mram) ∧
  (∀ (c t : Nat) (s : State), RegsOk s → s.isType c .group = true → c < 128 → (s.grp c).sync.isSome = true →
    ∃ n, exec (.syncLoss c t) s = .next n ∧ (n.grp c).sync = none ∧ n.flag (ctxAddr c CTX_STS) 9 = true ∧ Kept s n (ctxAddr c CTX_STS :: recordWords) ∧ n.mram = s.mram) ∧
  (∀ (c t p : Nat) (r : CtxRec) (s : State), RegsOk s → s.works = true → s.group? c = some r → (s.grp c).fading = some p → p < 24 → (s.cw c GRP_FADE).toNat ≤ (s.grp c).faded →
    ∃ n, exec (.shedTransitionEnd c t) s = .next n ∧ (n.grp c).shedAt = (s.grp c).shedAt.or (some n.now) ∧ (n.grp c).fading = some p ∧ n.phases = s.phases ∧ n.regs = s.regs ∧ n.mram = s.mram) ∧
  (∀ (p t0 : Nat) (current : Int) (r : CtxRec) (s : State), RegsOk s → s.works = true → s.groupRunning r.ctx = true → s.held r.ctx = false → (s.grp r.ctx).fading = some p → (s.grp r.ctx).shedAt = some t0 → p < 24 →
    ((s.active r).length < 2 ∨ (current.natAbs : Int) ≤ (s.cw r.ctx (STEPPE_ADD + ((s.active r).length - 2))).toInt) →
    let n := s.frameRecall r current
    (n.grp r.ctx).fading = none ∧ (n.phase p).level = .hiZ ∧ n.flag (PH_STS + p) 3 = false ∧ n.running (.dwell r.ctx) = true ∧ n.age (.dwell r.ctx) = 0 ∧ Kept s n [PH_STS + p, ctxAddr r.ctx GRP_NACT] ∧ n.mram = s.mram) ∧
  (∀ (p : Nat) (current : Int) (r : CtxRec) (s : State), RegsOk s → s.works = true → s.groupRunning r.ctx = true → s.held r.ctx = false → (s.grp r.ctx).fading = some p → 2 ≤ (s.active r).length →
    (s.cw r.ctx (STEPPE_ADD + ((s.active r).length - 2))).toInt < (current.natAbs : Int) →
    let n := s.frameRecall r current
    (n.grp r.ctx).fading = none ∧ (n.grp r.ctx).shedAt = none ∧ n.phase p = s.phase p ∧ n.flag (ctxAddr r.ctx CTX_STS) 8 = true ∧ n.cw r.ctx GRP_RECALLCNT = satInc (s.cw r.ctx GRP_RECALLCNT) ∧
      n.running (.dwell r.ctx) = true ∧ n.age (.dwell r.ctx) = 0 ∧ n.mram = s.mram)

/-- A current beyond a threshold of R180 pulls the gate down and stays flagged, whichever context owns the channel (R180), and in Dormant it then wakes the shelf (R30); a closed native feed that trips forward outside a change is latched with class 4 (R193). Full enhancement shows in GCH.STS, ends the inrush timeout, closes a closing feed and makes a connecting string Hung; its loss clears the bit again, and with it a branch's power-good (R178, R189, R200, R216). -/
def Obligations.GateChannelsTripAndEnhance : Prop :=
  (∀ (ch t : Nat) (nv : Int) (reverse : Bool) (r : CtxRec) (s : State), RegsOk s → ch < 16 → s.ownerRec ch = some r → r.a0 = ch → s.crossing r nv = some reverse → s.drive ch ≠ 0 → s.sys ≠ sysDormant →
    ∃ n, exec (.gateTrip ch nv t) s = .next n ∧ n.drive ch = 0 ∧ n.flag (GCH_STS + ch) (if reverse then 4 else 3) = true ∧ n.mram = s.mram) ∧
  (∀ (ch t : Nat) (nv : Int) (reverse : Bool) (r : CtxRec) (s : State), RegsOk s → ch < 16 → s.ownerRec ch = some r → r.a0 = ch → s.crossing r nv = some reverse → s.drive ch ≠ 0 → s.sys = sysDormant → s.holder = none → s.arb.entryFrom = none → s.arb.entryWait = false → s.dieLevel < 2 → s.clk.vreg5 = true →
    ∃ n, exec (.gateTrip ch nv t) s = .next n ∧ n.drive ch = 0 ∧ n.flag (GCH_STS + ch) (if reverse then 4 else 3) = true ∧ n.holder = some (s.arb.lastHolder.getD .a) ∧ n.flag SYS_DSTAT 1 = true ∧ n.fld SYS_DSTAT 5 2 = 6) ∧
  (∀ (ch t : Nat) (nv : Int) (r : CtxRec) (s : State), RegsOk s → ImagesFit s → ch < 16 → s.ownerRec ch = some r → r.a0 = ch → s.crossing r nv = some false → r.typ = .feed → r.a1 = 0 → s.drive ch ≠ 0 → s.sys ≠ sysDormant → s.lane.change = none →
    ∃ n, exec (.gateTrip ch nv t) s = .next n ∧ n.code r.ctx = 7 ∧ n.flag (ctxAddr r.ctx CTX_STS) 6 = true ∧ Faulted n r.ctx 4) ∧
  (∀ (ch t : Nat) (r : CtxRec) (s : State), RegsOk s → ch < 16 → s.ownerRec ch = some r → s.drive ch ≠ 0 → s.enhanced ch = false → 8 ≤ s.count (.enhUp ch) →
    ∃ n, exec (.channelEnhanced ch t) s = .next n ∧ n.enhanced ch = true ∧ n.drive ch = 3 ∧ n.running (.inrush ch) = false ∧
      (r.typ = .feed → s.laneRuns = true → s.code r.ctx = 3 → r.inst < 8 → n.code r.ctx = 4 ∧ n.lane.change = none ∧ n.fld FSEL_ACTIVE 3 0 = r.inst ∧ n.flag (ctxAddr r.ctx CTX_STS) 8 = true) ∧
      (r.typ = .string → n.code r.ctx = (if s.code r.ctx = 1 then 2 else s.code r.ctx) ∧ n.running (.dhHeld r.ctx) = true) ∧
      (r.typ = .branch → n.flag (ctxAddr r.ctx BR_LIVE) 1 = true ∧ n.code r.ctx = s.code r.ctx) ∧ n.mram = s.mram) ∧
  (∀ (ch t : Nat) (r : CtxRec) (s : State), RegsOk s → ch < 16 → s.ownerRec ch = some r → s.enhanced ch = true → 8 ≤ s.count (.enhDown ch) →
    ∃ n, exec (.channelEnhancementLost ch t) s = .next n ∧ n.enhanced ch = false ∧ n.drive ch = s.drive ch ∧ (r.typ = .branch → n.fld (ctxAddr r.ctx BR_LIVE) 1 0 = 0 ∧ n.running (.brPgHeld r.ctx) = false) ∧
      (r.typ = .string → n.flag (ctxAddr r.ctx BAT_PSTS) 3 = false ∧ n.running (.dhHeld r.ctx) = false) ∧
      Kept s n ([GCH_STS + ch, ctxAddr r.ctx BR_LIVE, ctxAddr r.ctx BAT_PSTS, ctxAddr r.ctx CTX_STS] ++ recordWords) ∧ n.mram = s.mram)

/-- A timeout, a window trip or an over-temperature of a branch in a carrying state pulls its gate down at once and flags its cause, and leaves the state and the retry count to the frame (R180, R181, R201, R205). What a frame, or the incoming lane, enters of a branch whose gate was pulled down: Cool-down with the energy recorded and a retry counted, Latched with class 5 once the retries are used (R201, R203), and Off with no attempt counted where EN is 0 by then (R205). -/
def Obligations.FailedAttemptsRetryOrLatch : Prop :=
  (∀ (ch t : Nat) (r : CtxRec) (s : State), RegsOk s → ch < 16 → s.ownerRec ch = some r → r.a0 = ch → r.typ = .branch → s.drive ch ≠ 0 → brLive (s.code r.ctx) = true →
    (s.at t).expired (.inrush ch) (s.cw r.ctx BR_ITO) = true → s.count (.enhUp ch) < 8 →
    ∃ n, exec (.attemptTimerExpiry ch t) s = .next n ∧ n.drive ch = 0 ∧ n.flag (GCH_STS + ch) 5 = true ∧ n.flag (ctxAddr r.ctx CTX_STS) 8 = true ∧ n.code r.ctx = s.code r.ctx ∧
      n.running (.gateOff ch) = true ∧ n.age (.gateOff ch) = 0 ∧ n.running (.inrush ch) = false ∧ Kept s n [GCH_STS + ch, ctxAddr r.ctx CTX_STS] ∧ n.mram = s.mram) ∧
  (∀ (ch t : Nat) (nv : Int) (r : CtxRec) (s : State), RegsOk s → ch < 16 → s.ownerRec ch = some r → r.a0 = ch → s.crossing r nv = some false → r.typ = .branch → s.drive ch ≠ 0 → brLive (s.code r.ctx) = true →
    s.sys ≠ sysDormant → s.arb.entryWait = false →
    ∃ n, exec (.gateTrip ch nv t) s = .next n ∧ n.drive ch = 0 ∧ n.flag (GCH_STS + ch) 3 = true ∧ n.flag (ctxAddr r.ctx CTX_STS) 6 = true ∧ n.code r.ctx = s.code r.ctx ∧
      Kept s n [GCH_STS + ch, ctxAddr r.ctx CTX_STS] ∧ n.mram = s.mram) ∧
  (∀ (c t : Nat) (r : CtxRec) (s : State), RegsOk s → s.branch? c = some r → r.a0 < 16 → r.a1 = 0xFE → s.laneRuns = true → s.drive r.a0 ≠ 0 → brLive (s.code c) = true → temp (s.cw c BR_TJMAX) ≤ temp (s.cw c CTX_TMEAS) →
    ∃ n, exec (.branchOvertemp c t) s = .next n ∧ n.drive r.a0 = 0 ∧ n.flag (ctxAddr c CTX_STS) 10 = true ∧ n.code c = s.code c ∧ Kept s n [GCH_STS + r.a0, ctxAddr c CTX_STS] ∧ n.mram = s.mram) ∧
  (∀ (r : CtxRec) (s : State), RegsOk s → s.ctx? r.ctx = some r → r.typ = .branch → s.drive r.a0 = 0 → brLive (s.code r.ctx) = true → s.brEn r.ctx = true → (s.cw r.ctx BR_RETRYCNT).toNat < (s.cw r.ctx BR_RETRY).toNat → (s.chan r.a0).downAt = some s.now →
    let n := s.enterFailed r
    n.code r.ctx = 4 ∧ n.cw r.ctx BR_RETRYCNT = satInc (s.cw r.ctx BR_RETRYCNT) ∧ n.cw r.ctx BR_EATT = toEF (s.chan r.a0).attempt ∧ n.flag (ctxAddr r.ctx CTX_STS) 11 = true ∧ n.running (.cool r.ctx) = true ∧ n.age (.cool r.ctx) = 0 ∧
      Kept s n ([ctxAddr r.ctx CTX_STATE, ctxAddr r.ctx CTX_STS, ctxAddr r.ctx BR_EATT, ctxAddr r.ctx BR_LIVE, ctxAddr r.ctx BR_RETRYCNT] ++ recordWords) ∧ n.mram = s.mram) ∧
  (∀ (r : CtxRec) (s : State), RegsOk s → ImagesFit s → s.ctx? r.ctx = some r → r.typ = .branch → r.a0 < 16 → s.drive r.a0 = 0 → brLive (s.code r.ctx) = true → s.brEn r.ctx = true → (s.cw r.ctx BR_RETRY).toNat ≤ (s.cw r.ctx BR_RETRYCNT).toNat →
    s.flt.matches_ = [] → s.sys ≠ sysDormant →
    (s.enterFailed r).code r.ctx = 5 ∧ (s.enterFailed r).flag (ctxAddr r.ctx CTX_STS) 12 = true ∧ Faulted (s.enterFailed r) r.ctx 5 ∧ (s.enterFailed r).mram = s.mram) ∧
  (∀ (r : CtxRec) (s : State), RegsOk s → s.ctx? r.ctx = some r → r.typ = .branch → s.drive r.a0 = 0 → brLive (s.code r.ctx) = true → s.brEn r.ctx = false →
    (s.enterFailed r).code r.ctx = 0 ∧ (s.enterFailed r).cw r.ctx BR_COOLREM = 0 ∧ Kept s (s.enterFailed r) [ctxAddr r.ctx CTX_STATE, ctxAddr r.ctx BR_LIVE, ctxAddr r.ctx BR_COOLREM] ∧ (s.enterFailed r).mram = s.mram)

/-- FEED.CTL.EN written 1 against no refusal leaves the safe state; written 0 it ends the qualification and opens a closed or closing feed (R185, R188, R193, R354); a feed whose conditions held for FEED.TQUAL is qualified, and one that loses them is not (R186, R187). -/
def Obligations.FeedsQualifyAndAreEnabled : Prop :=
  (∀ (p : Port) (c t : Nat) (w : Word) (r : CtxRec) (s : State), RegsOk s → ServesAll p (s.at t) → c < 128 → s.ctx? c = some r → r.typ = .feed → s.feedEn c = false → bit w 0 = true → s.reenableRefused c = false →
    ∃ n, exec (.feedEnableWrite p c w t) s = .next n ∧ n.cw c FEED_CTL = Written s (ctxAddr c FEED_CTL) w ∧ n.feedEn c = true ∧ n.safe c = false ∧ n.code c = s.code c ∧ (n.iface p).acked = true ∧
      Kept s n [ctxAddr c FEED_CTL, ctxAddr c CTX_STATE, ctxAddr c CTX_STS, ctxAddr c CTX_GOV] ∧ n.mram = s.mram) ∧
  (∀ (p : Port) (c t : Nat) (w : Word) (r : CtxRec) (s : State), RegsOk s → ImagesFit s → ServesAll p (s.at t) → s.laneRuns = true → c < 128 → s.ctx? c = some r → r.typ = .feed → r.a0 < 16 → bit w 0 = false →
    ∃ n, exec (.feedEnableWrite p c w t) s = .next n ∧ n.feedEn c = false ∧ n.qualified c = false ∧ n.code c ≠ 7 ∧ n.code c ≠ 6 ∧ (s.code c = 3 ∨ s.code c = 4 → n.drive r.a0 = 0) ∧ (n.iface p).acked = true ∧ n.mram = s.mram) ∧
  (∀ (c t : Nat) (s : State), RegsOk s → s.works = true → s.isType c .feed = true → s.feedOk c = true → (s.at t).expired (.qualify c) (s.cw c FEED_TQUAL) = true →
    ∃ n, exec (.feedQualified c t) s = .next n ∧ n.qualified c = true ∧ n.running (.qualify c) = false ∧ (s.code c ≤ 2 → n.code c = 2) ∧ Kept s n [ctxAddr c CTX_STATE] ∧ n.mram = s.mram) ∧
  (∀ (c t : Nat) (s : State), RegsOk s → s.works = true → s.isType c .feed = true → s.qualified c = true → s.acOk c = false ∨ (s.at t).expired (.disqualify c) (s.cw c FEED_TDQ) = true → s.lane.change = none →
    ∃ n, exec (.feedQualificationLost c t) s = .next n ∧ n.qualified c = false ∧ n.flag (ctxAddr c CTX_STS) 5 = true ∧ (s.code c ≤ 2 → n.code c = 0) ∧ Kept s n [ctxAddr c CTX_STATE, ctxAddr c CTX_STS] ∧ n.mram = s.mram)

/-- A feed change goes from the old gate below its off threshold to the dead time, and from the dead time to the target's gate sourcing and Closing (R189); a change that found no target ends with NOFEED (R190). A target that is not enhanced within 50 ms is opened and latched with class 4, and the change goes on without it once its gate is off (R189); an old gate that is not off within 10 us raises class 4 and ends the change (R189); an enabled ideal-diode feed that is neither inhibited nor latched turns on after eight frames at FEED.VON (R194). -/
def Obligations.FeedChangesBreakBeforeMake : Prop :=
  (∀ (t x : Nat) (ch : Change) (s : State), RegsOk s → s.works = true → s.lane.change = some ch → ch.phase = .opening → ch.target = some x →
    ∃ n, exec (.feedOldGateOff t) s = .next n ∧ n.lane.change = some { ch with phase := .dead } ∧ n.running .dead = true ∧ n.age .dead = 0 ∧ n.flag FSEL_ACTIVE 4 = true ∧
      (∀ o, ch.old = some o → s.code o = 5 → n.code o = s.openCode o) ∧ (∀ a, a ≠ FSEL_ACTIVE → (∀ o, ch.old = some o → a ≠ ctxAddr o CTX_STATE) → n.reg a = s.reg a) ∧ n.mram = s.mram) ∧
  (∀ (t : Nat) (ch : Change) (s : State), RegsOk s → s.works = true → s.lane.change = some ch → ch.phase = .opening → ch.target = none → s.candidate = none →
    ∃ n, exec (.feedOldGateOff t) s = .next n ∧ n.lane.change = none ∧ n.flag FSEL_STS 2 = true ∧ n.flag FSEL_ACTIVE 4 = false ∧ n.mram = s.mram) ∧
  (∀ (t c g : Nat) (ch : Change) (s : State), RegsOk s → s.works = true → (s.at t).expired .dead (s.reg FSEL_DEAD) = true → s.lane.change = some ch → ch.phase = .dead → ch.target = some c → s.qualified c = true →
    s.channelOf c = some g → g < 16 → s.drive g = 0 → (∀ q, s.ownerRec g = some q → q.typ = .feed) →
    ∃ n, exec (.feedDeadTimeEnd t) s = .next n ∧ n.lane.change = some { ch with phase := .closing } ∧ n.drive g = 1 ∧ n.code c = 3 ∧ n.running .slowOn = true ∧ n.running .dead = false ∧
      Kept s n [GCH_STS + g, ctxAddr c CTX_STATE, FSEL_ACTIVE] ∧ n.mram = s.mram) ∧
  (∀ (t c : Nat) (r : CtxRec) (ch : Change) (s : State), RegsOk s → ImagesFit s → s.works = true → (s.at t).expiredTicks .slowOn (ms 50) = true → s.lane.change = some ch → ch.phase = .closing → ch.target = some c →
    s.ctx? c = some r → r.typ = .feed → r.a0 < 16 → s.drive r.a0 ≠ 3 → s.flt.matches_ = [] →
    ∃ n, exec (.feedSlowOn t) s = .next n ∧ n.code c = 7 ∧ n.flag (ctxAddr c CTX_STS) 10 = true ∧ n.drive r.a0 = 0 ∧ n.qualified c = false ∧ Faulted n c 4 ∧ n.running .slowOn = false ∧
      (∀ x, n.lane.change = some x → x.phase = (if s.gateIsOff c then .dead else .opening) ∧ x.old = some c ∧ x.target ≠ some c) ∧ n.mram = s.mram) ∧
  (∀ (t : Nat) (r : CtxRec) (s : State), RegsOk s → ImagesFit s → s.works = true → s.ctx? r.ctx = some r → r.a0 < 16 → s.flt.matches_ = [] →
    (s.ofType .feed).filter (fun q => (s.code q.ctx == 5 || s.sad == 1 || s.lane.change.any (fun ch => ch.old = some q.ctx && ch.phase = .opening)) && (s.at t).expiredTicks (.gateOff q.a0) (us 10) && !s.gateIsOff q.ctx) = [r] →
    ∃ n, exec (.feedSlowOff t) s = .next n ∧ n.flag (GCH_STS + r.a0) 6 = true ∧ n.flag (ctxAddr r.ctx CTX_STS) 9 = true ∧ Faulted n r.ctx 4 ∧
      (∀ ch, s.lane.change = some ch → ch.old = some r.ctx → n.lane.change = none) ∧ n.mram = s.mram) ∧
  (∀ (c t : Nat) (r : CtxRec) (s : State), RegsOk s → s.ctx? c = some r → r.typ = .feed → r.a1 = 1 → r.a0 < 16 → s.feedEn c = true → s.code c ≠ 7 → s.code c ≠ 4 → s.inhibit.contains c = false → s.sys ≠ sysDormant ∨ r.dormant = 1 → 8 ≤ s.count (.diode c) → (∀ q, s.ownerRec r.a0 = some q → q.typ = .feed) →
    ∃ n, exec (.idealDiodeTurnOn c t) s = .next n ∧ n.drive r.a0 = 1 ∧ n.code c = 4 ∧ n.flag (ctxAddr c CTX_STS) 8 = true ∧ Kept s n [GCH_STS + r.a0, ctxAddr c CTX_STATE, ctxAddr c CTX_STS] ∧ n.mram = s.mram)

/-- EN 1 in Off starts Inrush with its timeout and a fresh retry count when the FET is cool, else Cool-down; EN 0 outside Off turns the gate off, and an attempt that a trip of the same frame ended is not counted (R201, R202, R205); the end of Cool-down starts Inrush again. Power-good of a branch moves Inrush to On and records the attempt's energy; its drop is offered to the recorder from On or Limiting (R200, R201); regulation moves On to Limiting with its limit time, and eight frames without it back (R181, R201); one second of power-good clears the retry count (R202). -/
def Obligations.BranchesStartReachOnAndStop : Prop :=
  (∀ (c t : Nat) (r : CtxRec) (s : State), RegsOk s → s.works = true → s.branch? c = some r → r.a0 < 16 → s.ownerRec r.a0 = some r → s.brEn c = true → s.code c = 0 → s.brCool c = true →
    ∃ n, exec (.branchEnable c t) s = .next n ∧ n.code c = 1 ∧ n.cw c BR_RETRYCNT = 0 ∧ n.safe c = false ∧ n.drive r.a0 = 1 ∧ n.running (.inrush r.a0) = true ∧ n.age (.inrush r.a0) = 0 ∧
      (n.chan r.a0).attempt = 0 ∧ Kept s n [ctxAddr c BR_RETRYCNT, ctxAddr c CTX_STATE, ctxAddr c BR_LIVE, GCH_STS + r.a0] ∧ n.mram = s.mram) ∧
  (∀ (c t : Nat) (r : CtxRec) (s : State), RegsOk s → s.works = true → s.branch? c = some r → s.brEn c = true → s.code c = 0 → s.brCool c = false →
    ∃ n, exec (.branchEnable c t) s = .next n ∧ n.code c = 4 ∧ n.cw c BR_RETRYCNT = 0 ∧ n.running (.cool c) = true ∧ n.age (.cool c) = 0 ∧ Kept s n [ctxAddr c BR_RETRYCNT, ctxAddr c CTX_STATE] ∧ n.mram = s.mram) ∧
  (∀ (c t : Nat) (r : CtxRec) (s : State), RegsOk s → s.works = true → s.branch? c = some r → r.a0 < 16 → s.brEn c = false → s.code c ≠ 0 →
    ∃ n, exec (.branchDisable c t) s = .next n ∧ n.code c = 0 ∧ n.drive r.a0 = 0 ∧ n.flag (ctxAddr c BR_LIVE) 2 = false ∧ n.cw c BR_COOLREM = 0 ∧ n.running (.cool c) = false ∧
      n.cw c BR_RETRYCNT = s.cw c BR_RETRYCNT ∧ n.cw c CTX_STS = s.cw c CTX_STS ∧
      Kept s n [ctxAddr c BR_LIVE, ctxAddr c CTX_STATE, ctxAddr c BR_COOLREM, GCH_STS + r.a0] ∧ n.mram = s.mram) ∧
  (∀ (c t : Nat) (r : CtxRec) (s : State), RegsOk s → s.works = true → s.branch? c = some r → r.a0 < 16 → s.ownerRec r.a0 = some r → s.code c = 4 → s.brEn c = true → (s.at t).expired (.cool c) (s.cw c BR_COOLMIN) = true → s.brCool c = true →
    ∃ n, exec (.branchCooldownEnd c t) s = .next n ∧ n.code c = 1 ∧ n.drive r.a0 = 1 ∧ n.cw c BR_COOLREM = 0 ∧ n.running (.cool c) = false ∧ n.running (.inrush r.a0) = true ∧ n.cw c BR_RETRYCNT = s.cw c BR_RETRYCNT ∧
      Kept s n [ctxAddr c CTX_STATE, ctxAddr c BR_COOLREM, ctxAddr c BR_LIVE, GCH_STS + r.a0] ∧ n.mram = s.mram) ∧
  (∀ (c t : Nat) (r : CtxRec) (s : State), RegsOk s → s.works = true → s.branch? c = some r →
    ∃ n, exec (.brCoolremUpdate c t) s = .next n ∧ n.cw c BR_COOLREM = (if s.code c = 4 then (s.at t).coolRem r else 0) ∧ Kept s n [ctxAddr c BR_COOLREM] ∧ OnlyRegs (s.at t) n) ∧
  (∀ (c t : Nat) (r : CtxRec) (s : State), RegsOk s → s.branch? c = some r → s.enhanced r.a0 = true → s.drive r.a0 ≠ 0 → 8 ≤ s.count (.brPg c) → s.code c = 1 → s.flag (ctxAddr c BR_LIVE) 0 = false →
    ∃ n, exec (.branchPowerGood c t) s = .next n ∧ n.flag (ctxAddr c BR_LIVE) 0 = true ∧ n.code c = 2 ∧ n.cw c BR_EATT = toEF (s.chan r.a0).attempt ∧ n.running (.inrush r.a0) = false ∧ n.running (.brPgHeld c) = true ∧
      n.age (.brPgHeld c) = 0 ∧ Kept s n [ctxAddr c BR_LIVE, ctxAddr c CTX_STATE, ctxAddr c BR_EATT] ∧ n.mram = s.mram) ∧
  (∀ (c t : Nat) (r : CtxRec) (s : State), RegsOk s → s.branch? c = some r → s.flag (ctxAddr c BR_LIVE) 0 = true → s.enhanced r.a0 = false ∨ 8 ≤ s.count (.brPgLow c) →
    ∃ n, exec (.branchPowerGoodDrop c t) s = .next n ∧ n.flag (ctxAddr c BR_LIVE) 0 = false ∧ n.running (.brPgHeld c) = false ∧ (s.code c = 2 ∨ s.code c = 3 → n.flag (ctxAddr c CTX_STS) 5 = true) ∧
      Kept s n ([ctxAddr c BR_LIVE, ctxAddr c CTX_STS] ++ recordWords) ∧ n.mram = s.mram) ∧
  (∀ (c t : Nat) (r : CtxRec) (s : State), RegsOk s → s.branch? c = some r → r.a0 < 16 → s.drive r.a0 ≠ 0 → s.code c = 2 →
    ∃ n, exec (.branchLimitStart c t) s = .next n ∧ n.code c = 3 ∧ n.drive r.a0 = 2 ∧ n.running (.limit r.a0) = true ∧ n.flag (ctxAddr c CTX_STS) 13 = true ∧
      Kept s n [GCH_STS + r.a0, ctxAddr c CTX_STATE, ctxAddr c CTX_STS] ∧ n.mram = s.mram) ∧
  (∀ (c t : Nat) (r : CtxRec) (s : State), RegsOk s → s.branch? c = some r → r.a0 < 16 → s.drive r.a0 ≠ 0 → s.code c = 3 → 8 ≤ s.count (.limOff r.a0) →
    ∃ n, exec (.branchLimitEnd c t) s = .next n ∧ n.code c = 2 ∧ n.drive r.a0 = 3 ∧ n.running (.limit r.a0) = false ∧ Kept s n [GCH_STS + r.a0, ctxAddr c CTX_STATE] ∧ n.mram = s.mram) ∧
  (∀ (c t : Nat) (s : State), RegsOk s → s.works = true → s.isType c .branch = true → s.flag (ctxAddr c BR_LIVE) 0 = true → (s.at t).expiredTicks (.brPgHeld c) ticksPerSecond = true →
    ∃ n, exec (.branchRetrycntClear c t) s = .next n ∧ n.cw c BR_RETRYCNT = 0 ∧ Kept s n [ctxAddr c BR_RETRYCNT] ∧ OnlyRegs (s.at t) n)

/-- EN 1 in Off connects a direct-hang string, or makes a served one available, each with the safe state left; EN 0 outside Off takes it to Off, out of cut-off and a served one out of its charge set (R213, R216, R237); Cool-down ends in Connecting (R216). Regulation moves a Hung string to Limiting with its limit time and shows its direction, and eight frames without it move it back (R181, R216); a second of full enhancement clears the retry count; a failed attempt counts a retry into Cool-down, or latches with class 6. -/
def Obligations.StringsConnectLimitAndRetry : Prop :=
  (∀ (c t : Nat) (r : CtxRec) (s : State), RegsOk s → s.works = true → s.string? c = some r → s.batEn c = true → s.code c = 0 → r.directHang = true → r.a0 < 16 → s.ownerRec r.a0 = some r → s.belowCut c = false →
    ∃ n, exec (.stringEnable c t) s = .next n ∧ n.code c = 1 ∧ n.safe c = false ∧ n.cw c BAT_DHRETRYCNT = 0 ∧ n.drive r.a0 = 1 ∧ n.running (.inrush r.a0) = true ∧
      Kept s n [ctxAddr c CTX_STATE, ctxAddr c BAT_DHRETRYCNT, ctxAddr c BAT_PSTS, GCH_STS + r.a0] ∧ n.mram = s.mram) ∧
  (∀ (c t : Nat) (r g : CtxRec) (s : State), RegsOk s → s.works = true → s.string? c = some r → s.batEn c = true → s.code c = 0 → r.directHang = false → s.servedBy r = some g → s.belowCut c = false →
    ∃ n, exec (.stringEnable c t) s = .next n ∧ n.code c = 7 ∧ n.safe c = false ∧ Kept s n [ctxAddr c CTX_STATE] ∧ n.mram = s.mram) ∧
  (∀ (c t : Nat) (r : CtxRec) (s : State), RegsOk s → s.works = true → s.string? c = some r → s.batEn c = false → s.code c ≠ 0 → (r.directHang = true → r.a0 < 16) →
    ∃ n, exec (.stringDisable c t) s = .next n ∧ n.code c = 0 ∧ n.isCut c = false ∧ ((s.servedBy r).isSome = true → n.chgPhase c = 0 ∧ n.cw c CHG_ICREQ = 0) ∧ (r.directHang = true → n.drive r.a0 = 0) ∧
      Kept s n [ctxAddr c CTX_STATE, ctxAddr c BAT_PSTS, ctxAddr c CHG_STATE, ctxAddr c CHG_ICREQ, ctxAddr c EST_STS, GCH_STS + r.a0] ∧ n.mram = s.mram) ∧
  (∀ (c t : Nat) (r : CtxRec) (s : State), RegsOk s → s.works = true → s.string? c = some r → r.directHang = true → r.a0 < 16 → s.ownerRec r.a0 = some r → s.code c = 4 → s.batEn c = true → (s.at t).expired (.cool c) (s.cw c BAT_DHCOOL) = true →
    ∃ n, exec (.dhCooldownEnd c t) s = .next n ∧ n.code c = 1 ∧ n.drive r.a0 = 1 ∧ n.running (.cool c) = false ∧ n.running (.inrush r.a0) = true ∧ n.cw c BAT_DHRETRYCNT = s.cw c BAT_DHRETRYCNT ∧
      Kept s n [ctxAddr c CTX_STATE, ctxAddr c BAT_PSTS, GCH_STS + r.a0] ∧ n.mram = s.mram) ∧
  (∀ (c t : Nat) (charge : Bool) (r : CtxRec) (s : State), RegsOk s → s.string? c = some r → r.directHang = true → r.a0 < 16 → s.drive r.a0 ≠ 0 → s.code c = 2 →
    ∃ n, exec (.dhLimitStart c charge t) s = .next n ∧ n.code c = 3 ∧ n.drive r.a0 = 2 ∧ n.running (.limit r.a0) = true ∧ n.flag (ctxAddr c BAT_PSTS) 4 = true ∧ n.flag (ctxAddr c BAT_PSTS) 5 = charge ∧
      Kept s n [ctxAddr c CTX_STATE, ctxAddr c BAT_PSTS, GCH_STS + r.a0] ∧ n.mram = s.mram) ∧
  (∀ (c t : Nat) (r : CtxRec) (s : State), RegsOk s → s.string? c = some r → r.directHang = true → r.a0 < 16 → s.drive r.a0 ≠ 0 → s.code c = 3 → 8 ≤ s.count (.limOff r.a0) →
    ∃ n, exec (.dhLimitEnd c t) s = .next n ∧ n.code c = 2 ∧ n.drive r.a0 = 3 ∧ n.running (.limit r.a0) = false ∧ n.fld (ctxAddr c BAT_PSTS) 5 4 = 0 ∧ Kept s n [ctxAddr c CTX_STATE, ctxAddr c BAT_PSTS, GCH_STS + r.a0] ∧
      n.mram = s.mram) ∧
  (∀ (c t : Nat) (s : State), RegsOk s → s.works = true → s.isType c .string = true → s.flag (ctxAddr c BAT_PSTS) 3 = true → (s.at t).expiredTicks (.dhHeld c) ticksPerSecond = true →
    ∃ n, exec (.dhRetrycntClear c t) s = .next n ∧ n.cw c BAT_DHRETRYCNT = 0 ∧ Kept s n [ctxAddr c BAT_DHRETRYCNT] ∧ OnlyRegs (s.at t) n) ∧
  (∀ (ch t : Nat) (r : CtxRec) (s : State), RegsOk s → ImagesFit s → ch < 16 → s.ownerRec ch = some r → r.a0 = ch → r.directHang = true → s.laneRuns = true → s.drive ch ≠ 0 → dhLive (s.code r.ctx) = true →
    (s.at t).expired (.inrush ch) (s.cw r.ctx BAT_DHITO) = true → s.count (.enhUp ch) < 8 →
    ∃ n, exec (.attemptTimerExpiry ch t) s = .next n ∧ n.drive ch = 0 ∧ n.flag (GCH_STS + ch) 5 = true ∧ n.flag (ctxAddr r.ctx CTX_STS) 8 = true ∧
      ((s.cw r.ctx BAT_DHRETRYCNT).toNat < (s.cw r.ctx BAT_DHRETRY).toNat → n.code r.ctx = 4 ∧ n.cw r.ctx BAT_DHRETRYCNT = satInc (s.cw r.ctx BAT_DHRETRYCNT) ∧ n.running (.cool r.ctx) = true) ∧
      ((s.cw r.ctx BAT_DHRETRY).toNat ≤ (s.cw r.ctx BAT_DHRETRYCNT).toNat → s.flt.matches_ = [] → n.code r.ctx = 5 ∧ Faulted n r.ctx 6) ∧ n.mram = s.mram)

/-- Eight frames at or below BAT.VCUT put a string in use into cut-off, with the gate of a direct-hang string down; eight frames at the release level take a served one out again (R213). -/
def Obligations.CutOffIsEnteredAndLeft : Prop :=
  (∀ (c t : Nat) (r : CtxRec) (s : State), RegsOk s → ImagesFit s → s.string? c = some r → (∀ g, s.servedBy r = some g → g.ctx ≠ c) → s.batEn c = true → 8 ≤ s.count (.cutLow c) → s.isCut c = false → s.code c ≠ 5 →
    ∃ n, exec (.stringCutoff c t) s = .next n ∧ n.isCut c = true ∧ n.flag (ctxAddr c CTX_STS) 5 = true ∧ (r.directHang = true → r.a0 < 16 → n.code c = 6 ∧ n.drive r.a0 = 0) ∧
      (r.directHang = false → (s.servedBy r).isSome = true → n.code c = 6) ∧ n.mram = s.mram) ∧
  (∀ (c t : Nat) (r g : CtxRec) (s : State), RegsOk s → s.works = true → s.string? c = some r → s.isCut c = true → 8 ≤ s.count (.cutHigh c) → r.directHang = false → s.servedBy r = some g →
    ∃ n, exec (.stringCutoffExit c t) s = .next n ∧ n.isCut c = false ∧ n.code c = 7 ∧ Kept s n [ctxAddr c BAT_PSTS, ctxAddr c CTX_STATE] ∧ n.mram = s.mram)

/-- A frame average below SAD.HREF - SAD.HTHR starts a Hollow: counted, its depth shown, and every current-mode serving group put into standby-bidirectional (R220, R221); the end level ends it with its duration, and one that a qualified feed rode through sets RIDE (R222); one that lasts SAD.TLOSS waits as a start cause for a lane's next tick (R224, R233); SAD.HREF is formed of the last millisecond (R220). -/
def Obligations.HollowsAreDetected : Prop :=
  (∀ (v : Int) (t : Nat) (s : State), RegsOk s → s.hollow.formed = true → s.hollow.watched.isSome = true → s.inHollow = false → s.sys ≠ sysDormant → s.busWord (v : Rat) < s.hollowLevel false →
    ∃ n, exec (.hollowStart v t) s = .next n ∧ n.inHollow = true ∧ n.reg SAD_HCNT = satInc (s.reg SAD_HCNT) ∧ n.reg SAD_HDEPTH = puRaw ((s.reg SAD_HREF).toInt - s.busWord (v : Rat)) ∧ n.running .hollow = true ∧
      n.age .hollow = 0 ∧ n.hollow.lowest = v ∧ (∀ r ∈ s.servingGroups, s.grpMode r.ctx = 1 → n.grpMode r.ctx = 2) ∧ n.mram = s.mram) ∧
  (∀ (t : Nat) (s : State), RegsOk s → s.inHollow = true → s.hollowLevel true ≤ s.busWord (s.hollow.last : Rat) →
    ∃ n, exec (.hollowEnd t) s = .next n ∧ n.inHollow = false ∧ n.reg SAD_HDUR = toSeconds ((s.at t).age .hollow) ∧ n.running .hollow = false ∧
      (elapsed (s.reg SAD_TLOSS) 0 ((s.at t).age .hollow) = false → s.anyFeed = true → n.flag SAD_STS 5 = true) ∧ Kept s n ([SAD_STATE, SAD_HDUR, SAD_STS] ++ recordWords) ∧ n.lane = s.lane ∧ n.mram = s.mram) ∧
  (∀ (t : Nat) (s : State), s.inHollow = true → (s.at t).expired .hollow (s.reg SAD_TLOSS) = true →
    ∃ n, exec (.hollowTloss t) s = .next n ∧ n.hollow = { s.hollow with tlossDue := true } ∧ n.lane = s.lane ∧ n.regs = s.regs ∧ n.mram = s.mram) ∧
  (∀ (t : Nat) (s : State), RegsOk s → s.hollow.watched.isSome = true → s.hollow.formed = false → 100 ≤ s.hollow.ticks.length →
    ∃ n, exec (.hrefFormed t) s = .next n ∧ n.hollow = { s.hollow with formed := true } ∧ n.reg SAD_HREF = puRaw (s.busWord (meanOf s.hollow.ticks)) ∧ Kept s n [SAD_HREF] ∧ n.mram = s.mram)

/-- SAD.CMD.SADDLE in Source and SAD.CMD.RETURN in Battery are noted for the machine, and elsewhere ignored with CMDIGN (R230); a start cause begins a Saddle in Catch, its cause shown and every ideal-diode feed inhibited (R224, R225); with no feed left on it settles, from Settle it reaches Battery and counts, and the dwell and the stable time end there (R225, R226). The Return pass: a complete Match closes the native target, or releases the inhibits of ideal-diode targets; a closed target, or one released before this tick, is unloaded with the release slots at zero; an unloaded shelf is in Source (R225). -/
def Obligations.TheSaddleAndTheReturnPass : Prop :=
  (∀ (p : Port) (w : Word) (t : Nat) (s : State), RegsOk s → ServesAll p (s.at t) → bit w 0 = true → bit w 1 = false →
    ∃ n, exec (.sadCmdSaddle p w t) s = .next n ∧ (s.sad = 0 → n.lane = { s.lane with saddleCmd := true } ∧ n.regs = s.regs) ∧ (s.sad ≠ 0 → n.lane = s.lane ∧ n.flag SAD_STS 6 = true ∧ Kept s n [SAD_STS]) ∧
      (n.iface p).acked = true ∧ n.mram = s.mram) ∧
  (∀ (p : Port) (w : Word) (t : Nat) (s : State), RegsOk s → ServesAll p (s.at t) → bit w 0 = false → bit w 1 = true →
    ∃ n, exec (.sadCmdReturn p w t) s = .next n ∧ (s.sad = 3 → n.lane = { s.lane with returnCmd := true } ∧ n.regs = s.regs) ∧ (s.sad ≠ 3 → n.lane = s.lane ∧ n.flag SAD_STS 6 = true ∧ Kept s n [SAD_STS]) ∧
      (n.iface p).acked = true ∧ n.mram = s.mram) ∧
  (∀ (k : Nat) (s : State), RegsOk s → ChannelsFit s → s.sad = 0 → s.servingGroups ≠ [] → s.availableGroups ≠ [] → s.saddleCause = some k →
    s.saddleTick.sad = 1 ∧ s.saddleTick.fld SAD_STATE 6 5 = k ∧ s.saddleTick.flag SAD_STS 0 = true ∧ s.saddleTick.inhibit = s.diodeFeeds.map CtxRec.ctx) ∧
  (∀ (t : Nat) (s : State), RegsOk s → s.works = true → s.sad = 1 → (∀ r ∈ s.ofType .feed, s.drive r.a0 = 0 ∧ (s.running (.gateOff r.a0) = false ∨ (s.chan r.a0).vgs < 1000000)) →
    ∃ n m, exec (.saddleFeedsOff t) s = .next n ∧ m.sad = 2 ∧ (∀ r ∈ s.ofType .feed, s.code r.ctx = 5 → (s.chan r.a0).vgs < 1000000 → m.code r.ctx = s.openCode r.ctx) ∧
      Kept s m (SAD_STATE :: (s.ofType .feed).map (fun r => ctxAddr r.ctx CTX_STATE)) ∧ m.lane = s.lane ∧ m.mram = s.mram ∧ n = { m.setHold (s.reg SAD_VHOLD) false with pending := s.pending, outs := n.outs }) ∧
  (∀ (t : Nat) (s : State), RegsOk s → s.works = true → s.sad = 2 → s.availableGroups.all (fun r => s.rampDone (s.holdSlot r.ctx)) = true →
    ∃ n, exec (.saddleComplete t) s = .next n ∧ n.sad = 3 ∧ n.reg SAD_CNT = satInc (s.reg SAD_CNT) ∧ n.fld SAD_STATE 4 3 = 0 ∧ n.flag SAD_STATE 10 = false ∧ n.running .satDwell = true ∧ n.age .satDwell = 0 ∧
      n.running .stable = false ∧ Kept s n [SAD_CNT, SAD_STATE] ∧ n.mram = s.mram) ∧
  (∀ (t : Nat) (s : State), RegsOk s → s.works = true → s.sad = 3 → (s.at t).expiredTicks .satDwell (ms 20) = true →
    ∃ n, exec (.saddleDwellEnd t) s = .next n ∧ n.sad = 3 ∧ n.flag SAD_STATE 3 = true ∧ n.running .satDwell = false ∧ Kept s n [SAD_STATE] ∧ n.mram = s.mram) ∧
  (∀ (t : Nat) (r : CtxRec) (s : State), RegsOk s → s.works = true → s.sad = 3 → s.flag SAD_STATE 3 = true → s.returnTargets.head? = some r → s.lane.stableFor = some r.ctx → (s.at t).expired .stable (s.reg SAD_TSTABLE) = true →
    ∃ n, exec (.saddleStable t) s = .next n ∧ n.sad = 3 ∧ n.flag SAD_STATE 4 = true ∧ Kept s n [SAD_STATE] ∧ OnlyRegs (s.at t) n) ∧
  (∀ (t c g : Nat) (s : State), RegsOk s → s.works = true → s.sad = 4 → s.availableGroups.all (fun r => s.rampDone (s.holdSlot r.ctx)) = true → s.nativeTarget = true → s.lane.change = none → s.sadTarget = some c → s.channelOf c = some g → g < 16 → s.drive g = 0 → (∀ q, s.ownerRec g = some q → q.typ = .feed) →
    ∃ n, exec (.returnMatchDone t) s = .next n ∧ n.sad = 5 ∧ n.drive g = 1 ∧ n.code c = 3 ∧ n.running .slowOn = true ∧ n.lane.change = some { forced := false, old := none, target := some c, phase := .closing } ∧
      Kept s n [SAD_STATE, GCH_STS + g, ctxAddr c CTX_STATE, FSEL_ACTIVE] ∧ n.mram = s.mram) ∧
  (∀ (t : Nat) (s : State), RegsOk s → s.works = true → s.sad = 4 → s.availableGroups.all (fun r => s.rampDone (s.holdSlot r.ctx)) = true → s.nativeTarget = false →
    ∃ n, exec (.returnMatchDone t) s = .next n ∧ n.sad = 5 ∧ n.inhibit = [] ∧ Kept s n [SAD_STATE] ∧ n.lane = { s.lane with releasedAt := some n.now } ∧ n.mram = s.mram) ∧
  (∀ (t : Nat) (s : State), RegsOk s → s.works = true → s.sad = 5 → (s.nativeTarget = true → ∃ c, s.sadTarget = some c ∧ s.code c = 4) → (s.nativeTarget = false → ∃ t0, s.lane.releasedAt = some t0 ∧ t0 / 2000 < (s.at t).now / 2000) →
    ∃ n, exec (.returnCloseDone t) s = .next n ∧ n.sad = 6 ∧ n = { (((s.at t).setSad 6).modeAll 1 (some false)).setRelease s.availableGroups 0 with pending := s.pending, outs := n.outs } ∧ n.mram = s.mram) ∧
  (∀ (t : Nat) (s : State), RegsOk s → s.works = true → s.sad = 6 → s.availableGroups.all (fun r => s.rampDone (s.releaseSlot r.ctx)) = true →
    ∃ n, exec (.returnUnloadDone t) s = .next n ∧ n.sad = 0 ∧ n.flag SAD_STATE 10 = false ∧ n.flag SAD_STS 1 = true ∧ n.lane.stdbyDue = true ∧ n.mram = s.mram)

/-- An evaluation gives every member of a charge set the temperature factor of its cells, and publishes for it the base current of its phase times that factor, and zero in the safe state, while a paused set keeps its requests (R240, R242, R245, R353). A set in Off whose members may charge, none with a tripped cell, starts in Precharge where a member lies below CHG.VPRE, else in Bulk; a set in Bulk stays there while no charge-voltage slot governs, and a member that joins it takes that phase; a set with a member that may not charge is in Off (R237, R243). A supervised string that may charge is in phase 7 without a request (R251). -/
def Obligations.ChargeEvaluationsStartAndRequest : Prop :=
  (∀ (c g t : Nat) (s : State), RegsOk s → s.works = true → s.setOf c = some g →
    ∃ n, exec (.chargeEvaluation c t) s = .next n ∧
      (∀ x ∈ s.chargeSet g, (n.str x.ctx).fc = chargeFactor ((s.at t).stringTemp x.ctx) (temp (s.cw x.ctx CHG_TCLO)) (temp (s.cw x.ctx CHG_TCHI))) ∧
      (∀ x ∈ s.chargeSet g, n.cw x.ctx CHG_ICREQ = (if n.pausing g then s.cw x.ctx CHG_ICREQ else if n.safe x.ctx then 0 else toPU (-(n.baseCurrent x.ctx * n.fcOf x.ctx)))) ∧ n.mram = s.mram) ∧
  (∀ (c g t : Nat) (s : State), RegsOk s → s.works = true → s.setOf c = some g → s.setPhaseOf (s.chargeSet g) = 0 → s.trippedMember (s.chargeSet g) (s.setPhaseOf (s.chargeSet g) == 0) = none → (∀ x ∈ s.chargeSet g, s.chargeable x.ctx = true) →
    ∃ n, exec (.chargeEvaluation c t) s = .next n ∧
      (∀ x ∈ s.chargeSet g, n.chgPhase x.ctx = (if (s.chargeSet g).any (fun y => decide (s.meanV y.ctx < pu (s.cw y.ctx CHG_VPRE))) then 1 else 2) ∧ n.chgBit x.ctx 10 = false) ∧ n.mram = s.mram) ∧
  (∀ (c g t : Nat) (s : State), RegsOk s → s.works = true → s.setOf c = some g → s.setPhaseOf (s.chargeSet g) = 2 → (∀ x ∈ s.chargeSet g, s.chgPhase x.ctx = 2 ∨ s.chgPhase x.ctx = 0) →
    s.trippedMember (s.chargeSet g) (s.setPhaseOf (s.chargeSet g) == 0) = none → (∀ x ∈ s.chargeSet g, s.chargeable x.ctx = true) → s.voltGoverns g = false →
    ∃ n, exec (.chargeEvaluation c t) s = .next n ∧ (∀ x ∈ s.chargeSet g, n.chgPhase x.ctx = 2) ∧ n.mram = s.mram) ∧
  (∀ (c g t : Nat) (s : State), RegsOk s → s.works = true → s.setOf c = some g → (∃ x ∈ s.chargeSet g, s.chargeable x.ctx = false) →
    ∃ n, exec (.chargeEvaluation c t) s = .next n ∧ (∀ x ∈ s.chargeSet g, n.chgPhase x.ctx = 0) ∧ n.mram = s.mram) ∧
  (∀ (c t : Nat) (s : State), RegsOk s → s.works = true → s.setOf c = none → s.isType c .string = true → s.chargeable c = true →
    ∃ n, exec (.chargeEvaluation c t) s = .next n ∧ n.chgPhase c = 7 ∧ n.cw c CHG_ICREQ = 0 ∧ n.mram = s.mram)

/-- A termination takes every member to Top-off where each has one, else to Done, with FULL and the cause (R243); Top-off ends in Done with no request; a member below CHG.VRCH for 10 s starts the set again (R243); a suspension ends after 10 s inside the window (R241); a supervised string below CHG.ITERM for 10 s is full (R251). -/
def Obligations.ChargesTerminateAndRestart : Prop :=
  (∀ (c g k t : Nat) (s : State), RegsOk s → s.works = true → s.setOf c = some g → (s.at t).termination g = some k →
    ∃ n, exec (.chargeTermination c t) s = .next n ∧ n.running (.chgA g) = false ∧
      (∀ b ∈ s.chargeSet g, n.chgPhase b.ctx = (if (s.chargeSet g).all (fun x => bit (s.cw x.ctx CHG_CTL) 4 && decide (0 < ef (s.cw x.ctx CHG_TTOP))) then 4 else 5) ∧ n.chgBit b.ctx 10 = true ∧
        n.fld (ctxAddr b.ctx CHG_STATE) 7 6 = k % 4 ∧ n.flag (ctxAddr b.ctx CTX_STS) 13 = true) ∧ n.mram = s.mram) ∧
  (∀ (c g t : Nat) (s : State), RegsOk s → s.works = true → s.setOf c = some g → s.chargeSet g ≠ [] → s.pausing g = false →
    (∀ b ∈ s.chargeSet g, s.chgPhase b.ctx = 4 ∧ ef (s.cw b.ctx CHG_TTOP) * 1000 ≤ ((s.str b.ctx).topped : Rat)) →
    ∃ n, exec (.topoffEnd c t) s = .next n ∧ (∀ b ∈ s.chargeSet g, n.chgPhase b.ctx = 5 ∧ n.cw b.ctx CHG_ICREQ = 0) ∧
      Kept s n ((s.chargeSet g).flatMap (fun b => [ctxAddr b.ctx CHG_STATE, ctxAddr b.ctx CHG_ICREQ])) ∧ n.mram = s.mram) ∧
  (∀ (c g t : Nat) (s : State), RegsOk s → s.works = true → s.setOf c = some g → (∃ b ∈ s.chargeSet g, s.chgPhase b.ctx = 5) → (s.at t).expiredTicks (.chgB g) (10 * ticksPerSecond) = true →
    ∃ n, exec (.rechargeStart c t) s = .next n ∧ n.running (.chgB g) = false ∧
      (∀ x ∈ s.chargeSet g, n.chgPhase x.ctx = (if (s.chargeSet g).any (fun y => decide (s.meanV y.ctx < pu (s.cw y.ctx CHG_VPRE))) then 1 else 2) ∧ n.cw x.ctx CHG_TELAP = toEF 0 ∧ n.chgBit x.ctx 10 = false) ∧
      Kept s n ((s.chargeSet g).flatMap (fun b => [ctxAddr b.ctx CHG_STATE, ctxAddr b.ctx CHG_TELAP])) ∧ n.mram = s.mram) ∧
  (∀ (c t : Nat) (s : State), RegsOk s → s.works = true → s.isType c .string = true → s.chgBit c 3 = true → (s.at t).expiredTicks (.susp c) (10 * ticksPerSecond) = true →
    ∃ n, exec (.chargeSuspendEnd c t) s = .next n ∧ n.chgBit c 3 = false ∧ n.chgPhase c = s.chgPhase c ∧ n.running (.susp c) = false ∧
      n.cw c CHG_ICREQ = (if s.safe c then 0 else toPU (-(n.baseCurrent c * n.fcOf c))) ∧ Kept s n [ctxAddr c CHG_STATE, ctxAddr c CHG_ICREQ] ∧ n.mram = s.mram) ∧
  (∀ (c t : Nat) (s : State), RegsOk s → s.works = true → s.isType c .string = true → s.chgPhase c = 7 → s.chgBit c 10 = false → (s.at t).expiredTicks (.chgA c) (10 * ticksPerSecond) = true →
    ∃ n, exec (.supervisedFull c t) s = .next n ∧ n.chgPhase c = 7 ∧ n.chgBit c 10 = true ∧ n.cw c CHG_TELAP = toEF 0 ∧ n.mram = s.mram)

/-- A member at its safety time, unless the set terminates in the same evaluation, or one too long in Precharge, takes the whole set to Fault without a request, with its cause and class 7 (R243, R246, R254); a supervised string past its safety time keeps its phase and takes cause and fault (R251). A cell at or above CELL.OVTH trips: it is shown in CELL.OVSTS and in its string's status, raises class 7 against it, and does not trip again before its release, below CELL.OVTH - 0.01 pu (R249). -/
def Obligations.ChargesTimeOutAndCellsTrip : Prop :=
  (∀ (c g t : Nat) (b : CtxRec) (s : State), RegsOk s → s.works = true → s.setOf c = some g → (s.at t).termination g = none → (s.ctx? b.ctx).isSome = true → s.flt.matches_ = [] →
    (s.chargeSet g).find? (fun b => decide (1 ≤ s.chgPhase b.ctx) && decide (s.chgPhase b.ctx ≤ 3) && s.timedOut b.ctx) = some b →
    ∃ n m, exec (.chargeSafetyTimeout c t) s = .next n ∧ AfterLaneRaise m n 7 b.ctx none ∧ Faulted n b.ctx 7 ∧ (∀ x ∈ s.chargeSet g, m.chgPhase x.ctx = 6 ∧ m.cw x.ctx CHG_ICREQ = 0) ∧
      m.fld (ctxAddr b.ctx CHG_STATE) 9 8 = 1 ∧ m.flag (ctxAddr b.ctx CTX_STS) 14 = true ∧
      Kept s m (ctxAddr b.ctx CTX_STS :: (s.chargeSet g).flatMap (fun b => [ctxAddr b.ctx CHG_STATE, ctxAddr b.ctx CHG_ICREQ])) ∧ n.mram = s.mram) ∧
  (∀ (c g t : Nat) (b : CtxRec) (s : State), RegsOk s → s.works = true → s.setOf c = some g → (s.ctx? b.ctx).isSome = true → s.flt.matches_ = [] →
    (s.chargeSet g).find? (fun b => s.chgPhase b.ctx == 1 && !s.pausing g && decide (ef (s.cw b.ctx CHG_TSAFE) / 8 * ticksPerSecond ≤ (((s.at t).now - (s.str b.ctx).preAt : Nat) : Rat)) &&
      decide (s.meanV b.ctx < pu (s.cw b.ctx CHG_VPRE))) = some b →
    ∃ n m, exec (.prechargeTimeout c t) s = .next n ∧ AfterLaneRaise m n 7 b.ctx none ∧ Faulted n b.ctx 7 ∧ (∀ x ∈ s.chargeSet g, m.chgPhase x.ctx = 6 ∧ m.cw x.ctx CHG_ICREQ = 0) ∧
      m.fld (ctxAddr b.ctx CHG_STATE) 9 8 = 3 ∧ m.flag (ctxAddr b.ctx CTX_STS) 14 = true ∧ n.mram = s.mram) ∧
  (∀ (c t : Nat) (r : CtxRec) (s : State), RegsOk s → s.works = true → s.setOf c = none → s.string? c = some r → s.chgPhase c = 7 → s.chgBit c 10 = false → s.timedOut c = true → (s.str c).late = false →
    s.flt.matches_ = [] →
    ∃ n m, exec (.chargeSafetyTimeout c t) s = .next n ∧ AfterLaneRaise m n 7 c none ∧ Faulted n c 7 ∧ m.chgPhase c = 7 ∧ m.fld (ctxAddr c CHG_STATE) 9 8 = 1 ∧ m.flag (ctxAddr c CTX_STS) 14 = true ∧
      Kept s m [ctxAddr c CHG_STATE, ctxAddr c CTX_STS] ∧ n.mram = s.mram) ∧
  (∀ (n0 k t : Nat) (uv : Int) (r : CtxRec) (s : State), RegsOk s → ChannelsFit s → s.cellString n0 k = some r → pu (s.reg (CELL_OVTH + n0)) ≤ cellPu uv → s.ctx? r.ctx = some r → s.cellTripped.contains (16 * n0 + k) = false → s.sys ≠ sysDormant →
    ∃ n, exec (.cellOvTrip n0 ⟨k, uv⟩ t) s = .next n ∧ n.cellTripped = s.cellTripped ++ [16 * n0 + k] ∧ n.flag (CELL_OVSTS + n0) k = true ∧ n.flag (ctxAddr r.ctx CTX_STS) 15 = true ∧ Faulted n r.ctx 7 ∧ n.mram = s.mram) ∧
  (∀ (n0 k t : Nat) (uv : Int) (r : CtxRec) (s : State), s.cellString n0 k = some r → s.cellTripped.contains (16 * n0 + k) = true → ∃ n, exec (.cellOvTrip n0 ⟨k, uv⟩ t) s = .next n ∧ n.regs = s.regs ∧ n.flt = s.flt ∧ n.mram = s.mram) ∧
  (∀ (n0 k t : Nat) (uv : Int) (s : State), ∃ n, exec (.cellOvRelease n0 ⟨k, uv⟩ t) s = .next n ∧
    n.cellTripped = (if cellPu uv < pu (s.reg (CELL_OVTH + n0)) - 1 / 100 then s.cellTripped.filter (· ≠ 16 * n0 + k) else s.cellTripped) ∧ n.regs = s.regs ∧ n.mram = s.mram)

/-- An evaluation moves SOCRAW by the charge counted since the last one over the capacity, held between 0 and 1 (R263), and publishes it. A rest of EST.TREST shows in EST.STS and, with OCVEN 1 and a table steep enough, anchors SOCRAW to the rest voltage with kind 3 (R265 to R267). -/
def Obligations.CountingAndRestEstimateTheCharge : Prop :=
  (∀ (t : Nat) (r : CtxRec) (s : State), RegsOk s → ChannelsFit s → s.works = true → s.ofType .string = [r] → (s.str r.ctx).fresh = false → s.isCut r.ctx = false → (s.str r.ctx).emptyOwed = false →
    ∃ n, exec (.estimatorEvaluation t) s = .next n ∧
      (n.str r.ctx).soc = clampRat 0 1 ((s.str r.ctx).soc - ((s.coul r.ctx).acc - (s.str r.ctx).acc) / ef (s.cw r.ctx EST_QCAP)) ∧ n.cw r.ctx EST_SOCRAW = toPU (n.str r.ctx).soc ∧
      (n.str r.ctx).acc = (s.coul r.ctx).acc ∧ (n.str r.ctx).evalAt = n.now ∧ n.coulomb = s.coulomb ∧ n.mram = s.mram) ∧
  (∀ (c t : Nat) (r : CtxRec) (s : State), RegsOk s → s.works = true → (s.at t).expired (.rest c) (s.cw c EST_TREST) = true → s.string? c = some r → r.inst < 8 → bit (s.cw c EST_CTL) 0 = true → (s.str c).anchored.any (fun a => decide ((s.str c).evalAt ≤ a)) = false →
    2 / 1000 / slopeAt (s.ocvTable r.inst) (s.ocvInv r.inst (s.meanV c)) < (s.str c).unc →
    ∃ n, exec (.restCorrection c t) s = .next n ∧ n.flag (ctxAddr c EST_STS) 3 = true ∧ n.fld (ctxAddr c EST_STS) 5 4 = 3 ∧ (n.str c).soc = s.ocvInv r.inst (s.meanV c) ∧
      n.cw c EST_SOCRAW = toPU (s.ocvInv r.inst (s.meanV c)) ∧ n.flag (ctxAddr c CTX_STS) 16 = true ∧ n.age (.rest c) = 0 ∧ n.mram = s.mram) ∧
  (∀ (c t : Nat) (r : CtxRec) (s : State), RegsOk s → s.works = true → (s.at t).expired (.rest c) (s.cw c EST_TREST) = true → s.string? c = some r → bit (s.cw c EST_CTL) 0 = false →
    ∃ n, exec (.restCorrection c t) s = .next n ∧ n.flag (ctxAddr c EST_STS) 3 = true ∧ n.lane = s.lane ∧ Kept s n [ctxAddr c EST_STS] ∧ n.mram = s.mram)

/-- QCLR clears EST.QNET and leaves the accumulator; RELEARN puts EST.QCAP back to EST.QNOM and the learned state to none; COMMIT requests a learned-data commit (R257, R258, R271). Every 60 s a charge that moved by more than 0.01 pu is committed (R271); a commit that completes writes its 256 bytes with a fresh CRC to the slot that is not kept and has the lower SEQ, and LRN.STS, LRN.SEQ and LRN.CNT follow (R271, R274). -/
def Obligations.EstimatorCommandsAndLearnedData : Prop :=
  (∀ (p : Port) (c t : Nat) (w : Word) (s : State), RegsOk s → ServesAll p (s.at t) → c < 128 → s.isType c .string = true → bit w 2 = true → bit w 3 = false → bit w 4 = false →
    ∃ n, exec (.estQclr p c w t) s = .next n ∧ n.coul c = { s.coul c with net := 0 } ∧ n.wide (ctxAddr c EST_QNET) 4 = 0 ∧ (n.iface p).acked = true ∧
      Kept s n ([ctxAddr c EST_CTL, ctxAddr c CTX_STS, ctxAddr c EST_STS] ++ (List.range 4).map (ctxAddr c EST_QNET + ·)) ∧ n.mram = s.mram) ∧
  (∀ (p : Port) (c t : Nat) (w : Word) (s : State), RegsOk s → ServesAll p (s.at t) → c < 128 → s.isType c .string = true → bit w 2 = false → bit w 3 = true → bit w 4 = false →
    ∃ n, exec (.estRelearn p c w t) s = .next n ∧ n.cw c EST_QCAP = s.cw c EST_QNOM ∧ n.fld (ctxAddr c EST_STS) 1 0 = 0 ∧ (n.iface p).acked = true ∧
      Kept s n [ctxAddr c EST_CTL, ctxAddr c CTX_STS, ctxAddr c EST_STS, ctxAddr c EST_QCAP] ∧ n.coulomb = s.coulomb ∧ n.mram = s.mram) ∧
  (∀ (p : Port) (c t : Nat) (w : Word) (s : State), RegsOk s → ServesAll p (s.at t) → c < 128 → s.isType c .string = true → bit w 2 = false → bit w 3 = false → bit w 4 = true →
    ∃ n, exec (.estCommit p c w t) s = .next n ∧ n.flag LRN_STS 4 = true ∧ (n.iface p).acked = true ∧ (s.learned.busy = none → s.vresOk = true → n.learned.busy.isSome = true) ∧
      (∀ bs, s.learned.busy = some bs → n.learned.busy = some bs ∧ n.learned.next.isSome = true) ∧ Kept s n [ctxAddr c EST_CTL, ctxAddr c CTX_STS, ctxAddr c EST_STS, LRN_STS] ∧ n.mram = s.mram) ∧
  (∀ (t : Nat) (r : CtxRec) (s : State), RegsOk s → s.works = true → s.running .lrnPeriod = false ∨ (s.at t).expiredTicks .lrnPeriod (60 * ticksPerSecond) = true → r ∈ s.ofType .string →
    1 / 100 < (s.str r.ctx).soc - (s.str r.ctx).committed →
    ∃ n, exec (.learnedCommitPeriodic t) s = .next n ∧ n.flag LRN_STS 4 = true ∧ (s.learned.busy = none → s.vresOk = true → n.learned.busy.isSome = true) ∧ n.running .lrnPeriod = true ∧ n.age .lrnPeriod = 0 ∧
      Kept s n [LRN_STS] ∧ n.mram = s.mram) ∧
  (∀ (t : Nat) (bs : List Byte) (s : State), RegsOk s → s.mram.wf = true → s.learned.busy = some bs → bs.length = 256 →
    ∃ n, exec (.learnedCommitDone t) s = .next n ∧
      n.lrnBytes s.lrnTarget.1 = (bs.take 4 ++ leBytes 4 s.lrnTarget.2 ++ (bs.drop 8).take 244) ++ leBytes 4 (crc32 (bs.take 4 ++ leBytes 4 s.lrnTarget.2 ++ (bs.drop 8).take 244)) ∧
      (∀ a, a < lrnBase s.lrnTarget.1 ∨ lrnBase s.lrnTarget.1 + 256 ≤ a → n.byte a = s.byte a) ∧ n.flag LRN_STS 0 = s.lrnTarget.1 ∧ n.flag LRN_STS (if s.lrnTarget.1 then 2 else 1) = true ∧
      n.flag LRN_STS 4 = s.learned.next.isSome ∧ n.reg LRN_SEQ = Word.ofNat s.lrnTarget.2 ∧ n.reg LRN_CNT = satInc (s.reg LRN_CNT) ∧ Kept s n [LRN_STS, LRN_SEQ, LRN_CNT])

/-- At a tick every rectifier of a sharing set of two or more gets the mean current of the set as its reference (R278); a share error beyond RECT.SHTOL for a second is flagged once (R282). -/
def Obligations.SharingSetsTheMean : Prop :=
  (∀ (r : CtxRec) (s : State), RegsOk s → r ∈ s.sharingSet → r.ctx < 128 → 2 ≤ s.sharingSet.length → s.shareRefs.cw r.ctx RECT_IREF = s.shareMean s.sharingSet) ∧
  (∀ (c t : Nat) (s : State), RegsOk s → s.works = true → s.isType c .rectifier = true → s.code c = 1 → (s.at t).expiredTicks (.shareErr c) ticksPerSecond = true → s.lane.sherrDone.contains c = false →
    ∃ n, exec (.rectShareError c t) s = .next n ∧ n.flag (ctxAddr c CTX_STS) 5 = true ∧ n.lane = { s.lane with sherrDone := s.lane.sherrDone ++ [c] } ∧ Kept s n (ctxAddr c CTX_STS :: recordWords) ∧ n.mram = s.mram)

/-- THR.FORCE is stored and every output with a cause is asserted at once (R292); the lowest-numbered output that is due is released and holds the next release for THR.TREL (R292, R298). -/
def Obligations.ThrottlesAreForcedAndReleased : Prop :=
  (∀ (p : Port) (w : Word) (t : Nat) (s : State), RegsOk s → ImagesFit s → ServesAll p (s.at t) →
    ∃ n, exec (.thrForceWrite p w t) s = .next n ∧ n.reg THR_FORCE = Written s THR_FORCE w ∧ ThrottlesFollow n ∧ (n.iface p).acked = true ∧
      Kept s n ([THR_FORCE, THR_LIVE, THR_STS] ++ (List.range 16).map (THR_CNT + ·)) ∧ n.mram = s.mram) ∧
  (∀ (k t : Nat) (s : State), RegsOk s → (List.range 16).find? (s.at t).throttleRipe = some k →
    ∃ n, exec (.throttleRelease k t) s = .next n ∧ n.flag THR_LIVE k = false ∧ (∀ j, j ≠ k → n.flag THR_LIVE j = s.flag THR_LIVE j) ∧ n.running .thrGap = true ∧ n.age .thrGap = 0 ∧ n.running (.thrHold k) = false ∧
      Kept s n [THR_LIVE] ∧ n.mram = s.mram)

/-- A Waiting rail rises once RAIL.TON has elapsed; a Rising one is Up if its Up condition qualifies at the expiry of RAIL.TRISE, and Failed with class 9 if not; a rail whose turn to fall has waited RAIL.TOFF is Falling, and Off if Fallen qualifies at the expiry of RAIL.TFALL, and Stuck with class 9 if not; its discharge ends at RAIL.TDIS (R307, R308, R309, R311, R321). A scan gives its 96 readings and VREG5, and serves every rail that owes a snapshot with one snapshot of its readings (R300, R317, R318). -/
def Obligations.RailsRiseFallFailAndStick : Prop :=
  (∀ (c t : Nat) (s : State), RegsOk s → s.works = true → s.isType c .rail = true → s.code c = 1 → (s.at t).expired (.rail c) (s.cw c RAIL_TON) = true →
    ∃ n, exec (.railTonExpiry c t) s = .next n ∧ n.code c = 2 ∧ n.running (.rail c) = true ∧ n.age (.rail c) = 0 ∧ Kept s n [ctxAddr c CTX_STATE] ∧ n.mram = s.mram) ∧
  (∀ (c t : Nat) (s : State), RegsOk s → s.works = true → s.isType c .rail = true → s.code c = 2 → (s.at t).expired (.rail c) (s.cw c RAIL_TRISE) = true → s.railUp c = true →
    ∃ n, exec (.railRiseTimeout c t) s = .next n ∧ n.code c = 3 ∧ n.cw c RAIL_TRISEM = toSeconds ((s.at t).age (.rail c)) ∧ n.running (.rail c) = false ∧
      Kept s n [ctxAddr c CTX_STATE, ctxAddr c RAIL_TRISEM] ∧ n.mram = s.mram) ∧
  (∀ (c t : Nat) (s : State), RegsOk s → s.works = true → s.isType c .rail = true → s.code c = 2 → (s.at t).expired (.rail c) (s.cw c RAIL_TRISE) = true → s.railUp c = false → s.flt.matches_ = [] →
    ∃ (n m x : State), exec (.railRiseTimeout c t) s = .next n ∧ AfterLaneRaise m x 9 c none ∧ m.code c = 4 ∧ m.flag (ctxAddr c CTX_STS) 7 = true ∧ Kept s m [ctxAddr c CTX_STATE, ctxAddr c CTX_STS] ∧
      Faulted n c 9 ∧ c ∈ n.snapDue ∧ (∀ g, s.graphOf c = some g → n.flag (SEQ_GSTATE + g.graph) 4 = true ∧ Kept x n [SEQ_GSTATE + g.graph]) ∧ n.mram = s.mram) ∧
  (∀ (c t : Nat) (s : State), RegsOk s → s.works = true → s.isType c .rail = true → (s.code c = 2 ∨ s.code c = 3 ∨ s.code c = 4) → (s.at t).expired (.railOff c) (s.cw c RAIL_TOFF) = true →
    ∃ n, exec (.railToffExpiry c t) s = .next n ∧ n.code c = 5 ∧ n.running (.rail c) = true ∧ n.age (.rail c) = 0 ∧ n.running (.railOff c) = false ∧ Kept s n [ctxAddr c CTX_STATE] ∧ n.mram = s.mram) ∧
  (∀ (c t : Nat) (s : State), RegsOk s → s.works = true → s.isType c .rail = true → s.code c = 5 → (s.at t).expired (.rail c) (s.cw c RAIL_TFALL) = true → s.railFallen c = true →
    ∃ n, exec (.railFallTimeout c t) s = .next n ∧ n.code c = 0 ∧ n.cw c RAIL_TFALLM = toSeconds ((s.at t).age (.rail c)) ∧ n.running (.discharge c) = false ∧
      Kept s n [ctxAddr c CTX_STATE, ctxAddr c RAIL_TFALLM] ∧ n.mram = s.mram) ∧
  (∀ (c t : Nat) (s : State), RegsOk s → s.works = true → s.isType c .rail = true → s.code c = 5 → (s.at t).expired (.rail c) (s.cw c RAIL_TFALL) = true → s.railFallen c = false → s.flt.matches_ = [] →
    ∃ (n m x : State), exec (.railFallTimeout c t) s = .next n ∧ AfterLaneRaise m x 9 c none ∧ m.code c = 6 ∧ m.flag (ctxAddr c CTX_STS) 8 = true ∧ Kept s m [ctxAddr c CTX_STATE, ctxAddr c CTX_STS] ∧
      Faulted n c 9 ∧ c ∈ n.snapDue ∧ Kept x n [ctxAddr c CTX_STS] ∧
      ((s.graphOf c).any (·.discharge) = true → bit (s.cw c RAIL_CTL) 1 = true → n.running (.discharge c) = true ∧ n.flag (ctxAddr c CTX_STS) 10 = true) ∧ n.mram = s.mram) ∧
  (∀ (c t : Nat) (s : State), s.works = true → s.isType c .rail = true → (s.at t).expired (.discharge c) (s.cw c RAIL_TDIS) = true →
    ∃ n, exec (.railDischargeEnd c t) s = .next n ∧ n.running (.discharge c) = false ∧ n.regs = s.regs ∧ n.mram = s.mram) ∧
  (∀ (raw : List Int) (t : Nat) (s : State), RegsOk s → s.sys ≠ sysDormant →
    ∃ n, exec (.scanComplete raw t) s = .next n ∧ (∀ i, i < 96 → lookup 0 n.scan i = clampInt 0 scanTop (raw.getD i 0)) ∧ lookup 0 n.scan 96 = raw.getD 96 0 ∧ n.snapDue = [] ∧
      (s.snapDue ≠ [] → n.snapTaken = true ∧ n.snapshot = n.scan.filter (fun p => decide (p.1 < 96)) ∧ n.reg SEQ_SNAPCNT = satInc (s.reg SEQ_SNAPCNT) ∧ n.flag SEQ_STS 6 = true ∧
        ∀ c ∈ s.snapDue, n.flag (ctxAddr c CTX_STS) 12 = true) ∧ n.mram = s.mram)

/-- A write of SEQ.CMD waits for the next tick, and a later write takes its place (R46, R321); there FORCE wins over OFF and OFF over ON, an on request to an Off graph powers it up, or sets PENDON while SEQ_FLT_N holds it, an on request in a power-down is held with HELDON, and an off request to a graph Powering up or Up powers it down (R310, R316, R319). A graph whose Off-wait ends is Off, and powers up at once if an on request is pending or an automatic restart is due (R310, R316). -/
def Obligations.GraphsFollowRequests : Prop :=
  (∀ (p : Port) (w : Word) (t : Nat) (i : Instr) (s : State), ServesAll p (s.at t) → i = .seqOn p w t ∨ i = .seqOff p w t ∨ i = .seqForce p w t →
    ∃ n, exec i s = .next n ∧ n.lane.seq.cmd = some w ∧ (n.iface p).acked = true ∧ n.regs = s.regs ∧ n.mram = s.mram) ∧
  (∀ (w : Word) (g : Nat) (s : State), RegsOk s → g ∈ s.addressed w → bit w 8 = true → bit w 9 = false → bit w 10 = false → s.gcode g = 0 → s.upBlocked g = false →
    (s.seqCommand w).gcode g = 1 ∧ (s.seqCommand w).pendOn g = false) ∧
  (∀ (w : Word) (g : Nat) (s : State), RegsOk s → g ∈ s.addressed w → bit w 8 = true → bit w 9 = false → bit w 10 = false → s.gcode g = 0 → s.upBlocked g = true →
    (s.seqCommand w).gcode g = 0 ∧ (s.seqCommand w).pendOn g = true) ∧
  (∀ (w : Word) (g : Nat) (s : State), RegsOk s → g ∈ s.addressed w → bit w 8 = true → bit w 9 = false → bit w 10 = false → s.gcode g = 3 →
    (s.seqCommand w).gcode g = 3 ∧ (s.seqCommand w).pendOn g = true ∧ (s.seqCommand w).flag SEQ_STS 5 = true) ∧
  (∀ (w : Word) (g : Nat) (s : State), RegsOk s → g ∈ s.addressed w → bit w 9 = true → bit w 10 = false → (s.gcode g = 1 ∨ s.gcode g = 2) →
    (s.seqCommand w).gcode g = 3 ∧ (s.seqCommand w).flag (SEQ_GSTATE + g) 5 = false ∧ (s.seqCommand w).flag (SEQ_GSTATE + g) 6 = false) ∧
  (∀ (w : Word) (g : Nat) (s : State), RegsOk s → g ∈ s.addressed w → bit w 10 = true → s.gcode g ≠ 0 → s.gcode g ≠ 4 →
    (s.seqCommand w).gcode g = 3 ∧ (s.seqCommand w).pendOn g = false ∧ (s.seqCommand w).flag (SEQ_GSTATE + g) 6 = true ∧ (s.seqCommand w).flag SEQ_STS 8 = true) ∧
  (∀ (g t : Nat) (s : State), RegsOk s → s.works = true → s.gcode g = 4 → g ∈ s.graphList → (s.at t).expired (.graphOff g) (s.reg SEQ_TOFFMIN) = true →
    ∃ n, exec (.graphOffWaitEnd g t) s = .next n ∧ n.gcode g = (if (s.pendOn g || (s.gcfg g 5 && s.flag (SEQ_GSTATE + g) 5)) && !s.upBlocked g then 1 else 0) ∧ n.running (.graphOff g) = false ∧
      Kept s n [SEQ_GSTATE + g] ∧ n.mram = s.mram)

/-- A press of PB_N begins at its accepted low; held until PB.TLONG it forces every defined graph off at that moment (R312, R315). SEQ_FLT_N is let go once SEQ.TFLT has passed and every graph so faulted is down (R316). An accepted change, where it wakes nothing, that comes before its minimum interval is counted, sets EDGE, and is acted on at the interval's end if it then differs from the level last acted on (R314); without a lane outside a Col and Dormant changes are counted only (R320). An accepted high of a downstream alert line ends the repetitions of its alert service (R424). -/
def Obligations.ControlInputsAct : Prop :=
  (∀ (t : Nat) (s : State), Listens s → s.laneRuns = true → s.actedLevel 0x80 = true → (s.at t).intervalOver 0x80 false = true →
    ∃ n, exec (.inputAccept 0x80 false t) s = .next n ∧ n.lane.seq.press = some (s.at t).now ∧ n.lane.seq.long = false ∧ n.running .press = true ∧ n.actedLevel 0x80 = false ∧ find n.accepted 0x80 = some false ∧
      n.inputQueue = s.inputQueue ++ [(0x80, false, n.now)] ∧ n.regs = s.regs ∧ n.mram = s.mram) ∧
  (∀ (pin t : Nat) (level : Bool) (s : State), RegsOk s → Listens s ∨ s.inputSource pin level = none → s.inputsActed = true → pin ≠ 0x81 ∨ level = true → s.actedLevel pin ≠ level → (s.at t).intervalOver pin level = false →
    ∃ n, exec (.inputAccept pin level t) s = .next n ∧ n.reg (inputCounter pin) = satInc (s.reg (inputCounter pin)) ∧ n.flag SEQ_STS 7 = true ∧ n.inputs = s.inputs ∧ find n.accepted pin = some level ∧
      Kept s n ([inputCounter pin, SEQ_STS] ++ recordWords) ∧ n.mram = s.mram) ∧
  (∀ (pin t : Nat) (level : Bool) (s : State), RegsOk s → Listens s ∨ s.inputSource pin level = none → s.inputsActed = false → pin ≠ 0x81 ∨ level = true → s.actedLevel pin ≠ level →
    ∃ n, exec (.inputAccept pin level t) s = .next n ∧ n.reg (inputCounter pin) = satInc (s.reg (inputCounter pin)) ∧ n.inputs = s.inputs ∧ find n.accepted pin = some level ∧
      Kept s n [inputCounter pin] ∧ n.mram = s.mram) ∧
  (∀ (k t : Nat) (s : State), k < 4 → s.inputsActed = true → (s.at t).intervalOver (0x90 + k) true = true →
    ∃ n, exec (.inputAccept (0x90 + k) true t) s = .next n ∧ find n.accepted (0x90 + k) = some true ∧ n.actedLevel (0x90 + k) = true ∧ (n.port k).alertRuns = 0 ∧ n.regs = s.regs ∧ n.mram = s.mram) ∧
  (∀ (t : Nat) (s : State), s.laneRuns = true → find s.accepted 0x80 = some false → s.actedLevel 0x80 = true → (s.at t).intervalOver 0x80 false = true →
    ∃ n, exec (.inputIntervalEnd 0x80 t) s = .next n ∧ n.lane.seq.press = some (s.at t).now ∧ n.actedLevel 0x80 = false ∧ n.regs = s.regs ∧ n.mram = s.mram) ∧
  (∀ (t t0 g : Nat) (s : State), RegsOk s → s.works = true → s.lane.seq.press = some t0 → s.lane.seq.long = false → elapsed (s.reg PB_TLONG) t0 (s.at t).now = true → g ∈ s.graphList → s.gcode g ≠ 0 → s.gcode g ≠ 4 →
    ∃ n, exec (.pbLongPress t) s = .next n ∧ n.lane.seq.long = true ∧ n.flag SEQ_STS 1 = true ∧ n.flag SEQ_STS 8 = true ∧ n.gcode g = 3 ∧ n.flag (SEQ_GSTATE + g) 6 = true ∧ n.pendOn g = false ∧
      (∀ r ∈ s.railsOf g, s.code r.rail = 2 ∨ s.code r.rail = 3 ∨ s.code r.rail = 4 → n.code r.rail = 5) ∧
      (∀ a, a < 0x1000 → a ∉ recordWords → a ≠ SEQ_STS → (∀ h, h < 8 → a ≠ SEQ_GSTATE + h) → n.reg a = s.reg a) ∧ n.mram = s.mram) ∧
  (∀ (t : Nat) (s : State), s.works = true → s.lane.seq.drives = true → (s.at t).expired .seqFlt (s.reg SEQ_TFLT) = true → (∀ g ∈ s.lane.seq.driving, s.gcode g = 0 ∨ s.gcode g = 4) →
    ∃ n, exec (.seqFltDriveRelease t) s = .next n ∧ n.lane.seq.driving = [] ∧ n.lane.seq.drives = false ∧ n.sfBlocked = true ∧ n.running .seqFlt = false ∧ n.regs = s.regs ∧ n.mram = s.mram)

/-- A raise counts against its context, escalates while its class stands unacknowledged, sets FAULT, is counted in FLT.CNT and logged, and is captured when it is the first since the capture was cleared, in a later instant (R349, R357, R359). At an effective level of 2 or more it takes the context to its safe state, at once where the reaction or the want of a lane asks for it, else at the lane's next tick (R351, R352); its reactions pulse FLT_N, for 10 us, and raise HALERT_N (R355). -/
def Obligations.RaisesAreJudgedLoggedAndActedOn : Prop :=
  (∀ (cls c site init acc addr t : Nat) (sev : Option Nat) (s : State), RegsOk s → ImagesFit s → cls < 16 → (s.ctx? c).isSome = true → s.flt.matches_ = [] → s.flt.clearedAt ≠ some (s.at t).now →
    ∃ n, exec (.faultRaise cls c sev site init acc addr t) s = .next n ∧ n.flag (ctxAddr c CTX_STS) 0 = true ∧ n.reg FLT_CNT = satInc (s.reg FLT_CNT) ∧
      n.reg FLT_ESCCNT = (if (s.flt.level c cls).isSome then satInc (s.reg FLT_ESCCNT) else s.reg FLT_ESCCNT) ∧
      n.flt.level c cls = some (effective (s.judge { cls := cls, ctx := c, sev := sev, site := site } c).1 (s.flt.level c cls)) ∧
      (∀ d k, (d, k) ≠ (c, cls) → n.flt.level d k = s.flt.level d k) ∧
      (s.flt.log.length < 64 → ∃ x : LogEntry, n.flt.log = s.flt.log ++ [x] ∧ x.cls = cls ∧ x.ctx = c ∧ x.time = (s.at t).now) ∧
      (64 ≤ s.flt.log.length → n.flt.log = s.flt.log ∧ n.reg FLT_LOGOVF = satInc (s.reg FLT_LOGOVF)) ∧
      (s.flag FE_INFO 0 = false → n.flag FE_INFO 0 = true ∧ n.fld FE_INFO 4 1 = cls) ∧
      (s.flag FE_INFO 0 = true → n.reg FE_INFO = s.reg FE_INFO ∧ n.reg FE_SRC = s.reg FE_SRC ∧ n.reg FE_ADDR = s.reg FE_ADDR) ∧ n.mram = s.mram) ∧
  (∀ (cls c site init acc addr t : Nat) (sev : Option Nat) (r : CtxRec) (s : State), RegsOk s → ImagesFit s → cls < 16 → s.ctx? c = some r → r.typ ≠ .shelf → s.flt.matches_ = [] →
    2 ≤ effective (s.judge { cls := cls, ctx := c, sev := sev, site := site } c).1 (s.flt.level c cls) →
    ∃ n, exec (.faultRaise cls c sev site init acc addr t) s = .next n ∧
      ((s.judge { cls := cls, ctx := c, sev := sev, site := site } c).2.testBit 0 = true ∨ s.laneHeld = false → n.safe c = true) ∧
      ((s.judge { cls := cls, ctx := c, sev := sev, site := site } c).2.testBit 0 = false → s.laneHeld = true → c ∈ n.flt.safeDue ∧ n.safe c = s.safe c)) ∧
  (∀ (cls c site init acc addr t : Nat) (sev : Option Nat) (s : State), RegsOk s → ImagesFit s → cls < 16 → (s.ctx? c).isSome = true → s.flt.matches_ = [] →
    ∃ n, exec (.faultRaise cls c sev site init acc addr t) s = .next n ∧
      ((s.judge { cls := cls, ctx := c, sev := sev, site := site } c).2.testBit 1 = true → n.flt.pulse = true ∧ n.running .fltPulse = true ∧ n.age .fltPulse = 0 ∧ n.outs.flt = s.clk.vio) ∧
      ((s.judge { cls := cls, ctx := c, sev := sev, site := site } c).2.testBit 2 = true → n.flag HOST_ALERT 0 = true)) ∧
  (∀ (t : Nat) (s : State), s.flt.pulse = true → (s.at t).expiredTicks .fltPulse (us 10) = true →
    ∃ n, exec (.fltPulseEnd t) s = .next n ∧ n.flt.pulse = false ∧ n.running .fltPulse = false ∧ n.outs.flt = (s.clk.vio && s.flag FLT_CTL 0) ∧ n.regs = s.regs ∧ n.mram = s.mram)

/-- FLT.ACK clears every unacknowledged fault of the context it names, or of every context, and PEND and LEVEL of CTX.SEV, and changes nothing else, but a raise of the same instant stays, at its own severity (R360); FLT.CTL drives FLT_N by FLTOUT (R355); FLT.INJECT is a raise while INJEN is 1 and nothing else (R361, R362); FE.INFO.VALID written with 1 clears the capture (R359). -/
def Obligations.FaultRegistersAct : Prop :=
  (∀ (p : Port) (w : Word) (t : Nat) (s : State), RegsOk s → ServesAll p (s.at t) → bit w 7 = false → (∀ q ∈ s.flt.pending, q.ctx = bits w 6 0 → q.time ≠ (s.at t).now) →
    ∃ n, exec (.faultAck p w t) s = .next n ∧ n.flt.pending = s.flt.pending.filter (·.ctx ≠ bits w 6 0) ∧ n.cw (bits w 6 0) CTX_SEV = putBits (putBits (s.cw (bits w 6 0) CTX_SEV) 1 0 0) 6 6 0 ∧
      n.safe (bits w 6 0) = s.safe (bits w 6 0) ∧ (n.iface p).acked = true ∧ Kept s n [ctxAddr (bits w 6 0) CTX_SEV] ∧ n.mram = s.mram) ∧
  (∀ (p : Port) (w : Word) (t : Nat) (im : Image) (s : State), RegsOk s → ServesAll p (s.at t) → bit w 7 = true → s.image = some im → (∀ q ∈ s.flt.pending, q.time ≠ (s.at t).now) →
    ∃ n, exec (.faultAck p w t) s = .next n ∧ n.flt.pending = [] ∧ (n.iface p).acked = true ∧
      (∀ a, (∀ x ∈ im.contexts, a ≠ ctxAddr x.ctx CTX_SEV) → (∀ q ∈ s.flt.pending, a ≠ ctxAddr q.ctx CTX_SEV) → n.reg a = s.reg a) ∧ n.mram = s.mram) ∧
  (∀ (p : Port) (w : Word) (t : Nat) (q : Pending) (s : State), RegsOk s → ServesAll p (s.at t) → bit w 7 = false → q ∈ s.flt.pending → q.ctx = bits w 6 0 → q.time = (s.at t).now →
    ∃ n, exec (.faultAck p w t) s = .next n ∧ { q with level := q.sev } ∈ n.flt.pending ∧ n.flag (ctxAddr q.ctx CTX_SEV) 6 = true ∧ Kept s n [ctxAddr q.ctx CTX_SEV] ∧ n.mram = s.mram) ∧
  (∀ (p : Port) (w : Word) (t : Nat) (s : State), RegsOk s → ServesAll p (s.at t) →
    ∃ n, exec (.fltoutWrite p w t) s = .next n ∧ n.reg FLT_CTL = Written s FLT_CTL w ∧ n.outs.flt = (s.clk.vio && (s.flt.pulse || n.flag FLT_CTL 0)) ∧ (n.iface p).acked = true ∧ Kept s n [FLT_CTL] ∧ n.mram = s.mram) ∧
  (∀ (p : Port) (w : Word) (t : Nat) (s : State), RegsOk s → ImagesFit s → ServesAll p (s.at t) → s.flag FLT_CTL 1 = true → (s.ctx? (bits w 6 0)).isSome = true →
    ∃ n, exec (.faultInject p w t) s = .next n ∧ Faulted n (bits w 6 0) (bits w 10 7) ∧ n.reg FLT_CNT = satInc (s.reg FLT_CNT) ∧ (n.iface p).acked = true ∧ n.mram = s.mram) ∧
  (∀ (p : Port) (w : Word) (t : Nat) (s : State), ServesAll p (s.at t) → s.flag FLT_CTL 1 = false →
    ∃ n, exec (.faultInject p w t) s = .next n ∧ n.flt = s.flt ∧ n.regs = s.regs ∧ (n.iface p).acked = true ∧ n.mram = s.mram) ∧
  (∀ (p : Port) (w : Word) (t : Nat) (s : State), RegsOk s → ServesAll p (s.at t) → bit w 0 = true →
    ∃ n, exec (.feClear p w t) s = .next n ∧ n.reg FE_INFO = 0 ∧ n.reg FE_SRC = 0 ∧ n.reg FE_ADDR = 0 ∧ (∀ k, k < 4 → n.reg (FE_TIME + k) = 0) ∧ (n.iface p).acked = true ∧
      Kept s n [FE_INFO, FE_SRC, FE_ADDR, FE_TIME, FE_TIME + 1, FE_TIME + 2, FE_TIME + 3] ∧ n.mram = s.mram)

/-- A measurement leaves the 24 readings and the die temperature, the highest of the sensors that are not excluded (R363, R365); the hard-stop level is reached on a second measurement at or above it, and stops the outputs (R365 to R367). An exclusion word written with ones re-admits its excluded sensors, and FEW falls where 4 are left (R364, R370). 10 ms below 140 °C leave the level (R366, R368). -/
def Obligations.TheDieIsMeasuredAndJudged : Prop :=
  (∀ (temps : List Int) (t : Nat) (s : State), Formed s → ImagesFit s → temps.length = 24 →
    ∃ n, exec (.dieSensorMeasure temps t) s = .next n ∧ (∀ i, i < 24 → n.reg (TDIE_S + i) = toTemp ((temps.getD i 0 : Rat) / 1000)) ∧
      (n.sensors ≠ [] → n.reg TDIE_TJ = Word.ofNat (n.sensors.foldl (fun m i => max m (n.regN (TDIE_S + i))) 0) ∧ n.regN TDIE_TJ ≤ n.regN TDIE_PEAK ∧ ((s.ctx? 0).isSome = true → n.cw 0 CTX_TMEAS = n.reg TDIE_TJ)) ∧
      (n.sensors.length < 4 → s.flag TDIE_STS 5 = false → n.flt.level 0 1 = some 3) ∧ (n.sensors = [] → (n.read TDIE_TJ).2 = 1 ∧ (1 ≤ s.count (.level 1) → 2 ≤ n.dieLevel)) ∧
      (∀ i, s.excluded i = true → i < 24 → n.excluded i = true) ∧
      (n.sensors ≠ [] → 1 ≤ s.count (.level 2) → 0x1C026 ≤ n.regN TDIE_TJ → n.dieLevel = 3 ∧
        (s.dieLevel < 3 → n.flag TDIE_STS 4 = true ∧ n.reg TDIE_HSLIFE = satInc (s.reg TDIE_HSLIFE) ∧ n.clk.overrides = []))) ∧
  (∀ (p : Port) (second : Bool) (w : Word) (t : Nat) (s : State), RegsOk s → ServesAll p (s.at t) →
    ∃ n, exec (.sensorReadmit p second w t) s = .next n ∧ n.reg (if second then TDIE_EXCL1 else TDIE_EXCL0) = Written s (if second then TDIE_EXCL1 else TDIE_EXCL0) w ∧
      (∀ i, i < 12 → bit w i = true → s.excluded (if second then 12 + i else i) = true → n.count (.excl (if second then 12 + i else i)) = 0) ∧ (n.flag TDIE_STS 5 = true → n.sensors.length < 4) ∧ (n.iface p).acked = true ∧
      Kept s n [if second then TDIE_EXCL1 else TDIE_EXCL0, TDIE_STS] ∧ n.mram = s.mram) ∧
  (∀ (t : Nat) (s : State), RegsOk s → s.dieLevel ≠ 0 → (s.at t).expiredTicks .dieLeave (ms 10) = true →
    ∃ n, exec (.dieLevelLeave t) s = .next n ∧ n.dieLevel = 0 ∧ n.running .dieLeave = false ∧ (s.dieLevel = 1 → Kept s n [TDIE_STS] ∧ n.mram = s.mram))

/-- An offered record takes a token of its code's bucket and is staged; without a token it is dropped, counted and marked; in a freeze it is counted as missed; without a lane none is made (R380, R387, R388, R333). A token comes back after BB.RLPER, up to BB.RLDEPTH (R387). A written record of the lane is staged without a token (R380, R386); a record of the core goes to the MRAM at once where none of its conditions is missing: it takes the next number, stands at the end of the Basin's records, and reads back as its bytes (R377, R378, R382, R386), and is staged where one is missing. -/
def Obligations.RecordsAreOfferedWrittenAndCommitted : Prop :=
  (∀ (code c t k : Nat) (payload : List Byte) (b : Bucket) (s : State), RegsOk s → s.laneRuns = true → s.rcd.frozenAt = none → laneCode code = true → c < 256 →
    s.rcd.buckets.findIdx? (fun b => b.code = code) = some k → s.rcd.buckets[k]? = some b → 0 < b.tokens → b.dropped = 0 → s.rcd.ovfAt = none → s.staged + 2048 ≤ 8192 →
    ∃ n, exec (.recordOffer code c payload t) s = .next n ∧ n.rcd.staging = s.rcd.staging ++ [(s.at t).mkRec code c (payloadOf payload) false] ∧ n.rcd.buckets[k]? = some { b with tokens := b.tokens - 1 } ∧
      n.regs = s.regs ∧ n.mram = s.mram) ∧
  (∀ (code c t k : Nat) (payload : List Byte) (b : Bucket) (s : State), RegsOk s → s.laneRuns = true → s.rcd.frozenAt = none → laneCode code = true → c < 256 →
    s.rcd.buckets.findIdx? (fun b => b.code = code) = some k → s.rcd.buckets[k]? = some b → b.tokens = 0 →
    ∃ n, exec (.recordOffer code c payload t) s = .next n ∧ n.rcd.staging = s.rcd.staging ∧ n.reg BB_DROPCNT = satAdd (s.reg BB_DROPCNT) 1 ∧ n.flag BB_STS 3 = true ∧
      Kept s n [BB_DROPCNT, BB_STS] ∧ n.mram = s.mram) ∧
  (∀ (code c t t0 : Nat) (payload : List Byte) (s : State), RegsOk s → s.laneRuns = true → laneCode code = true → s.rcd.frozenAt = some t0 →
    ∃ n, exec (.recordOffer code c payload t) s = .next n ∧ n.rcd.staging = s.rcd.staging ∧ n.reg BB_MISSCNT = satAdd (s.reg BB_MISSCNT) 1 ∧ n.flag BB_STS 4 = true ∧ Kept s n [BB_MISSCNT, BB_STS] ∧ n.mram = s.mram) ∧
  (∀ (code c t : Nat) (payload : List Byte) (s : State), s.laneRuns = false →
    ∃ n, exec (.recordOffer code c payload t) s = .next n ∧ n.rcd = s.rcd ∧ n.regs = s.regs ∧ n.mram = s.mram) ∧
  (∀ (k t : Nat) (b : Bucket) (s : State), s.rcd.buckets[k]? = some b → elapsed (s.reg BB_RLPER) b.refilled (s.at t).now = true →
    ∃ n, exec (.bucketRefill k t) s = .next n ∧ n.rcd.buckets[k]? = some { b with tokens := min (s.regN BB_RLDEPTH) (b.tokens + 1), refilled := (s.at t).now } ∧ n.regs = s.regs ∧ n.mram = s.mram) ∧
  (∀ (code c t : Nat) (payload : List Byte) (s : State), s.laneRuns = true → laneCode code = true → c < 256 → s.rcd.ovfAt = none → s.staged + ((s.at t).mkRec code c (payloadOf payload) true).len ≤ 8192 →
    ∃ n, exec (.recordWrite code c payload t) s = .next n ∧ n.rcd = { s.rcd with staging := s.rcd.staging ++ [(s.at t).mkRec code c (payloadOf payload) true] } ∧ n.regs = s.regs ∧ n.mram = s.mram) ∧
  (∀ (code c t : Nat) (payload : List Byte) (r : Rec) (s : State), RegsOk s → s.mram.wf = true → 1 ≤ code → code ≤ 5 → (s.at t).canCommit = true → s.rcd.basinFull = false →
    r = { code := code, ctx := 0xFF, time := (s.at t).now, origin := 0, replay := false, payload := payloadOf payload, written := true } → pagePlace (4 * s.regN BB_BFILL) r.len + r.len ≤ 64512 →
    ∃ n, exec (.recordWrite code c payload t) s = .next n ∧ n.readMram (bbBase + 0x400 + pagePlace (4 * s.regN BB_BFILL) r.len) r.len = r.bytes (s.wide BB_RSEQ 2) true ∧
      (∀ a, a < bbBase + 0x400 + pagePlace (4 * s.regN BB_BFILL) r.len ∨ bbBase + 0x400 + pagePlace (4 * s.regN BB_BFILL) r.len + r.len ≤ a → n.byte a = s.byte a) ∧
      n.wide BB_RSEQ 2 = (s.wide BB_RSEQ 2 + 1) % 2 ^ 32 ∧ n.regN BB_BFILL = (pagePlace (4 * s.regN BB_BFILL) r.len + r.len) / 4 ∧ n.rcd = s.rcd ∧ Kept s n [BB_RSEQ, BB_RSEQ + 1, BB_BFILL]) ∧
  (∀ (code c t : Nat) (payload : List Byte) (s : State), 1 ≤ code → code ≤ 5 → (s.at t).canCommit = false →
    ∃ n, exec (.recordWrite code c payload t) s = .next n ∧ (∃ r : Rec, r.code = code ∧ r.origin = 0 ∧ r.payload = payloadOf payload ∧ n.rcd.staging = s.rcd.staging ++ [r]) ∧ n.regs = s.regs ∧ n.mram = s.mram)

/-- A clear, refused while frozen or outside Normal, starts both areas from their first page with the number the next record has, and drops what is staged but the cleared record (R384); before the rebuild it waits for it (log 140). A read of BB.PDATA gives the two bytes at the pointer and moves it on (R390). A rebuild makes the pointers valid; with a control slot in force it takes the clear's number and count from it, and without one it raises class 15 and starts afresh (R384, R385). -/
def Obligations.TheBoxIsClearedReadAndRebuilt : Prop :=
  (∀ (p : Port) (w : Word) (t : Nat) (s : State), RegsOk s → ServesAll p (s.at t) → bits w 15 0 = 0x6C6C → (s.rcd.frozenAt.isSome = true ∨ s.sys ≠ sysNormal) →
    ∃ n, exec (.bbClear p w t) s = .next n ∧ n.flag BB_STS 1 = true ∧ n.rcd = s.rcd ∧ (n.iface p).acked = true ∧ Kept s n [BB_STS] ∧ n.mram = s.mram) ∧
  (∀ (p : Port) (w : Word) (t : Nat) (s : State), RegsOk s → ServesAll p (s.at t) → bits w 15 0 = 0x6C6C → s.rcd.frozenAt = none → s.sys = sysNormal → s.flag BB_STATE 1 = true → s.laneRuns = true →
    ∃ n, exec (.bbClear p w t) s = .next n ∧ n.flag BB_STS 0 = true ∧ n.reg BB_BFILL = 0 ∧ n.reg BB_CHEAD = 0 ∧ n.rcd.basinFull = false ∧ n.wide BB_CLRSEQ 2 = s.wide BB_RSEQ 2 ∧
      (∃ r : Rec, r.code = 0x0200 ∧ n.rcd.staging = [r]) ∧ n.reg BB_DROPCNT = satAdd (s.reg BB_DROPCNT) s.rcd.staging.length ∧ (n.iface p).acked = true ∧
      Kept s n [BB_STS, BB_BFILL, BB_CHEAD, BB_CLRSEQ, BB_CLRSEQ + 1, BB_CLRCNT, BB_DROPCNT]) ∧
  (∀ (p : Port) (w : Word) (t : Nat) (s : State), ServesAll p (s.at t) → bits w 15 0 = 0x6C6C → s.rcd.frozenAt = none → s.sys = sysNormal → s.flag BB_STATE 1 = false →
    ∃ n, exec (.bbClear p w t) s = .next n ∧ n.rcd = { s.rcd with clearDue := some p.code } ∧ (n.iface p).acked = true ∧ n.regs = s.regs ∧ n.mram = s.mram) ∧
  (∀ (p : Port) (t : Nat) (s : State), RegsOk s → ServesAll p (s.at t) →
    ∃ n, exec (.bbPdataRead p t) s = .next n ∧ n.reg BB_PPTR = s.reg BB_PPTR + 1 ∧ ((s.at t).readAt BB_PDATA).1 = s.bytePair (0x148000 + 2 * s.regN BB_PPTR) ∧ (n.iface p).acked = true ∧ Kept s n [BB_PPTR] ∧ n.mram = s.mram) ∧
  (∀ (t : Nat) (b : Bool) (bs : List Byte) (s : State), RegsOk s → s.laneRuns = true → s.flag BB_STATE 1 = false → s.rcd.frozenAt = none → s.rcd.clearDue = none → s.ctlSlot = some (b, bs) →
    ∃ n, exec (.bbRebuildDone t) s = .next n ∧ n.flag BB_STATE 1 = true ∧ n.wide BB_CLRSEQ 2 = ofLe ((bs.drop 8).take 4) ∧ n.reg BB_CLRCNT = Word.ofNat (min 262143 (ofLe ((bs.drop 12).take 4))) ∧
      Kept s n [BB_STATE, BB_RSEQ, BB_RSEQ + 1, BB_CLRSEQ, BB_CLRSEQ + 1, BB_CLRCNT, BB_BFILL, BB_CHEAD] ∧ n.mram = s.mram) ∧
  (∀ (t : Nat) (s : State), RegsOk s → s.laneRuns = true → s.flag BB_STATE 1 = false → s.rcd.frozenAt = none → s.rcd.clearDue = none → s.ctlSlot = none → s.flt.matches_ = [] →
    ∃ n, exec (.bbRebuildDone t) s = .next n ∧ n.flag BB_STATE 1 = true ∧ n.flag BB_STS 6 = true ∧ Faulted n 0 15 ∧ n.reg BB_BFILL = 0 ∧ n.reg BB_CHEAD = 0 ∧ n.rcd.basinFull = false ∧ n.reg BB_CLRCNT = 0)

/-- A transaction that ends well is counted; without a lane its result is held, and with one it acts: an acknowledged OPERATION moves the POL's state, a STATUS_WORD that shows a fault gives state 2 with class 11 and one that shows none ends it, a reading is converted to its word, and a successful probe brings the target online; a reset of the port that waited for the transaction begins with its end (R14, R418, R419, R422, R423, R425, R457; the POL's state follows OPERATION by log 41, the bits of STATUS_WORD by log 26). A failed transaction is not repeated: it is counted at the port, and at a POL, with the bit of its cause, and the third in a row takes its target offline with class 11 (R423). -/
def Obligations.DownstreamResultsAndFailuresAct : Prop :=
  (∀ (port t : Nat) (data : List Byte) (x : DsTx) (s : State), RegsOk s → s.laneRuns = false → (s.port port).cur = some x → (s.port port).resetDue = false →
    ∃ n, exec (.dsTransactionComplete port data t) s = .next n ∧ (n.port port).held = some (x, data) ∧ (n.port port).cur = none ∧ n.reg (DSP_TXCNT + port) = satInc (s.reg (DSP_TXCNT + port)) ∧
      Kept s n [DSP_TXCNT + port] ∧ n.mram = s.mram) ∧
  (∀ (port c t : Nat) (data : List Byte) (x : DsTx) (s : State), RegsOk s → port < 4 → s.laneRuns = true → (s.port port).cur = some x → (s.port port).resetDue = false → x.kind = .command → x.ctx = some c → x.code = 0x01 → x.safe = false → s.code c ≠ 2 →
    ∃ n, exec (.dsTransactionComplete port data t) s = .next n ∧ n.code c = (if x.data = 0x80 then 1 else 0) ∧ (n.target c).fails = 0 ∧ n.reg (DSP_TXCNT + port) = satInc (s.reg (DSP_TXCNT + port)) ∧
      Kept s n [DSP_TXCNT + port, ctxAddr c CTX_STATE] ∧ n.mram = s.mram) ∧
  (∀ (port c t : Nat) (data : List Byte) (x : DsTx) (s : State), RegsOk s → port < 4 → s.laneRuns = true → (s.port port).cur = some x → (s.port port).resetDue = false → x.kind = .poll → x.ctx = some c → s.isType c .pol = true → x.code = 0x79 →
    s.statusBad c (ofLe (data.take 2)) = true → s.code c ≠ 2 → s.flt.matches_ = [] →
    ∃ n, exec (.dsTransactionComplete port data t) s = .next n ∧ n.code c = 2 ∧ Faulted n c 11 ∧ n.cw c POL_STSWORD = Word.ofNat (ofLe (data.take 2) % 65536) ∧ n.reg (DSP_TXCNT + port) = satInc (s.reg (DSP_TXCNT + port)) ∧ n.mram = s.mram) ∧
  (∀ (port c t : Nat) (data : List Byte) (x : DsTx) (s : State), RegsOk s → port < 4 → s.laneRuns = true → (s.port port).cur = some x → (s.port port).resetDue = false → x.kind = .poll → x.ctx = some c → s.isType c .pol = true → x.code = 0x79 →
    s.statusBad c (ofLe (data.take 2)) = false →
    ∃ n, exec (.dsTransactionComplete port data t) s = .next n ∧ n.code c = (if s.code c = 2 then 1 else s.code c) ∧ n.cw c POL_STSWORD = Word.ofNat (ofLe (data.take 2) % 65536) ∧
      Kept s n [DSP_TXCNT + port, ctxAddr c CTX_STATE, ctxAddr c POL_STSWORD] ∧ n.mram = s.mram) ∧
  (∀ (port c t : Nat) (data : List Byte) (x : DsTx) (s : State), RegsOk s → canonical 0 s.updated = true → port < 4 → s.laneRuns = true → (s.port port).cur = some x → (s.port port).resetDue = false → x.kind = .poll → x.ctx = some c → x.code = 0x8B →
    ∃ n, exec (.dsTransactionComplete port data t) s = .next n ∧ n.cw c CTX_VMEAS = toPU (s.puV c (s.voutVolts c (ofLe (data.take 2)))) ∧ n.updatedAt (ctxAddr c CTX_VMEAS) = n.now ∧
      Kept s n [DSP_TXCNT + port, ctxAddr c CTX_VMEAS, ctxAddr c CTX_STS] ∧ n.mram = s.mram) ∧
  (∀ (port c t : Nat) (data : List Byte) (x : DsTx) (s : State), RegsOk s → port < 4 → s.laneRuns = true → (s.port port).cur = some x → (s.port port).resetDue = false → x.kind = .probe → x.ctx = some c → x.code = 0x79 → s.isType c .rectifier = true → s.offline c = true →
    ∃ n, exec (.dsTransactionComplete port data t) s = .next n ∧ n.offline c = false ∧ (n.target c).mode = none ∧ (n.target c).fails = 0 ∧
      Kept s n ([DSP_TXCNT + port, ctxAddr c CTX_STATE] ++ recordWords) ∧ n.mram = s.mram) ∧
  (∀ (port t : Nat) (data : List Byte) (x : DsTx) (s : State), RegsOk s → port < 4 → s.laneRuns = false → (s.port port).cur = some x → (s.port port).resetDue = true →
    ∃ n, exec (.dsTransactionComplete port data t) s = .next n ∧ n.flag RST_BLKSTS (2 + port) = true ∧ (n.port port).resetDue = false ∧ (n.port port).polls = [] ∧ (n.port port).cur = none ∧
      (n.port port).held = some (x, data) ∧ n.table port = s.table port ∧ Kept s n [DSP_TXCNT + port, RST_BLKSTS] ∧ n.mram = s.mram) ∧
  (∀ (port c t : Nat) (pec : Bool) (x : DsTx) (s : State), RegsOk s → port < 4 → s.laneRuns = true → (s.port port).cur = some x → (s.port port).resetDue = false → x.kind = .poll → x.ctx = some c → s.isType c .pol = true → (pec = true → x.pec = true) → (s.target c).fails < 2 →
    ∃ n, exec (.dsTransactionFail port pec t) s = .next n ∧ n.reg (DSP_ERRCNT + port) = satInc (s.reg (DSP_ERRCNT + port)) ∧ n.flag (DSP_STS + port) (if pec then 5 else 4) = true ∧
      n.cw c POL_ERRCNT = satInc (s.cw c POL_ERRCNT) ∧ n.flag (ctxAddr c CTX_STS) (if pec then 7 else 6) = true ∧ (n.target c).fails = (s.target c).fails + 1 ∧ n.offline c = s.offline c ∧
      Kept s n ([DSP_ERRCNT + port, DSP_STS + port, ctxAddr c POL_ERRCNT, ctxAddr c CTX_STS] ++ recordWords) ∧ n.mram = s.mram) ∧
  (∀ (port c t : Nat) (pec : Bool) (x : DsTx) (s : State), RegsOk s → ImagesFit s → port < 4 → s.laneRuns = true → (s.port port).cur = some x → (s.port port).resetDue = false → x.kind = .poll → x.ctx = some c → s.isType c .pol = true → (pec = true → x.pec = true) → (s.target c).fails = 2 → s.offline c = false →
    ∃ n, exec (.dsTransactionFail port pec t) s = .next n ∧ n.offline c = true ∧ (n.target c).fails = 0 ∧ Faulted n c 11 ∧ n.mram = s.mram) ∧
  (∀ (port t : Nat) (x : DsTx) (s : State), (s.port port).cur = some x → x.pec = false ∨ x.reads = false →
    ∃ n, exec (.dsTransactionFail port true t) s = .next n ∧ n.dsPorts = s.dsPorts ∧ n.dsTargets = s.dsTargets ∧ n.regs = s.regs ∧ n.flt = s.flt ∧ n.mram = s.mram) ∧
  (∀ (port c t : Nat) (x : DsTx) (s : State), RegsOk s → port < 4 → (s.port port).cur = some x → (s.port port).resetDue = false → x.kind = .poll → x.ctx = some c → s.isType c .rectifier = true → (s.target c).fails < 2 →
    ∃ n, exec (.dsStretchTimeout port t) s = .next n ∧ n.reg (DSP_ERRCNT + port) = satInc (s.reg (DSP_ERRCNT + port)) ∧ n.flag (DSP_STS + port) 6 = true ∧ (n.target c).fails = (s.target c).fails + 1 ∧
      Kept s n ([DSP_ERRCNT + port, DSP_STS + port] ++ recordWords) ∧ n.mram = s.mram)

/-- The next transaction of a port: safe-state commands first, then other commands, alert service, probes and polls (R420). A poll cycle takes the online, supported targets in their order, and one that has not ended is marked OVRUN and followed at once (R422); an offline target is probed every 100 ms (R423); an accepted alert starts one service, which repeats until the eighth sets ALSTK (R424; the count of services by log 42), and on an isolated segment it is only counted (R430). POL.CTL.EN that changes queues OPERATION, and a rise leaves the safe state; POL.VSET that differs from what was acknowledged queues VOUT_COMMAND, and one that does not queues nothing (R354, R418, R421). -/
def Obligations.PortsTakeTheirTransactionsInOrder : Prop :=
  (∀ (p : Nat) (s : State), s.laneRuns = false ∨ (s.port p).cur.isSome = true → s.pump p = s) ∧
  (∀ (p : Nat) (s : State), (∃ d ∈ s.table p, s.sendable d = true ∧ d.safe = true) → ∃ x d, s.nextTx p = some (x, some d) ∧ x.kind = .command ∧ x.safe = true ∧ d ∈ s.table p ∧ d.safe = true) ∧
  (∀ (p : Nat) (s : State), (∀ d ∈ s.table p, s.sendable d = true → d.safe = false) → (∃ d ∈ s.table p, s.sendable d = true) → ∃ x d, s.nextTx p = some (x, some d) ∧ x.kind = .command ∧ x.safe = false ∧ d ∈ s.table p) ∧
  (∀ (p : Nat) (s : State), (∀ d ∈ s.table p, s.sendable d = false) → (s.port p).alertDue = true → ∃ x, s.nextTx p = some (x, none) ∧ x.kind = .alertAddress ∧ x.addr = 0x0C) ∧
  (∀ (p c : Nat) (l : List Nat) (s : State), (∀ d ∈ s.table p, s.sendable d = false) → (s.port p).alertDue = false → (s.port p).alertFor = none → (s.port p).probes = c :: l →
    ∃ x, s.nextTx p = some (x, none) ∧ x.kind = .probe ∧ x.ctx = some c ∧ x.code = 0x79) ∧
  (∀ (p c k : Nat) (l : List (Nat × Nat)) (s : State), (∀ d ∈ s.table p, s.sendable d = false) → (s.port p).alertDue = false → (s.port p).alertFor = none → (s.port p).probes = [] → (s.port p).polls = (c, k) :: l →
    ∃ x, s.nextTx p = some (x, none) ∧ x.kind = .poll ∧ x.ctx = some c ∧ x.code = k) ∧
  (∀ (port t : Nat) (x : DsTx) (s : State), port < 4 → s.works = true → s.flag (DSP_CFG + port) 3 = true → s.portCode port = 1 → s.portSupplied port = true → s.running (.poll port) = false → (s.port port).polls = [] → (s.port port).cur = some x → x.kind ≠ .poll →
    ∃ n, exec (.pollCycle port t) s = .next n ∧ n.running (.poll port) = true ∧ n.age (.poll port) = 0 ∧
      (n.port port).polls = ((s.targets port).filter (fun r => !s.offline r.ctx && !s.unsupported r.ctx)).flatMap (fun r => (s.pollCodes r.ctx).map (fun k => (r.ctx, k))) ∧ n.regs = s.regs ∧ n.mram = s.mram) ∧
  (∀ (port t : Nat) (s : State), RegsOk s → port < 4 → s.works = true → s.flag (DSP_CFG + port) 3 = true → s.portCode port = 1 → s.portSupplied port = true → (s.at t).expired (.poll port) (s.reg DS_POLL) = true → s.cycleEnded port = false →
    ∃ n, exec (.pollCycle port t) s = .next n ∧ n.flag (DSP_STS + port) 9 = true ∧ (n.port port).pollDue = true ∧ (n.port port).polls = (s.port port).polls ∧ Kept s n [DSP_STS + port] ∧ n.mram = s.mram) ∧
  (∀ (port addr c t : Nat) (r : CtxRec) (s : State), port < 4 → s.works = true → s.portCode port = 1 → s.portSupplied port = true → (s.at t).expiredTicks (.probe port addr) (ms 100) = true → r ∈ s.targets port → r.ctx = c → r.dsAddr = addr → s.offline c = true → (s.port port).cur.isSome = true →
    ∃ n, exec (.dsProbe port addr t) s = .next n ∧ c ∈ (n.port port).probes ∧ n.running (.probe port addr) = true ∧ n.age (.probe port addr) = 0 ∧ n.regs = s.regs ∧ n.mram = s.mram) ∧
  (∀ (port t : Nat) (s : State), port < 4 → s.inputsActed = true → s.actedLevel (0x90 + port) = true → (s.at t).intervalOver (0x90 + port) false = true → (s.port port).isolated = false → (s.port port).cur.isSome = true →
    ∃ n, exec (.dsAlert port t) s = .next n ∧ find n.accepted (0x90 + port) = some false ∧ n.actedLevel (0x90 + port) = false ∧ (n.port port).alertDue = true ∧ (n.port port).alertRuns = 1 ∧ n.regs = s.regs ∧ n.mram = s.mram) ∧
  (∀ (port t : Nat) (s : State), RegsOk s → port < 4 → s.inputsActed = true → s.actedLevel (0x90 + port) = true → (s.at t).intervalOver (0x90 + port) false = true → (s.port port).isolated = true →
    ∃ n, exec (.dsAlert port t) s = .next n ∧ find n.accepted (0x90 + port) = some false ∧ (n.port port).alertDue = (s.port port).alertDue ∧ n.reg IN_GPCNT = satInc (s.reg IN_GPCNT) ∧ n.flag SEQ_STS 7 = true ∧ Kept s n ([IN_GPCNT, SEQ_STS] ++ recordWords) ∧ n.mram = s.mram) ∧
  (∀ (port t : Nat) (s : State), RegsOk s → port < 4 → s.works = true → find s.accepted (0x90 + port) = some false → 1 ≤ (s.port port).alertRuns → (s.at t).expiredTicks (.alert port) (ms 1) = true →
    ∃ n, exec (.dsAlertRepeat port t) s = .next n ∧ n.running (.alert port) = false ∧ (8 ≤ (s.port port).alertRuns → n.flag (DSP_STS + port) 8 = true ∧ Kept s n [DSP_STS + port]) ∧
      ((s.port port).alertRuns < 8 → (n.port port).alertRuns = (s.port port).alertRuns + 1 ∧ ((s.port port).cur.isSome = true → (n.port port).alertDue = true) ∧ n.regs = s.regs) ∧ n.mram = s.mram) ∧
  (∀ (p : Port) (c t : Nat) (w : Word) (r : CtxRec) (s : State), RegsOk s → ServesAll p (s.at t) → c < 128 → s.ctx? c = some r → r.typ = .pol → bit (s.cw c POL_CTL) 0 = false → bit (Written s (ctxAddr c POL_CTL) w) 0 = true → bit w 0 = true →
    s.reenableRefused c = false → s.safe c = true → (s.target c).ackV ≠ some (s.cw c POL_VSET) → (s.port r.a0).cur.isSome = true →
    ∃ n, exec (.polEnWrite p c w t) s = .next n ∧ n.cw c POL_CTL = Written s (ctxAddr c POL_CTL) w ∧ n.safe c = false ∧
      n.table r.a0 = fileCmd (fileCmd (s.table r.a0) { ctx := c, code := 0x21, data := (s.cw c POL_VSET).toNat, safe := false }) { ctx := c, code := 0x01, data := 0x80, safe := false } ∧
      (n.iface p).acked = true ∧ Kept s n [ctxAddr c POL_CTL, ctxAddr c CTX_STATE, ctxAddr c CTX_STS, ctxAddr c CTX_GOV] ∧ n.mram = s.mram) ∧
  (∀ (p : Port) (c t : Nat) (w : Word) (r : CtxRec) (s : State), RegsOk s → ServesAll p (s.at t) → c < 128 → s.ctx? c = some r → r.typ = .pol → bit (s.cw c POL_CTL) 0 = false → bit (Written s (ctxAddr c POL_CTL) w) 0 = true → bit w 0 = true →
    s.reenableRefused c = false → s.safe c = false → (s.port r.a0).cur.isSome = true →
    ∃ n, exec (.polEnWrite p c w t) s = .next n ∧ n.cw c POL_CTL = Written s (ctxAddr c POL_CTL) w ∧ n.safe c = false ∧ n.table r.a0 = fileCmd (s.table r.a0) { ctx := c, code := 0x01, data := 0x80, safe := false } ∧
      (n.iface p).acked = true ∧ Kept s n [ctxAddr c POL_CTL, ctxAddr c CTX_STATE, ctxAddr c CTX_STS, ctxAddr c CTX_GOV] ∧ n.mram = s.mram) ∧
  (∀ (p : Port) (c t : Nat) (w : Word) (r : CtxRec) (s : State), RegsOk s → ServesAll p (s.at t) → c < 128 → s.ctx? c = some r → r.typ = .pol → s.polSafe c 1 = false → (s.target c).ackV ≠ some (Written s (ctxAddr c POL_VSET) w) → (s.port r.a0).cur.isSome = true →
    ∃ n, exec (.polVsetWrite p c w t) s = .next n ∧ n.cw c POL_VSET = Written s (ctxAddr c POL_VSET) w ∧ n.table r.a0 = fileCmd (s.table r.a0) { ctx := c, code := 0x21, data := (Written s (ctxAddr c POL_VSET) w).toNat, safe := false } ∧
      (n.iface p).acked = true ∧ Kept s n [ctxAddr c POL_VSET, ctxAddr c CTX_STS] ∧ n.mram = s.mram) ∧
  (∀ (p : Port) (c t : Nat) (w : Word) (r : CtxRec) (s : State), RegsOk s → ServesAll p (s.at t) → c < 128 → s.ctx? c = some r → r.typ = .pol → (s.target c).ackV = some (Written s (ctxAddr c POL_VSET) w) →
    (∀ d ∈ s.table r.a0, ¬ (d.ctx = c ∧ d.code = 0x21)) → (∀ x, (s.port r.a0).cur = some x → ¬ (x.ctx = some c ∧ x.code = 0x21)) → (s.port r.a0).cur.isSome = true →
    ∃ n, exec (.polVsetWrite p c w t) s = .next n ∧ n.cw c POL_VSET = Written s (ctxAddr c POL_VSET) w ∧ n.dsTable = s.dsTable ∧ (n.iface p).acked = true ∧ Kept s n [ctxAddr c POL_VSET, ctxAddr c CTX_STS] ∧ n.mram = s.mram)

/-- A stuck segment is isolated: nothing is on its wire, every target is offline, STUCK is set, class 11 is raised against context 0, and a supplied one is power-cycled while another waits (R426); requalification, by a wait of both lines or by DSP.CFG.REQUAL, gives the port back (R426, R427); a failed cycle is followed by another, and the second by the wait (R426). -/
def Obligations.StuckSegmentsAreIsolatedAndRequalified : Prop :=
  (∀ (port t : Nat) (s : State), RegsOk s → ImagesFit s → port < 4 → (s.port port).isolated = false →
    ∃ n, exec (.segmentStuck port t) s = .next n ∧ (n.port port).isolated = true ∧ (n.port port).cur = none ∧ (n.port port).polls = [] ∧ n.flag (DSP_STS + port) 0 = true ∧
      n.portCode port = (if (s.supplyOf port).isSome then 3 else 5) ∧ (∀ r ∈ s.targets port, n.offline r.ctx = true) ∧ Faulted n 0 11 ∧ ((s.safeRec 0).menu ≠ 3 → s.isType 0 .pol = false → (∀ x, (s.port port).cur = some x → x.kind ≠ .command) → n.table port = s.table port) ∧
      ((s.supplyOf port).isSome = true → s.laneRuns = true → n.flag (DSP_STS + port) 1 = true ∧ find n.lane.seq.cycles port = some 0) ∧ n.mram = s.mram) ∧
  (∀ (port t : Nat) (s : State), RegsOk s → port < 4 → s.portCode port = 5 ∨ (s.portCode port = 3 ∧ (s.at t).expiredTicks (.segment port) (ms 21) = true) →
    ∃ n, exec (.segmentRequalify port t) s = .next n ∧ n.portCode port = 1 ∧ (n.port port).isolated = false ∧ (n.port port).failed = 0 ∧ n.flag (DSP_STS + port) 2 = true ∧
      (s.laneRuns = false → (n.port port).probes = (s.targets port).map CtxRec.ctx) ∧ Kept s n ([DSP_STATE + port, DSP_STS + port] ++ recordWords) ∧ n.mram = s.mram) ∧
  (∀ (p : Port) (port t : Nat) (w : Word) (s : State), RegsOk s → ServesAll p (s.at t) → port < 4 → bit w 4 = true → s.portCode port = 5 → s.isolatedWord (DSP_CFG + port) = false →
    ∃ n, exec (.dspRequal p port w t) s = .next n ∧ n.portCode port = 1 ∧ (n.port port).isolated = false ∧ n.flag (DSP_STS + port) 2 = true ∧ n.reg (DSP_CFG + port) = Written s (DSP_CFG + port) w ∧
      (n.iface p).acked = true ∧ Kept s n ([DSP_CFG + port, DSP_STATE + port, DSP_STS + port] ++ recordWords) ∧ n.mram = s.mram) ∧
  (∀ (port t : Nat) (s : State), RegsOk s → ImagesFit s → port < 4 → s.portCode port = 3 → (s.at t).expiredTicks (.segment port) (ms 100) = true →
    ∃ n, exec (.segmentCycleFail port t) s = .next n ∧ n.flag (DSP_STS + port) 3 = true ∧ Faulted n 0 11 ∧ (n.port port).failed = (s.port port).failed + 1 ∧
      n.portCode port = (if 1 ≤ (s.port port).failed then 5 else 3) ∧ ((s.port port).failed = 0 → s.laneRuns = true → n.flag (DSP_STS + port) 1 = true ∧ find n.lane.seq.cycles port = some 0) ∧ n.mram = s.mram)

/-- A trained port enters its handshake with a HELLO, and sends one on demand, outside Dormant (R17); a HELLO that agrees brings the port Up while a lane is in charge, one that does not is flagged and raises class 12, once until the flag is cleared (R437, R438); loss of lock trains again and counts (R437, R443); a port not Up within 10 ms raises class 12 once (R438). A frame with a wrong form is discarded, counted and flagged; a whole one for another chip alone is passed on unchanged through the other port, and its frame count noted (R434, R435). -/
def Obligations.LinksComeUpAndPassFrames : Prop :=
  (∀ (down : Bool) (t : Nat) (s : State), RegsOk s → Listens s → s.linkState down = linkTraining → s.flag RST_BLKSTS (6 + b2n down) = false →
    ∃ n, exec (.linkTrained down t) s = .next n ∧ n.linkState down = linkHandshake ∧ n.linkState (!down) = s.linkState (!down) ∧ n.casc.out.length = 1 ∧ Kept s n (CASC_STATE :: recordWords) ∧ n.mram = s.mram) ∧
  (∀ (down : Bool) (t : Nat) (s : State), s.sys ≠ sysDormant → s.linkState down = linkHandshake →
    ∃ n, exec (.helloSend down t) s = .next n ∧ n.casc.out = [(down, frameBytes 0x01 s.cpos (toPos (s.peer down)) (s.link down).sent
        ([BitVec.ofNat 8 s.cpos, BitVec.ofNat 8 s.casc.nchip] ++ (s.at t).w3r HOST_DEVID ++ [BitVec.ofNat 8 (b2n (s.flag HOST_ID 2))] ++ zeros 2))] ∧
      (n.link down).sent = ((s.link down).sent + 1) % 256 ∧ n.regs = s.regs ∧ n.mram = s.mram) ∧
  (∀ (down : Bool) (p : List Byte) (t : Nat) (s : State), RegsOk s → Listens s → s.linkState down = linkHandshake → w3rThere p 2 = some 0x08127 → (p.getD 1 0).toNat = s.casc.nchip → (p.getD 0 0).toNat = s.peer down → s.laneHeld = true →
    ∃ n, exec (.hello down p t) s = .next n ∧ n.linkState down = linkIsUp ∧ n.running (.linkUp down) = false ∧ Kept s n (CASC_STATE :: recordWords) ∧ n.mram = s.mram) ∧
  (∀ (down : Bool) (p : List Byte) (t : Nat) (s : State), RegsOk s → Listens s → s.linkState down = linkHandshake → (p.getD 0 0).toNat ≠ s.peer down → s.flag CASC_STS 1 = false →
    ∃ n m, exec (.hello down p t) s = .next n ∧ n = { m.linkRaise down 0x01 1203 with pending := n.pending, outs := n.outs } ∧ Faulted n 0 12 ∧ m.flag CASC_STS 1 = true ∧ m.linkState down = linkHandshake ∧ Kept s m (CASC_STS :: recordWords) ∧ n.mram = s.mram) ∧
  (∀ (down : Bool) (v t : Nat) (s : State), RegsOk s → s.linkState down = linkIsUp →
    ∃ n, exec (.linkLossOfLock down v t) s = .next n ∧ n.linkState down = linkTraining ∧ n.reg CASC_CVCNT = satAdd (s.reg CASC_CVCNT) v ∧ n.flag CASC_STS 0 = true ∧ n.age (.linkUp down) = 0 ∧
      Kept s n ([CASC_CVCNT, CASC_STS, CASC_STATE] ++ recordWords) ∧ n.mram = s.mram) ∧
  (∀ (down : Bool) (t : Nat) (s : State), RegsOk s → s.sys ≠ sysDormant → s.linkEnabled down = true → s.linkState down ≠ linkIsUp → (s.link down).raised = false → (s.at t).expiredTicks (.linkUp down) (ms 10) = true →
    ∃ n m, exec (.linkUpTimeout down t) s = .next n ∧ AfterCoreRaise m n 12 0 none ∧ Faulted n 0 12 ∧ (m.link down).raised = true ∧ m.linkState down = s.linkState down ∧ Kept s m recordWords ∧ n.mram = s.mram) ∧
  (∀ (p : Port) (w : Word) (t : Nat) (s : State), RegsOk s → ServesAll p (s.at t) →
    ∃ n, exec (.cascPortEnableWrite p w t) s = .next n ∧ n.reg CASC_CFG = Written s CASC_CFG w ∧ (∀ d, n.linkEnabled d = false → n.linkState d = linkDisabled) ∧
      (∀ d, n.linkEnabled d = true → n.linkState d = (if s.linkState d = linkDisabled then linkTraining else s.linkState d)) ∧ (n.iface p).acked = true ∧ Kept s n ([CASC_CFG, CASC_STATE] ++ recordWords) ∧ n.mram = s.mram) ∧
  (∀ (down : Bool) (f : List Byte) (v t : Nat) (s : State), RegsOk s → Listens s → s.linkState down = linkIsUp → s.laneRuns = true → frameOk f v = false →
    (s.casc.discards.filter (fun t0 => decide ((s.at t).now < t0 + ticksPerSecond))).length < 15 →
    ∃ n, exec (.linkFrameReceive down f v t) s = .next n ∧ n.reg CASC_CRCCNT = satInc (s.reg CASC_CRCCNT) ∧ n.reg CASC_CVCNT = satAdd (s.reg CASC_CVCNT) v ∧ n.flag CASC_STS 2 = true ∧ n.casc.out = [] ∧
      n.link down = s.link down ∧ Kept s n ([CASC_CRCCNT, CASC_CVCNT, CASC_STS] ++ recordWords) ∧ n.mram = s.mram) ∧
  (∀ (down : Bool) (f : List Byte) (v t : Nat) (s : State), RegsOk s → Listens s → s.linkState down = linkIsUp → s.linkState (!down) = linkIsUp → s.laneRuns = true → frameOk f v = true → (f.getD 1 0).toNat / 8 % 2 = 0 →
    (f.getD 1 0).toNat / 16 % 8 ≠ s.cpos →
    ∃ n, exec (.linkFrameReceive down f v t) s = .next n ∧ n.casc.out = [(!down, f)] ∧ (n.link down).seen = some (f.getD 2 0).toNat ∧ n.casc.reports = s.casc.reports ∧ n.lane = s.lane ∧
      Kept s n ([CASC_CVCNT, CASC_STS] ++ recordWords) ∧ n.mram = s.mram)

/-- ECHO and TIME (R439): a request every 100 ms on a down port that is Up, its answer on the up port, the delay measured, the rack time sent on, and the rack time taken in: the sender's, plus the hop. The cap of a rack (R294 to R297, R440): reports go up at each cycle instant and are taken in by the master, allocations go down and are due at the next tick; one that stays out for 300 us clears RACK, and after 10 ms SHELF.FBALLOC is in force with class 12; a chip without a report for 300 us is unreachable. -/
def Obligations.RackTimeAndAllocationsAreHandedDown : Prop :=
  (∀ (t : Nat) (s : State), s.laneRuns = true → s.linkState true = linkIsUp → s.running .echo = false ∨ (s.at t).expiredTicks .echo (ms 100) = true →
    ∃ n, exec (.echoRequestSend t) s = .next n ∧ n.casc.out = [(true, frameBytes 0x02 s.cpos (toPos (s.peer true)) (s.link true).sent (leBytes 7 n.now ++ zeros 1))] ∧ n.running .echo = true ∧ n.age .echo = 0 ∧
      n.regs = s.regs ∧ n.mram = s.mram) ∧
  (∀ (p : List Byte) (t : Nat) (s : State), Listens s → s.laneRuns = true → s.linkState false = linkIsUp →
    ∃ n, exec (.echoRequest false p t) s = .next n ∧ n.casc.out = [(false, frameBytes 0x03 s.cpos (toPos (s.peer false)) (s.link false).sent (p.take 7 ++ leBytes 4 0 ++ zeros 1))] ∧ n.regs = s.regs ∧ n.mram = s.mram) ∧
  (∀ (p : List Byte) (t : Nat) (s : State), Listens s → s.laneRuns = true →
    ∃ n, exec (.echoReply p t) s = .next n ∧ (n.link true).delay = some (n.now - field p 0 7 - field p 7 4) ∧ n.link false = s.link false ∧ n.regs = s.regs ∧ n.mram = s.mram) ∧
  (∀ (t : Nat) (s : State), s.laneRuns = true → (s.at t).rackTime % ms 1 = 0 → s.linkState true = linkIsUp →
    ∃ n, exec (.timeSend t) s = .next n ∧ n.casc.out = [(true, frameBytes 0x04 s.cpos (toPos (s.peer true)) (s.link true).sent
        (leBytes 7 (s.at t).rackTime ++ [BitVec.ofNat 8 s.cpos] ++ leBytes 4 ((s.link true).delay.getD 0xFFFFFFFF)))] ∧ n.regs = s.regs ∧ n.mram = s.mram) ∧
  (∀ (p : List Byte) (t : Nat) (s : State), RegsOk s → Listens s → s.laneRuns = true → s.master = false → field p 8 4 ≠ 0xFFFFFFFF →
    ∃ n, exec (.time p t) s = .next n ∧ n.rackTime = (field p 0 7 + (field p 8 4 + 1) / 2) % 2 ^ 56 ∧ n.reg CASC_HOPDLY = toEF ((field p 8 4 : Rat) / 400000000) ∧
      Kept s n (CASC_HOPDLY :: (List.range 4).map (CASC_TOFS + ·)) ∧ n.mram = s.mram) ∧
  (∀ (t : Nat) (s : State), s.laneRuns = true → s.master = false → 1 < s.casc.nchip → (s.at t).rackTime % us 100 = 0 → s.linkState false = linkIsUp →
    ∃ n, exec (.cascadeReportSend t) s = .next n ∧ n.casc.out = [(false, frameBytes 0x10 s.cpos (toPos 0) (s.link false).sent (w3rOf ((s.at t).wattsOf CTX_PMEAS) ++ w3rOf ((s.at t).wattsOf SHELF_RFLOOR) ++
        w3rOf ((s.at t).wattsOf SHELF_FBALLOC) ++ [BitVec.ofNat 8 (s.cw 0 SHELF_RWEIGHT).toNat] ++ zeros 2))] ∧ n.regs = s.regs ∧ n.mram = s.mram) ∧
  (∀ (src t : Nat) (p : List Byte) (d : Word) (s : State), RegsOk s → Listens s → s.laneRuns = true → s.master = true → 0 < src → src < s.casc.nchip → src < 8 → w3rThere p 0 = some d →
    ∃ n r, exec (.report src p t) s = .next n ∧ find n.casc.reports src = some r ∧ r.d = d ∧ r.w = max 1 (p.getD 9 0).toNat ∧ r.time = n.now ∧ n.flag CASC_REACH src = true ∧ Kept s n [CASC_REACH] ∧ n.mram = s.mram) ∧
  (∀ (t : Nat) (s : State), RegsOk s → s.laneRuns = true → s.master = true → (s.at t).rackTime % us 100 = us 50 →
    ∃ n a, exec (.cascadeAllocSend t) s = .next n ∧ find (s.at t).allocations 0 = some a ∧ n.casc.capDue = some (match a with
        | some x => toPU (ef x / s.pbase)
        | none => 0x1FFFF) ∧
      n.flag (ctxAddr 0 SHELF_CAPLIVE) 3 = true ∧ n.flag (ctxAddr 0 SHELF_CAPLIVE) 4 = false ∧ n.age .allocAge = 0 ∧
      (s.linkState true = linkIsUp → n.casc.out = [(true, frameBytes 0x11 s.cpos toAll (s.link true).sent (leBytes 7 ((s.at t).rackTime - us 50) ++ zeros 1 ++ (List.range 8).flatMap (allocEntry (s.at t).allocations)))]) ∧
      Kept s n [ctxAddr 0 SHELF_CAPLIVE, CASC_REACH] ∧ n.mram = s.mram) ∧
  (∀ (t : Nat) (p : List Byte) (s : State), RegsOk s → Listens s → s.laneRuns = true → s.master = false → (p.getD (8 + 4 * s.cpos) 0).toNat / 2 % 2 = 0 → (p.getD (8 + 4 * s.cpos) 0).toNat % 2 = 1 →
    ∃ n, exec (.alloc p t) s = .next n ∧ n.casc.capDue = some (toPU (ef (w3rField p (9 + 4 * s.cpos)).1 / s.pbase)) ∧ n.flag (ctxAddr 0 SHELF_CAPLIVE) 3 = true ∧ n.flag (ctxAddr 0 SHELF_CAPLIVE) 4 = false ∧
      n.age .allocAge = 0 ∧ Kept s n [ctxAddr 0 SHELF_CAPLIVE, CASC_REACH] ∧ n.mram = s.mram) ∧
  (∀ (t : Nat) (s : State), RegsOk s → s.laneRuns = true → (s.at t).expiredTicks .allocAge (us 300) = true → s.casc.capDue = none → s.flag (ctxAddr 0 SHELF_CAPLIVE) 3 = true →
    ∃ n, exec (.allocTimeout t) s = .next n ∧ n.flag (ctxAddr 0 SHELF_CAPLIVE) 3 = false ∧ n.flag (ctxAddr 0 CTX_STS) 8 = true ∧ n.cw 0 SHELF_RACKCAP = s.cw 0 SHELF_RACKCAP ∧
      Kept s n [ctxAddr 0 SHELF_CAPLIVE, ctxAddr 0 CTX_STS, CASC_REACH] ∧ n.mram = s.mram) ∧
  (∀ (t : Nat) (s : State), RegsOk s → s.laneRuns = true → (s.at t).expiredTicks .allocAge (ms 10) = true → s.casc.capDue = none → s.flag (ctxAddr 0 SHELF_CAPLIVE) 4 = false → s.flt.matches_ = [] →
    ∃ n m, exec (.fballocApply t) s = .next n ∧ AfterLaneRaise m n 12 0 none ∧ Faulted n 0 12 ∧ m.cw 0 SHELF_RACKCAP = s.cw 0 SHELF_FBALLOC ∧ m.flag (ctxAddr 0 SHELF_CAPLIVE) 4 = true ∧
      m.flag (ctxAddr 0 CTX_STS) 9 = true ∧ Kept s m [ctxAddr 0 SHELF_CAPLIVE, ctxAddr 0 CTX_STS, ctxAddr 0 SHELF_RACKCAP] ∧ n.mram = s.mram) ∧
  (∀ (k t : Nat) (r : CascReport) (s : State), RegsOk s → s.laneRuns = true → s.master = true → k < 8 → find s.casc.reports k = some r → (s.at t).reachable r = false →
    ∃ n, exec (.reportTimeout k t) s = .next n ∧ n.flag CASC_REACH k = false ∧ Kept s n [CASC_REACH] ∧ n.mram = s.mram)

/-- The master's remote access (R441, R442): a command sends its message with a fresh tag and shows BUSY; a matching answer brings the word and ends it, 1 ms without one ends it with its error. The target serves position 0 with RACC 1: a read is answered with word and quality, a write is applied and answered, and with RACC 0 it answers refused. The target of a remote access (R441, R442): it serves position 0 while a lane runs; with RACC 1 a read is answered with word and quality, a write is applied as interface 9 and answered, and with RACC 0 either is refused without effect; a reset needs RACC and both key bytes. -/
def Obligations.RemoteAccessIsAskedAndServed : Prop :=
  (∀ (p : Port) (w : Word) (t : Nat) (s : State), RegsOk s → ServesAll p (s.at t) → s.master = true → s.flag CASC_RSTS 0 = false → bits w 4 2 ≠ s.cpos → bits w 4 2 < s.casc.nchip → bits w 1 0 = 1 → s.linkState true = linkIsUp →
    ∃ n, exec (.cascRemoteRead p w t) s = .next n ∧ n.casc.remote = some (bits w 4 2, (s.casc.tag + 1) % 256, 1) ∧ n.flag CASC_RSTS 0 = true ∧ n.fld CASC_RSTS 4 2 = 0 ∧ n.age .remote = 0 ∧ n.running .remote = true ∧
      n.casc.out = s.casc.out ++ [(true, frameBytes 0x20 s.cpos (toPos (bits w 4 2)) (s.link true).sent (leBytes 2 (s.regN CASC_RADDR) ++ [BitVec.ofNat 8 ((s.casc.tag + 1) % 256), 0]))] ∧ Kept s n [CASC_RSTS] ∧ n.mram = s.mram) ∧
  (∀ (p : Port) (w : Word) (t : Nat) (s : State), RegsOk s → ServesAll p (s.at t) → s.master = true → s.flag CASC_RSTS 0 = false → bits w 4 2 ≠ s.cpos → bits w 4 2 < s.casc.nchip → bits w 1 0 = 2 → s.linkState true = linkIsUp →
    ∃ n, exec (.cascRemoteWrite p w t) s = .next n ∧ n.casc.remote = some (bits w 4 2, (s.casc.tag + 1) % 256, 2) ∧ n.flag CASC_RSTS 0 = true ∧
      n.casc.out = s.casc.out ++ [(true, frameBytes 0x21 s.cpos (toPos (bits w 4 2)) (s.link true).sent (leBytes 2 (s.regN CASC_RADDR) ++ [BitVec.ofNat 8 ((s.casc.tag + 1) % 256), 0] ++ wordBytes (s.reg CASC_RDATA) 0))] ∧
      Kept s n [CASC_RSTS] ∧ n.mram = s.mram) ∧
  (∀ (p : Port) (w : Word) (t : Nat) (s : State), RegsOk s → ServesAll p (s.at t) → s.master = true → s.flag CASC_RSTS 0 = false → bits w 4 2 ≠ s.cpos → bits w 4 2 < s.casc.nchip → bits w 1 0 = 3 → s.linkState true = linkIsUp →
    ∃ n, exec (.cascRemoteReset p w t) s = .next n ∧ n.casc.remote = some (bits w 4 2, (s.casc.tag + 1) % 256, 3) ∧ n.flag CASC_RSTS 0 = true ∧
      n.casc.out = s.casc.out ++ [(true, frameBytes 0x30 s.cpos (toPos (bits w 4 2)) (s.link true).sent [0xC5, 0x5C, 0, 0])] ∧ Kept s n [CASC_RSTS] ∧ n.mram = s.mram) ∧
  (∀ (src tag t : Nat) (p : List Byte) (s : State), RegsOk s → Listens s → s.laneRuns = true → s.casc.remote = some (src, tag, 1) → (p.getD 0 0).toNat = tag → (p.getD 1 0).toNat = 0 →
    ∃ n, exec (.remoteAnswer src p t) s = .next n ∧ n.reg CASC_RDATA = (w3rField p 2).1 ∧ n.remoteQ = (w3rField p 2).2 ∧ n.casc.remote = none ∧ n.flag CASC_RSTS 0 = false ∧ n.flag CASC_RSTS 1 = true ∧ n.fld CASC_RSTS 4 2 = 0 ∧
      Kept s n [CASC_RDATA, CASC_RSTS] ∧ n.mram = s.mram) ∧
  (∀ (t : Nat) (s : State), RegsOk s → s.laneRuns = true → s.casc.remote.isSome = true → (s.at t).expiredTicks .remote (ms 1) = true →
    ∃ n, exec (.remoteAccessTimeout t) s = .next n ∧ n.casc.remote = none ∧ n.flag CASC_RSTS 0 = false ∧ n.fld CASC_RSTS 4 2 = 3 ∧ n.running .remote = false ∧ Kept s n [CASC_RSTS] ∧ n.mram = s.mram) ∧
  (∀ (p : List Byte) (t : Nat) (s : State), Listens s → s.laneRuns = true → s.remoteOpen = true → s.linkState false = linkIsUp → s.casc.shadow = none → field p 0 2 ≠ BB_PDATA →
    ∃ n, exec (.remoteRead 0 p t) s = .next n ∧
      n.casc.out = [(false, frameBytes 0x22 s.cpos (toPos 0) (s.link false).sent ([p.getD 2 0, BitVec.ofNat 8 0] ++ w3rOf ((s.at t).readAt (field p 0 2)) ++ zeros 1))] ∧ n.lane = s.lane ∧ n.journal = s.journal ∧ n.mram = s.mram) ∧
  (∀ (p : List Byte) (t : Nat) (s : State), Listens s → s.laneRuns = true → s.remoteOpen = true → s.journal.length < 128 →
    ∃ (n x : State), exec (.remoteWrite 0 p t) s = .next n ∧ x.regs = s.regs ∧ x.lane = s.lane ∧ (journalled (field p 0 2) = true → x.journal.length = s.journal.length + 1) ∧
      n = { (x.applyWrite 9 (field p 0 2) (w3rField p 4).1).answer (p.getD 2 0) 0 (0, 0) with pending := s.pending, outs := n.outs }) ∧
  (∀ (p : List Byte) (t : Nat) (s : State), RegsOk s → Listens s → s.laneRuns = true → s.remoteOpen = false → s.linkState false = linkIsUp →
    ∃ n, exec (.remoteWrite 0 p t) s = .next n ∧ n.casc.out = [(false, frameBytes 0x22 s.cpos (toPos 0) (s.link false).sent ([p.getD 2 0, BitVec.ofNat 8 1] ++ w3rOf ((0 : Word), 0) ++ zeros 1))] ∧ n.journal = s.journal ∧
      n.lane = s.lane ∧ Kept s n recordWords ∧ n.mram = s.mram) ∧
  (∀ (src t : Nat) (p : List Byte) (s : State), Listens s → s.laneRuns = true → s.remoteOpen = false → ∃ n, exec (.reset src p t) s = .next n ∧ n.regs = s.regs ∧ n.lane = s.lane ∧ n.mram = s.mram) ∧
  (∀ (t : Nat) (p : List Byte) (s : State), Listens s → s.laneRuns = true → s.remoteOpen = true → p.getD 0 0 = 0xC5 → p.getD 1 0 = 0x5C →
    ∃ (n x : State), exec (.reset 0 p t) s = .next n ∧ x = ((s.at t).clearOut).linkEvent false 8 ∧ n = { x.deviceReset 7 with pending := s.pending, outs := n.outs })

/-- A rise of VIN, a brown-out, a low of RST_N of 20 us or more, and RST.SW with its key each reset the device under their code: every word has its reset value but the cause, the lifetime counters and, while VIN stays, the bad marks; the MRAM and the OTP are kept, a learned-data commit that has started being completed from VRES (R23, R452, R453, R454). A low below 5 us, and another key, do nothing, and between 5 us and 20 us a low may or may not reset (R453). While RST_N is held nothing starts, and its release ends the hold (R453). RST.BLK puts each block it names into reset, shown until the reset ends; a downstream port waits for the transaction on the wire (R457). -/
def Obligations.DeviceAndBlockResets : Prop :=
  (∀ (s : State), s.clk.vin = false →
    ∃ n, exec .powerOn s = .next n ∧ n.clk.vin = true ∧ n.reg RST_CAUSE = 1 ∧ n.image = none ∧ n.lane = State.reset.lane ∧ n.timers = [] ∧ n.clocks = false ∧ n.holder = none ∧
      (∀ a, a ∉ [RST_CAUSE, TDIE_PHLIFE, TDIE_HSLIFE] → n.reg a = State.reset.reg a) ∧ n.otp = s.otp ∧ n.mram = s.lrnDurable.mram) ∧
  (∀ (t : Nat) (s : State), s.clk.vin = true →
    ∃ n, exec (.vinBrownOut t) s = .next n ∧ n.clk.vin = false ∧ n.reg RST_CAUSE = 2 ∧ n.image = none ∧ n.lane = State.reset.lane ∧ n.timers = [] ∧ n.clocks = false ∧
      (∀ a, a ∉ [RST_CAUSE, TDIE_PHLIFE, TDIE_HSLIFE] → n.reg a = State.reset.reg a) ∧ n.otp = s.otp ∧ n.mram = s.lrnDurable.mram) ∧
  (∀ (ticks t : Nat) (s : State), s.clk.vin = true → s.clk.vio = true → us 20 ≤ ticks →
    ∃ n, exec (.rstNLow ticks t) s = .next n ∧ n.clk.held = true ∧ n.clk.vin = true ∧ n.reg RST_CAUSE = 3 ∧ n.fld LANE_HEALTH 7 0 = s.fld LANE_HEALTH 7 0 ∧ n.image = none ∧ n.lane = State.reset.lane ∧
      (∀ a, a ∉ [RST_CAUSE, TDIE_PHLIFE, TDIE_HSLIFE, LANE_HEALTH] → n.reg a = State.reset.reg a) ∧ n.otp = s.otp ∧ n.mram = s.lrnDurable.mram) ∧
  (∀ (ticks t : Nat) (s : State), ticks < us 5 →
    ∃ n, exec (.rstNLow ticks t) s = .next n ∧ n.regs = s.regs ∧ n.clk = s.clk ∧ n.lane = s.lane ∧ n.mram = s.mram) ∧
  (∀ (ticks t : Nat) (s : State), s.clk.vin = true → s.clk.vio = true → us 5 ≤ ticks → ticks < us 20 →
    ∃ n, exec (.rstNLow ticks t) s = .next n ∧ ((n.regs = s.regs ∧ n.clk = s.clk ∧ n.lane = s.lane ∧ n.mram = s.mram) ∨ (n.reg RST_CAUSE = 3 ∧ n.mram = s.lrnDurable.mram ∧ n.clk.held = true ∧ n.image = none ∧ n.lane = State.reset.lane))) ∧
  (∀ (straps t : Nat) (s : State), s.clk.held = true →
    (∃ n, exec (.fuseMapRead t) s = .next n ∧ n.regs = s.regs ∧ n.clk = s.clk) ∧ (∃ n, exec (.vreg5InRegulation straps t) s = .next n ∧ n.regs = s.regs ∧ n.clk = s.clk) ∧
    (∃ n, exec (.pllEnable t) s = .next n ∧ n.regs = s.regs ∧ n.clk = s.clk)) ∧
  (∀ (t : Nat) (s : State), ∃ n, exec (.rstNRelease t) s = .next n ∧ n.clk = { s.clk with held := false } ∧ n.regs = s.regs ∧ n.mram = s.mram) ∧
  (∀ (p : Port) (w : Word) (t : Nat) (s : State), ServesAll p (s.at t) → bits w 15 0 = 0xA55A →
    ∃ n, exec (.rstSw p w t) s = .next n ∧ n.clk.vin = s.clk.vin ∧ n.clk.held = false ∧ n.reg RST_CAUSE = 5 ∧ n.fld LANE_HEALTH 7 0 = s.fld LANE_HEALTH 7 0 ∧ n.image = none ∧ n.lane = State.reset.lane ∧
      (∀ a, a ∉ [RST_CAUSE, TDIE_PHLIFE, TDIE_HSLIFE, LANE_HEALTH] → n.reg a = State.reset.reg a) ∧ n.otp = s.otp ∧ n.mram = s.lrnDurable.mram) ∧
  (∀ (p : Port) (w : Word) (t : Nat) (s : State), ServesAll p (s.at t) → bits w 15 0 ≠ 0xA55A →
    ∃ n, exec (.rstSw p w t) s = .next n ∧ n.regs = s.regs ∧ n.lane = s.lane ∧ (n.iface p).acked = true ∧ n.mram = s.mram) ∧
  (∀ (p : Port) (w : Word) (b t : Nat) (s : State), RegsOk s → ServesAll p (s.at t) → b < 9 → bit w b = true →
    ∃ n, exec (.rstBlk p w t) s = .next n ∧ (b < 2 ∨ 5 < b ∨ (s.port (b - 2)).cur = none → n.flag RST_BLKSTS b = true) ∧
      (2 ≤ b → b ≤ 5 → (s.port (b - 2)).cur.isSome = true → s.flag RST_BLKSTS b = false → n.flag RST_BLKSTS b = false ∧ (n.port (b - 2)).resetDue = true) ∧ (∀ k, k < 9 → bit w k = false → n.flag RST_BLKSTS k = s.flag RST_BLKSTS k) ∧ (bit w 8 = true → s.flag RST_BLKSTS 8 = false → n.flag FCNT_STS 0 = false) ∧ n.mram = s.mram) ∧
  (∀ (b t : Nat) (s : State), RegsOk s → b < 9 → s.flag RST_BLKSTS b = true →
    ∃ n, exec (.blockResetEnd b t) s = .next n ∧ n.flag RST_BLKSTS b = false ∧ (∀ k, k < 18 → k ≠ b → n.flag RST_BLKSTS k = s.flag RST_BLKSTS k) ∧ Kept s n [RST_BLKSTS] ∧ n.mram = s.mram)

/-- Start-up goes from the fuse map to the straps, sampled once, the PLL and the release of the clocks, where shelf time starts at 0 and the start lane is powered (R445, R448, R458, R459, R462, R464). -/
def Obligations.StartUpFollowsItsMoments : Prop :=
  (∀ (t : Nat) (s : State), RegsOk s → s.clk.vin = true → s.clk.held = false → s.clk.fuses = false →
    ∃ n, exec (.fuseMapRead t) s = .next n ∧ n.clk = { s.clk with fuses := true, fuseMap := s.otp } ∧ n.reg CLK_STS = Word.ofNat ((s.otpByte 0xA0).toNat % 8 + 8 * b2n ((s.otpByte 0xBA).getLsbD 0)) ∧ n.reg UPD_ARB = Word.ofNat s.rollbackCount ∧
      n.flag HOST_ID 2 = s.variantBE ∧ Kept s n [CLK_STS, UPD_ARB, HOST_ID] ∧ n.mram = s.mram) ∧
  (∀ (straps t : Nat) (s : State), RegsOk s → s.clk.vin = true → s.clk.held = false → s.clk.vreg5 = false → s.clocks = false → s.clk.strapped = false →
    ∃ n, exec (.vreg5InRegulation straps t) s = .next n ∧ n.clk = { s.clk with vreg5 := true, lost := false, strapped := true } ∧ n.fld RST_STRAP 8 0 = straps % 512 ∧ n.flag RST_STRAP 9 = decide (straps / 4 % 4 = 3) ∧
      n.fld HOST_ID 1 0 = straps / 16 % 4 ∧ n.fld CASC_STATE 2 0 = straps / 64 % 8 ∧ Kept s n [RST_STRAP, HOST_ID, CASC_STATE] ∧ n.mram = s.mram) ∧
  (∀ (straps t : Nat) (s : State), s.clk.vin = true → s.clk.held = false → s.clk.vreg5 = false → s.clocks = false → s.clk.strapped = true →
    ∃ n, exec (.vreg5InRegulation straps t) s = .next n ∧ n.clk = { s.clk with vreg5 := true, lost := false } ∧ n.regs = s.regs ∧ n.mram = s.mram) ∧
  (∀ (straps t : Nat) (s : State), RegsOk s → s.clk.vin = true → s.clk.held = false → s.clk.vreg5 = false → s.clocks = true → s.sys = sysPlain → s.holder = none → s.dieLevel < 2 →
    ∃ n, exec (.vreg5InRegulation straps t) s = .next n ∧ n.holder = some s.chooseLane ∧ n.laneState s.chooseLane = lanePowering ∧ n.fld LANE_AUTH 12 10 = 5 ∧ n.sys = sysPlain ∧ n.reg RST_STRAP = s.reg RST_STRAP ∧ n.mram = s.mram) ∧
  (∀ (t : Nat) (s : State), s.clk.fuses = true → s.clk.vreg5 = true → s.clk.held = false → s.clk.pll = false → s.clocks = false →
    ∃ n, exec (.pllEnable t) s = .next n ∧ n.clk = { s.clk with pll := true, xtal := false } ∧ n.regs = s.regs ∧ n.mram = s.mram) ∧
  (∀ (s : State), RegsOk s → s.clk.pll = true → s.clocks = false →
    ∃ n, exec .clocksRelease s = .next n ∧ n.clocks = true ∧ n.now = 0 ∧ n.holder = some s.startLane ∧ n.laneState s.startLane = lanePowering ∧ (s.flag RST_STRAP 1 = true → n.flag UPD_STS 8 = true ∧ n.upd.toTry = [])) ∧
  (∀ (t slot : Nat) (rest : List Nat) (s : State), RegsOk s → s.startingUp = true → s.flag UPD_STS 8 = false → s.upd.fw = none → s.upd.toTry = slot :: rest → s.checkFirmware slot false = none →
    ∃ n, exec (.firmwareChecked t) s = .next n ∧ n.upd.fw = some slot ∧ (∃ a, n.upd.check = some (.start, a)) ∧ n.flag IMG_LDSTAT 0 = true ∧ n.flag UPD_STS 8 = false) ∧
  (∀ (t slot : Nat) (rest : List Nat) (x : Bad) (s : State), RegsOk s → s.startingUp = true → s.flag UPD_STS 8 = false → s.upd.fw = none → s.upd.toTry = slot :: rest → s.checkFirmware slot false = some x →
    ∃ n, exec (.firmwareChecked t) s = .next n ∧ n.upd.fw = none ∧ n.upd.toTry = rest ∧ n.fld IMG_LDERR 7 0 = x.code % 256 ∧ n.flag UPD_STS 8 = rest.isEmpty ∧ n.mram = s.mram) ∧
  (∀ (t : Nat) (l : LaneId) (s : State), RegsOk s → s.startingUp = true → s.holder = some l → s.arb.startTried = false →
    ∃ n, exec (.startLaneFail t) s = .next n ∧ n.holder = some l.other ∧ n.isBad l = true ∧ n.laneState l = laneCold ∧ n.laneState l.other = lanePowering ∧ n.sys = sysStartUp ∧ n.mram = s.mram) ∧
  (∀ (t : Nat) (l : LaneId) (s : State), RegsOk s → s.startingUp = true → s.holder = some l → s.arb.startTried = true →
    ∃ n, exec (.startLaneFail t) s = .next n ∧ n.holder = none ∧ n.isBad l = true ∧ n.sys = sysStartUp ∧ Faulted n 0 13)

/-- VREG5 out of regulation, a low reserve and a fault of the 0.8 V regulator raise class 0 (R345, R493, R23); VREG5 lost turns both lanes off and enters Plain hold (R15, R338, R493); without VIO nothing drives HALERT_N and FLT_N and the targets' transactions are lost, and its return starts them idle (R16, R491, R506); VRES charged carries out the commits that waited (R23); a lost reference changes no register (R449). -/
def Obligations.SuppliesFailAndReturn : Prop :=
  (∀ (t : Nat) (s : State), s.clk.vreg5 = true →
    ∃ n m, exec (.vreg5OutOfRegulation t) s = .next n ∧ AfterCoreRaise m n 0 0 none ∧ Faulted n 0 0 ∧ m.clk = { s.clk with vreg5 := false } ∧ m.regs = s.regs ∧ n.mram = s.mram) ∧
  (∀ (t : Nat) (s : State), RegsOk s → s.clk.lost = false → s.clocks = true →
    ∃ n, exec (.vreg5Lost t) s = .next n ∧ n.clk.lost = true ∧ n.clk.vreg5 = false ∧ n.sys = sysPlain ∧ n.holder = none ∧ n.laneState .a = laneCold ∧ n.laneState .b = laneCold ∧ (s.clk.vreg5 = true → Faulted n 0 0)) ∧
  (∀ (t : Nat) (s : State), ∃ n, exec (.vioLoss t) s = .next n ∧ n.clk.vio = false ∧ n.tap.tdo = none ∧ n.tw.waiting = none ∧ n.spi.waiting = none ∧ n.outs.halert = false ∧ n.outs.flt = false ∧ n.regs = s.regs ∧ n.mram = s.mram) ∧
  (∀ (t : Nat) (s : State), ∃ n, exec (.vioReturn t) s = .next n ∧ n.clk = { s.clk with vio := true } ∧ n.outs.flt = (s.flt.pulse || s.flag FLT_CTL 0) ∧ n.regs = s.regs ∧ n.mram = s.mram) ∧
  (∀ (t : Nat) (s : State), s.vresOk = true →
    ∃ n m, exec (.vresReserveLow t) s = .next n ∧ AfterCoreRaise m n 0 0 none ∧ Faulted n 0 0 ∧ n.vresOk = false ∧ m.regs = s.regs ∧ n.mram = s.mram) ∧
  (∀ (t : Nat) (s : State), RegsOk s → s.vresOk = false → s.rcd.staging = [] →
    ∃ n, exec (.vresCharged t) s = .next n ∧ n.vresOk = true ∧ n.commits = [] ∧ n.mram = s.settled ∧ n.regs = s.regs) ∧
  (∀ (t : Nat) (s : State), ∃ n, exec (.vdd08RegulatorFault t) s = .next n ∧ AfterCoreRaise (s.at t) n 0 0 none ∧ Faulted n 0 0 ∧ n.mram = s.mram) ∧
  (∀ (t : Nat) (s : State), ∃ n, exec (.referenceClockLoss t) s = .next n ∧ n.clk = { s.clk with ref := false } ∧ n.regs = s.regs ∧ n.mram = s.mram)

/-- FCNT.CMD starts a gate where none runs, and STOP wins; a gate that completes leaves the count, held at 32 bits with OVF and 0 where the measured clock has no edges, and DONE; one that has not completed within 10 s sets its timeout (R450, R451). The test access port follows TMS through the states of IEEE 1149.1 and shifts TDI in, and TRST_N low holds it in Test-Logic-Reset (R487). -/
def Obligations.TheCounterAndTheTestPortRun : Prop :=
  (∀ (p : Port) (w : Word) (t : Nat) (s : State), RegsOk s → ServesAll p (s.at t) → s.flag RST_BLKSTS 8 = false → bit w 1 = false → bit w 0 = true → s.gateRuns = false →
    ∃ n, exec (.fcntStart p w t) s = .next n ∧ n.gateRuns = true ∧ n.clk.gate = s.reg FCNT_CTL ∧ n.running (.gate 0) = true ∧ n.age (.gate 0) = 0 ∧ (n.iface p).acked = true ∧ Kept s n [FCNT_STS] ∧ n.mram = s.mram) ∧
  (∀ (p : Port) (w : Word) (t : Nat) (s : State), RegsOk s → ServesAll p (s.at t) → s.flag RST_BLKSTS 8 = false → bit w 1 = true →
    ∃ n, exec (.fcntStop p w t) s = .next n ∧ n.gateRuns = false ∧ n.running (.gate 0) = false ∧ (n.iface p).acked = true ∧ Kept s n [FCNT_STS] ∧ n.mram = s.mram) ∧
  (∀ (count t : Nat) (s : State), RegsOk s → s.gateRuns = true → s.hasEdges (bits s.clk.gate 5 3) = true →
    ∃ n, exec (.fcntGateComplete count t) s = .next n ∧ n.gateRuns = false ∧ n.flag FCNT_STS 1 = true ∧ n.wide FCNT_RES 2 = (if s.hasEdges (bits s.clk.gate 2 0) = true then min count 4294967295 else 0) ∧
      (s.hasEdges (bits s.clk.gate 2 0) = true → 4294967295 < count → n.flag FCNT_STS 2 = true) ∧
      Kept s n [FCNT_STS, FCNT_RES, FCNT_RES + 1] ∧ n.mram = s.mram) ∧
  (∀ (t : Nat) (s : State), RegsOk s → s.gateRuns = true → (s.at t).expiredTicks (.gate 0) (10 * ticksPerSecond) = true →
    ∃ n, exec (.fcntTimeout t) s = .next n ∧ n.gateRuns = false ∧ n.flag FCNT_STS 3 = true ∧ n.running (.gate 0) = false ∧ Kept s n [FCNT_STS] ∧ n.mram = s.mram) ∧
  (∀ (tms tdi : Bool) (t : Nat) (s : State), s.tap.run = true →
    ∃ n, exec (.testAccessPortTck tms tdi t) s = .next n ∧ n.tap.st = s.tap.st.next tms ∧ ((s.tap.st = .shiftDR ∨ s.tap.st = .shiftIR) → n.tap.shift = s.tap.shift.drop 1 ++ [tdi]) ∧
      (s.tap.st = .captureDR → s.tap.instr = .idcode → n.tap.shift = idcodeBits) ∧ (s.tap.st = .captureDR → s.tap.instr = .bypass → n.tap.shift = [false]) ∧
      ((n.tap.st = .shiftDR ∨ n.tap.st = .shiftIR) → s.clk.vio = true → n.tap.tdo = n.tap.shift.head?) ∧ (s.clk.vio = false → n.tap.tdo = none) ∧ (n.tap.st = .reset → n.tap.instr = .idcode) ∧ n.regs = s.regs ∧ n.mram = s.mram) ∧
  (∀ (level : Bool) (t : Nat) (s : State), ∃ n, exec (.trstNChange level t) s = .next n ∧ n.tap.run = level ∧ (level = false → n.tap.st = .reset ∧ n.tap.instr = .idcode) ∧ (level = true → n.tap.st = s.tap.st) ∧ n.regs = s.regs ∧ n.mram = s.mram)

/-- UPD.FWACT with its key takes a Staged slot, and sets FWFAIL where it may not (R477); a slot that passes its check is in Trial, and a swap is asked for; one that fails is turned away (R477). A trial whose conditions hold is confirmed by UPD.CONFIRM, or at its window's end where the host is not to confirm it; one whose conditions failed falls back with class 14; a refused image fallback is tried again each second (R478, R479, R480). UPD.SAVE with its key saves the settings (R481). A class 13, 14 or 15 fault of the instant of a confirmation takes it back, and the trial is broken (R484). -/
def Obligations.FirmwareTrialsAndSettings : Prop :=
  (∀ (p : Port) (w : Word) (t : Nat) (s : State), ServesAll p (s.at t) → bits w 15 0 = 0x6996 → s.slotState false (b2n (bit w 16)) = slotStaged → s.upd.act = none → s.upd.trial = none → s.swapRefused = false →
    ∃ n, exec (.fwActivate p w t) s = .next n ∧ n.upd.act = some (b2n (bit w 16)) ∧ n.upd.copied = false ∧ n.regs = s.regs ∧ (n.iface p).acked = true ∧ n.mram = s.mram) ∧
  (∀ (p : Port) (w : Word) (t : Nat) (s : State), RegsOk s → ServesAll p (s.at t) → bits w 15 0 = 0x6996 → s.slotState false (b2n (bit w 16)) ≠ slotStaged →
    ∃ n, exec (.fwActivate p w t) s = .next n ∧ n.flag UPD_STS 5 = true ∧ n.upd = s.upd ∧ Kept s n [UPD_STS] ∧ (n.iface p).acked = true ∧ n.mram = s.mram) ∧
  (∀ (t slot : Nat) (s : State), s.laneRuns = true → s.upd.act = some slot → s.upd.copied = false → s.checkFirmware slot true = none → s.flag UPD_STS 8 = false → s.swapRefused = false →
    ∃ n, exec (.fwActivateReady t) s = .next n ∧ n.upd.copied = true ∧ n.upd.act = some slot ∧ n.arb.swapAsked = true ∧ n.arb.askedAt = n.now ∧ n.mram = (s.setSlotState false slot slotTrial).mram ∧
      n.commits = (s.setSlotState false slot slotTrial).commits ∧ n.regs = s.regs) ∧
  (∀ (t slot : Nat) (x : Bad) (s : State), RegsOk s → (s.laneRuns = true ∨ s.flag UPD_STS 8 = true) → s.upd.act = some slot → s.upd.copied = false → s.checkFirmware slot true = some x →
    ∃ n, exec (.fwActivateReady t) s = .next n ∧ n.upd.act = none ∧ n.flag UPD_STS 5 = true ∧ n.fld IMG_LDERR 7 0 = x.code % 256 ∧ Kept s n [UPD_STS, IMG_LDERR, IMG_LDREC] ∧ n.mram = s.mram) ∧
  (∀ (p : Port) (w : Word) (t : Nat) (x : Trial) (s : State), RegsOk s → ServesAll p (s.at t) → bits w 15 0 = 0xC33C → s.upd.trial = some x → s.trialGood x = true →
    ∃ n, exec (.trialConfirm p w t) s = .next n ∧ n.upd.trial = none ∧ n.flag UPD_STS 2 = true ∧ n.flag UPD_STS 0 = false ∧ n.running .trial = false ∧ (n.iface p).acked = true ∧
      n.mram = (s.setSlots [(slotPlace x.image x.slot, slotActive), (slotPlace x.image (1 - x.slot), slotPrevious)]).mram ∧ n.reg UPD_ARB = Word.ofNat n.rollbackCount ∧ Kept s n [UPD_STS, LRN_STS, UPD_ARB]) ∧
  (∀ (t : Nat) (x : Trial) (s : State), RegsOk s → s.laneRuns = true → s.upd.trial = some x → (s.at t).expired .trial x.window = true → s.trialGood x = true → s.flag UPD_CTL 0 = false →
    ∃ n, exec (.trialWindowEnd t) s = .next n ∧ n.upd.trial = none ∧ n.flag UPD_STS 2 = true ∧ n.flag UPD_STS 0 = false ∧ Kept s n [UPD_STS, LRN_STS, UPD_ARB]) ∧
  (∀ (t : Nat) (x : Trial) (s : State), RegsOk s → ImagesFit s → s.laneRuns = true → s.upd.trial = some x → x.image = false → (s.at t).expired .trial x.window = true → s.trialGood x = false → s.swapRefused = false → s.flt.matches_ = [] →
    ∃ n, exec (.trialWindowEnd t) s = .next n ∧ n.upd.trial = none ∧ n.flag UPD_STS 3 = true ∧ n.flag UPD_STS 0 = false ∧ n.arb.swapAsked = true ∧ n.upd.fw = s.upd.fw ∧ n.upd.mem = s.upd.mem ∧ Faulted n 0 14) ∧
  (∀ (t : Nat) (s : State), RegsOk s → s.flag UPD_STS 4 = true → (s.at t).expiredTicks .fallback ticksPerSecond = true → s.laneRuns = true → s.imgBusy = false → s.switching = false → s.arb.entryWait = false → (∀ l, s.holder = some l → s.isBad l.other = false) →
    ∃ n, exec (.fallbackRetry t) s = .next n ∧ n.upd.check = some (.switch, 1 - s.activeSlot) ∧ n.imgBusy = true ∧ n.flag UPD_STS 4 = false ∧ n.running .fallback = false ∧ Kept s n [IMG_LDSTAT, UPD_STS] ∧ n.mram = s.mram) ∧
  (∀ (t : Nat) (s : State), RegsOk s → s.flag UPD_STS 4 = true → (s.at t).expiredTicks .fallback ticksPerSecond = true → s.imgBusy = true →
    ∃ n, exec (.fallbackRetry t) s = .next n ∧ n.flag UPD_STS 4 = true ∧ n.running .fallback = true ∧ n.age .fallback = 0 ∧ n.upd = s.upd ∧ Kept s n [UPD_STS] ∧ n.mram = s.mram) ∧
  (∀ (p : Port) (w : Word) (t : Nat) (im : Image) (s : State), RegsOk s → ServesAll p (s.at t) → bits w 15 0 = 0x5AA5 → s.saving = false → s.image = some im →
    ∃ n, exec (.settingsSave p w t) s = .next n ∧ n.flag UPD_STS 6 = true ∧ (n.iface p).acked = true ∧ Kept s n [UPD_STS]) ∧
  (∀ (p : Port) (w : Word) (t : Nat) (s : State), ServesAll p (s.at t) → bits w 15 0 ≠ 0x5AA5 →
    ∃ n, exec (.settingsSave p w t) s = .next n ∧ n.regs = s.regs ∧ n.commits = s.commits ∧ (n.iface p).acked = true ∧ n.mram = s.mram) ∧
  (∀ (cls c site init acc addr t : Nat) (sev : Option Nat) (k : Confirmed) (s : State), 13 ≤ cls → cls < 16 → (s.ctx? c).isSome = true → s.flt.matches_ = [] → s.upd.confirmed = some k → k.at_ = (s.at t).now →
    ∃ n, exec (.faultRaise cls c sev site init acc addr t) s = .next n ∧ n.upd.trial = some { k.trial with broken := true } ∧ n.upd.confirmed = none ∧ n.upd.kept = k.settings ∧ n.learned.kept = k.learned ∧ n.mram = s.mram)
end

