-- ==== Sys2Proof/Laws/State.lean ====
section
/-! SUPPORT. One lemma per field per update of the state: every update leaves the other fields as they are. -/

namespace Sys2Proof.Machine

/-! ### State.setReg -/

@[simp] theorem State.setReg_pending (s : State) (a : Nat) (w : Word) : (s.setReg a w).pending = s.pending := rfl
@[simp] theorem State.setReg_now (s : State) (a : Nat) (w : Word) : (s.setReg a w).now = s.now := rfl
@[simp] theorem State.setReg_clocks (s : State) (a : Nat) (w : Word) : (s.setReg a w).clocks = s.clocks := rfl
@[simp] theorem State.setReg_clamped (s : State) (a : Nat) (w : Word) : (s.setReg a w).clamped = s.clamped := rfl
@[simp] theorem State.setReg_updated (s : State) (a : Nat) (w : Word) : (s.setReg a w).updated = s.updated := rfl
@[simp] theorem State.setReg_staleMark (s : State) (a : Nat) (w : Word) : (s.setReg a w).staleMark = s.staleMark := rfl
@[simp] theorem State.setReg_staleSeen (s : State) (a : Nat) (w : Word) : (s.setReg a w).staleSeen = s.staleSeen := rfl
@[simp] theorem State.setReg_remoteQ (s : State) (a : Nat) (w : Word) : (s.setReg a w).remoteQ = s.remoteQ := rfl
@[simp] theorem State.setReg_timers (s : State) (a : Nat) (w : Word) : (s.setReg a w).timers = s.timers := rfl
@[simp] theorem State.setReg_counts (s : State) (a : Nat) (w : Word) : (s.setReg a w).counts = s.counts := rfl
@[simp] theorem State.setReg_mram (s : State) (a : Nat) (w : Word) : (s.setReg a w).mram = s.mram := rfl
@[simp] theorem State.setReg_vresOk (s : State) (a : Nat) (w : Word) : (s.setReg a w).vresOk = s.vresOk := rfl
@[simp] theorem State.setReg_image (s : State) (a : Nat) (w : Word) : (s.setReg a w).image = s.image := rfl
@[simp] theorem State.setReg_nextImage (s : State) (a : Nat) (w : Word) : (s.setReg a w).nextImage = s.nextImage := rfl
@[simp] theorem State.setReg_commits (s : State) (a : Nat) (w : Word) : (s.setReg a w).commits = s.commits := rfl
@[simp] theorem State.setReg_otp (s : State) (a : Nat) (w : Word) : (s.setReg a w).otp = s.otp := rfl
@[simp] theorem State.setReg_tw (s : State) (a : Nat) (w : Word) : (s.setReg a w).tw = s.tw := rfl
@[simp] theorem State.setReg_spi (s : State) (a : Nat) (w : Word) : (s.setReg a w).spi = s.spi := rfl
@[simp] theorem State.setReg_alertMask (s : State) (a : Nat) (w : Word) : (s.setReg a w).alertMask = s.alertMask := rfl
@[simp] theorem State.setReg_alertSet (s : State) (a : Nat) (w : Word) : (s.setReg a w).alertSet = s.alertSet := rfl
@[simp] theorem State.setReg_rcd (s : State) (a : Nat) (w : Word) : (s.setReg a w).rcd = s.rcd := rfl
@[simp] theorem State.setReg_flt (s : State) (a : Nat) (w : Word) : (s.setReg a w).flt = s.flt := rfl
@[simp] theorem State.setReg_arb (s : State) (a : Nat) (w : Word) : (s.setReg a w).arb = s.arb := rfl
@[simp] theorem State.setReg_journal (s : State) (a : Nat) (w : Word) : (s.setReg a w).journal = s.journal := rfl
@[simp] theorem State.setReg_ckptA (s : State) (a : Nat) (w : Word) : (s.setReg a w).ckptA = s.ckptA := rfl
@[simp] theorem State.setReg_ckptB (s : State) (a : Nat) (w : Word) : (s.setReg a w).ckptB = s.ckptB := rfl
@[simp] theorem State.setReg_commit (s : State) (a : Nat) (w : Word) : (s.setReg a w).commit = s.commit := rfl
@[simp] theorem State.setReg_halted (s : State) (a : Nat) (w : Word) : (s.setReg a w).halted = s.halted := rfl
@[simp] theorem State.setReg_lane (s : State) (a : Nat) (w : Word) : (s.setReg a w).lane = s.lane := rfl
@[simp] theorem State.setReg_groups (s : State) (a : Nat) (w : Word) : (s.setReg a w).groups = s.groups := rfl
@[simp] theorem State.setReg_phases (s : State) (a : Nat) (w : Word) : (s.setReg a w).phases = s.phases := rfl
@[simp] theorem State.setReg_inputs (s : State) (a : Nat) (w : Word) : (s.setReg a w).inputs = s.inputs := rfl
@[simp] theorem State.setReg_accepted (s : State) (a : Nat) (w : Word) : (s.setReg a w).accepted = s.accepted := rfl
@[simp] theorem State.setReg_actedAt (s : State) (a : Nat) (w : Word) : (s.setReg a w).actedAt = s.actedAt := rfl
@[simp] theorem State.setReg_inputQueue (s : State) (a : Nat) (w : Word) : (s.setReg a w).inputQueue = s.inputQueue := rfl
@[simp] theorem State.setReg_snapshot (s : State) (a : Nat) (w : Word) : (s.setReg a w).snapshot = s.snapshot := rfl
@[simp] theorem State.setReg_snapTaken (s : State) (a : Nat) (w : Word) : (s.setReg a w).snapTaken = s.snapTaken := rfl
@[simp] theorem State.setReg_railSeen (s : State) (a : Nat) (w : Word) : (s.setReg a w).railSeen = s.railSeen := rfl
@[simp] theorem State.setReg_downDue (s : State) (a : Nat) (w : Word) : (s.setReg a w).downDue = s.downDue := rfl
@[simp] theorem State.setReg_snapDue (s : State) (a : Nat) (w : Word) : (s.setReg a w).snapDue = s.snapDue := rfl
@[simp] theorem State.setReg_sfBlocked (s : State) (a : Nat) (w : Word) : (s.setReg a w).sfBlocked = s.sfBlocked := rfl
@[simp] theorem State.setReg_hardLatched (s : State) (a : Nat) (w : Word) : (s.setReg a w).hardLatched = s.hardLatched := rfl
@[simp] theorem State.setReg_inhibit (s : State) (a : Nat) (w : Word) : (s.setReg a w).inhibit = s.inhibit := rfl
@[simp] theorem State.setReg_hollow (s : State) (a : Nat) (w : Word) : (s.setReg a w).hollow = s.hollow := rfl
@[simp] theorem State.setReg_coulomb (s : State) (a : Nat) (w : Word) : (s.setReg a w).coulomb = s.coulomb := rfl
@[simp] theorem State.setReg_cellTripped (s : State) (a : Nat) (w : Word) : (s.setReg a w).cellTripped = s.cellTripped := rfl
@[simp] theorem State.setReg_cellDue (s : State) (a : Nat) (w : Word) : (s.setReg a w).cellDue = s.cellDue := rfl
@[simp] theorem State.setReg_learned (s : State) (a : Nat) (w : Word) : (s.setReg a w).learned = s.learned := rfl
@[simp] theorem State.setReg_channels (s : State) (a : Nat) (w : Word) : (s.setReg a w).channels = s.channels := rfl
@[simp] theorem State.setReg_scan (s : State) (a : Nat) (w : Word) : (s.setReg a w).scan = s.scan := rfl
@[simp] theorem State.setReg_trim (s : State) (a : Nat) (w : Word) : (s.setReg a w).trim = s.trim := rfl
@[simp] theorem State.setReg_driven (s : State) (a : Nat) (w : Word) : (s.setReg a w).driven = s.driven := rfl
@[simp] theorem State.setReg_dsTable (s : State) (a : Nat) (w : Word) : (s.setReg a w).dsTable = s.dsTable := rfl
@[simp] theorem State.setReg_dsPorts (s : State) (a : Nat) (w : Word) : (s.setReg a w).dsPorts = s.dsPorts := rfl
@[simp] theorem State.setReg_dsTargets (s : State) (a : Nat) (w : Word) : (s.setReg a w).dsTargets = s.dsTargets := rfl
@[simp] theorem State.setReg_graphOffDue (s : State) (a : Nat) (w : Word) : (s.setReg a w).graphOffDue = s.graphOffDue := rfl
@[simp] theorem State.setReg_variantBE (s : State) (a : Nat) (w : Word) : (s.setReg a w).variantBE = s.variantBE := rfl
@[simp] theorem State.setReg_freeCtr (s : State) (a : Nat) (w : Word) : (s.setReg a w).freeCtr = s.freeCtr := rfl
@[simp] theorem State.setReg_upd (s : State) (a : Nat) (w : Word) : (s.setReg a w).upd = s.upd := rfl
@[simp] theorem State.setReg_casc (s : State) (a : Nat) (w : Word) : (s.setReg a w).casc = s.casc := rfl
@[simp] theorem State.setReg_clk (s : State) (a : Nat) (w : Word) : (s.setReg a w).clk = s.clk := rfl
@[simp] theorem State.setReg_tap (s : State) (a : Nat) (w : Word) : (s.setReg a w).tap = s.tap := rfl
@[simp] theorem State.setReg_outs (s : State) (a : Nat) (w : Word) : (s.setReg a w).outs = s.outs := rfl

/-! ### State.markClamped -/

@[simp] theorem State.markClamped_pending (s : State) (a : Nat) (b : Bool) : (s.markClamped a b).pending = s.pending := rfl
@[simp] theorem State.markClamped_now (s : State) (a : Nat) (b : Bool) : (s.markClamped a b).now = s.now := rfl
@[simp] theorem State.markClamped_clocks (s : State) (a : Nat) (b : Bool) : (s.markClamped a b).clocks = s.clocks := rfl
@[simp] theorem State.markClamped_regs (s : State) (a : Nat) (b : Bool) : (s.markClamped a b).regs = s.regs := rfl
@[simp] theorem State.markClamped_updated (s : State) (a : Nat) (b : Bool) : (s.markClamped a b).updated = s.updated := rfl
@[simp] theorem State.markClamped_staleMark (s : State) (a : Nat) (b : Bool) : (s.markClamped a b).staleMark = s.staleMark := rfl
@[simp] theorem State.markClamped_staleSeen (s : State) (a : Nat) (b : Bool) : (s.markClamped a b).staleSeen = s.staleSeen := rfl
@[simp] theorem State.markClamped_remoteQ (s : State) (a : Nat) (b : Bool) : (s.markClamped a b).remoteQ = s.remoteQ := rfl
@[simp] theorem State.markClamped_timers (s : State) (a : Nat) (b : Bool) : (s.markClamped a b).timers = s.timers := rfl
@[simp] theorem State.markClamped_counts (s : State) (a : Nat) (b : Bool) : (s.markClamped a b).counts = s.counts := rfl
@[simp] theorem State.markClamped_mram (s : State) (a : Nat) (b : Bool) : (s.markClamped a b).mram = s.mram := rfl
@[simp] theorem State.markClamped_vresOk (s : State) (a : Nat) (b : Bool) : (s.markClamped a b).vresOk = s.vresOk := rfl
@[simp] theorem State.markClamped_image (s : State) (a : Nat) (b : Bool) : (s.markClamped a b).image = s.image := rfl
@[simp] theorem State.markClamped_nextImage (s : State) (a : Nat) (b : Bool) : (s.markClamped a b).nextImage = s.nextImage := rfl
@[simp] theorem State.markClamped_commits (s : State) (a : Nat) (b : Bool) : (s.markClamped a b).commits = s.commits := rfl
@[simp] theorem State.markClamped_otp (s : State) (a : Nat) (b : Bool) : (s.markClamped a b).otp = s.otp := rfl
@[simp] theorem State.markClamped_tw (s : State) (a : Nat) (b : Bool) : (s.markClamped a b).tw = s.tw := rfl
@[simp] theorem State.markClamped_spi (s : State) (a : Nat) (b : Bool) : (s.markClamped a b).spi = s.spi := rfl
@[simp] theorem State.markClamped_alertMask (s : State) (a : Nat) (b : Bool) : (s.markClamped a b).alertMask = s.alertMask := rfl
@[simp] theorem State.markClamped_alertSet (s : State) (a : Nat) (b : Bool) : (s.markClamped a b).alertSet = s.alertSet := rfl
@[simp] theorem State.markClamped_rcd (s : State) (a : Nat) (b : Bool) : (s.markClamped a b).rcd = s.rcd := rfl
@[simp] theorem State.markClamped_flt (s : State) (a : Nat) (b : Bool) : (s.markClamped a b).flt = s.flt := rfl
@[simp] theorem State.markClamped_arb (s : State) (a : Nat) (b : Bool) : (s.markClamped a b).arb = s.arb := rfl
@[simp] theorem State.markClamped_journal (s : State) (a : Nat) (b : Bool) : (s.markClamped a b).journal = s.journal := rfl
@[simp] theorem State.markClamped_ckptA (s : State) (a : Nat) (b : Bool) : (s.markClamped a b).ckptA = s.ckptA := rfl
@[simp] theorem State.markClamped_ckptB (s : State) (a : Nat) (b : Bool) : (s.markClamped a b).ckptB = s.ckptB := rfl
@[simp] theorem State.markClamped_commit (s : State) (a : Nat) (b : Bool) : (s.markClamped a b).commit = s.commit := rfl
@[simp] theorem State.markClamped_halted (s : State) (a : Nat) (b : Bool) : (s.markClamped a b).halted = s.halted := rfl
@[simp] theorem State.markClamped_lane (s : State) (a : Nat) (b : Bool) : (s.markClamped a b).lane = s.lane := rfl
@[simp] theorem State.markClamped_groups (s : State) (a : Nat) (b : Bool) : (s.markClamped a b).groups = s.groups := rfl
@[simp] theorem State.markClamped_phases (s : State) (a : Nat) (b : Bool) : (s.markClamped a b).phases = s.phases := rfl
@[simp] theorem State.markClamped_inputs (s : State) (a : Nat) (b : Bool) : (s.markClamped a b).inputs = s.inputs := rfl
@[simp] theorem State.markClamped_accepted (s : State) (a : Nat) (b : Bool) : (s.markClamped a b).accepted = s.accepted := rfl
@[simp] theorem State.markClamped_actedAt (s : State) (a : Nat) (b : Bool) : (s.markClamped a b).actedAt = s.actedAt := rfl
@[simp] theorem State.markClamped_inputQueue (s : State) (a : Nat) (b : Bool) : (s.markClamped a b).inputQueue = s.inputQueue := rfl
@[simp] theorem State.markClamped_snapshot (s : State) (a : Nat) (b : Bool) : (s.markClamped a b).snapshot = s.snapshot := rfl
@[simp] theorem State.markClamped_snapTaken (s : State) (a : Nat) (b : Bool) : (s.markClamped a b).snapTaken = s.snapTaken := rfl
@[simp] theorem State.markClamped_railSeen (s : State) (a : Nat) (b : Bool) : (s.markClamped a b).railSeen = s.railSeen := rfl
@[simp] theorem State.markClamped_downDue (s : State) (a : Nat) (b : Bool) : (s.markClamped a b).downDue = s.downDue := rfl
@[simp] theorem State.markClamped_snapDue (s : State) (a : Nat) (b : Bool) : (s.markClamped a b).snapDue = s.snapDue := rfl
@[simp] theorem State.markClamped_sfBlocked (s : State) (a : Nat) (b : Bool) : (s.markClamped a b).sfBlocked = s.sfBlocked := rfl
@[simp] theorem State.markClamped_hardLatched (s : State) (a : Nat) (b : Bool) : (s.markClamped a b).hardLatched = s.hardLatched := rfl
@[simp] theorem State.markClamped_inhibit (s : State) (a : Nat) (b : Bool) : (s.markClamped a b).inhibit = s.inhibit := rfl
@[simp] theorem State.markClamped_hollow (s : State) (a : Nat) (b : Bool) : (s.markClamped a b).hollow = s.hollow := rfl
@[simp] theorem State.markClamped_coulomb (s : State) (a : Nat) (b : Bool) : (s.markClamped a b).coulomb = s.coulomb := rfl
@[simp] theorem State.markClamped_cellTripped (s : State) (a : Nat) (b : Bool) : (s.markClamped a b).cellTripped = s.cellTripped := rfl
@[simp] theorem State.markClamped_cellDue (s : State) (a : Nat) (b : Bool) : (s.markClamped a b).cellDue = s.cellDue := rfl
@[simp] theorem State.markClamped_learned (s : State) (a : Nat) (b : Bool) : (s.markClamped a b).learned = s.learned := rfl
@[simp] theorem State.markClamped_channels (s : State) (a : Nat) (b : Bool) : (s.markClamped a b).channels = s.channels := rfl
@[simp] theorem State.markClamped_scan (s : State) (a : Nat) (b : Bool) : (s.markClamped a b).scan = s.scan := rfl
@[simp] theorem State.markClamped_trim (s : State) (a : Nat) (b : Bool) : (s.markClamped a b).trim = s.trim := rfl
@[simp] theorem State.markClamped_driven (s : State) (a : Nat) (b : Bool) : (s.markClamped a b).driven = s.driven := rfl
@[simp] theorem State.markClamped_dsTable (s : State) (a : Nat) (b : Bool) : (s.markClamped a b).dsTable = s.dsTable := rfl
@[simp] theorem State.markClamped_dsPorts (s : State) (a : Nat) (b : Bool) : (s.markClamped a b).dsPorts = s.dsPorts := rfl
@[simp] theorem State.markClamped_dsTargets (s : State) (a : Nat) (b : Bool) : (s.markClamped a b).dsTargets = s.dsTargets := rfl
@[simp] theorem State.markClamped_graphOffDue (s : State) (a : Nat) (b : Bool) : (s.markClamped a b).graphOffDue = s.graphOffDue := rfl
@[simp] theorem State.markClamped_variantBE (s : State) (a : Nat) (b : Bool) : (s.markClamped a b).variantBE = s.variantBE := rfl
@[simp] theorem State.markClamped_freeCtr (s : State) (a : Nat) (b : Bool) : (s.markClamped a b).freeCtr = s.freeCtr := rfl
@[simp] theorem State.markClamped_upd (s : State) (a : Nat) (b : Bool) : (s.markClamped a b).upd = s.upd := rfl
@[simp] theorem State.markClamped_casc (s : State) (a : Nat) (b : Bool) : (s.markClamped a b).casc = s.casc := rfl
@[simp] theorem State.markClamped_clk (s : State) (a : Nat) (b : Bool) : (s.markClamped a b).clk = s.clk := rfl
@[simp] theorem State.markClamped_tap (s : State) (a : Nat) (b : Bool) : (s.markClamped a b).tap = s.tap := rfl
@[simp] theorem State.markClamped_outs (s : State) (a : Nat) (b : Bool) : (s.markClamped a b).outs = s.outs := rfl

/-! ### State.markStale -/

@[simp] theorem State.markStale_pending (s : State) (a : Nat) (b : Bool) : (s.markStale a b).pending = s.pending := rfl
@[simp] theorem State.markStale_now (s : State) (a : Nat) (b : Bool) : (s.markStale a b).now = s.now := rfl
@[simp] theorem State.markStale_clocks (s : State) (a : Nat) (b : Bool) : (s.markStale a b).clocks = s.clocks := rfl
@[simp] theorem State.markStale_regs (s : State) (a : Nat) (b : Bool) : (s.markStale a b).regs = s.regs := rfl
@[simp] theorem State.markStale_clamped (s : State) (a : Nat) (b : Bool) : (s.markStale a b).clamped = s.clamped := rfl
@[simp] theorem State.markStale_updated (s : State) (a : Nat) (b : Bool) : (s.markStale a b).updated = s.updated := rfl
@[simp] theorem State.markStale_staleSeen (s : State) (a : Nat) (b : Bool) : (s.markStale a b).staleSeen = s.staleSeen := rfl
@[simp] theorem State.markStale_remoteQ (s : State) (a : Nat) (b : Bool) : (s.markStale a b).remoteQ = s.remoteQ := rfl
@[simp] theorem State.markStale_timers (s : State) (a : Nat) (b : Bool) : (s.markStale a b).timers = s.timers := rfl
@[simp] theorem State.markStale_counts (s : State) (a : Nat) (b : Bool) : (s.markStale a b).counts = s.counts := rfl
@[simp] theorem State.markStale_mram (s : State) (a : Nat) (b : Bool) : (s.markStale a b).mram = s.mram := rfl
@[simp] theorem State.markStale_vresOk (s : State) (a : Nat) (b : Bool) : (s.markStale a b).vresOk = s.vresOk := rfl
@[simp] theorem State.markStale_image (s : State) (a : Nat) (b : Bool) : (s.markStale a b).image = s.image := rfl
@[simp] theorem State.markStale_nextImage (s : State) (a : Nat) (b : Bool) : (s.markStale a b).nextImage = s.nextImage := rfl
@[simp] theorem State.markStale_commits (s : State) (a : Nat) (b : Bool) : (s.markStale a b).commits = s.commits := rfl
@[simp] theorem State.markStale_otp (s : State) (a : Nat) (b : Bool) : (s.markStale a b).otp = s.otp := rfl
@[simp] theorem State.markStale_tw (s : State) (a : Nat) (b : Bool) : (s.markStale a b).tw = s.tw := rfl
@[simp] theorem State.markStale_spi (s : State) (a : Nat) (b : Bool) : (s.markStale a b).spi = s.spi := rfl
@[simp] theorem State.markStale_alertMask (s : State) (a : Nat) (b : Bool) : (s.markStale a b).alertMask = s.alertMask := rfl
@[simp] theorem State.markStale_alertSet (s : State) (a : Nat) (b : Bool) : (s.markStale a b).alertSet = s.alertSet := rfl
@[simp] theorem State.markStale_rcd (s : State) (a : Nat) (b : Bool) : (s.markStale a b).rcd = s.rcd := rfl
@[simp] theorem State.markStale_flt (s : State) (a : Nat) (b : Bool) : (s.markStale a b).flt = s.flt := rfl
@[simp] theorem State.markStale_arb (s : State) (a : Nat) (b : Bool) : (s.markStale a b).arb = s.arb := rfl
@[simp] theorem State.markStale_journal (s : State) (a : Nat) (b : Bool) : (s.markStale a b).journal = s.journal := rfl
@[simp] theorem State.markStale_ckptA (s : State) (a : Nat) (b : Bool) : (s.markStale a b).ckptA = s.ckptA := rfl
@[simp] theorem State.markStale_ckptB (s : State) (a : Nat) (b : Bool) : (s.markStale a b).ckptB = s.ckptB := rfl
@[simp] theorem State.markStale_commit (s : State) (a : Nat) (b : Bool) : (s.markStale a b).commit = s.commit := rfl
@[simp] theorem State.markStale_halted (s : State) (a : Nat) (b : Bool) : (s.markStale a b).halted = s.halted := rfl
@[simp] theorem State.markStale_lane (s : State) (a : Nat) (b : Bool) : (s.markStale a b).lane = s.lane := rfl
@[simp] theorem State.markStale_groups (s : State) (a : Nat) (b : Bool) : (s.markStale a b).groups = s.groups := rfl
@[simp] theorem State.markStale_phases (s : State) (a : Nat) (b : Bool) : (s.markStale a b).phases = s.phases := rfl
@[simp] theorem State.markStale_inputs (s : State) (a : Nat) (b : Bool) : (s.markStale a b).inputs = s.inputs := rfl
@[simp] theorem State.markStale_accepted (s : State) (a : Nat) (b : Bool) : (s.markStale a b).accepted = s.accepted := rfl
@[simp] theorem State.markStale_actedAt (s : State) (a : Nat) (b : Bool) : (s.markStale a b).actedAt = s.actedAt := rfl
@[simp] theorem State.markStale_inputQueue (s : State) (a : Nat) (b : Bool) : (s.markStale a b).inputQueue = s.inputQueue := rfl
@[simp] theorem State.markStale_snapshot (s : State) (a : Nat) (b : Bool) : (s.markStale a b).snapshot = s.snapshot := rfl
@[simp] theorem State.markStale_snapTaken (s : State) (a : Nat) (b : Bool) : (s.markStale a b).snapTaken = s.snapTaken := rfl
@[simp] theorem State.markStale_railSeen (s : State) (a : Nat) (b : Bool) : (s.markStale a b).railSeen = s.railSeen := rfl
@[simp] theorem State.markStale_downDue (s : State) (a : Nat) (b : Bool) : (s.markStale a b).downDue = s.downDue := rfl
@[simp] theorem State.markStale_snapDue (s : State) (a : Nat) (b : Bool) : (s.markStale a b).snapDue = s.snapDue := rfl
@[simp] theorem State.markStale_sfBlocked (s : State) (a : Nat) (b : Bool) : (s.markStale a b).sfBlocked = s.sfBlocked := rfl
@[simp] theorem State.markStale_hardLatched (s : State) (a : Nat) (b : Bool) : (s.markStale a b).hardLatched = s.hardLatched := rfl
@[simp] theorem State.markStale_inhibit (s : State) (a : Nat) (b : Bool) : (s.markStale a b).inhibit = s.inhibit := rfl
@[simp] theorem State.markStale_hollow (s : State) (a : Nat) (b : Bool) : (s.markStale a b).hollow = s.hollow := rfl
@[simp] theorem State.markStale_coulomb (s : State) (a : Nat) (b : Bool) : (s.markStale a b).coulomb = s.coulomb := rfl
@[simp] theorem State.markStale_cellTripped (s : State) (a : Nat) (b : Bool) : (s.markStale a b).cellTripped = s.cellTripped := rfl
@[simp] theorem State.markStale_cellDue (s : State) (a : Nat) (b : Bool) : (s.markStale a b).cellDue = s.cellDue := rfl
@[simp] theorem State.markStale_learned (s : State) (a : Nat) (b : Bool) : (s.markStale a b).learned = s.learned := rfl
@[simp] theorem State.markStale_channels (s : State) (a : Nat) (b : Bool) : (s.markStale a b).channels = s.channels := rfl
@[simp] theorem State.markStale_scan (s : State) (a : Nat) (b : Bool) : (s.markStale a b).scan = s.scan := rfl
@[simp] theorem State.markStale_trim (s : State) (a : Nat) (b : Bool) : (s.markStale a b).trim = s.trim := rfl
@[simp] theorem State.markStale_driven (s : State) (a : Nat) (b : Bool) : (s.markStale a b).driven = s.driven := rfl
@[simp] theorem State.markStale_dsTable (s : State) (a : Nat) (b : Bool) : (s.markStale a b).dsTable = s.dsTable := rfl
@[simp] theorem State.markStale_dsPorts (s : State) (a : Nat) (b : Bool) : (s.markStale a b).dsPorts = s.dsPorts := rfl
@[simp] theorem State.markStale_dsTargets (s : State) (a : Nat) (b : Bool) : (s.markStale a b).dsTargets = s.dsTargets := rfl
@[simp] theorem State.markStale_graphOffDue (s : State) (a : Nat) (b : Bool) : (s.markStale a b).graphOffDue = s.graphOffDue := rfl
@[simp] theorem State.markStale_variantBE (s : State) (a : Nat) (b : Bool) : (s.markStale a b).variantBE = s.variantBE := rfl
@[simp] theorem State.markStale_freeCtr (s : State) (a : Nat) (b : Bool) : (s.markStale a b).freeCtr = s.freeCtr := rfl
@[simp] theorem State.markStale_upd (s : State) (a : Nat) (b : Bool) : (s.markStale a b).upd = s.upd := rfl
@[simp] theorem State.markStale_casc (s : State) (a : Nat) (b : Bool) : (s.markStale a b).casc = s.casc := rfl
@[simp] theorem State.markStale_clk (s : State) (a : Nat) (b : Bool) : (s.markStale a b).clk = s.clk := rfl
@[simp] theorem State.markStale_tap (s : State) (a : Nat) (b : Bool) : (s.markStale a b).tap = s.tap := rfl
@[simp] theorem State.markStale_outs (s : State) (a : Nat) (b : Bool) : (s.markStale a b).outs = s.outs := rfl

/-! ### State.measure -/

@[simp] theorem State.measure_pending (s : State) (a : Nat) (w : Word) : (s.measure a w).pending = s.pending := rfl
@[simp] theorem State.measure_now (s : State) (a : Nat) (w : Word) : (s.measure a w).now = s.now := rfl
@[simp] theorem State.measure_clocks (s : State) (a : Nat) (w : Word) : (s.measure a w).clocks = s.clocks := rfl
@[simp] theorem State.measure_clamped (s : State) (a : Nat) (w : Word) : (s.measure a w).clamped = s.clamped := rfl
@[simp] theorem State.measure_staleMark (s : State) (a : Nat) (w : Word) : (s.measure a w).staleMark = s.staleMark := rfl
@[simp] theorem State.measure_staleSeen (s : State) (a : Nat) (w : Word) : (s.measure a w).staleSeen = s.staleSeen := rfl
@[simp] theorem State.measure_remoteQ (s : State) (a : Nat) (w : Word) : (s.measure a w).remoteQ = s.remoteQ := rfl
@[simp] theorem State.measure_timers (s : State) (a : Nat) (w : Word) : (s.measure a w).timers = s.timers := rfl
@[simp] theorem State.measure_counts (s : State) (a : Nat) (w : Word) : (s.measure a w).counts = s.counts := rfl
@[simp] theorem State.measure_mram (s : State) (a : Nat) (w : Word) : (s.measure a w).mram = s.mram := rfl
@[simp] theorem State.measure_vresOk (s : State) (a : Nat) (w : Word) : (s.measure a w).vresOk = s.vresOk := rfl
@[simp] theorem State.measure_image (s : State) (a : Nat) (w : Word) : (s.measure a w).image = s.image := rfl
@[simp] theorem State.measure_nextImage (s : State) (a : Nat) (w : Word) : (s.measure a w).nextImage = s.nextImage := rfl
@[simp] theorem State.measure_commits (s : State) (a : Nat) (w : Word) : (s.measure a w).commits = s.commits := rfl
@[simp] theorem State.measure_otp (s : State) (a : Nat) (w : Word) : (s.measure a w).otp = s.otp := rfl
@[simp] theorem State.measure_tw (s : State) (a : Nat) (w : Word) : (s.measure a w).tw = s.tw := rfl
@[simp] theorem State.measure_spi (s : State) (a : Nat) (w : Word) : (s.measure a w).spi = s.spi := rfl
@[simp] theorem State.measure_alertMask (s : State) (a : Nat) (w : Word) : (s.measure a w).alertMask = s.alertMask := rfl
@[simp] theorem State.measure_alertSet (s : State) (a : Nat) (w : Word) : (s.measure a w).alertSet = s.alertSet := rfl
@[simp] theorem State.measure_rcd (s : State) (a : Nat) (w : Word) : (s.measure a w).rcd = s.rcd := rfl
@[simp] theorem State.measure_flt (s : State) (a : Nat) (w : Word) : (s.measure a w).flt = s.flt := rfl
@[simp] theorem State.measure_arb (s : State) (a : Nat) (w : Word) : (s.measure a w).arb = s.arb := rfl
@[simp] theorem State.measure_journal (s : State) (a : Nat) (w : Word) : (s.measure a w).journal = s.journal := rfl
@[simp] theorem State.measure_ckptA (s : State) (a : Nat) (w : Word) : (s.measure a w).ckptA = s.ckptA := rfl
@[simp] theorem State.measure_ckptB (s : State) (a : Nat) (w : Word) : (s.measure a w).ckptB = s.ckptB := rfl
@[simp] theorem State.measure_commit (s : State) (a : Nat) (w : Word) : (s.measure a w).commit = s.commit := rfl
@[simp] theorem State.measure_halted (s : State) (a : Nat) (w : Word) : (s.measure a w).halted = s.halted := rfl
@[simp] theorem State.measure_lane (s : State) (a : Nat) (w : Word) : (s.measure a w).lane = s.lane := rfl
@[simp] theorem State.measure_groups (s : State) (a : Nat) (w : Word) : (s.measure a w).groups = s.groups := rfl
@[simp] theorem State.measure_phases (s : State) (a : Nat) (w : Word) : (s.measure a w).phases = s.phases := rfl
@[simp] theorem State.measure_inputs (s : State) (a : Nat) (w : Word) : (s.measure a w).inputs = s.inputs := rfl
@[simp] theorem State.measure_accepted (s : State) (a : Nat) (w : Word) : (s.measure a w).accepted = s.accepted := rfl
@[simp] theorem State.measure_actedAt (s : State) (a : Nat) (w : Word) : (s.measure a w).actedAt = s.actedAt := rfl
@[simp] theorem State.measure_inputQueue (s : State) (a : Nat) (w : Word) : (s.measure a w).inputQueue = s.inputQueue := rfl
@[simp] theorem State.measure_snapshot (s : State) (a : Nat) (w : Word) : (s.measure a w).snapshot = s.snapshot := rfl
@[simp] theorem State.measure_snapTaken (s : State) (a : Nat) (w : Word) : (s.measure a w).snapTaken = s.snapTaken := rfl
@[simp] theorem State.measure_railSeen (s : State) (a : Nat) (w : Word) : (s.measure a w).railSeen = s.railSeen := rfl
@[simp] theorem State.measure_downDue (s : State) (a : Nat) (w : Word) : (s.measure a w).downDue = s.downDue := rfl
@[simp] theorem State.measure_snapDue (s : State) (a : Nat) (w : Word) : (s.measure a w).snapDue = s.snapDue := rfl
@[simp] theorem State.measure_sfBlocked (s : State) (a : Nat) (w : Word) : (s.measure a w).sfBlocked = s.sfBlocked := rfl
@[simp] theorem State.measure_hardLatched (s : State) (a : Nat) (w : Word) : (s.measure a w).hardLatched = s.hardLatched := rfl
@[simp] theorem State.measure_inhibit (s : State) (a : Nat) (w : Word) : (s.measure a w).inhibit = s.inhibit := rfl
@[simp] theorem State.measure_hollow (s : State) (a : Nat) (w : Word) : (s.measure a w).hollow = s.hollow := rfl
@[simp] theorem State.measure_coulomb (s : State) (a : Nat) (w : Word) : (s.measure a w).coulomb = s.coulomb := rfl
@[simp] theorem State.measure_cellTripped (s : State) (a : Nat) (w : Word) : (s.measure a w).cellTripped = s.cellTripped := rfl
@[simp] theorem State.measure_cellDue (s : State) (a : Nat) (w : Word) : (s.measure a w).cellDue = s.cellDue := rfl
@[simp] theorem State.measure_learned (s : State) (a : Nat) (w : Word) : (s.measure a w).learned = s.learned := rfl
@[simp] theorem State.measure_channels (s : State) (a : Nat) (w : Word) : (s.measure a w).channels = s.channels := rfl
@[simp] theorem State.measure_scan (s : State) (a : Nat) (w : Word) : (s.measure a w).scan = s.scan := rfl
@[simp] theorem State.measure_trim (s : State) (a : Nat) (w : Word) : (s.measure a w).trim = s.trim := rfl
@[simp] theorem State.measure_driven (s : State) (a : Nat) (w : Word) : (s.measure a w).driven = s.driven := rfl
@[simp] theorem State.measure_dsTable (s : State) (a : Nat) (w : Word) : (s.measure a w).dsTable = s.dsTable := rfl
@[simp] theorem State.measure_dsPorts (s : State) (a : Nat) (w : Word) : (s.measure a w).dsPorts = s.dsPorts := rfl
@[simp] theorem State.measure_dsTargets (s : State) (a : Nat) (w : Word) : (s.measure a w).dsTargets = s.dsTargets := rfl
@[simp] theorem State.measure_graphOffDue (s : State) (a : Nat) (w : Word) : (s.measure a w).graphOffDue = s.graphOffDue := rfl
@[simp] theorem State.measure_variantBE (s : State) (a : Nat) (w : Word) : (s.measure a w).variantBE = s.variantBE := rfl
@[simp] theorem State.measure_freeCtr (s : State) (a : Nat) (w : Word) : (s.measure a w).freeCtr = s.freeCtr := rfl
@[simp] theorem State.measure_upd (s : State) (a : Nat) (w : Word) : (s.measure a w).upd = s.upd := rfl
@[simp] theorem State.measure_casc (s : State) (a : Nat) (w : Word) : (s.measure a w).casc = s.casc := rfl
@[simp] theorem State.measure_clk (s : State) (a : Nat) (w : Word) : (s.measure a w).clk = s.clk := rfl
@[simp] theorem State.measure_tap (s : State) (a : Nat) (w : Word) : (s.measure a w).tap = s.tap := rfl
@[simp] theorem State.measure_outs (s : State) (a : Nat) (w : Word) : (s.measure a w).outs = s.outs := rfl

/-! ### State.start -/

@[simp] theorem State.start_pending (s : State) (k : Timer) : (s.start k).pending = s.pending := rfl
@[simp] theorem State.start_now (s : State) (k : Timer) : (s.start k).now = s.now := rfl
@[simp] theorem State.start_clocks (s : State) (k : Timer) : (s.start k).clocks = s.clocks := rfl
@[simp] theorem State.start_regs (s : State) (k : Timer) : (s.start k).regs = s.regs := rfl
@[simp] theorem State.start_clamped (s : State) (k : Timer) : (s.start k).clamped = s.clamped := rfl
@[simp] theorem State.start_updated (s : State) (k : Timer) : (s.start k).updated = s.updated := rfl
@[simp] theorem State.start_staleMark (s : State) (k : Timer) : (s.start k).staleMark = s.staleMark := rfl
@[simp] theorem State.start_staleSeen (s : State) (k : Timer) : (s.start k).staleSeen = s.staleSeen := rfl
@[simp] theorem State.start_remoteQ (s : State) (k : Timer) : (s.start k).remoteQ = s.remoteQ := rfl
@[simp] theorem State.start_counts (s : State) (k : Timer) : (s.start k).counts = s.counts := rfl
@[simp] theorem State.start_mram (s : State) (k : Timer) : (s.start k).mram = s.mram := rfl
@[simp] theorem State.start_vresOk (s : State) (k : Timer) : (s.start k).vresOk = s.vresOk := rfl
@[simp] theorem State.start_image (s : State) (k : Timer) : (s.start k).image = s.image := rfl
@[simp] theorem State.start_nextImage (s : State) (k : Timer) : (s.start k).nextImage = s.nextImage := rfl
@[simp] theorem State.start_commits (s : State) (k : Timer) : (s.start k).commits = s.commits := rfl
@[simp] theorem State.start_otp (s : State) (k : Timer) : (s.start k).otp = s.otp := rfl
@[simp] theorem State.start_tw (s : State) (k : Timer) : (s.start k).tw = s.tw := rfl
@[simp] theorem State.start_spi (s : State) (k : Timer) : (s.start k).spi = s.spi := rfl
@[simp] theorem State.start_alertMask (s : State) (k : Timer) : (s.start k).alertMask = s.alertMask := rfl
@[simp] theorem State.start_alertSet (s : State) (k : Timer) : (s.start k).alertSet = s.alertSet := rfl
@[simp] theorem State.start_rcd (s : State) (k : Timer) : (s.start k).rcd = s.rcd := rfl
@[simp] theorem State.start_flt (s : State) (k : Timer) : (s.start k).flt = s.flt := rfl
@[simp] theorem State.start_arb (s : State) (k : Timer) : (s.start k).arb = s.arb := rfl
@[simp] theorem State.start_journal (s : State) (k : Timer) : (s.start k).journal = s.journal := rfl
@[simp] theorem State.start_ckptA (s : State) (k : Timer) : (s.start k).ckptA = s.ckptA := rfl
@[simp] theorem State.start_ckptB (s : State) (k : Timer) : (s.start k).ckptB = s.ckptB := rfl
@[simp] theorem State.start_commit (s : State) (k : Timer) : (s.start k).commit = s.commit := rfl
@[simp] theorem State.start_halted (s : State) (k : Timer) : (s.start k).halted = s.halted := rfl
@[simp] theorem State.start_lane (s : State) (k : Timer) : (s.start k).lane = s.lane := rfl
@[simp] theorem State.start_groups (s : State) (k : Timer) : (s.start k).groups = s.groups := rfl
@[simp] theorem State.start_phases (s : State) (k : Timer) : (s.start k).phases = s.phases := rfl
@[simp] theorem State.start_inputs (s : State) (k : Timer) : (s.start k).inputs = s.inputs := rfl
@[simp] theorem State.start_accepted (s : State) (k : Timer) : (s.start k).accepted = s.accepted := rfl
@[simp] theorem State.start_actedAt (s : State) (k : Timer) : (s.start k).actedAt = s.actedAt := rfl
@[simp] theorem State.start_inputQueue (s : State) (k : Timer) : (s.start k).inputQueue = s.inputQueue := rfl
@[simp] theorem State.start_snapshot (s : State) (k : Timer) : (s.start k).snapshot = s.snapshot := rfl
@[simp] theorem State.start_snapTaken (s : State) (k : Timer) : (s.start k).snapTaken = s.snapTaken := rfl
@[simp] theorem State.start_railSeen (s : State) (k : Timer) : (s.start k).railSeen = s.railSeen := rfl
@[simp] theorem State.start_downDue (s : State) (k : Timer) : (s.start k).downDue = s.downDue := rfl
@[simp] theorem State.start_snapDue (s : State) (k : Timer) : (s.start k).snapDue = s.snapDue := rfl
@[simp] theorem State.start_sfBlocked (s : State) (k : Timer) : (s.start k).sfBlocked = s.sfBlocked := rfl
@[simp] theorem State.start_hardLatched (s : State) (k : Timer) : (s.start k).hardLatched = s.hardLatched := rfl
@[simp] theorem State.start_inhibit (s : State) (k : Timer) : (s.start k).inhibit = s.inhibit := rfl
@[simp] theorem State.start_hollow (s : State) (k : Timer) : (s.start k).hollow = s.hollow := rfl
@[simp] theorem State.start_coulomb (s : State) (k : Timer) : (s.start k).coulomb = s.coulomb := rfl
@[simp] theorem State.start_cellTripped (s : State) (k : Timer) : (s.start k).cellTripped = s.cellTripped := rfl
@[simp] theorem State.start_cellDue (s : State) (k : Timer) : (s.start k).cellDue = s.cellDue := rfl
@[simp] theorem State.start_learned (s : State) (k : Timer) : (s.start k).learned = s.learned := rfl
@[simp] theorem State.start_channels (s : State) (k : Timer) : (s.start k).channels = s.channels := rfl
@[simp] theorem State.start_scan (s : State) (k : Timer) : (s.start k).scan = s.scan := rfl
@[simp] theorem State.start_trim (s : State) (k : Timer) : (s.start k).trim = s.trim := rfl
@[simp] theorem State.start_driven (s : State) (k : Timer) : (s.start k).driven = s.driven := rfl
@[simp] theorem State.start_dsTable (s : State) (k : Timer) : (s.start k).dsTable = s.dsTable := rfl
@[simp] theorem State.start_dsPorts (s : State) (k : Timer) : (s.start k).dsPorts = s.dsPorts := rfl
@[simp] theorem State.start_dsTargets (s : State) (k : Timer) : (s.start k).dsTargets = s.dsTargets := rfl
@[simp] theorem State.start_graphOffDue (s : State) (k : Timer) : (s.start k).graphOffDue = s.graphOffDue := rfl
@[simp] theorem State.start_variantBE (s : State) (k : Timer) : (s.start k).variantBE = s.variantBE := rfl
@[simp] theorem State.start_freeCtr (s : State) (k : Timer) : (s.start k).freeCtr = s.freeCtr := rfl
@[simp] theorem State.start_upd (s : State) (k : Timer) : (s.start k).upd = s.upd := rfl
@[simp] theorem State.start_casc (s : State) (k : Timer) : (s.start k).casc = s.casc := rfl
@[simp] theorem State.start_clk (s : State) (k : Timer) : (s.start k).clk = s.clk := rfl
@[simp] theorem State.start_tap (s : State) (k : Timer) : (s.start k).tap = s.tap := rfl
@[simp] theorem State.start_outs (s : State) (k : Timer) : (s.start k).outs = s.outs := rfl

/-! ### State.stop -/

@[simp] theorem State.stop_pending (s : State) (k : Timer) : (s.stop k).pending = s.pending := rfl
@[simp] theorem State.stop_now (s : State) (k : Timer) : (s.stop k).now = s.now := rfl
@[simp] theorem State.stop_clocks (s : State) (k : Timer) : (s.stop k).clocks = s.clocks := rfl
@[simp] theorem State.stop_regs (s : State) (k : Timer) : (s.stop k).regs = s.regs := rfl
@[simp] theorem State.stop_clamped (s : State) (k : Timer) : (s.stop k).clamped = s.clamped := rfl
@[simp] theorem State.stop_updated (s : State) (k : Timer) : (s.stop k).updated = s.updated := rfl
@[simp] theorem State.stop_staleMark (s : State) (k : Timer) : (s.stop k).staleMark = s.staleMark := rfl
@[simp] theorem State.stop_staleSeen (s : State) (k : Timer) : (s.stop k).staleSeen = s.staleSeen := rfl
@[simp] theorem State.stop_remoteQ (s : State) (k : Timer) : (s.stop k).remoteQ = s.remoteQ := rfl
@[simp] theorem State.stop_counts (s : State) (k : Timer) : (s.stop k).counts = s.counts := rfl
@[simp] theorem State.stop_mram (s : State) (k : Timer) : (s.stop k).mram = s.mram := rfl
@[simp] theorem State.stop_vresOk (s : State) (k : Timer) : (s.stop k).vresOk = s.vresOk := rfl
@[simp] theorem State.stop_image (s : State) (k : Timer) : (s.stop k).image = s.image := rfl
@[simp] theorem State.stop_nextImage (s : State) (k : Timer) : (s.stop k).nextImage = s.nextImage := rfl
@[simp] theorem State.stop_commits (s : State) (k : Timer) : (s.stop k).commits = s.commits := rfl
@[simp] theorem State.stop_otp (s : State) (k : Timer) : (s.stop k).otp = s.otp := rfl
@[simp] theorem State.stop_tw (s : State) (k : Timer) : (s.stop k).tw = s.tw := rfl
@[simp] theorem State.stop_spi (s : State) (k : Timer) : (s.stop k).spi = s.spi := rfl
@[simp] theorem State.stop_alertMask (s : State) (k : Timer) : (s.stop k).alertMask = s.alertMask := rfl
@[simp] theorem State.stop_alertSet (s : State) (k : Timer) : (s.stop k).alertSet = s.alertSet := rfl
@[simp] theorem State.stop_rcd (s : State) (k : Timer) : (s.stop k).rcd = s.rcd := rfl
@[simp] theorem State.stop_flt (s : State) (k : Timer) : (s.stop k).flt = s.flt := rfl
@[simp] theorem State.stop_arb (s : State) (k : Timer) : (s.stop k).arb = s.arb := rfl
@[simp] theorem State.stop_journal (s : State) (k : Timer) : (s.stop k).journal = s.journal := rfl
@[simp] theorem State.stop_ckptA (s : State) (k : Timer) : (s.stop k).ckptA = s.ckptA := rfl
@[simp] theorem State.stop_ckptB (s : State) (k : Timer) : (s.stop k).ckptB = s.ckptB := rfl
@[simp] theorem State.stop_commit (s : State) (k : Timer) : (s.stop k).commit = s.commit := rfl
@[simp] theorem State.stop_halted (s : State) (k : Timer) : (s.stop k).halted = s.halted := rfl
@[simp] theorem State.stop_lane (s : State) (k : Timer) : (s.stop k).lane = s.lane := rfl
@[simp] theorem State.stop_groups (s : State) (k : Timer) : (s.stop k).groups = s.groups := rfl
@[simp] theorem State.stop_phases (s : State) (k : Timer) : (s.stop k).phases = s.phases := rfl
@[simp] theorem State.stop_inputs (s : State) (k : Timer) : (s.stop k).inputs = s.inputs := rfl
@[simp] theorem State.stop_accepted (s : State) (k : Timer) : (s.stop k).accepted = s.accepted := rfl
@[simp] theorem State.stop_actedAt (s : State) (k : Timer) : (s.stop k).actedAt = s.actedAt := rfl
@[simp] theorem State.stop_inputQueue (s : State) (k : Timer) : (s.stop k).inputQueue = s.inputQueue := rfl
@[simp] theorem State.stop_snapshot (s : State) (k : Timer) : (s.stop k).snapshot = s.snapshot := rfl
@[simp] theorem State.stop_snapTaken (s : State) (k : Timer) : (s.stop k).snapTaken = s.snapTaken := rfl
@[simp] theorem State.stop_railSeen (s : State) (k : Timer) : (s.stop k).railSeen = s.railSeen := rfl
@[simp] theorem State.stop_downDue (s : State) (k : Timer) : (s.stop k).downDue = s.downDue := rfl
@[simp] theorem State.stop_snapDue (s : State) (k : Timer) : (s.stop k).snapDue = s.snapDue := rfl
@[simp] theorem State.stop_sfBlocked (s : State) (k : Timer) : (s.stop k).sfBlocked = s.sfBlocked := rfl
@[simp] theorem State.stop_hardLatched (s : State) (k : Timer) : (s.stop k).hardLatched = s.hardLatched := rfl
@[simp] theorem State.stop_inhibit (s : State) (k : Timer) : (s.stop k).inhibit = s.inhibit := rfl
@[simp] theorem State.stop_hollow (s : State) (k : Timer) : (s.stop k).hollow = s.hollow := rfl
@[simp] theorem State.stop_coulomb (s : State) (k : Timer) : (s.stop k).coulomb = s.coulomb := rfl
@[simp] theorem State.stop_cellTripped (s : State) (k : Timer) : (s.stop k).cellTripped = s.cellTripped := rfl
@[simp] theorem State.stop_cellDue (s : State) (k : Timer) : (s.stop k).cellDue = s.cellDue := rfl
@[simp] theorem State.stop_learned (s : State) (k : Timer) : (s.stop k).learned = s.learned := rfl
@[simp] theorem State.stop_channels (s : State) (k : Timer) : (s.stop k).channels = s.channels := rfl
@[simp] theorem State.stop_scan (s : State) (k : Timer) : (s.stop k).scan = s.scan := rfl
@[simp] theorem State.stop_trim (s : State) (k : Timer) : (s.stop k).trim = s.trim := rfl
@[simp] theorem State.stop_driven (s : State) (k : Timer) : (s.stop k).driven = s.driven := rfl
@[simp] theorem State.stop_dsTable (s : State) (k : Timer) : (s.stop k).dsTable = s.dsTable := rfl
@[simp] theorem State.stop_dsPorts (s : State) (k : Timer) : (s.stop k).dsPorts = s.dsPorts := rfl
@[simp] theorem State.stop_dsTargets (s : State) (k : Timer) : (s.stop k).dsTargets = s.dsTargets := rfl
@[simp] theorem State.stop_graphOffDue (s : State) (k : Timer) : (s.stop k).graphOffDue = s.graphOffDue := rfl
@[simp] theorem State.stop_variantBE (s : State) (k : Timer) : (s.stop k).variantBE = s.variantBE := rfl
@[simp] theorem State.stop_freeCtr (s : State) (k : Timer) : (s.stop k).freeCtr = s.freeCtr := rfl
@[simp] theorem State.stop_upd (s : State) (k : Timer) : (s.stop k).upd = s.upd := rfl
@[simp] theorem State.stop_casc (s : State) (k : Timer) : (s.stop k).casc = s.casc := rfl
@[simp] theorem State.stop_clk (s : State) (k : Timer) : (s.stop k).clk = s.clk := rfl
@[simp] theorem State.stop_tap (s : State) (k : Timer) : (s.stop k).tap = s.tap := rfl
@[simp] theorem State.stop_outs (s : State) (k : Timer) : (s.stop k).outs = s.outs := rfl

/-! ### State.clearCount -/

@[simp] theorem State.clearCount_pending (s : State) (k : Count) : (s.clearCount k).pending = s.pending := rfl
@[simp] theorem State.clearCount_now (s : State) (k : Count) : (s.clearCount k).now = s.now := rfl
@[simp] theorem State.clearCount_clocks (s : State) (k : Count) : (s.clearCount k).clocks = s.clocks := rfl
@[simp] theorem State.clearCount_regs (s : State) (k : Count) : (s.clearCount k).regs = s.regs := rfl
@[simp] theorem State.clearCount_clamped (s : State) (k : Count) : (s.clearCount k).clamped = s.clamped := rfl
@[simp] theorem State.clearCount_updated (s : State) (k : Count) : (s.clearCount k).updated = s.updated := rfl
@[simp] theorem State.clearCount_staleMark (s : State) (k : Count) : (s.clearCount k).staleMark = s.staleMark := rfl
@[simp] theorem State.clearCount_staleSeen (s : State) (k : Count) : (s.clearCount k).staleSeen = s.staleSeen := rfl
@[simp] theorem State.clearCount_remoteQ (s : State) (k : Count) : (s.clearCount k).remoteQ = s.remoteQ := rfl
@[simp] theorem State.clearCount_timers (s : State) (k : Count) : (s.clearCount k).timers = s.timers := rfl
@[simp] theorem State.clearCount_mram (s : State) (k : Count) : (s.clearCount k).mram = s.mram := rfl
@[simp] theorem State.clearCount_vresOk (s : State) (k : Count) : (s.clearCount k).vresOk = s.vresOk := rfl
@[simp] theorem State.clearCount_image (s : State) (k : Count) : (s.clearCount k).image = s.image := rfl
@[simp] theorem State.clearCount_nextImage (s : State) (k : Count) : (s.clearCount k).nextImage = s.nextImage := rfl
@[simp] theorem State.clearCount_commits (s : State) (k : Count) : (s.clearCount k).commits = s.commits := rfl
@[simp] theorem State.clearCount_otp (s : State) (k : Count) : (s.clearCount k).otp = s.otp := rfl
@[simp] theorem State.clearCount_tw (s : State) (k : Count) : (s.clearCount k).tw = s.tw := rfl
@[simp] theorem State.clearCount_spi (s : State) (k : Count) : (s.clearCount k).spi = s.spi := rfl
@[simp] theorem State.clearCount_alertMask (s : State) (k : Count) : (s.clearCount k).alertMask = s.alertMask := rfl
@[simp] theorem State.clearCount_alertSet (s : State) (k : Count) : (s.clearCount k).alertSet = s.alertSet := rfl
@[simp] theorem State.clearCount_rcd (s : State) (k : Count) : (s.clearCount k).rcd = s.rcd := rfl
@[simp] theorem State.clearCount_flt (s : State) (k : Count) : (s.clearCount k).flt = s.flt := rfl
@[simp] theorem State.clearCount_arb (s : State) (k : Count) : (s.clearCount k).arb = s.arb := rfl
@[simp] theorem State.clearCount_journal (s : State) (k : Count) : (s.clearCount k).journal = s.journal := rfl
@[simp] theorem State.clearCount_ckptA (s : State) (k : Count) : (s.clearCount k).ckptA = s.ckptA := rfl
@[simp] theorem State.clearCount_ckptB (s : State) (k : Count) : (s.clearCount k).ckptB = s.ckptB := rfl
@[simp] theorem State.clearCount_commit (s : State) (k : Count) : (s.clearCount k).commit = s.commit := rfl
@[simp] theorem State.clearCount_halted (s : State) (k : Count) : (s.clearCount k).halted = s.halted := rfl
@[simp] theorem State.clearCount_lane (s : State) (k : Count) : (s.clearCount k).lane = s.lane := rfl
@[simp] theorem State.clearCount_groups (s : State) (k : Count) : (s.clearCount k).groups = s.groups := rfl
@[simp] theorem State.clearCount_phases (s : State) (k : Count) : (s.clearCount k).phases = s.phases := rfl
@[simp] theorem State.clearCount_inputs (s : State) (k : Count) : (s.clearCount k).inputs = s.inputs := rfl
@[simp] theorem State.clearCount_accepted (s : State) (k : Count) : (s.clearCount k).accepted = s.accepted := rfl
@[simp] theorem State.clearCount_actedAt (s : State) (k : Count) : (s.clearCount k).actedAt = s.actedAt := rfl
@[simp] theorem State.clearCount_inputQueue (s : State) (k : Count) : (s.clearCount k).inputQueue = s.inputQueue := rfl
@[simp] theorem State.clearCount_snapshot (s : State) (k : Count) : (s.clearCount k).snapshot = s.snapshot := rfl
@[simp] theorem State.clearCount_snapTaken (s : State) (k : Count) : (s.clearCount k).snapTaken = s.snapTaken := rfl
@[simp] theorem State.clearCount_railSeen (s : State) (k : Count) : (s.clearCount k).railSeen = s.railSeen := rfl
@[simp] theorem State.clearCount_downDue (s : State) (k : Count) : (s.clearCount k).downDue = s.downDue := rfl
@[simp] theorem State.clearCount_snapDue (s : State) (k : Count) : (s.clearCount k).snapDue = s.snapDue := rfl
@[simp] theorem State.clearCount_sfBlocked (s : State) (k : Count) : (s.clearCount k).sfBlocked = s.sfBlocked := rfl
@[simp] theorem State.clearCount_hardLatched (s : State) (k : Count) : (s.clearCount k).hardLatched = s.hardLatched := rfl
@[simp] theorem State.clearCount_inhibit (s : State) (k : Count) : (s.clearCount k).inhibit = s.inhibit := rfl
@[simp] theorem State.clearCount_hollow (s : State) (k : Count) : (s.clearCount k).hollow = s.hollow := rfl
@[simp] theorem State.clearCount_coulomb (s : State) (k : Count) : (s.clearCount k).coulomb = s.coulomb := rfl
@[simp] theorem State.clearCount_cellTripped (s : State) (k : Count) : (s.clearCount k).cellTripped = s.cellTripped := rfl
@[simp] theorem State.clearCount_cellDue (s : State) (k : Count) : (s.clearCount k).cellDue = s.cellDue := rfl
@[simp] theorem State.clearCount_learned (s : State) (k : Count) : (s.clearCount k).learned = s.learned := rfl
@[simp] theorem State.clearCount_channels (s : State) (k : Count) : (s.clearCount k).channels = s.channels := rfl
@[simp] theorem State.clearCount_scan (s : State) (k : Count) : (s.clearCount k).scan = s.scan := rfl
@[simp] theorem State.clearCount_trim (s : State) (k : Count) : (s.clearCount k).trim = s.trim := rfl
@[simp] theorem State.clearCount_driven (s : State) (k : Count) : (s.clearCount k).driven = s.driven := rfl
@[simp] theorem State.clearCount_dsTable (s : State) (k : Count) : (s.clearCount k).dsTable = s.dsTable := rfl
@[simp] theorem State.clearCount_dsPorts (s : State) (k : Count) : (s.clearCount k).dsPorts = s.dsPorts := rfl
@[simp] theorem State.clearCount_dsTargets (s : State) (k : Count) : (s.clearCount k).dsTargets = s.dsTargets := rfl
@[simp] theorem State.clearCount_graphOffDue (s : State) (k : Count) : (s.clearCount k).graphOffDue = s.graphOffDue := rfl
@[simp] theorem State.clearCount_variantBE (s : State) (k : Count) : (s.clearCount k).variantBE = s.variantBE := rfl
@[simp] theorem State.clearCount_freeCtr (s : State) (k : Count) : (s.clearCount k).freeCtr = s.freeCtr := rfl
@[simp] theorem State.clearCount_upd (s : State) (k : Count) : (s.clearCount k).upd = s.upd := rfl
@[simp] theorem State.clearCount_casc (s : State) (k : Count) : (s.clearCount k).casc = s.casc := rfl
@[simp] theorem State.clearCount_clk (s : State) (k : Count) : (s.clearCount k).clk = s.clk := rfl
@[simp] theorem State.clearCount_tap (s : State) (k : Count) : (s.clearCount k).tap = s.tap := rfl
@[simp] theorem State.clearCount_outs (s : State) (k : Count) : (s.clearCount k).outs = s.outs := rfl

/-! ### State.setGrp -/

@[simp] theorem State.setGrp_pending (s : State) (c : Nat) (f : GroupVar → GroupVar) : (s.setGrp c f).pending = s.pending := rfl
@[simp] theorem State.setGrp_now (s : State) (c : Nat) (f : GroupVar → GroupVar) : (s.setGrp c f).now = s.now := rfl
@[simp] theorem State.setGrp_clocks (s : State) (c : Nat) (f : GroupVar → GroupVar) : (s.setGrp c f).clocks = s.clocks := rfl
@[simp] theorem State.setGrp_regs (s : State) (c : Nat) (f : GroupVar → GroupVar) : (s.setGrp c f).regs = s.regs := rfl
@[simp] theorem State.setGrp_clamped (s : State) (c : Nat) (f : GroupVar → GroupVar) : (s.setGrp c f).clamped = s.clamped := rfl
@[simp] theorem State.setGrp_updated (s : State) (c : Nat) (f : GroupVar → GroupVar) : (s.setGrp c f).updated = s.updated := rfl
@[simp] theorem State.setGrp_staleMark (s : State) (c : Nat) (f : GroupVar → GroupVar) : (s.setGrp c f).staleMark = s.staleMark := rfl
@[simp] theorem State.setGrp_staleSeen (s : State) (c : Nat) (f : GroupVar → GroupVar) : (s.setGrp c f).staleSeen = s.staleSeen := rfl
@[simp] theorem State.setGrp_remoteQ (s : State) (c : Nat) (f : GroupVar → GroupVar) : (s.setGrp c f).remoteQ = s.remoteQ := rfl
@[simp] theorem State.setGrp_timers (s : State) (c : Nat) (f : GroupVar → GroupVar) : (s.setGrp c f).timers = s.timers := rfl
@[simp] theorem State.setGrp_counts (s : State) (c : Nat) (f : GroupVar → GroupVar) : (s.setGrp c f).counts = s.counts := rfl
@[simp] theorem State.setGrp_mram (s : State) (c : Nat) (f : GroupVar → GroupVar) : (s.setGrp c f).mram = s.mram := rfl
@[simp] theorem State.setGrp_vresOk (s : State) (c : Nat) (f : GroupVar → GroupVar) : (s.setGrp c f).vresOk = s.vresOk := rfl
@[simp] theorem State.setGrp_image (s : State) (c : Nat) (f : GroupVar → GroupVar) : (s.setGrp c f).image = s.image := rfl
@[simp] theorem State.setGrp_nextImage (s : State) (c : Nat) (f : GroupVar → GroupVar) : (s.setGrp c f).nextImage = s.nextImage := rfl
@[simp] theorem State.setGrp_commits (s : State) (c : Nat) (f : GroupVar → GroupVar) : (s.setGrp c f).commits = s.commits := rfl
@[simp] theorem State.setGrp_otp (s : State) (c : Nat) (f : GroupVar → GroupVar) : (s.setGrp c f).otp = s.otp := rfl
@[simp] theorem State.setGrp_tw (s : State) (c : Nat) (f : GroupVar → GroupVar) : (s.setGrp c f).tw = s.tw := rfl
@[simp] theorem State.setGrp_spi (s : State) (c : Nat) (f : GroupVar → GroupVar) : (s.setGrp c f).spi = s.spi := rfl
@[simp] theorem State.setGrp_alertMask (s : State) (c : Nat) (f : GroupVar → GroupVar) : (s.setGrp c f).alertMask = s.alertMask := rfl
@[simp] theorem State.setGrp_alertSet (s : State) (c : Nat) (f : GroupVar → GroupVar) : (s.setGrp c f).alertSet = s.alertSet := rfl
@[simp] theorem State.setGrp_rcd (s : State) (c : Nat) (f : GroupVar → GroupVar) : (s.setGrp c f).rcd = s.rcd := rfl
@[simp] theorem State.setGrp_flt (s : State) (c : Nat) (f : GroupVar → GroupVar) : (s.setGrp c f).flt = s.flt := rfl
@[simp] theorem State.setGrp_arb (s : State) (c : Nat) (f : GroupVar → GroupVar) : (s.setGrp c f).arb = s.arb := rfl
@[simp] theorem State.setGrp_journal (s : State) (c : Nat) (f : GroupVar → GroupVar) : (s.setGrp c f).journal = s.journal := rfl
@[simp] theorem State.setGrp_ckptA (s : State) (c : Nat) (f : GroupVar → GroupVar) : (s.setGrp c f).ckptA = s.ckptA := rfl
@[simp] theorem State.setGrp_ckptB (s : State) (c : Nat) (f : GroupVar → GroupVar) : (s.setGrp c f).ckptB = s.ckptB := rfl
@[simp] theorem State.setGrp_commit (s : State) (c : Nat) (f : GroupVar → GroupVar) : (s.setGrp c f).commit = s.commit := rfl
@[simp] theorem State.setGrp_halted (s : State) (c : Nat) (f : GroupVar → GroupVar) : (s.setGrp c f).halted = s.halted := rfl
@[simp] theorem State.setGrp_lane (s : State) (c : Nat) (f : GroupVar → GroupVar) : (s.setGrp c f).lane = s.lane := rfl
@[simp] theorem State.setGrp_phases (s : State) (c : Nat) (f : GroupVar → GroupVar) : (s.setGrp c f).phases = s.phases := rfl
@[simp] theorem State.setGrp_inputs (s : State) (c : Nat) (f : GroupVar → GroupVar) : (s.setGrp c f).inputs = s.inputs := rfl
@[simp] theorem State.setGrp_accepted (s : State) (c : Nat) (f : GroupVar → GroupVar) : (s.setGrp c f).accepted = s.accepted := rfl
@[simp] theorem State.setGrp_actedAt (s : State) (c : Nat) (f : GroupVar → GroupVar) : (s.setGrp c f).actedAt = s.actedAt := rfl
@[simp] theorem State.setGrp_inputQueue (s : State) (c : Nat) (f : GroupVar → GroupVar) : (s.setGrp c f).inputQueue = s.inputQueue := rfl
@[simp] theorem State.setGrp_snapshot (s : State) (c : Nat) (f : GroupVar → GroupVar) : (s.setGrp c f).snapshot = s.snapshot := rfl
@[simp] theorem State.setGrp_snapTaken (s : State) (c : Nat) (f : GroupVar → GroupVar) : (s.setGrp c f).snapTaken = s.snapTaken := rfl
@[simp] theorem State.setGrp_railSeen (s : State) (c : Nat) (f : GroupVar → GroupVar) : (s.setGrp c f).railSeen = s.railSeen := rfl
@[simp] theorem State.setGrp_downDue (s : State) (c : Nat) (f : GroupVar → GroupVar) : (s.setGrp c f).downDue = s.downDue := rfl
@[simp] theorem State.setGrp_snapDue (s : State) (c : Nat) (f : GroupVar → GroupVar) : (s.setGrp c f).snapDue = s.snapDue := rfl
@[simp] theorem State.setGrp_sfBlocked (s : State) (c : Nat) (f : GroupVar → GroupVar) : (s.setGrp c f).sfBlocked = s.sfBlocked := rfl
@[simp] theorem State.setGrp_hardLatched (s : State) (c : Nat) (f : GroupVar → GroupVar) : (s.setGrp c f).hardLatched = s.hardLatched := rfl
@[simp] theorem State.setGrp_inhibit (s : State) (c : Nat) (f : GroupVar → GroupVar) : (s.setGrp c f).inhibit = s.inhibit := rfl
@[simp] theorem State.setGrp_hollow (s : State) (c : Nat) (f : GroupVar → GroupVar) : (s.setGrp c f).hollow = s.hollow := rfl
@[simp] theorem State.setGrp_coulomb (s : State) (c : Nat) (f : GroupVar → GroupVar) : (s.setGrp c f).coulomb = s.coulomb := rfl
@[simp] theorem State.setGrp_cellTripped (s : State) (c : Nat) (f : GroupVar → GroupVar) : (s.setGrp c f).cellTripped = s.cellTripped := rfl
@[simp] theorem State.setGrp_cellDue (s : State) (c : Nat) (f : GroupVar → GroupVar) : (s.setGrp c f).cellDue = s.cellDue := rfl
@[simp] theorem State.setGrp_learned (s : State) (c : Nat) (f : GroupVar → GroupVar) : (s.setGrp c f).learned = s.learned := rfl
@[simp] theorem State.setGrp_channels (s : State) (c : Nat) (f : GroupVar → GroupVar) : (s.setGrp c f).channels = s.channels := rfl
@[simp] theorem State.setGrp_scan (s : State) (c : Nat) (f : GroupVar → GroupVar) : (s.setGrp c f).scan = s.scan := rfl
@[simp] theorem State.setGrp_trim (s : State) (c : Nat) (f : GroupVar → GroupVar) : (s.setGrp c f).trim = s.trim := rfl
@[simp] theorem State.setGrp_driven (s : State) (c : Nat) (f : GroupVar → GroupVar) : (s.setGrp c f).driven = s.driven := rfl
@[simp] theorem State.setGrp_dsTable (s : State) (c : Nat) (f : GroupVar → GroupVar) : (s.setGrp c f).dsTable = s.dsTable := rfl
@[simp] theorem State.setGrp_dsPorts (s : State) (c : Nat) (f : GroupVar → GroupVar) : (s.setGrp c f).dsPorts = s.dsPorts := rfl
@[simp] theorem State.setGrp_dsTargets (s : State) (c : Nat) (f : GroupVar → GroupVar) : (s.setGrp c f).dsTargets = s.dsTargets := rfl
@[simp] theorem State.setGrp_graphOffDue (s : State) (c : Nat) (f : GroupVar → GroupVar) : (s.setGrp c f).graphOffDue = s.graphOffDue := rfl
@[simp] theorem State.setGrp_variantBE (s : State) (c : Nat) (f : GroupVar → GroupVar) : (s.setGrp c f).variantBE = s.variantBE := rfl
@[simp] theorem State.setGrp_freeCtr (s : State) (c : Nat) (f : GroupVar → GroupVar) : (s.setGrp c f).freeCtr = s.freeCtr := rfl
@[simp] theorem State.setGrp_upd (s : State) (c : Nat) (f : GroupVar → GroupVar) : (s.setGrp c f).upd = s.upd := rfl
@[simp] theorem State.setGrp_casc (s : State) (c : Nat) (f : GroupVar → GroupVar) : (s.setGrp c f).casc = s.casc := rfl
@[simp] theorem State.setGrp_clk (s : State) (c : Nat) (f : GroupVar → GroupVar) : (s.setGrp c f).clk = s.clk := rfl
@[simp] theorem State.setGrp_tap (s : State) (c : Nat) (f : GroupVar → GroupVar) : (s.setGrp c f).tap = s.tap := rfl
@[simp] theorem State.setGrp_outs (s : State) (c : Nat) (f : GroupVar → GroupVar) : (s.setGrp c f).outs = s.outs := rfl

/-! ### State.setPhase -/

@[simp] theorem State.setPhase_pending (s : State) (p : Nat) (f : PhaseVar → PhaseVar) : (s.setPhase p f).pending = s.pending := rfl
@[simp] theorem State.setPhase_now (s : State) (p : Nat) (f : PhaseVar → PhaseVar) : (s.setPhase p f).now = s.now := rfl
@[simp] theorem State.setPhase_clocks (s : State) (p : Nat) (f : PhaseVar → PhaseVar) : (s.setPhase p f).clocks = s.clocks := rfl
@[simp] theorem State.setPhase_regs (s : State) (p : Nat) (f : PhaseVar → PhaseVar) : (s.setPhase p f).regs = s.regs := rfl
@[simp] theorem State.setPhase_clamped (s : State) (p : Nat) (f : PhaseVar → PhaseVar) : (s.setPhase p f).clamped = s.clamped := rfl
@[simp] theorem State.setPhase_updated (s : State) (p : Nat) (f : PhaseVar → PhaseVar) : (s.setPhase p f).updated = s.updated := rfl
@[simp] theorem State.setPhase_staleMark (s : State) (p : Nat) (f : PhaseVar → PhaseVar) : (s.setPhase p f).staleMark = s.staleMark := rfl
@[simp] theorem State.setPhase_staleSeen (s : State) (p : Nat) (f : PhaseVar → PhaseVar) : (s.setPhase p f).staleSeen = s.staleSeen := rfl
@[simp] theorem State.setPhase_remoteQ (s : State) (p : Nat) (f : PhaseVar → PhaseVar) : (s.setPhase p f).remoteQ = s.remoteQ := rfl
@[simp] theorem State.setPhase_timers (s : State) (p : Nat) (f : PhaseVar → PhaseVar) : (s.setPhase p f).timers = s.timers := rfl
@[simp] theorem State.setPhase_counts (s : State) (p : Nat) (f : PhaseVar → PhaseVar) : (s.setPhase p f).counts = s.counts := rfl
@[simp] theorem State.setPhase_mram (s : State) (p : Nat) (f : PhaseVar → PhaseVar) : (s.setPhase p f).mram = s.mram := rfl
@[simp] theorem State.setPhase_vresOk (s : State) (p : Nat) (f : PhaseVar → PhaseVar) : (s.setPhase p f).vresOk = s.vresOk := rfl
@[simp] theorem State.setPhase_image (s : State) (p : Nat) (f : PhaseVar → PhaseVar) : (s.setPhase p f).image = s.image := rfl
@[simp] theorem State.setPhase_nextImage (s : State) (p : Nat) (f : PhaseVar → PhaseVar) : (s.setPhase p f).nextImage = s.nextImage := rfl
@[simp] theorem State.setPhase_commits (s : State) (p : Nat) (f : PhaseVar → PhaseVar) : (s.setPhase p f).commits = s.commits := rfl
@[simp] theorem State.setPhase_otp (s : State) (p : Nat) (f : PhaseVar → PhaseVar) : (s.setPhase p f).otp = s.otp := rfl
@[simp] theorem State.setPhase_tw (s : State) (p : Nat) (f : PhaseVar → PhaseVar) : (s.setPhase p f).tw = s.tw := rfl
@[simp] theorem State.setPhase_spi (s : State) (p : Nat) (f : PhaseVar → PhaseVar) : (s.setPhase p f).spi = s.spi := rfl
@[simp] theorem State.setPhase_alertMask (s : State) (p : Nat) (f : PhaseVar → PhaseVar) : (s.setPhase p f).alertMask = s.alertMask := rfl
@[simp] theorem State.setPhase_alertSet (s : State) (p : Nat) (f : PhaseVar → PhaseVar) : (s.setPhase p f).alertSet = s.alertSet := rfl
@[simp] theorem State.setPhase_rcd (s : State) (p : Nat) (f : PhaseVar → PhaseVar) : (s.setPhase p f).rcd = s.rcd := rfl
@[simp] theorem State.setPhase_flt (s : State) (p : Nat) (f : PhaseVar → PhaseVar) : (s.setPhase p f).flt = s.flt := rfl
@[simp] theorem State.setPhase_arb (s : State) (p : Nat) (f : PhaseVar → PhaseVar) : (s.setPhase p f).arb = s.arb := rfl
@[simp] theorem State.setPhase_journal (s : State) (p : Nat) (f : PhaseVar → PhaseVar) : (s.setPhase p f).journal = s.journal := rfl
@[simp] theorem State.setPhase_ckptA (s : State) (p : Nat) (f : PhaseVar → PhaseVar) : (s.setPhase p f).ckptA = s.ckptA := rfl
@[simp] theorem State.setPhase_ckptB (s : State) (p : Nat) (f : PhaseVar → PhaseVar) : (s.setPhase p f).ckptB = s.ckptB := rfl
@[simp] theorem State.setPhase_commit (s : State) (p : Nat) (f : PhaseVar → PhaseVar) : (s.setPhase p f).commit = s.commit := rfl
@[simp] theorem State.setPhase_halted (s : State) (p : Nat) (f : PhaseVar → PhaseVar) : (s.setPhase p f).halted = s.halted := rfl
@[simp] theorem State.setPhase_lane (s : State) (p : Nat) (f : PhaseVar → PhaseVar) : (s.setPhase p f).lane = s.lane := rfl
@[simp] theorem State.setPhase_groups (s : State) (p : Nat) (f : PhaseVar → PhaseVar) : (s.setPhase p f).groups = s.groups := rfl
@[simp] theorem State.setPhase_inputs (s : State) (p : Nat) (f : PhaseVar → PhaseVar) : (s.setPhase p f).inputs = s.inputs := rfl
@[simp] theorem State.setPhase_accepted (s : State) (p : Nat) (f : PhaseVar → PhaseVar) : (s.setPhase p f).accepted = s.accepted := rfl
@[simp] theorem State.setPhase_actedAt (s : State) (p : Nat) (f : PhaseVar → PhaseVar) : (s.setPhase p f).actedAt = s.actedAt := rfl
@[simp] theorem State.setPhase_inputQueue (s : State) (p : Nat) (f : PhaseVar → PhaseVar) : (s.setPhase p f).inputQueue = s.inputQueue := rfl
@[simp] theorem State.setPhase_snapshot (s : State) (p : Nat) (f : PhaseVar → PhaseVar) : (s.setPhase p f).snapshot = s.snapshot := rfl
@[simp] theorem State.setPhase_snapTaken (s : State) (p : Nat) (f : PhaseVar → PhaseVar) : (s.setPhase p f).snapTaken = s.snapTaken := rfl
@[simp] theorem State.setPhase_railSeen (s : State) (p : Nat) (f : PhaseVar → PhaseVar) : (s.setPhase p f).railSeen = s.railSeen := rfl
@[simp] theorem State.setPhase_downDue (s : State) (p : Nat) (f : PhaseVar → PhaseVar) : (s.setPhase p f).downDue = s.downDue := rfl
@[simp] theorem State.setPhase_snapDue (s : State) (p : Nat) (f : PhaseVar → PhaseVar) : (s.setPhase p f).snapDue = s.snapDue := rfl
@[simp] theorem State.setPhase_sfBlocked (s : State) (p : Nat) (f : PhaseVar → PhaseVar) : (s.setPhase p f).sfBlocked = s.sfBlocked := rfl
@[simp] theorem State.setPhase_hardLatched (s : State) (p : Nat) (f : PhaseVar → PhaseVar) : (s.setPhase p f).hardLatched = s.hardLatched := rfl
@[simp] theorem State.setPhase_inhibit (s : State) (p : Nat) (f : PhaseVar → PhaseVar) : (s.setPhase p f).inhibit = s.inhibit := rfl
@[simp] theorem State.setPhase_hollow (s : State) (p : Nat) (f : PhaseVar → PhaseVar) : (s.setPhase p f).hollow = s.hollow := rfl
@[simp] theorem State.setPhase_coulomb (s : State) (p : Nat) (f : PhaseVar → PhaseVar) : (s.setPhase p f).coulomb = s.coulomb := rfl
@[simp] theorem State.setPhase_cellTripped (s : State) (p : Nat) (f : PhaseVar → PhaseVar) : (s.setPhase p f).cellTripped = s.cellTripped := rfl
@[simp] theorem State.setPhase_cellDue (s : State) (p : Nat) (f : PhaseVar → PhaseVar) : (s.setPhase p f).cellDue = s.cellDue := rfl
@[simp] theorem State.setPhase_learned (s : State) (p : Nat) (f : PhaseVar → PhaseVar) : (s.setPhase p f).learned = s.learned := rfl
@[simp] theorem State.setPhase_channels (s : State) (p : Nat) (f : PhaseVar → PhaseVar) : (s.setPhase p f).channels = s.channels := rfl
@[simp] theorem State.setPhase_scan (s : State) (p : Nat) (f : PhaseVar → PhaseVar) : (s.setPhase p f).scan = s.scan := rfl
@[simp] theorem State.setPhase_trim (s : State) (p : Nat) (f : PhaseVar → PhaseVar) : (s.setPhase p f).trim = s.trim := rfl
@[simp] theorem State.setPhase_driven (s : State) (p : Nat) (f : PhaseVar → PhaseVar) : (s.setPhase p f).driven = s.driven := rfl
@[simp] theorem State.setPhase_dsTable (s : State) (p : Nat) (f : PhaseVar → PhaseVar) : (s.setPhase p f).dsTable = s.dsTable := rfl
@[simp] theorem State.setPhase_dsPorts (s : State) (p : Nat) (f : PhaseVar → PhaseVar) : (s.setPhase p f).dsPorts = s.dsPorts := rfl
@[simp] theorem State.setPhase_dsTargets (s : State) (p : Nat) (f : PhaseVar → PhaseVar) : (s.setPhase p f).dsTargets = s.dsTargets := rfl
@[simp] theorem State.setPhase_graphOffDue (s : State) (p : Nat) (f : PhaseVar → PhaseVar) : (s.setPhase p f).graphOffDue = s.graphOffDue := rfl
@[simp] theorem State.setPhase_variantBE (s : State) (p : Nat) (f : PhaseVar → PhaseVar) : (s.setPhase p f).variantBE = s.variantBE := rfl
@[simp] theorem State.setPhase_freeCtr (s : State) (p : Nat) (f : PhaseVar → PhaseVar) : (s.setPhase p f).freeCtr = s.freeCtr := rfl
@[simp] theorem State.setPhase_upd (s : State) (p : Nat) (f : PhaseVar → PhaseVar) : (s.setPhase p f).upd = s.upd := rfl
@[simp] theorem State.setPhase_casc (s : State) (p : Nat) (f : PhaseVar → PhaseVar) : (s.setPhase p f).casc = s.casc := rfl
@[simp] theorem State.setPhase_clk (s : State) (p : Nat) (f : PhaseVar → PhaseVar) : (s.setPhase p f).clk = s.clk := rfl
@[simp] theorem State.setPhase_tap (s : State) (p : Nat) (f : PhaseVar → PhaseVar) : (s.setPhase p f).tap = s.tap := rfl
@[simp] theorem State.setPhase_outs (s : State) (p : Nat) (f : PhaseVar → PhaseVar) : (s.setPhase p f).outs = s.outs := rfl

/-! ### State.setSlot -/

@[simp] theorem State.setSlot_pending (s : State) (n : Nat) (f : SlotDyn → SlotDyn) : (s.setSlot n f).pending = s.pending := rfl
@[simp] theorem State.setSlot_now (s : State) (n : Nat) (f : SlotDyn → SlotDyn) : (s.setSlot n f).now = s.now := rfl
@[simp] theorem State.setSlot_clocks (s : State) (n : Nat) (f : SlotDyn → SlotDyn) : (s.setSlot n f).clocks = s.clocks := rfl
@[simp] theorem State.setSlot_regs (s : State) (n : Nat) (f : SlotDyn → SlotDyn) : (s.setSlot n f).regs = s.regs := rfl
@[simp] theorem State.setSlot_clamped (s : State) (n : Nat) (f : SlotDyn → SlotDyn) : (s.setSlot n f).clamped = s.clamped := rfl
@[simp] theorem State.setSlot_updated (s : State) (n : Nat) (f : SlotDyn → SlotDyn) : (s.setSlot n f).updated = s.updated := rfl
@[simp] theorem State.setSlot_staleMark (s : State) (n : Nat) (f : SlotDyn → SlotDyn) : (s.setSlot n f).staleMark = s.staleMark := rfl
@[simp] theorem State.setSlot_staleSeen (s : State) (n : Nat) (f : SlotDyn → SlotDyn) : (s.setSlot n f).staleSeen = s.staleSeen := rfl
@[simp] theorem State.setSlot_remoteQ (s : State) (n : Nat) (f : SlotDyn → SlotDyn) : (s.setSlot n f).remoteQ = s.remoteQ := rfl
@[simp] theorem State.setSlot_timers (s : State) (n : Nat) (f : SlotDyn → SlotDyn) : (s.setSlot n f).timers = s.timers := rfl
@[simp] theorem State.setSlot_counts (s : State) (n : Nat) (f : SlotDyn → SlotDyn) : (s.setSlot n f).counts = s.counts := rfl
@[simp] theorem State.setSlot_mram (s : State) (n : Nat) (f : SlotDyn → SlotDyn) : (s.setSlot n f).mram = s.mram := rfl
@[simp] theorem State.setSlot_vresOk (s : State) (n : Nat) (f : SlotDyn → SlotDyn) : (s.setSlot n f).vresOk = s.vresOk := rfl
@[simp] theorem State.setSlot_image (s : State) (n : Nat) (f : SlotDyn → SlotDyn) : (s.setSlot n f).image = s.image := rfl
@[simp] theorem State.setSlot_nextImage (s : State) (n : Nat) (f : SlotDyn → SlotDyn) : (s.setSlot n f).nextImage = s.nextImage := rfl
@[simp] theorem State.setSlot_commits (s : State) (n : Nat) (f : SlotDyn → SlotDyn) : (s.setSlot n f).commits = s.commits := rfl
@[simp] theorem State.setSlot_otp (s : State) (n : Nat) (f : SlotDyn → SlotDyn) : (s.setSlot n f).otp = s.otp := rfl
@[simp] theorem State.setSlot_tw (s : State) (n : Nat) (f : SlotDyn → SlotDyn) : (s.setSlot n f).tw = s.tw := rfl
@[simp] theorem State.setSlot_spi (s : State) (n : Nat) (f : SlotDyn → SlotDyn) : (s.setSlot n f).spi = s.spi := rfl
@[simp] theorem State.setSlot_alertMask (s : State) (n : Nat) (f : SlotDyn → SlotDyn) : (s.setSlot n f).alertMask = s.alertMask := rfl
@[simp] theorem State.setSlot_alertSet (s : State) (n : Nat) (f : SlotDyn → SlotDyn) : (s.setSlot n f).alertSet = s.alertSet := rfl
@[simp] theorem State.setSlot_rcd (s : State) (n : Nat) (f : SlotDyn → SlotDyn) : (s.setSlot n f).rcd = s.rcd := rfl
@[simp] theorem State.setSlot_flt (s : State) (n : Nat) (f : SlotDyn → SlotDyn) : (s.setSlot n f).flt = s.flt := rfl
@[simp] theorem State.setSlot_arb (s : State) (n : Nat) (f : SlotDyn → SlotDyn) : (s.setSlot n f).arb = s.arb := rfl
@[simp] theorem State.setSlot_journal (s : State) (n : Nat) (f : SlotDyn → SlotDyn) : (s.setSlot n f).journal = s.journal := rfl
@[simp] theorem State.setSlot_ckptA (s : State) (n : Nat) (f : SlotDyn → SlotDyn) : (s.setSlot n f).ckptA = s.ckptA := rfl
@[simp] theorem State.setSlot_ckptB (s : State) (n : Nat) (f : SlotDyn → SlotDyn) : (s.setSlot n f).ckptB = s.ckptB := rfl
@[simp] theorem State.setSlot_commit (s : State) (n : Nat) (f : SlotDyn → SlotDyn) : (s.setSlot n f).commit = s.commit := rfl
@[simp] theorem State.setSlot_halted (s : State) (n : Nat) (f : SlotDyn → SlotDyn) : (s.setSlot n f).halted = s.halted := rfl
@[simp] theorem State.setSlot_groups (s : State) (n : Nat) (f : SlotDyn → SlotDyn) : (s.setSlot n f).groups = s.groups := rfl
@[simp] theorem State.setSlot_phases (s : State) (n : Nat) (f : SlotDyn → SlotDyn) : (s.setSlot n f).phases = s.phases := rfl
@[simp] theorem State.setSlot_inputs (s : State) (n : Nat) (f : SlotDyn → SlotDyn) : (s.setSlot n f).inputs = s.inputs := rfl
@[simp] theorem State.setSlot_accepted (s : State) (n : Nat) (f : SlotDyn → SlotDyn) : (s.setSlot n f).accepted = s.accepted := rfl
@[simp] theorem State.setSlot_actedAt (s : State) (n : Nat) (f : SlotDyn → SlotDyn) : (s.setSlot n f).actedAt = s.actedAt := rfl
@[simp] theorem State.setSlot_inputQueue (s : State) (n : Nat) (f : SlotDyn → SlotDyn) : (s.setSlot n f).inputQueue = s.inputQueue := rfl
@[simp] theorem State.setSlot_snapshot (s : State) (n : Nat) (f : SlotDyn → SlotDyn) : (s.setSlot n f).snapshot = s.snapshot := rfl
@[simp] theorem State.setSlot_snapTaken (s : State) (n : Nat) (f : SlotDyn → SlotDyn) : (s.setSlot n f).snapTaken = s.snapTaken := rfl
@[simp] theorem State.setSlot_railSeen (s : State) (n : Nat) (f : SlotDyn → SlotDyn) : (s.setSlot n f).railSeen = s.railSeen := rfl
@[simp] theorem State.setSlot_downDue (s : State) (n : Nat) (f : SlotDyn → SlotDyn) : (s.setSlot n f).downDue = s.downDue := rfl
@[simp] theorem State.setSlot_snapDue (s : State) (n : Nat) (f : SlotDyn → SlotDyn) : (s.setSlot n f).snapDue = s.snapDue := rfl
@[simp] theorem State.setSlot_sfBlocked (s : State) (n : Nat) (f : SlotDyn → SlotDyn) : (s.setSlot n f).sfBlocked = s.sfBlocked := rfl
@[simp] theorem State.setSlot_hardLatched (s : State) (n : Nat) (f : SlotDyn → SlotDyn) : (s.setSlot n f).hardLatched = s.hardLatched := rfl
@[simp] theorem State.setSlot_inhibit (s : State) (n : Nat) (f : SlotDyn → SlotDyn) : (s.setSlot n f).inhibit = s.inhibit := rfl
@[simp] theorem State.setSlot_hollow (s : State) (n : Nat) (f : SlotDyn → SlotDyn) : (s.setSlot n f).hollow = s.hollow := rfl
@[simp] theorem State.setSlot_coulomb (s : State) (n : Nat) (f : SlotDyn → SlotDyn) : (s.setSlot n f).coulomb = s.coulomb := rfl
@[simp] theorem State.setSlot_cellTripped (s : State) (n : Nat) (f : SlotDyn → SlotDyn) : (s.setSlot n f).cellTripped = s.cellTripped := rfl
@[simp] theorem State.setSlot_cellDue (s : State) (n : Nat) (f : SlotDyn → SlotDyn) : (s.setSlot n f).cellDue = s.cellDue := rfl
@[simp] theorem State.setSlot_learned (s : State) (n : Nat) (f : SlotDyn → SlotDyn) : (s.setSlot n f).learned = s.learned := rfl
@[simp] theorem State.setSlot_channels (s : State) (n : Nat) (f : SlotDyn → SlotDyn) : (s.setSlot n f).channels = s.channels := rfl
@[simp] theorem State.setSlot_scan (s : State) (n : Nat) (f : SlotDyn → SlotDyn) : (s.setSlot n f).scan = s.scan := rfl
@[simp] theorem State.setSlot_trim (s : State) (n : Nat) (f : SlotDyn → SlotDyn) : (s.setSlot n f).trim = s.trim := rfl
@[simp] theorem State.setSlot_driven (s : State) (n : Nat) (f : SlotDyn → SlotDyn) : (s.setSlot n f).driven = s.driven := rfl
@[simp] theorem State.setSlot_dsTable (s : State) (n : Nat) (f : SlotDyn → SlotDyn) : (s.setSlot n f).dsTable = s.dsTable := rfl
@[simp] theorem State.setSlot_dsPorts (s : State) (n : Nat) (f : SlotDyn → SlotDyn) : (s.setSlot n f).dsPorts = s.dsPorts := rfl
@[simp] theorem State.setSlot_dsTargets (s : State) (n : Nat) (f : SlotDyn → SlotDyn) : (s.setSlot n f).dsTargets = s.dsTargets := rfl
@[simp] theorem State.setSlot_graphOffDue (s : State) (n : Nat) (f : SlotDyn → SlotDyn) : (s.setSlot n f).graphOffDue = s.graphOffDue := rfl
@[simp] theorem State.setSlot_variantBE (s : State) (n : Nat) (f : SlotDyn → SlotDyn) : (s.setSlot n f).variantBE = s.variantBE := rfl
@[simp] theorem State.setSlot_freeCtr (s : State) (n : Nat) (f : SlotDyn → SlotDyn) : (s.setSlot n f).freeCtr = s.freeCtr := rfl
@[simp] theorem State.setSlot_upd (s : State) (n : Nat) (f : SlotDyn → SlotDyn) : (s.setSlot n f).upd = s.upd := rfl
@[simp] theorem State.setSlot_casc (s : State) (n : Nat) (f : SlotDyn → SlotDyn) : (s.setSlot n f).casc = s.casc := rfl
@[simp] theorem State.setSlot_clk (s : State) (n : Nat) (f : SlotDyn → SlotDyn) : (s.setSlot n f).clk = s.clk := rfl
@[simp] theorem State.setSlot_tap (s : State) (n : Nat) (f : SlotDyn → SlotDyn) : (s.setSlot n f).tap = s.tap := rfl
@[simp] theorem State.setSlot_outs (s : State) (n : Nat) (f : SlotDyn → SlotDyn) : (s.setSlot n f).outs = s.outs := rfl

/-! ### State.writeMram -/

@[simp] theorem State.writeMram_pending (s : State) (a : Nat) (bs : List Byte) : (s.writeMram a bs).pending = s.pending := rfl
@[simp] theorem State.writeMram_now (s : State) (a : Nat) (bs : List Byte) : (s.writeMram a bs).now = s.now := rfl
@[simp] theorem State.writeMram_clocks (s : State) (a : Nat) (bs : List Byte) : (s.writeMram a bs).clocks = s.clocks := rfl
@[simp] theorem State.writeMram_regs (s : State) (a : Nat) (bs : List Byte) : (s.writeMram a bs).regs = s.regs := rfl
@[simp] theorem State.writeMram_clamped (s : State) (a : Nat) (bs : List Byte) : (s.writeMram a bs).clamped = s.clamped := rfl
@[simp] theorem State.writeMram_updated (s : State) (a : Nat) (bs : List Byte) : (s.writeMram a bs).updated = s.updated := rfl
@[simp] theorem State.writeMram_staleMark (s : State) (a : Nat) (bs : List Byte) : (s.writeMram a bs).staleMark = s.staleMark := rfl
@[simp] theorem State.writeMram_staleSeen (s : State) (a : Nat) (bs : List Byte) : (s.writeMram a bs).staleSeen = s.staleSeen := rfl
@[simp] theorem State.writeMram_remoteQ (s : State) (a : Nat) (bs : List Byte) : (s.writeMram a bs).remoteQ = s.remoteQ := rfl
@[simp] theorem State.writeMram_timers (s : State) (a : Nat) (bs : List Byte) : (s.writeMram a bs).timers = s.timers := rfl
@[simp] theorem State.writeMram_counts (s : State) (a : Nat) (bs : List Byte) : (s.writeMram a bs).counts = s.counts := rfl
@[simp] theorem State.writeMram_vresOk (s : State) (a : Nat) (bs : List Byte) : (s.writeMram a bs).vresOk = s.vresOk := rfl
@[simp] theorem State.writeMram_image (s : State) (a : Nat) (bs : List Byte) : (s.writeMram a bs).image = s.image := rfl
@[simp] theorem State.writeMram_nextImage (s : State) (a : Nat) (bs : List Byte) : (s.writeMram a bs).nextImage = s.nextImage := rfl
@[simp] theorem State.writeMram_commits (s : State) (a : Nat) (bs : List Byte) : (s.writeMram a bs).commits = s.commits := rfl
@[simp] theorem State.writeMram_otp (s : State) (a : Nat) (bs : List Byte) : (s.writeMram a bs).otp = s.otp := rfl
@[simp] theorem State.writeMram_tw (s : State) (a : Nat) (bs : List Byte) : (s.writeMram a bs).tw = s.tw := rfl
@[simp] theorem State.writeMram_spi (s : State) (a : Nat) (bs : List Byte) : (s.writeMram a bs).spi = s.spi := rfl
@[simp] theorem State.writeMram_alertMask (s : State) (a : Nat) (bs : List Byte) : (s.writeMram a bs).alertMask = s.alertMask := rfl
@[simp] theorem State.writeMram_alertSet (s : State) (a : Nat) (bs : List Byte) : (s.writeMram a bs).alertSet = s.alertSet := rfl
@[simp] theorem State.writeMram_rcd (s : State) (a : Nat) (bs : List Byte) : (s.writeMram a bs).rcd = s.rcd := rfl
@[simp] theorem State.writeMram_flt (s : State) (a : Nat) (bs : List Byte) : (s.writeMram a bs).flt = s.flt := rfl
@[simp] theorem State.writeMram_arb (s : State) (a : Nat) (bs : List Byte) : (s.writeMram a bs).arb = s.arb := rfl
@[simp] theorem State.writeMram_journal (s : State) (a : Nat) (bs : List Byte) : (s.writeMram a bs).journal = s.journal := rfl
@[simp] theorem State.writeMram_ckptA (s : State) (a : Nat) (bs : List Byte) : (s.writeMram a bs).ckptA = s.ckptA := rfl
@[simp] theorem State.writeMram_ckptB (s : State) (a : Nat) (bs : List Byte) : (s.writeMram a bs).ckptB = s.ckptB := rfl
@[simp] theorem State.writeMram_commit (s : State) (a : Nat) (bs : List Byte) : (s.writeMram a bs).commit = s.commit := rfl
@[simp] theorem State.writeMram_halted (s : State) (a : Nat) (bs : List Byte) : (s.writeMram a bs).halted = s.halted := rfl
@[simp] theorem State.writeMram_lane (s : State) (a : Nat) (bs : List Byte) : (s.writeMram a bs).lane = s.lane := rfl
@[simp] theorem State.writeMram_groups (s : State) (a : Nat) (bs : List Byte) : (s.writeMram a bs).groups = s.groups := rfl
@[simp] theorem State.writeMram_phases (s : State) (a : Nat) (bs : List Byte) : (s.writeMram a bs).phases = s.phases := rfl
@[simp] theorem State.writeMram_inputs (s : State) (a : Nat) (bs : List Byte) : (s.writeMram a bs).inputs = s.inputs := rfl
@[simp] theorem State.writeMram_accepted (s : State) (a : Nat) (bs : List Byte) : (s.writeMram a bs).accepted = s.accepted := rfl
@[simp] theorem State.writeMram_actedAt (s : State) (a : Nat) (bs : List Byte) : (s.writeMram a bs).actedAt = s.actedAt := rfl
@[simp] theorem State.writeMram_inputQueue (s : State) (a : Nat) (bs : List Byte) : (s.writeMram a bs).inputQueue = s.inputQueue := rfl
@[simp] theorem State.writeMram_snapshot (s : State) (a : Nat) (bs : List Byte) : (s.writeMram a bs).snapshot = s.snapshot := rfl
@[simp] theorem State.writeMram_snapTaken (s : State) (a : Nat) (bs : List Byte) : (s.writeMram a bs).snapTaken = s.snapTaken := rfl
@[simp] theorem State.writeMram_railSeen (s : State) (a : Nat) (bs : List Byte) : (s.writeMram a bs).railSeen = s.railSeen := rfl
@[simp] theorem State.writeMram_downDue (s : State) (a : Nat) (bs : List Byte) : (s.writeMram a bs).downDue = s.downDue := rfl
@[simp] theorem State.writeMram_snapDue (s : State) (a : Nat) (bs : List Byte) : (s.writeMram a bs).snapDue = s.snapDue := rfl
@[simp] theorem State.writeMram_sfBlocked (s : State) (a : Nat) (bs : List Byte) : (s.writeMram a bs).sfBlocked = s.sfBlocked := rfl
@[simp] theorem State.writeMram_hardLatched (s : State) (a : Nat) (bs : List Byte) : (s.writeMram a bs).hardLatched = s.hardLatched := rfl
@[simp] theorem State.writeMram_inhibit (s : State) (a : Nat) (bs : List Byte) : (s.writeMram a bs).inhibit = s.inhibit := rfl
@[simp] theorem State.writeMram_hollow (s : State) (a : Nat) (bs : List Byte) : (s.writeMram a bs).hollow = s.hollow := rfl
@[simp] theorem State.writeMram_coulomb (s : State) (a : Nat) (bs : List Byte) : (s.writeMram a bs).coulomb = s.coulomb := rfl
@[simp] theorem State.writeMram_cellTripped (s : State) (a : Nat) (bs : List Byte) : (s.writeMram a bs).cellTripped = s.cellTripped := rfl
@[simp] theorem State.writeMram_cellDue (s : State) (a : Nat) (bs : List Byte) : (s.writeMram a bs).cellDue = s.cellDue := rfl
@[simp] theorem State.writeMram_learned (s : State) (a : Nat) (bs : List Byte) : (s.writeMram a bs).learned = s.learned := rfl
@[simp] theorem State.writeMram_channels (s : State) (a : Nat) (bs : List Byte) : (s.writeMram a bs).channels = s.channels := rfl
@[simp] theorem State.writeMram_scan (s : State) (a : Nat) (bs : List Byte) : (s.writeMram a bs).scan = s.scan := rfl
@[simp] theorem State.writeMram_trim (s : State) (a : Nat) (bs : List Byte) : (s.writeMram a bs).trim = s.trim := rfl
@[simp] theorem State.writeMram_driven (s : State) (a : Nat) (bs : List Byte) : (s.writeMram a bs).driven = s.driven := rfl
@[simp] theorem State.writeMram_dsTable (s : State) (a : Nat) (bs : List Byte) : (s.writeMram a bs).dsTable = s.dsTable := rfl
@[simp] theorem State.writeMram_dsPorts (s : State) (a : Nat) (bs : List Byte) : (s.writeMram a bs).dsPorts = s.dsPorts := rfl
@[simp] theorem State.writeMram_dsTargets (s : State) (a : Nat) (bs : List Byte) : (s.writeMram a bs).dsTargets = s.dsTargets := rfl
@[simp] theorem State.writeMram_graphOffDue (s : State) (a : Nat) (bs : List Byte) : (s.writeMram a bs).graphOffDue = s.graphOffDue := rfl
@[simp] theorem State.writeMram_variantBE (s : State) (a : Nat) (bs : List Byte) : (s.writeMram a bs).variantBE = s.variantBE := rfl
@[simp] theorem State.writeMram_freeCtr (s : State) (a : Nat) (bs : List Byte) : (s.writeMram a bs).freeCtr = s.freeCtr := rfl
@[simp] theorem State.writeMram_upd (s : State) (a : Nat) (bs : List Byte) : (s.writeMram a bs).upd = s.upd := rfl
@[simp] theorem State.writeMram_casc (s : State) (a : Nat) (bs : List Byte) : (s.writeMram a bs).casc = s.casc := rfl
@[simp] theorem State.writeMram_clk (s : State) (a : Nat) (bs : List Byte) : (s.writeMram a bs).clk = s.clk := rfl
@[simp] theorem State.writeMram_tap (s : State) (a : Nat) (bs : List Byte) : (s.writeMram a bs).tap = s.tap := rfl
@[simp] theorem State.writeMram_outs (s : State) (a : Nat) (bs : List Byte) : (s.writeMram a bs).outs = s.outs := rfl

/-! ### State.at -/

@[simp] theorem State.at_pending (s : State) (t : Nat) : (s.at t).pending = s.pending := rfl
@[simp] theorem State.at_clocks (s : State) (t : Nat) : (s.at t).clocks = s.clocks := rfl
@[simp] theorem State.at_regs (s : State) (t : Nat) : (s.at t).regs = s.regs := rfl
@[simp] theorem State.at_clamped (s : State) (t : Nat) : (s.at t).clamped = s.clamped := rfl
@[simp] theorem State.at_updated (s : State) (t : Nat) : (s.at t).updated = s.updated := rfl
@[simp] theorem State.at_staleMark (s : State) (t : Nat) : (s.at t).staleMark = s.staleMark := rfl
@[simp] theorem State.at_staleSeen (s : State) (t : Nat) : (s.at t).staleSeen = s.staleSeen := rfl
@[simp] theorem State.at_remoteQ (s : State) (t : Nat) : (s.at t).remoteQ = s.remoteQ := rfl
@[simp] theorem State.at_timers (s : State) (t : Nat) : (s.at t).timers = s.timers := rfl
@[simp] theorem State.at_counts (s : State) (t : Nat) : (s.at t).counts = s.counts := rfl
@[simp] theorem State.at_mram (s : State) (t : Nat) : (s.at t).mram = s.mram := rfl
@[simp] theorem State.at_vresOk (s : State) (t : Nat) : (s.at t).vresOk = s.vresOk := rfl
@[simp] theorem State.at_image (s : State) (t : Nat) : (s.at t).image = s.image := rfl
@[simp] theorem State.at_nextImage (s : State) (t : Nat) : (s.at t).nextImage = s.nextImage := rfl
@[simp] theorem State.at_commits (s : State) (t : Nat) : (s.at t).commits = s.commits := rfl
@[simp] theorem State.at_otp (s : State) (t : Nat) : (s.at t).otp = s.otp := rfl
@[simp] theorem State.at_tw (s : State) (t : Nat) : (s.at t).tw = s.tw := rfl
@[simp] theorem State.at_spi (s : State) (t : Nat) : (s.at t).spi = s.spi := rfl
@[simp] theorem State.at_alertMask (s : State) (t : Nat) : (s.at t).alertMask = s.alertMask := rfl
@[simp] theorem State.at_alertSet (s : State) (t : Nat) : (s.at t).alertSet = s.alertSet := rfl
@[simp] theorem State.at_rcd (s : State) (t : Nat) : (s.at t).rcd = s.rcd := rfl
@[simp] theorem State.at_flt (s : State) (t : Nat) : (s.at t).flt = s.flt := rfl
@[simp] theorem State.at_arb (s : State) (t : Nat) : (s.at t).arb = s.arb := rfl
@[simp] theorem State.at_journal (s : State) (t : Nat) : (s.at t).journal = s.journal := rfl
@[simp] theorem State.at_ckptA (s : State) (t : Nat) : (s.at t).ckptA = s.ckptA := rfl
@[simp] theorem State.at_ckptB (s : State) (t : Nat) : (s.at t).ckptB = s.ckptB := rfl
@[simp] theorem State.at_commit (s : State) (t : Nat) : (s.at t).commit = s.commit := rfl
@[simp] theorem State.at_halted (s : State) (t : Nat) : (s.at t).halted = s.halted := rfl
@[simp] theorem State.at_lane (s : State) (t : Nat) : (s.at t).lane = s.lane := rfl
@[simp] theorem State.at_groups (s : State) (t : Nat) : (s.at t).groups = s.groups := rfl
@[simp] theorem State.at_phases (s : State) (t : Nat) : (s.at t).phases = s.phases := rfl
@[simp] theorem State.at_inputs (s : State) (t : Nat) : (s.at t).inputs = s.inputs := rfl
@[simp] theorem State.at_accepted (s : State) (t : Nat) : (s.at t).accepted = s.accepted := rfl
@[simp] theorem State.at_actedAt (s : State) (t : Nat) : (s.at t).actedAt = s.actedAt := rfl
@[simp] theorem State.at_inputQueue (s : State) (t : Nat) : (s.at t).inputQueue = s.inputQueue := rfl
@[simp] theorem State.at_snapshot (s : State) (t : Nat) : (s.at t).snapshot = s.snapshot := rfl
@[simp] theorem State.at_snapTaken (s : State) (t : Nat) : (s.at t).snapTaken = s.snapTaken := rfl
@[simp] theorem State.at_railSeen (s : State) (t : Nat) : (s.at t).railSeen = s.railSeen := rfl
@[simp] theorem State.at_downDue (s : State) (t : Nat) : (s.at t).downDue = s.downDue := rfl
@[simp] theorem State.at_snapDue (s : State) (t : Nat) : (s.at t).snapDue = s.snapDue := rfl
@[simp] theorem State.at_sfBlocked (s : State) (t : Nat) : (s.at t).sfBlocked = s.sfBlocked := rfl
@[simp] theorem State.at_hardLatched (s : State) (t : Nat) : (s.at t).hardLatched = s.hardLatched := rfl
@[simp] theorem State.at_inhibit (s : State) (t : Nat) : (s.at t).inhibit = s.inhibit := rfl
@[simp] theorem State.at_hollow (s : State) (t : Nat) : (s.at t).hollow = s.hollow := rfl
@[simp] theorem State.at_coulomb (s : State) (t : Nat) : (s.at t).coulomb = s.coulomb := rfl
@[simp] theorem State.at_cellTripped (s : State) (t : Nat) : (s.at t).cellTripped = s.cellTripped := rfl
@[simp] theorem State.at_cellDue (s : State) (t : Nat) : (s.at t).cellDue = s.cellDue := rfl
@[simp] theorem State.at_learned (s : State) (t : Nat) : (s.at t).learned = s.learned := rfl
@[simp] theorem State.at_channels (s : State) (t : Nat) : (s.at t).channels = s.channels := rfl
@[simp] theorem State.at_scan (s : State) (t : Nat) : (s.at t).scan = s.scan := rfl
@[simp] theorem State.at_trim (s : State) (t : Nat) : (s.at t).trim = s.trim := rfl
@[simp] theorem State.at_driven (s : State) (t : Nat) : (s.at t).driven = s.driven := rfl
@[simp] theorem State.at_dsTable (s : State) (t : Nat) : (s.at t).dsTable = s.dsTable := rfl
@[simp] theorem State.at_dsPorts (s : State) (t : Nat) : (s.at t).dsPorts = s.dsPorts := rfl
@[simp] theorem State.at_dsTargets (s : State) (t : Nat) : (s.at t).dsTargets = s.dsTargets := rfl
@[simp] theorem State.at_graphOffDue (s : State) (t : Nat) : (s.at t).graphOffDue = s.graphOffDue := rfl
@[simp] theorem State.at_variantBE (s : State) (t : Nat) : (s.at t).variantBE = s.variantBE := rfl
@[simp] theorem State.at_freeCtr (s : State) (t : Nat) : (s.at t).freeCtr = s.freeCtr := rfl
@[simp] theorem State.at_upd (s : State) (t : Nat) : (s.at t).upd = s.upd := rfl
@[simp] theorem State.at_casc (s : State) (t : Nat) : (s.at t).casc = s.casc := rfl
@[simp] theorem State.at_clk (s : State) (t : Nat) : (s.at t).clk = s.clk := rfl
@[simp] theorem State.at_tap (s : State) (t : Nat) : (s.at t).tap = s.tap := rfl
@[simp] theorem State.at_outs (s : State) (t : Nat) : (s.at t).outs = s.outs := rfl

/-! ### State.qualify -/

@[simp] theorem State.qualify_pending (s : State) (k : Count) (b : Bool) : (s.qualify k b).pending = s.pending := by unfold State.qualify; split <;> rfl
@[simp] theorem State.qualify_now (s : State) (k : Count) (b : Bool) : (s.qualify k b).now = s.now := by unfold State.qualify; split <;> rfl
@[simp] theorem State.qualify_clocks (s : State) (k : Count) (b : Bool) : (s.qualify k b).clocks = s.clocks := by unfold State.qualify; split <;> rfl
@[simp] theorem State.qualify_regs (s : State) (k : Count) (b : Bool) : (s.qualify k b).regs = s.regs := by unfold State.qualify; split <;> rfl
@[simp] theorem State.qualify_clamped (s : State) (k : Count) (b : Bool) : (s.qualify k b).clamped = s.clamped := by unfold State.qualify; split <;> rfl
@[simp] theorem State.qualify_updated (s : State) (k : Count) (b : Bool) : (s.qualify k b).updated = s.updated := by unfold State.qualify; split <;> rfl
@[simp] theorem State.qualify_staleMark (s : State) (k : Count) (b : Bool) : (s.qualify k b).staleMark = s.staleMark := by unfold State.qualify; split <;> rfl
@[simp] theorem State.qualify_staleSeen (s : State) (k : Count) (b : Bool) : (s.qualify k b).staleSeen = s.staleSeen := by unfold State.qualify; split <;> rfl
@[simp] theorem State.qualify_remoteQ (s : State) (k : Count) (b : Bool) : (s.qualify k b).remoteQ = s.remoteQ := by unfold State.qualify; split <;> rfl
@[simp] theorem State.qualify_timers (s : State) (k : Count) (b : Bool) : (s.qualify k b).timers = s.timers := by unfold State.qualify; split <;> rfl
@[simp] theorem State.qualify_mram (s : State) (k : Count) (b : Bool) : (s.qualify k b).mram = s.mram := by unfold State.qualify; split <;> rfl
@[simp] theorem State.qualify_vresOk (s : State) (k : Count) (b : Bool) : (s.qualify k b).vresOk = s.vresOk := by unfold State.qualify; split <;> rfl
@[simp] theorem State.qualify_image (s : State) (k : Count) (b : Bool) : (s.qualify k b).image = s.image := by unfold State.qualify; split <;> rfl
@[simp] theorem State.qualify_nextImage (s : State) (k : Count) (b : Bool) : (s.qualify k b).nextImage = s.nextImage := by unfold State.qualify; split <;> rfl
@[simp] theorem State.qualify_commits (s : State) (k : Count) (b : Bool) : (s.qualify k b).commits = s.commits := by unfold State.qualify; split <;> rfl
@[simp] theorem State.qualify_otp (s : State) (k : Count) (b : Bool) : (s.qualify k b).otp = s.otp := by unfold State.qualify; split <;> rfl
@[simp] theorem State.qualify_tw (s : State) (k : Count) (b : Bool) : (s.qualify k b).tw = s.tw := by unfold State.qualify; split <;> rfl
@[simp] theorem State.qualify_spi (s : State) (k : Count) (b : Bool) : (s.qualify k b).spi = s.spi := by unfold State.qualify; split <;> rfl
@[simp] theorem State.qualify_alertMask (s : State) (k : Count) (b : Bool) : (s.qualify k b).alertMask = s.alertMask := by unfold State.qualify; split <;> rfl
@[simp] theorem State.qualify_alertSet (s : State) (k : Count) (b : Bool) : (s.qualify k b).alertSet = s.alertSet := by unfold State.qualify; split <;> rfl
@[simp] theorem State.qualify_rcd (s : State) (k : Count) (b : Bool) : (s.qualify k b).rcd = s.rcd := by unfold State.qualify; split <;> rfl
@[simp] theorem State.qualify_flt (s : State) (k : Count) (b : Bool) : (s.qualify k b).flt = s.flt := by unfold State.qualify; split <;> rfl
@[simp] theorem State.qualify_arb (s : State) (k : Count) (b : Bool) : (s.qualify k b).arb = s.arb := by unfold State.qualify; split <;> rfl
@[simp] theorem State.qualify_journal (s : State) (k : Count) (b : Bool) : (s.qualify k b).journal = s.journal := by unfold State.qualify; split <;> rfl
@[simp] theorem State.qualify_ckptA (s : State) (k : Count) (b : Bool) : (s.qualify k b).ckptA = s.ckptA := by unfold State.qualify; split <;> rfl
@[simp] theorem State.qualify_ckptB (s : State) (k : Count) (b : Bool) : (s.qualify k b).ckptB = s.ckptB := by unfold State.qualify; split <;> rfl
@[simp] theorem State.qualify_commit (s : State) (k : Count) (b : Bool) : (s.qualify k b).commit = s.commit := by unfold State.qualify; split <;> rfl
@[simp] theorem State.qualify_halted (s : State) (k : Count) (b : Bool) : (s.qualify k b).halted = s.halted := by unfold State.qualify; split <;> rfl
@[simp] theorem State.qualify_lane (s : State) (k : Count) (b : Bool) : (s.qualify k b).lane = s.lane := by unfold State.qualify; split <;> rfl
@[simp] theorem State.qualify_groups (s : State) (k : Count) (b : Bool) : (s.qualify k b).groups = s.groups := by unfold State.qualify; split <;> rfl
@[simp] theorem State.qualify_phases (s : State) (k : Count) (b : Bool) : (s.qualify k b).phases = s.phases := by unfold State.qualify; split <;> rfl
@[simp] theorem State.qualify_inputs (s : State) (k : Count) (b : Bool) : (s.qualify k b).inputs = s.inputs := by unfold State.qualify; split <;> rfl
@[simp] theorem State.qualify_accepted (s : State) (k : Count) (b : Bool) : (s.qualify k b).accepted = s.accepted := by unfold State.qualify; split <;> rfl
@[simp] theorem State.qualify_actedAt (s : State) (k : Count) (b : Bool) : (s.qualify k b).actedAt = s.actedAt := by unfold State.qualify; split <;> rfl
@[simp] theorem State.qualify_inputQueue (s : State) (k : Count) (b : Bool) : (s.qualify k b).inputQueue = s.inputQueue := by unfold State.qualify; split <;> rfl
@[simp] theorem State.qualify_snapshot (s : State) (k : Count) (b : Bool) : (s.qualify k b).snapshot = s.snapshot := by unfold State.qualify; split <;> rfl
@[simp] theorem State.qualify_snapTaken (s : State) (k : Count) (b : Bool) : (s.qualify k b).snapTaken = s.snapTaken := by unfold State.qualify; split <;> rfl
@[simp] theorem State.qualify_railSeen (s : State) (k : Count) (b : Bool) : (s.qualify k b).railSeen = s.railSeen := by unfold State.qualify; split <;> rfl
@[simp] theorem State.qualify_downDue (s : State) (k : Count) (b : Bool) : (s.qualify k b).downDue = s.downDue := by unfold State.qualify; split <;> rfl
@[simp] theorem State.qualify_snapDue (s : State) (k : Count) (b : Bool) : (s.qualify k b).snapDue = s.snapDue := by unfold State.qualify; split <;> rfl
@[simp] theorem State.qualify_sfBlocked (s : State) (k : Count) (b : Bool) : (s.qualify k b).sfBlocked = s.sfBlocked := by unfold State.qualify; split <;> rfl
@[simp] theorem State.qualify_hardLatched (s : State) (k : Count) (b : Bool) : (s.qualify k b).hardLatched = s.hardLatched := by unfold State.qualify; split <;> rfl
@[simp] theorem State.qualify_inhibit (s : State) (k : Count) (b : Bool) : (s.qualify k b).inhibit = s.inhibit := by unfold State.qualify; split <;> rfl
@[simp] theorem State.qualify_hollow (s : State) (k : Count) (b : Bool) : (s.qualify k b).hollow = s.hollow := by unfold State.qualify; split <;> rfl
@[simp] theorem State.qualify_coulomb (s : State) (k : Count) (b : Bool) : (s.qualify k b).coulomb = s.coulomb := by unfold State.qualify; split <;> rfl
@[simp] theorem State.qualify_cellTripped (s : State) (k : Count) (b : Bool) : (s.qualify k b).cellTripped = s.cellTripped := by unfold State.qualify; split <;> rfl
@[simp] theorem State.qualify_cellDue (s : State) (k : Count) (b : Bool) : (s.qualify k b).cellDue = s.cellDue := by unfold State.qualify; split <;> rfl
@[simp] theorem State.qualify_learned (s : State) (k : Count) (b : Bool) : (s.qualify k b).learned = s.learned := by unfold State.qualify; split <;> rfl
@[simp] theorem State.qualify_channels (s : State) (k : Count) (b : Bool) : (s.qualify k b).channels = s.channels := by unfold State.qualify; split <;> rfl
@[simp] theorem State.qualify_scan (s : State) (k : Count) (b : Bool) : (s.qualify k b).scan = s.scan := by unfold State.qualify; split <;> rfl
@[simp] theorem State.qualify_trim (s : State) (k : Count) (b : Bool) : (s.qualify k b).trim = s.trim := by unfold State.qualify; split <;> rfl
@[simp] theorem State.qualify_driven (s : State) (k : Count) (b : Bool) : (s.qualify k b).driven = s.driven := by unfold State.qualify; split <;> rfl
@[simp] theorem State.qualify_dsTable (s : State) (k : Count) (b : Bool) : (s.qualify k b).dsTable = s.dsTable := by unfold State.qualify; split <;> rfl
@[simp] theorem State.qualify_dsPorts (s : State) (k : Count) (b : Bool) : (s.qualify k b).dsPorts = s.dsPorts := by unfold State.qualify; split <;> rfl
@[simp] theorem State.qualify_dsTargets (s : State) (k : Count) (b : Bool) : (s.qualify k b).dsTargets = s.dsTargets := by unfold State.qualify; split <;> rfl
@[simp] theorem State.qualify_graphOffDue (s : State) (k : Count) (b : Bool) : (s.qualify k b).graphOffDue = s.graphOffDue := by unfold State.qualify; split <;> rfl
@[simp] theorem State.qualify_variantBE (s : State) (k : Count) (b : Bool) : (s.qualify k b).variantBE = s.variantBE := by unfold State.qualify; split <;> rfl
@[simp] theorem State.qualify_freeCtr (s : State) (k : Count) (b : Bool) : (s.qualify k b).freeCtr = s.freeCtr := by unfold State.qualify; split <;> rfl
@[simp] theorem State.qualify_upd (s : State) (k : Count) (b : Bool) : (s.qualify k b).upd = s.upd := by unfold State.qualify; split <;> rfl
@[simp] theorem State.qualify_casc (s : State) (k : Count) (b : Bool) : (s.qualify k b).casc = s.casc := by unfold State.qualify; split <;> rfl
@[simp] theorem State.qualify_clk (s : State) (k : Count) (b : Bool) : (s.qualify k b).clk = s.clk := by unfold State.qualify; split <;> rfl
@[simp] theorem State.qualify_tap (s : State) (k : Count) (b : Bool) : (s.qualify k b).tap = s.tap := by unfold State.qualify; split <;> rfl
@[simp] theorem State.qualify_outs (s : State) (k : Count) (b : Bool) : (s.qualify k b).outs = s.outs := by unfold State.qualify; split <;> rfl

/-! ### State.setIface -/

@[simp] theorem State.setIface_pending (s : State) (p : Port) (f : Iface → Iface) : (s.setIface p f).pending = s.pending := by cases p <;> rfl
@[simp] theorem State.setIface_now (s : State) (p : Port) (f : Iface → Iface) : (s.setIface p f).now = s.now := by cases p <;> rfl
@[simp] theorem State.setIface_clocks (s : State) (p : Port) (f : Iface → Iface) : (s.setIface p f).clocks = s.clocks := by cases p <;> rfl
@[simp] theorem State.setIface_regs (s : State) (p : Port) (f : Iface → Iface) : (s.setIface p f).regs = s.regs := by cases p <;> rfl
@[simp] theorem State.setIface_clamped (s : State) (p : Port) (f : Iface → Iface) : (s.setIface p f).clamped = s.clamped := by cases p <;> rfl
@[simp] theorem State.setIface_updated (s : State) (p : Port) (f : Iface → Iface) : (s.setIface p f).updated = s.updated := by cases p <;> rfl
@[simp] theorem State.setIface_staleMark (s : State) (p : Port) (f : Iface → Iface) : (s.setIface p f).staleMark = s.staleMark := by cases p <;> rfl
@[simp] theorem State.setIface_staleSeen (s : State) (p : Port) (f : Iface → Iface) : (s.setIface p f).staleSeen = s.staleSeen := by cases p <;> rfl
@[simp] theorem State.setIface_remoteQ (s : State) (p : Port) (f : Iface → Iface) : (s.setIface p f).remoteQ = s.remoteQ := by cases p <;> rfl
@[simp] theorem State.setIface_timers (s : State) (p : Port) (f : Iface → Iface) : (s.setIface p f).timers = s.timers := by cases p <;> rfl
@[simp] theorem State.setIface_counts (s : State) (p : Port) (f : Iface → Iface) : (s.setIface p f).counts = s.counts := by cases p <;> rfl
@[simp] theorem State.setIface_mram (s : State) (p : Port) (f : Iface → Iface) : (s.setIface p f).mram = s.mram := by cases p <;> rfl
@[simp] theorem State.setIface_vresOk (s : State) (p : Port) (f : Iface → Iface) : (s.setIface p f).vresOk = s.vresOk := by cases p <;> rfl
@[simp] theorem State.setIface_image (s : State) (p : Port) (f : Iface → Iface) : (s.setIface p f).image = s.image := by cases p <;> rfl
@[simp] theorem State.setIface_nextImage (s : State) (p : Port) (f : Iface → Iface) : (s.setIface p f).nextImage = s.nextImage := by cases p <;> rfl
@[simp] theorem State.setIface_commits (s : State) (p : Port) (f : Iface → Iface) : (s.setIface p f).commits = s.commits := by cases p <;> rfl
@[simp] theorem State.setIface_otp (s : State) (p : Port) (f : Iface → Iface) : (s.setIface p f).otp = s.otp := by cases p <;> rfl
@[simp] theorem State.setIface_alertMask (s : State) (p : Port) (f : Iface → Iface) : (s.setIface p f).alertMask = s.alertMask := by cases p <;> rfl
@[simp] theorem State.setIface_alertSet (s : State) (p : Port) (f : Iface → Iface) : (s.setIface p f).alertSet = s.alertSet := by cases p <;> rfl
@[simp] theorem State.setIface_rcd (s : State) (p : Port) (f : Iface → Iface) : (s.setIface p f).rcd = s.rcd := by cases p <;> rfl
@[simp] theorem State.setIface_flt (s : State) (p : Port) (f : Iface → Iface) : (s.setIface p f).flt = s.flt := by cases p <;> rfl
@[simp] theorem State.setIface_arb (s : State) (p : Port) (f : Iface → Iface) : (s.setIface p f).arb = s.arb := by cases p <;> rfl
@[simp] theorem State.setIface_journal (s : State) (p : Port) (f : Iface → Iface) : (s.setIface p f).journal = s.journal := by cases p <;> rfl
@[simp] theorem State.setIface_ckptA (s : State) (p : Port) (f : Iface → Iface) : (s.setIface p f).ckptA = s.ckptA := by cases p <;> rfl
@[simp] theorem State.setIface_ckptB (s : State) (p : Port) (f : Iface → Iface) : (s.setIface p f).ckptB = s.ckptB := by cases p <;> rfl
@[simp] theorem State.setIface_commit (s : State) (p : Port) (f : Iface → Iface) : (s.setIface p f).commit = s.commit := by cases p <;> rfl
@[simp] theorem State.setIface_halted (s : State) (p : Port) (f : Iface → Iface) : (s.setIface p f).halted = s.halted := by cases p <;> rfl
@[simp] theorem State.setIface_lane (s : State) (p : Port) (f : Iface → Iface) : (s.setIface p f).lane = s.lane := by cases p <;> rfl
@[simp] theorem State.setIface_groups (s : State) (p : Port) (f : Iface → Iface) : (s.setIface p f).groups = s.groups := by cases p <;> rfl
@[simp] theorem State.setIface_phases (s : State) (p : Port) (f : Iface → Iface) : (s.setIface p f).phases = s.phases := by cases p <;> rfl
@[simp] theorem State.setIface_inputs (s : State) (p : Port) (f : Iface → Iface) : (s.setIface p f).inputs = s.inputs := by cases p <;> rfl
@[simp] theorem State.setIface_accepted (s : State) (p : Port) (f : Iface → Iface) : (s.setIface p f).accepted = s.accepted := by cases p <;> rfl
@[simp] theorem State.setIface_actedAt (s : State) (p : Port) (f : Iface → Iface) : (s.setIface p f).actedAt = s.actedAt := by cases p <;> rfl
@[simp] theorem State.setIface_inputQueue (s : State) (p : Port) (f : Iface → Iface) : (s.setIface p f).inputQueue = s.inputQueue := by cases p <;> rfl
@[simp] theorem State.setIface_snapshot (s : State) (p : Port) (f : Iface → Iface) : (s.setIface p f).snapshot = s.snapshot := by cases p <;> rfl
@[simp] theorem State.setIface_snapTaken (s : State) (p : Port) (f : Iface → Iface) : (s.setIface p f).snapTaken = s.snapTaken := by cases p <;> rfl
@[simp] theorem State.setIface_railSeen (s : State) (p : Port) (f : Iface → Iface) : (s.setIface p f).railSeen = s.railSeen := by cases p <;> rfl
@[simp] theorem State.setIface_downDue (s : State) (p : Port) (f : Iface → Iface) : (s.setIface p f).downDue = s.downDue := by cases p <;> rfl
@[simp] theorem State.setIface_snapDue (s : State) (p : Port) (f : Iface → Iface) : (s.setIface p f).snapDue = s.snapDue := by cases p <;> rfl
@[simp] theorem State.setIface_sfBlocked (s : State) (p : Port) (f : Iface → Iface) : (s.setIface p f).sfBlocked = s.sfBlocked := by cases p <;> rfl
@[simp] theorem State.setIface_hardLatched (s : State) (p : Port) (f : Iface → Iface) : (s.setIface p f).hardLatched = s.hardLatched := by cases p <;> rfl
@[simp] theorem State.setIface_inhibit (s : State) (p : Port) (f : Iface → Iface) : (s.setIface p f).inhibit = s.inhibit := by cases p <;> rfl
@[simp] theorem State.setIface_hollow (s : State) (p : Port) (f : Iface → Iface) : (s.setIface p f).hollow = s.hollow := by cases p <;> rfl
@[simp] theorem State.setIface_coulomb (s : State) (p : Port) (f : Iface → Iface) : (s.setIface p f).coulomb = s.coulomb := by cases p <;> rfl
@[simp] theorem State.setIface_cellTripped (s : State) (p : Port) (f : Iface → Iface) : (s.setIface p f).cellTripped = s.cellTripped := by cases p <;> rfl
@[simp] theorem State.setIface_cellDue (s : State) (p : Port) (f : Iface → Iface) : (s.setIface p f).cellDue = s.cellDue := by cases p <;> rfl
@[simp] theorem State.setIface_learned (s : State) (p : Port) (f : Iface → Iface) : (s.setIface p f).learned = s.learned := by cases p <;> rfl
@[simp] theorem State.setIface_channels (s : State) (p : Port) (f : Iface → Iface) : (s.setIface p f).channels = s.channels := by cases p <;> rfl
@[simp] theorem State.setIface_scan (s : State) (p : Port) (f : Iface → Iface) : (s.setIface p f).scan = s.scan := by cases p <;> rfl
@[simp] theorem State.setIface_trim (s : State) (p : Port) (f : Iface → Iface) : (s.setIface p f).trim = s.trim := by cases p <;> rfl
@[simp] theorem State.setIface_driven (s : State) (p : Port) (f : Iface → Iface) : (s.setIface p f).driven = s.driven := by cases p <;> rfl
@[simp] theorem State.setIface_dsTable (s : State) (p : Port) (f : Iface → Iface) : (s.setIface p f).dsTable = s.dsTable := by cases p <;> rfl
@[simp] theorem State.setIface_dsPorts (s : State) (p : Port) (f : Iface → Iface) : (s.setIface p f).dsPorts = s.dsPorts := by cases p <;> rfl
@[simp] theorem State.setIface_dsTargets (s : State) (p : Port) (f : Iface → Iface) : (s.setIface p f).dsTargets = s.dsTargets := by cases p <;> rfl
@[simp] theorem State.setIface_graphOffDue (s : State) (p : Port) (f : Iface → Iface) : (s.setIface p f).graphOffDue = s.graphOffDue := by cases p <;> rfl
@[simp] theorem State.setIface_variantBE (s : State) (p : Port) (f : Iface → Iface) : (s.setIface p f).variantBE = s.variantBE := by cases p <;> rfl
@[simp] theorem State.setIface_freeCtr (s : State) (p : Port) (f : Iface → Iface) : (s.setIface p f).freeCtr = s.freeCtr := by cases p <;> rfl
@[simp] theorem State.setIface_upd (s : State) (p : Port) (f : Iface → Iface) : (s.setIface p f).upd = s.upd := by cases p <;> rfl
@[simp] theorem State.setIface_casc (s : State) (p : Port) (f : Iface → Iface) : (s.setIface p f).casc = s.casc := by cases p <;> rfl
@[simp] theorem State.setIface_clk (s : State) (p : Port) (f : Iface → Iface) : (s.setIface p f).clk = s.clk := by cases p <;> rfl
@[simp] theorem State.setIface_tap (s : State) (p : Port) (f : Iface → Iface) : (s.setIface p f).tap = s.tap := by cases p <;> rfl
@[simp] theorem State.setIface_outs (s : State) (p : Port) (f : Iface → Iface) : (s.setIface p f).outs = s.outs := by cases p <;> rfl

end Sys2Proof.Machine
end

