-- ==== Sys2Proof/Laws/Store.lean ====
section
/-! SUPPORT. The laws of sparse data by key: what a replaced entry leaves, and that the canonical form is kept. -/

namespace Sys2Proof.Machine

section Sorted

variable {α : Type} [DecidableEq α] {d : α}

@[simp] theorem canonicalFrom_nil (b : Nat) : canonicalFrom d b [] = true := rfl

@[simp] theorem canonicalFrom_cons (b k : Nat) (v : α) (r : List (Nat × α)) :
    canonicalFrom d b ((k, v) :: r) = true ↔ b ≤ k ∧ v ≠ d ∧ canonicalFrom d (k + 1) r = true := by
  simp [canonicalFrom, and_assoc]

/-- The form from a bound is the form from any lower bound. -/
theorem canonicalFrom_mono {b c : Nat} {l : List (Nat × α)} (hc : c ≤ b) (h : canonicalFrom d b l = true) : canonicalFrom d c l = true := by
  cases l with
  | nil => rfl
  | cons x r =>
    obtain ⟨k, v⟩ := x
    simp only [canonicalFrom_cons] at h ⊢
    exact ⟨hc.trans h.1, h.2⟩

/-- Below its bound a canonical list holds the default. -/
theorem lookup_below {b a : Nat} {l : List (Nat × α)} (ha : a < b) (h : canonicalFrom d b l = true) : lookup d l a = d := by
  cases l with
  | nil => rfl
  | cons x r =>
    obtain ⟨k, v⟩ := x
    simp only [canonicalFrom_cons] at h
    simp [lookup, lt_of_lt_of_le ha h.1]

/-- Replacing an entry keeps the form. -/
theorem assign_canonicalFrom {b a : Nat} {v : α} {l : List (Nat × α)} (ha : b ≤ a) (h : canonicalFrom d b l = true) :
    canonicalFrom d b (assign d l a v) = true := by
  induction l generalizing b with
  | nil =>
    unfold assign
    split <;> simp_all
  | cons x r ih =>
    obtain ⟨k, w⟩ := x
    simp only [canonicalFrom_cons] at h
    unfold assign
    split
    · rename_i hk
      split
      · simpa using h
      · rename_i hv
        simp only [canonicalFrom_cons]
        exact ⟨ha, hv, hk, h.2⟩
    · split
      · rename_i hk
        subst hk
        split
        · exact canonicalFrom_mono (Nat.le_succ_of_le ha) h.2.2
        · rename_i hv
          simp only [canonicalFrom_cons]
          exact ⟨ha, hv, h.2.2⟩
      · simp only [canonicalFrom_cons]
        exact ⟨h.1, h.2.1, ih (by omega) h.2.2⟩

/-- A replaced entry reads as its new value. -/
theorem lookup_assign_sameFrom {b a : Nat} {v : α} {l : List (Nat × α)} (h : canonicalFrom d b l = true) : lookup d (assign d l a v) a = v := by
  induction l generalizing b with
  | nil =>
    unfold assign
    split <;> simp_all [lookup]
  | cons x r ih =>
    obtain ⟨k, w⟩ := x
    simp only [canonicalFrom_cons] at h
    unfold assign
    split
    · rename_i hk
      split
      · rename_i hv
        simp [lookup, hk, hv]
      · simp [lookup]
    · split
      · rename_i hk
        subst hk
        split
        · rename_i hv
          rw [hv]
          exact lookup_below (Nat.lt_succ_self _) h.2.2
        · simp [lookup]
      · rename_i h1 h2
        simp [lookup, h1, h2, ih h.2.2]

/-- Every other entry reads as before. -/
theorem lookup_assign_otherFrom {b a c : Nat} {v : α} {l : List (Nat × α)} (hc : c ≠ a) (h : canonicalFrom d b l = true) :
    lookup d (assign d l a v) c = lookup d l c := by
  induction l generalizing b with
  | nil =>
    unfold assign
    split
    · rfl
    · simp [lookup, hc]
  | cons x r ih =>
    obtain ⟨k, w⟩ := x
    simp only [canonicalFrom_cons] at h
    unfold assign
    split
    · rename_i hk
      split
      · rfl
      · simp only [lookup, hc, if_false]
        split
        · rename_i hca
          simp [lt_trans hca hk]
        · rfl
    · split
      · rename_i hk
        subst hk
        split
        · simp only [lookup, hc, if_false]
          split
          · rename_i hca
            exact lookup_below (Nat.lt_succ_of_lt hca) h.2.2
          · rfl
        · simp [lookup, hc]
      · simp [lookup, ih h.2.2]

theorem canonical_nil : canonical d [] = true := rfl

theorem assign_canonical {a : Nat} {v : α} {l : List (Nat × α)} (h : canonical d l = true) : canonical d (assign d l a v) = true :=
  assign_canonicalFrom (Nat.zero_le _) h

theorem lookup_assign_same {a : Nat} {v : α} {l : List (Nat × α)} (h : canonical d l = true) : lookup d (assign d l a v) a = v :=
  lookup_assign_sameFrom h

theorem lookup_assign_other {a c : Nat} {v : α} {l : List (Nat × α)} (hc : c ≠ a) (h : canonical d l = true) :
    lookup d (assign d l a v) c = lookup d l c :=
  lookup_assign_otherFrom hc h

/-- A list of replacements keeps the form. -/
theorem assignAll_canonical {a : Nat} {vs : List α} {l : List (Nat × α)} (h : canonical d l = true) : canonical d (assignAll d l a vs) = true := by
  induction vs generalizing l a with
  | nil => exact h
  | cons v vs ih => exact ih (assign_canonical h)

/-- Outside the keys replaced every entry reads as before. -/
theorem lookup_assignAll_outside {a c : Nat} {vs : List α} {l : List (Nat × α)} (h : canonical d l = true) (hc : c < a ∨ a + vs.length ≤ c) :
    lookup d (assignAll d l a vs) c = lookup d l c := by
  induction vs generalizing l a with
  | nil => rfl
  | cons v vs ih =>
    simp only [List.length_cons] at hc
    rw [assignAll, ih (assign_canonical h) (by omega), lookup_assign_other (by omega) h]

/-- The keys replaced read as the values given. -/
theorem lookup_assignAll_inside {a k : Nat} {vs : List α} {l : List (Nat × α)} (h : canonical d l = true) (hk : k < vs.length) :
    lookup d (assignAll d l a vs) (a + k) = vs[k] := by
  induction vs generalizing l a k with
  | nil => simp at hk
  | cons v vs ih =>
    rw [assignAll]
    cases k with
    | zero =>
      rw [lookup_assignAll_outside (assign_canonical h) (by omega)]
      exact lookup_assign_same h
    | succ k =>
      have := ih (a := a + 1) (k := k) (assign_canonical (a := a) (v := v) h) (by simpa using hk)
      simpa [Nat.add_assoc, Nat.add_comm 1 k] using this

/-- Leaving out entries keeps the form. -/
theorem filter_canonicalFrom {b : Nat} {l : List (Nat × α)} (f : Nat × α → Bool) (h : canonicalFrom d b l = true) :
    canonicalFrom d b (l.filter f) = true := by
  induction l generalizing b with
  | nil => rfl
  | cons x r ih =>
    obtain ⟨k, v⟩ := x
    simp only [canonicalFrom_cons] at h
    rw [List.filter_cons]
    split
    · simp only [canonicalFrom_cons]
      exact ⟨h.1, h.2.1, ih h.2.2⟩
    · exact canonicalFrom_mono (Nat.le_succ_of_le h.1) (ih h.2.2)

theorem filter_canonical {l : List (Nat × α)} (f : Nat × α → Bool) (h : canonical d l = true) : canonical d (l.filter f) = true :=
  filter_canonicalFrom f h

end Sorted

section Keyed

variable {κ α : Type} [DecidableEq κ]

@[simp] theorem find_nil (k : κ) : find ([] : List (κ × α)) k = none := rfl

@[simp] theorem find_dropKey_same (l : List (κ × α)) (k : κ) : find (dropKey l k) k = none := by
  simp [find, dropKey]

theorem find_dropKey_other (l : List (κ × α)) {j k : κ} (h : j ≠ k) : find (dropKey l k) j = find l j := by
  induction l with
  | nil => rfl
  | cons x r ih =>
    simp only [find, dropKey] at ih ⊢
    rw [List.filter_cons]
    split
    · rw [List.find?_cons, List.find?_cons]
      split
      · rfl
      · exact ih
    · rename_i hx
      have hk : x.1 = k := by simpa using hx
      rw [List.find?_cons_of_neg (by simp [hk, Ne.symm h])]
      exact ih

@[simp] theorem find_putKey_same (l : List (κ × α)) (k : κ) (v : α) : find (putKey l k v) k = some v := by
  have hd : List.find? (fun p => decide (p.1 = k)) (dropKey l k) = none := by
    have := find_dropKey_same l k
    simpa [find] using this
  simp [find, putKey, List.find?_append, hd]

theorem find_putKey_other (l : List (κ × α)) {j k : κ} (v : α) (h : j ≠ k) : find (putKey l k v) j = find l j := by
  have hd := find_dropKey_other l h
  simp only [find, putKey, List.find?_append] at hd ⊢
  rw [← hd]
  cases List.find? (fun p => decide (p.1 = j)) (dropKey l k) <;> simp [Ne.symm h]

end Keyed

end Sys2Proof.Machine
end

