-- ==== Sys2Proof/Laws/Ops.lean ====
section
/-! SUPPORT. What the named operations do to register words, and the end of every command. -/

namespace Sys2Proof

open Machine

/-! ### Register words -/

@[simp] theorem setReg_regsOk {s : State} (h : RegsOk s) (a : Nat) (w : Word) : RegsOk (s.setReg a w) := assign_canonical h

theorem reg_setReg {s : State} (h : RegsOk s) (a c : Nat) (w : Word) : (s.setReg a w).reg c = if c = a then w else s.reg c := by
  split
  · rename_i hc
    subst hc
    exact lookup_assign_same h
  · rename_i hc
    exact lookup_assign_other hc h

@[simp] theorem reg_setReg_same {s : State} (h : RegsOk s) (a : Nat) (w : Word) : (s.setReg a w).reg a = w := lookup_assign_same h

theorem reg_setReg_other {s : State} (h : RegsOk s) {a c : Nat} (w : Word) (hc : c ≠ a) : (s.setReg a w).reg c = s.reg c :=
  lookup_assign_other hc h

/-- Equal register words give equal readings. -/
theorem reg_of_regs {s n : State} (h : n.regs = s.regs) (a : Nat) : n.reg a = s.reg a := by simp [State.reg, h]

theorem regsOk_of_regs {s n : State} (h : n.regs = s.regs) : RegsOk n ↔ RegsOk s := by simp [RegsOk, h]

@[simp] theorem at_regsOk {s : State} (t : Nat) : RegsOk (s.at t) ↔ RegsOk s := regsOk_of_regs (by simp)

@[simp] theorem reg_at (s : State) (t a : Nat) : (s.at t).reg a = s.reg a := reg_of_regs (by simp) a

@[simp] theorem reg_setIface (s : State) (p : Port) (f : Iface → Iface) (a : Nat) : (s.setIface p f).reg a = s.reg a := reg_of_regs (by simp) a

@[simp] theorem reg_start (s : State) (k : Timer) (a : Nat) : (s.start k).reg a = s.reg a := rfl

@[simp] theorem reg_stop (s : State) (k : Timer) (a : Nat) : (s.stop k).reg a = s.reg a := rfl

@[simp] theorem reg_clearCount (s : State) (k : Count) (a : Nat) : (s.clearCount k).reg a = s.reg a := rfl

/-! ### What is kept -/

@[simp] theorem kept_refl (s : State) (l : List Nat) : Kept s s l := fun _ _ => rfl

theorem kept_trans {s m n : State} {l : List Nat} (h1 : Kept s m l) (h2 : Kept m n l) : Kept s n l := fun a ha => (h2 a ha).trans (h1 a ha)

theorem kept_mono {s n : State} {l l' : List Nat} (h : Kept s n l) (hl : ∀ a ∈ l, a ∈ l') : Kept s n l' := fun a ha => h a (fun hm => ha (hl a hm))

theorem kept_of_regs {s n : State} {l : List Nat} (h : n.regs = s.regs) : Kept s n l := fun a _ => reg_of_regs h a

theorem kept_setReg {s : State} (h : RegsOk s) {l : List Nat} {a : Nat} (w : Word) (ha : a ∈ l) : Kept s (s.setReg a w) l := fun _ hc =>
  reg_setReg_other h w (fun e => hc (e ▸ ha))

/-! ### Host targets -/

@[simp] theorem iface_setIface (s : State) (p : Port) (f : Iface → Iface) : (s.setIface p f).iface p = f (s.iface p) := by cases p <;> rfl

theorem iface_setIface_other (s : State) {p q : Port} (f : Iface → Iface) (h : q ≠ p) : (s.setIface p f).iface q = s.iface q := by
  cases p <;> cases q <;> first | rfl | exact absurd rfl h

/-- Two changes of one target's state are one. -/
theorem setIface_setIface (s : State) (p : Port) (f g : Iface → Iface) : (s.setIface p f).setIface p g = s.setIface p (fun i => g (f i)) := by
  cases p <;> rfl

/-- A target whose own state alone changed, at the end of a command. -/
theorem onlyTarget_finish {s0 s : State} (p : Port) (f : Iface → Iface) (h : s.pending = s0.pending) :
    ∃ n, finish s0 (s.setIface p f) = .next n ∧ n.iface p = f (s.iface p) ∧ OnlyTarget p s n := by
  refine ⟨_, rfl, ?_, ?_⟩
  · cases p <;> rfl
  · obtain ⟨_⟩ := s
    cases p <;> simp_all [OnlyTarget, State.setIface, State.iface]

/-! ### The end of every command -/

/-- Every command that ends by finish answers a next state: the queue as it was found, and the outputs that the registers give. -/
theorem finish_next (s0 s : State) : ∃ n, finish s0 s = .next n ∧ n.pending = s0.pending ∧ n.regs = s.regs ∧ n.mram = s.mram := ⟨_, rfl, rfl, rfl, rfl⟩

/-- The outputs are a view: they do not depend on the queue or on the levels driven before. -/
theorem outputs_view (s : State) (q : List Instr) (o : Outs) : outputs { s with pending := q, outs := o } = outputs s := rfl

theorem finish_outs {s0 s n : State} (h : finish s0 s = .next n) : n.outs = outputs n := by
  have e : n = { s with pending := s0.pending, outs := outputs s } := by
    simp only [finish, Host.Outcome.next.injEq] at h
    exact h.symm
  subst e
  exact (outputs_view s s0.pending (outputs s)).symm

theorem finish_pending {s0 s n : State} (h : finish s0 s = .next n) : n.pending = s0.pending := by
  simp only [finish, Host.Outcome.next.injEq] at h
  exact h ▸ rfl

end Sys2Proof
end

