-- ==== Sys2Proof/Laws/At.lean ====
section
/-! SUPPORT. What shelf time does not touch: every reading of the state but those of ages and expiries is the same at a later instant. -/

namespace Sys2Proof

open Machine

section Readings

variable (s : State) (t : Nat)

@[simp] theorem regN_at (a : Nat) : (s.at t).regN a = s.regN a := by simp [State.regN]
@[simp] theorem cw_at (c k : Nat) : (s.at t).cw c k = s.cw c k := by simp [State.cw]
@[simp] theorem sw_at (n k : Nat) : (s.at t).sw n k = s.sw n k := by simp [State.sw]
@[simp] theorem fld_at (a hi lo : Nat) : (s.at t).fld a hi lo = s.fld a hi lo := by simp [State.fld]
@[simp] theorem flag_at (a n : Nat) : (s.at t).flag a n = s.flag a n := by simp [State.flag]
@[simp] theorem isClamped_at (a : Nat) : (s.at t).isClamped a = s.isClamped a := by simp [State.isClamped]
@[simp] theorem code_at (c : Nat) : (s.at t).code c = s.code c := by simp [State.code]
@[simp] theorem held_at (c : Nat) : (s.at t).held c = s.held c := by simp [State.held]
@[simp] theorem safe_at (c : Nat) : (s.at t).safe c = s.safe c := by simp [State.safe]
@[simp] theorem offline_at (c : Nat) : (s.at t).offline c = s.offline c := by simp [State.offline]
@[simp] theorem running_at (k : Timer) : (s.at t).running k = s.running k := by simp [State.running]
@[simp] theorem count_at (k : Count) : (s.at t).count k = s.count k := by simp [State.count]
@[simp] theorem sys_at : (s.at t).sys = s.sys := by simp [State.sys]
@[simp] theorem holder_at : (s.at t).holder = s.holder := by simp [State.holder]
@[simp] theorem laneHeld_at : (s.at t).laneHeld = s.laneHeld := by simp [State.laneHeld]
@[simp] theorem laneRuns_at : (s.at t).laneRuns = s.laneRuns := by simp [State.laneRuns]
@[simp] theorem works_at : (s.at t).works = s.works := by simp [State.works]
@[simp] theorem ctx_at (c : Nat) : (s.at t).ctx? c = s.ctx? c := by simp [State.ctx?]
@[simp] theorem ofType_at (ty : CtxType) : (s.at t).ofType ty = s.ofType ty := by simp [State.ofType]
@[simp] theorem isType_at (c : Nat) (ty : CtxType) : (s.at t).isType c ty = s.isType c ty := by simp [State.isType]
@[simp] theorem inst_at (ty : CtxType) (i : Nat) : (s.at t).inst? ty i = s.inst? ty i := by simp [State.inst?]
@[simp] theorem grp_at (c : Nat) : (s.at t).grp c = s.grp c := by simp [State.grp]
@[simp] theorem phase_at (p : Nat) : (s.at t).phase p = s.phase p := by simp [State.phase]
@[simp] theorem slot_at (n : Nat) : (s.at t).slot n = s.slot n := by simp [State.slot]
@[simp] theorem iface_at (p : Port) : (s.at t).iface p = s.iface p := by cases p <;> simp [State.iface]
@[simp] theorem service_at (p : Port) : (s.at t).service p = s.service p := by simp [State.service]
@[simp] theorem drive_at (g : Nat) : (s.at t).drive g = s.drive g := by simp [State.drive]
@[simp] theorem enhanced_at (g : Nat) : (s.at t).enhanced g = s.enhanced g := by simp [State.enhanced]
@[simp] theorem owner_at (g : Nat) : (s.at t).owner g = s.owner g := by simp [State.owner]
@[simp] theorem chan_at (g : Nat) : (s.at t).chan g = s.chan g := by simp [State.chan]
@[simp] theorem channelOf_at (c : Nat) : (s.at t).channelOf c = s.channelOf c := by simp [State.channelOf]
@[simp] theorem safeRec_at (c : Nat) : (s.at t).safeRec c = s.safeRec c := by simp [State.safeRec]
@[simp] theorem active_at (r : CtxRec) : (s.at t).active r = s.active r := by simp [State.active]
@[simp] theorem group_at (c : Nat) : (s.at t).group? c = s.group? c := by simp [State.group?]
@[simp] theorem grpEn_at (c : Nat) : (s.at t).grpEn c = s.grpEn c := by simp [State.grpEn]
@[simp] theorem grpMode_at (c : Nat) : (s.at t).grpMode c = s.grpMode c := by simp [State.grpMode]
@[simp] theorem grpDir_at (c : Nat) : (s.at t).grpDir c = s.grpDir c := by simp [State.grpDir]

end Readings

end Sys2Proof
end

