-- ==== Sys2Proof/Laws/Bits.lean ====
section
/-! SUPPORT. Fields of a word: what a replaced field reads as, and that every other bit stays (R8). -/

namespace Sys2Proof

open Machine

/-- The number a word with a replaced field spells: the bits above, the field, the bits below. -/
theorem putBits_toNat {w : Word} {hi lo v : Nat} (hl : lo ≤ hi + 1) (hh : hi < 18) :
    (putBits w hi lo v).toNat = 2 ^ lo * (2 ^ (hi + 1 - lo) * (w.toNat / 2 ^ (hi + 1)) + v % 2 ^ (hi + 1 - lo)) + w.toNat % 2 ^ lo := by
  have hw := w.isLt
  obtain ⟨k, hk⟩ : ∃ k, hi + 1 = lo + k := ⟨hi + 1 - lo, by omega⟩
  have ek : hi + 1 - lo = k := by omega
  have split1 : w.toNat / 2 ^ lo = 2 ^ k * (w.toNat / 2 ^ (hi + 1)) + w.toNat / 2 ^ lo % 2 ^ k := by
    rw [hk, Nat.pow_add, ← Nat.div_div_eq_div_mul]
    exact (Nat.div_add_mod _ _).symm
  have split0 : w.toNat = 2 ^ lo * (w.toNat / 2 ^ lo) + w.toNat % 2 ^ lo := (Nat.div_add_mod _ _).symm
  have vm : v % 2 ^ k < 2 ^ k := Nat.mod_lt _ (Nat.two_pow_pos k)
  have lm : w.toNat % 2 ^ lo < 2 ^ lo := Nat.mod_lt _ (Nat.two_pow_pos lo)
  have top : w.toNat / 2 ^ (hi + 1) < 2 ^ (18 - (hi + 1)) := by
    rw [Nat.div_lt_iff_lt_mul (Nat.two_pow_pos _), ← Nat.pow_add]
    have : 18 - (hi + 1) + (hi + 1) = 18 := by omega
    rw [this]
    exact hw
  have small : 2 ^ lo * (2 ^ k * (w.toNat / 2 ^ (hi + 1)) + v % 2 ^ k) + w.toNat % 2 ^ lo < 2 ^ 18 := by
    have h1 : 2 ^ k * (w.toNat / 2 ^ (hi + 1)) + v % 2 ^ k < 2 ^ k * 2 ^ (18 - (hi + 1)) := by
      calc _ < 2 ^ k * (w.toNat / 2 ^ (hi + 1)) + 2 ^ k := by omega
        _ = 2 ^ k * (w.toNat / 2 ^ (hi + 1) + 1) := by ring
        _ ≤ _ := Nat.mul_le_mul_left _ top
    have h2 : (2 : Nat) ^ 18 = 2 ^ lo * (2 ^ k * 2 ^ (18 - (hi + 1))) := by
      rw [← Nat.pow_add, ← Nat.pow_add]
      congr 1
      omega
    rw [h2]
    calc _ < 2 ^ lo * (2 ^ k * (w.toNat / 2 ^ (hi + 1)) + v % 2 ^ k) + 2 ^ lo := by omega
      _ = 2 ^ lo * (2 ^ k * (w.toNat / 2 ^ (hi + 1)) + v % 2 ^ k + 1) := by ring
      _ ≤ _ := Nat.mul_le_mul_left _ h1
  simp only [putBits, bits, Word.ofNat, BitVec.toNat_ofNat, ek]
  have e : w.toNat - w.toNat / 2 ^ lo % 2 ^ k * 2 ^ lo + v % 2 ^ k * 2 ^ lo = 2 ^ lo * (2 ^ k * (w.toNat / 2 ^ (hi + 1)) + v % 2 ^ k) + w.toNat % 2 ^ lo := by
    have expand : w.toNat = 2 ^ lo * (2 ^ k * (w.toNat / 2 ^ (hi + 1))) + w.toNat / 2 ^ lo % 2 ^ k * 2 ^ lo + w.toNat % 2 ^ lo := by
      calc w.toNat = 2 ^ lo * (w.toNat / 2 ^ lo) + w.toNat % 2 ^ lo := split0
        _ = 2 ^ lo * (2 ^ k * (w.toNat / 2 ^ (hi + 1)) + w.toNat / 2 ^ lo % 2 ^ k) + w.toNat % 2 ^ lo := by rw [← split1]
        _ = _ := by ring
    have : w.toNat - w.toNat / 2 ^ lo % 2 ^ k * 2 ^ lo = 2 ^ lo * (2 ^ k * (w.toNat / 2 ^ (hi + 1))) + w.toNat % 2 ^ lo := by omega
    rw [this]
    ring
  rw [e, Nat.mod_eq_of_lt small]

/-- Each bit of a word with a replaced field. -/
theorem getLsbD_putBits {w : Word} {hi lo v i : Nat} (hl : lo ≤ hi + 1) (hh : hi < 18) :
    (putBits w hi lo v).getLsbD i = if lo ≤ i ∧ i ≤ hi then v.testBit (i - lo) else w.getLsbD i := by
  have lm : w.toNat % 2 ^ lo < 2 ^ lo := Nat.mod_lt _ (Nat.two_pow_pos lo)
  have vm : v % 2 ^ (hi + 1 - lo) < 2 ^ (hi + 1 - lo) := Nat.mod_lt _ (Nat.two_pow_pos _)
  simp only [BitVec.getLsbD, putBits_toNat hl hh]
  rw [Nat.testBit_two_pow_mul_add _ lm]
  by_cases h1 : i < lo
  · simp [h1, Nat.not_le.mpr h1, Nat.testBit_mod_two_pow]
  · simp only [h1, if_false]
    rw [Nat.testBit_two_pow_mul_add _ vm]
    by_cases h2 : i ≤ hi
    · have h3 : i - lo < hi + 1 - lo := by omega
      simp [h3, h2, Nat.not_lt.mp h1, Nat.testBit_mod_two_pow]
    · have h3 : ¬ i - lo < hi + 1 - lo := by omega
      have h4 : hi + 1 + (i - lo - (hi + 1 - lo)) = i := by omega
      simp only [h3, if_false, h2, and_false, Nat.testBit_div_two_pow]
      congr 1
      omega

@[simp] theorem bit_putBit_same {w : Word} {n : Nat} (b : Bool) (h : n < 18) : bit (putBit w n b) n = b := by
  unfold bit putBit
  rw [getLsbD_putBits (by omega) h]
  cases b <;> simp

theorem bit_putBit_other {w : Word} {n m : Nat} (b : Bool) (h : n < 18) (hm : m ≠ n) : bit (putBit w n b) m = bit w m := by
  unfold bit putBit
  rw [getLsbD_putBits (by omega) h]
  have : ¬ (n ≤ m ∧ m ≤ n) := by omega
  simp [this]

theorem bit_putBits_other {w : Word} {hi lo v m : Nat} (hl : lo ≤ hi + 1) (h : hi < 18) (hm : m < lo ∨ hi < m) : bit (putBits w hi lo v) m = bit w m := by
  unfold bit
  rw [getLsbD_putBits hl h]
  have : ¬ (lo ≤ m ∧ m ≤ hi) := by omega
  simp [this]

/-- A field as a sum of its bits: two words that agree on the bits of a field agree on the field. -/
theorem bits_congr {w x : Word} {hi lo : Nat} (h : ∀ i, lo ≤ i → i ≤ hi → w.getLsbD i = x.getLsbD i) : bits w hi lo = bits x hi lo := by
  apply Nat.eq_of_testBit_eq
  intro i
  simp only [bits, Nat.testBit_mod_two_pow, Nat.testBit_div_two_pow]
  by_cases hi' : i < hi + 1 - lo
  · have := h (i + lo) (by omega) (by omega)
    simp only [BitVec.getLsbD] at this
    rw [this]
  · simp [hi']

theorem bits_putBits_same {w : Word} {hi lo v : Nat} (hl : lo ≤ hi + 1) (h : hi < 18) : bits (putBits w hi lo v) hi lo = v % 2 ^ (hi + 1 - lo) := by
  apply Nat.eq_of_testBit_eq
  intro i
  simp only [bits, Nat.testBit_mod_two_pow, Nat.testBit_div_two_pow]
  by_cases hi' : i < hi + 1 - lo
  · have := getLsbD_putBits (w := w) (v := v) (i := i + lo) hl h
    simp only [BitVec.getLsbD] at this
    rw [this]
    have c : lo ≤ i + lo ∧ i + lo ≤ hi := by omega
    simp [c, hi']
  · simp [hi']

theorem bits_putBits_other {w : Word} {hi lo v a b : Nat} (hl : lo ≤ hi + 1) (h : hi < 18) (hd : a < lo ∨ hi < b) : bits (putBits w hi lo v) a b = bits w a b := by
  apply bits_congr
  intro i h1 h2
  rw [getLsbD_putBits hl h]
  have : ¬ (lo ≤ i ∧ i ≤ hi) := by omega
  simp [this]

theorem bits_putBit_other {w : Word} {n hi lo : Nat} (b : Bool) (h : n < 18) (hd : hi < n ∨ n < lo) : bits (putBit w n b) hi lo = bits w hi lo :=
  bits_putBits_other (by omega) h (by omega)

end Sys2Proof
end

