-- ==== Sys2Proof/Laws/Recorder.lean ====
section
/-! SUPPORT. What a record may do to the state: its words and the recorder, nothing else. -/

namespace Sys2Proof

open Machine

theorem onlyRecorder_refl (s : State) : OnlyRecorder s s := ⟨rfl, fun h => ⟨h, kept_refl s _⟩⟩

theorem onlyRecorder_trans {a b c : State} (h1 : OnlyRecorder a b) (h2 : OnlyRecorder b c) : OnlyRecorder a c := by
  refine ⟨?_, fun h => ⟨(h2.2 (h1.2 h).1).1, kept_trans (h1.2 h).2 (h2.2 (h1.2 h).1).2⟩⟩
  have e1 := h1.1
  have e2 := h2.1
  rw [e2, e1]

theorem onlyRecorder_rcd (s : State) (x : Recorder) : OnlyRecorder s { s with rcd := x } := ⟨rfl, fun h => ⟨h, fun _ _ => rfl⟩⟩

theorem onlyRecorder_setReg (s : State) {a : Nat} (w : Word) (ha : a ∈ recordWords) : OnlyRecorder s (s.setReg a w) :=
  ⟨rfl, fun h => ⟨setReg_regsOk h a w, kept_setReg h w ha⟩⟩

theorem onlyRecorder_setFlag (s : State) {a : Nat} (n : Nat) (b : Bool) (ha : a ∈ recordWords) : OnlyRecorder s (s.setFlag a n b) := onlyRecorder_setReg s _ ha

theorem onlyRecorder_inc (s : State) {a : Nat} (ha : a ∈ recordWords) : OnlyRecorder s (s.inc a) := onlyRecorder_setReg s _ ha

theorem onlyRecorder_stage (s : State) (r : Rec) : OnlyRecorder s (s.stage r) := onlyRecorder_rcd s _

theorem onlyRecorder_ite {s a b : State} {c : Prop} [Decidable c] (ha : OnlyRecorder s a) (hb : OnlyRecorder s b) : OnlyRecorder s (if c then a else b) := by
  split <;> assumption

theorem sts_mem : BB_STS ∈ recordWords := by decide
theorem missCnt_mem : BB_MISSCNT ∈ recordWords := by decide
theorem dropCnt_mem : BB_DROPCNT ∈ recordWords := by decide

theorem stageOverflow_only (s : State) (n : Nat) : OnlyRecorder s (s.stageOverflow n) := by
  unfold State.stageOverflow
  split
  · exact onlyRecorder_ite (onlyRecorder_trans (onlyRecorder_stage s _) (onlyRecorder_rcd _ _)) (onlyRecorder_refl s)
  · exact onlyRecorder_refl s

theorem loseRec_only (s : State) (r : Rec) : OnlyRecorder s (s.loseRec r) := by
  have h : OnlyRecorder s ((s.inc BB_MISSCNT).setFlag BB_STS 7 true) := onlyRecorder_trans (onlyRecorder_inc s missCnt_mem) (onlyRecorder_setFlag _ 7 true sts_mem)
  unfold State.loseRec
  refine onlyRecorder_ite ?_ (onlyRecorder_trans h (onlyRecorder_rcd _ _))
  exact onlyRecorder_trans h (onlyRecorder_trans (onlyRecorder_setFlag _ 4 true sts_mem) (onlyRecorder_rcd _ _))

/-- A written lane record touches the recorder alone (R386). -/
theorem writeLane_only (s : State) (r : Rec) : OnlyRecorder s (s.writeLane r) :=
  onlyRecorder_trans (stageOverflow_only s r.len) (onlyRecorder_ite (onlyRecorder_stage _ r) (loseRec_only _ r))

theorem writeRec_only (s : State) (code c : Nat) (p : List Byte) : OnlyRecorder s (s.writeRec code c p) :=
  onlyRecorder_ite (writeLane_only s _) (onlyRecorder_refl s)

theorem onlyRecorder_foldl {α : Type} (l : List α) (f : State → α → State) (hf : ∀ s x, OnlyRecorder s (f s x)) (s : State) : OnlyRecorder s (l.foldl f s) := by
  induction l generalizing s with
  | nil => exact onlyRecorder_refl s
  | cons x r ih => exact onlyRecorder_trans (hf s x) (ih (f s x))

theorem letIn_only (s : State) (rs : List Rec) : OnlyRecorder s (s.letIn rs) :=
  onlyRecorder_ite (onlyRecorder_trans (stageOverflow_only s _) (onlyRecorder_foldl rs _ onlyRecorder_stage _))
    (onlyRecorder_trans (onlyRecorder_setReg s _ dropCnt_mem) (onlyRecorder_setFlag _ 5 true sts_mem))

/-- Records offered under one token touch the recorder alone (R387). -/
theorem offerAll_only (s : State) (code : Nat) (rs : List Rec) : OnlyRecorder s (s.offerAll code rs) := by
  unfold State.offerAll
  refine onlyRecorder_ite (onlyRecorder_refl s) (onlyRecorder_ite ?_ ?_)
  · exact onlyRecorder_trans (onlyRecorder_trans (onlyRecorder_setReg s _ sts_mem) (onlyRecorder_setReg _ _ missCnt_mem)) (onlyRecorder_rcd _ _)
  · simp only
    split
    · exact onlyRecorder_refl s
    · refine onlyRecorder_ite ?_ ?_
      · exact onlyRecorder_trans (onlyRecorder_trans (onlyRecorder_setReg s _ dropCnt_mem) (onlyRecorder_setReg _ _ sts_mem)) (onlyRecorder_rcd _ _)
      · exact onlyRecorder_trans (onlyRecorder_ite (onlyRecorder_rcd s _) (onlyRecorder_trans (onlyRecorder_rcd s _) (writeRec_only _ _ _ _))) (letIn_only _ rs)

theorem offerRec_only (s : State) (code c : Nat) (p : List Byte) : OnlyRecorder s (s.offerRec code c p) := offerAll_only s code _

/-- A field of the state that a record does not touch. -/
theorem OnlyRecorder.field {α : Type} {s n : State} (h : OnlyRecorder s n) (f : State → α) (hf : ∀ (s : State) (l : List (Nat × Word)) (x : Recorder), f { s with regs := l, rcd := x } = f s) :
    f n = f s := by
  rw [h.1]
  exact hf s n.regs n.rcd

theorem OnlyRecorder.regsOk {s n : State} (h : OnlyRecorder s n) (hs : RegsOk s) : RegsOk n := (h.2 hs).1

theorem OnlyRecorder.reg {s n : State} (h : OnlyRecorder s n) (hs : RegsOk s) {a : Nat} (ha : a ∉ recordWords) : n.reg a = s.reg a := (h.2 hs).2 a ha

/-- The words of the recorder lie below the context blocks. -/
theorem ctxAddr_not_recordWord (c k : Nat) : ctxAddr c k ∉ recordWords := by
  intro h
  have low : ∀ a ∈ recordWords, a < 0x1000 := by decide
  have := low _ h
  simp only [ctxAddr] at this
  omega

/-! ### Simp forms -/

section Simp

variable (s : State) (code c : Nat) (p : List Byte)

@[simp] theorem offerRec_regsOk (h : RegsOk s) : RegsOk (s.offerRec code c p) := (offerRec_only s code c p).regsOk h
theorem offerRec_reg (h : RegsOk s) {a : Nat} (ha : a ∉ recordWords) : (s.offerRec code c p).reg a = s.reg a := (offerRec_only s code c p).reg h ha
@[simp] theorem offerRec_cw (h : RegsOk s) (d k : Nat) : (s.offerRec code c p).cw d k = s.cw d k := offerRec_reg s code c p h (ctxAddr_not_recordWord d k)
@[simp] theorem offerRec_mram : (s.offerRec code c p).mram = s.mram := (offerRec_only s code c p).field State.mram (fun _ _ _ => rfl)
@[simp] theorem offerRec_flt : (s.offerRec code c p).flt = s.flt := (offerRec_only s code c p).field State.flt (fun _ _ _ => rfl)
@[simp] theorem offerRec_image : (s.offerRec code c p).image = s.image := (offerRec_only s code c p).field State.image (fun _ _ _ => rfl)
@[simp] theorem offerRec_timers : (s.offerRec code c p).timers = s.timers := (offerRec_only s code c p).field State.timers (fun _ _ _ => rfl)
@[simp] theorem offerRec_now : (s.offerRec code c p).now = s.now := (offerRec_only s code c p).field State.now (fun _ _ _ => rfl)
@[simp] theorem offerRec_groups : (s.offerRec code c p).groups = s.groups := (offerRec_only s code c p).field State.groups (fun _ _ _ => rfl)
@[simp] theorem offerRec_phases : (s.offerRec code c p).phases = s.phases := (offerRec_only s code c p).field State.phases (fun _ _ _ => rfl)
@[simp] theorem offerRec_lane : (s.offerRec code c p).lane = s.lane := (offerRec_only s code c p).field State.lane (fun _ _ _ => rfl)
@[simp] theorem offerRec_tw : (s.offerRec code c p).tw = s.tw := (offerRec_only s code c p).field State.tw (fun _ _ _ => rfl)
@[simp] theorem offerRec_spi : (s.offerRec code c p).spi = s.spi := (offerRec_only s code c p).field State.spi (fun _ _ _ => rfl)
@[simp] theorem writeRec_regsOk (h : RegsOk s) : RegsOk (s.writeRec code c p) := (writeRec_only s code c p).regsOk h
theorem writeRec_reg (h : RegsOk s) {a : Nat} (ha : a ∉ recordWords) : (s.writeRec code c p).reg a = s.reg a := (writeRec_only s code c p).reg h ha
@[simp] theorem writeRec_mram : (s.writeRec code c p).mram = s.mram := (writeRec_only s code c p).field State.mram (fun _ _ _ => rfl)
@[simp] theorem writeRec_flt : (s.writeRec code c p).flt = s.flt := (writeRec_only s code c p).field State.flt (fun _ _ _ => rfl)

end Simp

end Sys2Proof
end

