-- ==== Sys2Proof/Laws/Power.lean ====
section
/-! SUPPORT. What the operations on outputs and the safe states change: register words and what drives the outputs, nothing else. -/

namespace Sys2Proof

open Machine

/-! ### The relation -/

@[simp] theorem onlyOutputs_refl (s : State) : OnlyOutputs s s := ⟨rfl, id⟩

theorem onlyOutputs_trans {a b c : State} (h1 : OnlyOutputs a b) (h2 : OnlyOutputs b c) : OnlyOutputs a c := by
  refine ⟨?_, fun h => h2.2 (h1.2 h)⟩
  have e1 := h1.1
  have e2 := h2.1
  rw [e2, e1]

@[simp] theorem onlyOutputs_ite {s a b : State} {c : Prop} [Decidable c] (ha : OnlyOutputs s a) (hb : OnlyOutputs s b) : OnlyOutputs s (if c then a else b) := by
  split <;> assumption

/-- A field of the state that the outputs do not touch. -/
theorem OnlyOutputs.field {α : Type} {s n : State} (h : OnlyOutputs s n) (f : State → α)
    (hf : ∀ (s m : State), f { s with regs := m.regs, timers := m.timers, counts := m.counts, channels := m.channels, phases := m.phases, groups := m.groups, trim := m.trim, driven := m.driven, dsTable := m.dsTable, graphOffDue := m.graphOffDue } = f s) :
    f n = f s := by
  rw [h.1]
  exact hf s n

theorem OnlyOutputs.flt {s n : State} (h : OnlyOutputs s n) : n.flt = s.flt := h.field State.flt (fun _ _ => rfl)
theorem OnlyOutputs.mram {s n : State} (h : OnlyOutputs s n) : n.mram = s.mram := h.field State.mram (fun _ _ => rfl)
theorem OnlyOutputs.image {s n : State} (h : OnlyOutputs s n) : n.image = s.image := h.field State.image (fun _ _ => rfl)
theorem OnlyOutputs.now {s n : State} (h : OnlyOutputs s n) : n.now = s.now := h.field State.now (fun _ _ => rfl)
theorem OnlyOutputs.rcd {s n : State} (h : OnlyOutputs s n) : n.rcd = s.rcd := h.field State.rcd (fun _ _ => rfl)
theorem OnlyOutputs.lane {s n : State} (h : OnlyOutputs s n) : n.lane = s.lane := h.field State.lane (fun _ _ => rfl)

@[simp] theorem onlyOutputs_forEach {α : Type} {s m : State} (l : List α) (f : α → State → State) (hf : ∀ x m, OnlyOutputs m (f x m)) (h : OnlyOutputs s m) :
    OnlyOutputs s (m.forEach l f) := by
  refine onlyOutputs_trans h ?_
  clear h
  unfold State.forEach
  induction l generalizing m with
  | nil => exact onlyOutputs_refl m
  | cons x r ih => exact onlyOutputs_trans (hf x m) ih

/-! ### The named operations: each keeps what the relation says of the state before it -/

section Ops

variable {s m : State} (h : OnlyOutputs s m)

include h

@[simp] theorem setReg_outputs (a : Nat) (w : Word) : OnlyOutputs s (m.setReg a w) := onlyOutputs_trans h ⟨rfl, fun h => setReg_regsOk h a w⟩
@[simp] theorem setC_outputs (c k : Nat) (w : Word) : OnlyOutputs s (m.setC c k w) := setReg_outputs h _ w
@[simp] theorem setFld_outputs (a hi lo v : Nat) : OnlyOutputs s (m.setFld a hi lo v) := setReg_outputs h a _
@[simp] theorem setFlag_outputs (a n : Nat) (b : Bool) : OnlyOutputs s (m.setFlag a n b) := setReg_outputs h a _
@[simp] theorem inc_outputs (a : Nat) : OnlyOutputs s (m.inc a) := setReg_outputs h a _
@[simp] theorem sts_outputs (c b : Nat) : OnlyOutputs s (m.sts c b) := setFlag_outputs h _ b true
@[simp] theorem setCode_outputs (c v : Nat) : OnlyOutputs s (m.setCode c v) := setFld_outputs h _ 7 0 v
@[simp] theorem setHeld_outputs (c : Nat) (b : Bool) : OnlyOutputs s (m.setHeld c b) := setFlag_outputs h _ 9 b
@[simp] theorem setSafe_outputs (c : Nat) (b : Bool) : OnlyOutputs s (m.setSafe c b) := setFlag_outputs h _ 10 b
@[simp] theorem start_outputs (k : Timer) : OnlyOutputs s (m.start k) := onlyOutputs_trans h ⟨rfl, id⟩
@[simp] theorem stop_outputs (k : Timer) : OnlyOutputs s (m.stop k) := onlyOutputs_trans h ⟨rfl, id⟩
@[simp] theorem clearCount_outputs (k : Count) : OnlyOutputs s (m.clearCount k) := onlyOutputs_trans h ⟨rfl, id⟩
@[simp] theorem setChan_outputs (g : Nat) (f : ChanVar → ChanVar) : OnlyOutputs s (m.setChan g f) := onlyOutputs_trans h ⟨rfl, id⟩
@[simp] theorem setPhase_outputs (p : Nat) (f : PhaseVar → PhaseVar) : OnlyOutputs s (m.setPhase p f) := onlyOutputs_trans h ⟨rfl, id⟩
@[simp] theorem setGrp_outputs (c : Nat) (f : GroupVar → GroupVar) : OnlyOutputs s (m.setGrp c f) := onlyOutputs_trans h ⟨rfl, id⟩
@[simp] theorem setTable_outputs (p : Nat) (l : List DsCmd) : OnlyOutputs s (m.setTable p l) := onlyOutputs_trans h ⟨rfl, id⟩
theorem setTrim_outputs (l : List (Nat × Word)) : OnlyOutputs s { m with trim := l } := onlyOutputs_trans h ⟨rfl, id⟩
theorem setGraphOff_outputs (l : List Nat) : OnlyOutputs s { m with graphOffDue := l } := onlyOutputs_trans h ⟨rfl, id⟩

@[simp] theorem drivePin_outputs (i : Nat) : OnlyOutputs s (m.drivePin i) := onlyOutputs_trans h (onlyOutputs_ite (onlyOutputs_refl m) ⟨rfl, id⟩)

@[simp] theorem holdsEnd_outputs (g : Nat) : OnlyOutputs s (m.holdsEnd g) := by
  unfold State.holdsEnd
  split <;> simp (maxDischargeDepth := 40) [h]

@[simp] theorem endEnhanced_outputs (g : Nat) : OnlyOutputs s (m.endEnhanced g) := by
  unfold State.endEnhanced
  simp only
  split
  · split <;> simp (maxDischargeDepth := 40) [h]
  · simp (maxDischargeDepth := 40) [h]

@[simp] theorem onlyIf_outputs (b : Bool) {f : State → State} (hf : ∀ {m : State}, OnlyOutputs s m → OnlyOutputs s (f m)) : OnlyOutputs s (m.onlyIf b f) :=
  onlyOutputs_ite (hf h) h

@[simp] theorem dischargeOn_outputs (c : Nat) : OnlyOutputs s (m.dischargeOn c) := by simp (maxDischargeDepth := 40) [State.dischargeOn, h]

@[simp] theorem gateDown_outputs (g : Nat) : OnlyOutputs s (m.gateDown g) := by simp (maxDischargeDepth := 40) [State.gateDown, h]

@[simp] theorem gateDownOf_outputs (c : Nat) : OnlyOutputs s (m.gateDownOf c) := by
  unfold State.gateDownOf
  split <;> simp (maxDischargeDepth := 40) [h]

@[simp] theorem gateSource_outputs (g : Nat) (timed : Bool) : OnlyOutputs s (m.gateSource g timed) := by simp (maxDischargeDepth := 40) [State.gateSource, h]

@[simp] theorem clearLive_outputs (c : Nat) : OnlyOutputs s (m.clearLive c) := by
  unfold State.clearLive
  split <;> simp (maxDischargeDepth := 40) [h]

@[simp] theorem phaseStop_outputs (lv : Level) (p : Nat) : OnlyOutputs s (m.phaseStop lv p) := by simp (maxDischargeDepth := 40) [State.phaseStop, h]

@[simp] theorem phaseStart_outputs (p : Nat) : OnlyOutputs s (m.phaseStart p) := by simp (maxDischargeDepth := 40) [State.phaseStart, h]

@[simp] theorem newBlock_outputs (c : Nat) : OnlyOutputs s (m.newBlock c) := setGrp_outputs h _ _

@[simp] theorem groupStop_outputs (r : CtxRec) (lv : Level) : OnlyOutputs s (m.groupStop r lv) := by simp (maxDischargeDepth := 40) [State.groupStop, h]

@[simp] theorem groupTo_outputs (r : CtxRec) (code : Nat) : OnlyOutputs s (m.groupTo r code) := by simp (maxDischargeDepth := 40) [State.groupTo, h]

@[simp] theorem allPhases_outputs (r : CtxRec) : OnlyOutputs s (m.allPhases r) := by simp (maxDischargeDepth := 40) [State.allPhases, h]

@[simp] theorem countActive_outputs (r : CtxRec) : OnlyOutputs s (m.countActive r) := setC_outputs h _ _ _

@[simp] theorem throttle_outputs (k : Nat) : OnlyOutputs s (m.throttle k) := by simp (maxDischargeDepth := 40) [State.throttle, h]

@[simp] theorem queueCmd_outputs (c code data : Nat) (safe : Bool) : OnlyOutputs s (m.queueCmd c code data safe) := by
  unfold State.queueCmd
  split <;> simp (maxDischargeDepth := 40) [h]

@[simp] theorem railFall_outputs (c : Nat) : OnlyOutputs s (m.railFall c) := by simp (maxDischargeDepth := 40) [State.railFall, h]

/-- The own safe state of a context (R353). -/
@[simp] theorem enterSafe_outputs (r : CtxRec) : OnlyOutputs s (m.enterSafe r) := by
  unfold State.enterSafe
  simp only
  split
  · simp (maxDischargeDepth := 40) [h]
  · refine onlyOutputs_ite (drivePin_outputs (setTrim_outputs (by simp (maxDischargeDepth := 40) [h]) _) _) (by simp (maxDischargeDepth := 40) [h])
  · simp (maxDischargeDepth := 40) [h]
  · simp (maxDischargeDepth := 40) [h]
  · simp (maxDischargeDepth := 40) [h]
  · simp (maxDischargeDepth := 40) [h]
  · split
    · refine setGraphOff_outputs (onlyIf_outputs ?_ _ (fun h => dischargeOn_outputs h _)) _
      simp (maxDischargeDepth := 40) [h]
    · refine onlyIf_outputs ?_ _ (fun h => dischargeOn_outputs h _)
      simp (maxDischargeDepth := 40) [h]
  · simp (maxDischargeDepth := 40) [h]
  · simp (maxDischargeDepth := 40) [h]

end Ops

end Sys2Proof
end

