-- ==== Sys2Proof/Laws/Faults.lean ====
section
/-! SUPPORT. What a raise does (R349 to R357): the class it leaves unacknowledged, and everything it may change. -/

namespace Sys2Proof

open Machine

/-! ### The safe state of any context -/

section Safe

variable {s m : State} (h : OnlyOutputs s m)

include h

@[simp] theorem safeOne_outputs (r : CtxRec) : OnlyOutputs s (m.safeOne r) := by
  unfold State.safeOne
  split
  · simp (maxDischargeDepth := 40) [h]
  · exact h
  · simp [h]

@[simp] theorem applySafe_outputs (c : Nat) : OnlyOutputs s (m.applySafe c) := by
  unfold State.applySafe
  split
  · exact h
  · simp (maxDischargeDepth := 40) [h]

end Safe

theorem applySafe_flt (s : State) (c : Nat) : (s.applySafe c).flt = s.flt := (applySafe_outputs (onlyOutputs_refl s) c).flt

/-! ### What a raise may change -/

theorem onlyFault_trans {a b c : State} (h1 : OnlyFault a b) (h2 : OnlyFault b c) : OnlyFault a c := by
  refine ⟨?_, fun h => h2.2 (h1.2 h)⟩
  have e1 := h1.1
  have e2 := h2.1
  rw [e2, e1]

@[simp] theorem onlyFault_refl (s : State) : OnlyFault s s := ⟨rfl, id⟩

@[simp] theorem onlyFault_ite {s a b : State} {c : Prop} [Decidable c] (ha : OnlyFault s a) (hb : OnlyFault s b) : OnlyFault s (if c then a else b) := by
  split <;> assumption

theorem OnlyOutputs.fault {s n : State} (h : OnlyOutputs s n) : OnlyFault s n := by
  refine ⟨?_, h.2⟩
  have e := h.1
  rw [e]

theorem OnlyRecorder.fault {s n : State} (h : OnlyRecorder s n) : OnlyFault s n := by
  refine ⟨?_, fun hs => (h.2 hs).1⟩
  have e := h.1
  rw [e]

section Raise

variable {s m : State} (h : OnlyFault s m)

include h

@[simp] theorem setReg_fault (a : Nat) (w : Word) : OnlyFault s (m.setReg a w) := onlyFault_trans h ⟨rfl, fun h => setReg_regsOk h a w⟩
@[simp] theorem setC_fault (c k : Nat) (w : Word) : OnlyFault s (m.setC c k w) := setReg_fault h _ w
@[simp] theorem setFlag_fault (a n : Nat) (b : Bool) : OnlyFault s (m.setFlag a n b) := setReg_fault h a _
@[simp] theorem setFld_fault (a hi lo v : Nat) : OnlyFault s (m.setFld a hi lo v) := setReg_fault h a _
@[simp] theorem inc_fault (a : Nat) : OnlyFault s (m.inc a) := setReg_fault h a _
@[simp] theorem sts_fault (c b : Nat) : OnlyFault s (m.sts c b) := setFlag_fault h _ b true
@[simp] theorem setCode_fault (c v : Nat) : OnlyFault s (m.setCode c v) := setFld_fault h _ 7 0 v
@[simp] theorem setHeld_fault (c : Nat) (b : Bool) : OnlyFault s (m.setHeld c b) := setFlag_fault h _ 9 b
@[simp] theorem setSafe_fault (c : Nat) (b : Bool) : OnlyFault s (m.setSafe c b) := setFlag_fault h _ 10 b
@[simp] theorem start_fault (k : Timer) : OnlyFault s (m.start k) := onlyFault_trans h ⟨rfl, id⟩
@[simp] theorem stop_fault (k : Timer) : OnlyFault s (m.stop k) := onlyFault_trans h ⟨rfl, id⟩
@[simp] theorem setGrp_fault (c : Nat) (f : GroupVar → GroupVar) : OnlyFault s (m.setGrp c f) := onlyFault_trans h ⟨rfl, id⟩
theorem setFlt_fault (f : Collector) : OnlyFault s { m with flt := f } := onlyFault_trans h ⟨rfl, id⟩
@[simp] theorem applySafe_fault (c : Nat) : OnlyFault s (m.applySafe c) := onlyFault_trans h (applySafe_outputs (onlyOutputs_refl m) c).fault
@[simp] theorem offerRec_fault (code c : Nat) (p : List Byte) : OnlyFault s (m.offerRec code c p) := onlyFault_trans h (offerRec_only m code c p).fault
@[simp] theorem writeRec_fault (code c : Nat) (p : List Byte) : OnlyFault s (m.writeRec code c p) := onlyFault_trans h (writeRec_only m code c p).fault
@[simp] theorem stsOffer_fault (c b : Nat) : OnlyFault s (m.stsOffer c b) := offerRec_fault (sts_fault h c b) _ _ _

@[simp] theorem setWide_fault (a n v : Nat) : OnlyFault s (State.setWide m a n v) := by
  induction n generalizing m a v with
  | zero => exact h
  | succ n ih => exact ih (setReg_fault h _ _) _ _

@[simp] theorem alert_fault (n : Nat) : OnlyFault s (m.alert n) := by
  unfold State.alert
  exact onlyFault_trans (setFlag_fault h HOST_ALERT n true) ⟨rfl, id⟩

@[simp] theorem capture_fault (r : Raise) (c e : Nat) (esc : Bool) : OnlyFault s (m.capture r c e esc) := by
  unfold State.capture
  split
  · exact h
  · exact setWide_fault (setReg_fault (setReg_fault (setReg_fault h _ _) _ _) _ _) _ _ _

@[simp] theorem recordEntry_fault (e : LogEntry) : OnlyFault s (m.recordEntry e).1 := by
  unfold State.recordEntry
  split
  · exact onlyFault_trans h (writeLane_only m _).fault
  · exact h

@[simp] theorem unconfirm_fault : OnlyFault s m.unconfirm := by
  unfold State.unconfirm
  split
  · exact onlyFault_ite (onlyFault_trans (setReg_fault (setFlag_fault (setFlag_fault (setFlag_fault h UPD_STS 0 true) UPD_STS 2 _) LRN_STS 3 _) UPD_ARB _) ⟨rfl, id⟩) h
  · exact h

@[simp] theorem breakTrial_fault : OnlyFault s m.breakTrial := onlyFault_trans h ⟨rfl, id⟩

@[simp] theorem raiseCount_fault (r : Raise) (c e sev : Nat) : OnlyFault s (m.raiseCount r c e sev) := by
  have h1 : OnlyFault s ((m.inc FLT_CNT).onlyIf (m.flt.level c r.cls).isSome (fun s => s.inc FLT_ESCCNT)) :=
    onlyFault_ite (inc_fault (inc_fault h _) _) (inc_fault h _)
  exact capture_fault (setC_fault (sts_fault (setFlt_fault h1 _) c 0) c CTX_SEV _) r c e _

@[simp] theorem raiseLog_fault (x : LogEntry) : OnlyFault s (m.raiseLog x) := onlyFault_ite (setFlt_fault (recordEntry_fault h x) _) (inc_fault h _)

@[simp] theorem raiseBook_fault (r : Raise) (c : Nat) : OnlyFault s (m.raiseBook r c) := by
  have h1 : OnlyFault s (if r.lane then { m with flt := { m.flt with laneRaises := m.flt.laneRaises ++ [(c, r.cls, r.site, m.epoch)] } } else m) :=
    onlyFault_ite (setFlt_fault h _) h
  exact onlyFault_ite (breakTrial_fault (unconfirm_fault h1)) h1

@[simp] theorem raiseSnap_fault (cls c : Nat) : OnlyFault s (m.raiseSnap cls c) := onlyFault_ite (onlyFault_trans h ⟨rfl, id⟩) h

@[simp] theorem raisePins_fault (react : Nat) : OnlyFault s (m.raisePins react) := by
  have h1 : OnlyFault s (if react.testBit 1 then { m with flt := { m.flt with pulse := true } }.start .fltPulse else m) :=
    onlyFault_ite (start_fault (setFlt_fault h _) _) h
  exact onlyFault_ite (alert_fault h1 0) h1

@[simp] theorem raiseAct_fault (c : Nat) (force due : Bool) : OnlyFault s (m.raiseAct c force due) :=
  onlyFault_ite (applySafe_fault h c) (onlyFault_ite (setFlt_fault h _) h)

/-- A raise changes nothing beside what drives the outputs, the recorder, the collector and the alert (R349 to R357). -/
@[simp] theorem raise_fault (r : Raise) : OnlyFault s (m.raise r) :=
  onlyFault_ite (setFlt_fault h _) (raiseAct_fault (raisePins_fault (raiseSnap_fault (raiseBook_fault (raiseLog_fault (raiseCount_fault h _ _ _ _) _) _ _) _ _) _) _ _ _)

@[simp] theorem laneRaise_fault (cls c : Nat) (sev : Option Nat) (site : Nat) : OnlyFault s (m.laneRaise cls c sev site) := raise_fault h _
@[simp] theorem coreRaise_fault (cls c : Nat) (sev : Option Nat) (site : Nat) : OnlyFault s (m.coreRaise cls c sev site) := raise_fault h _

/-- Overruns change nothing beside what raises and register words are (R127). -/
theorem overruns_fault (im : Image) (l : List SlotRec) : OnlyFault s (m.overruns im l) := by
  unfold State.overruns State.forEach
  induction l generalizing m with
  | nil => exact h
  | cons r l ih => exact ih (laneRaise_fault (inc_fault (setFlag_fault h _ 7 true) FAB_OVRCNT) 13 _ none 1306)

end Raise

/-! ### The class a raise leaves unacknowledged -/

theorem setLevel_mem (l : List Pending) (x : Pending) : ∃ p ∈ setLevel l x, p.ctx = x.ctx ∧ p.cls = x.cls ∧ p.level = x.level := by
  unfold setLevel
  split
  · rename_i h
    obtain ⟨p, hp, hc⟩ := List.any_eq_true.mp h
    simp only [Bool.decide_and, Bool.and_eq_true, decide_eq_true_eq] at hc
    exact ⟨x, List.mem_map.mpr ⟨p, hp, by simp [hc]⟩, rfl, rfl, rfl⟩
  · exact ⟨x, by simp, rfl, rfl, rfl⟩

section Pending

variable (s : State)

theorem setWide_flt (a n v : Nat) : (State.setWide s a n v).flt = s.flt := by
  induction n generalizing s a v with
  | zero => rfl
  | succ n ih => exact ih _ _ _

theorem capture_flt (r : Raise) (c e : Nat) (esc : Bool) : (s.capture r c e esc).flt = s.flt := by
  unfold State.capture
  split
  · rfl
  · exact setWide_flt _ _ _ _

theorem raiseCount_pending (r : Raise) (c e sev : Nat) : (s.raiseCount r c e sev).flt.pending = setLevel s.flt.pending { ctx := c, cls := r.cls, level := e, sev := sev, time := s.now } := by
  unfold State.raiseCount
  simp only
  rw [capture_flt]
  rfl

theorem recordEntry_flt (x : LogEntry) : (s.recordEntry x).1.flt = s.flt := by
  unfold State.recordEntry
  split
  · exact (writeLane_only s _).field State.flt (fun _ _ _ => rfl)
  · rfl

theorem raiseLog_pending (x : LogEntry) : (s.raiseLog x).flt.pending = s.flt.pending := by
  unfold State.raiseLog
  split
  · change (s.recordEntry x).1.flt.pending = s.flt.pending
    rw [recordEntry_flt]
  · rfl

theorem unconfirm_flt : s.unconfirm.flt = s.flt := by
  unfold State.unconfirm
  split
  · split <;> rfl
  · rfl

theorem raiseBook_pending (r : Raise) (c : Nat) : (s.raiseBook r c).flt.pending = s.flt.pending := by
  have h (m : State) : m.unconfirm.breakTrial.flt = m.flt := unconfirm_flt m
  simp only [State.raiseBook]
  split <;> split <;> first | rfl | (rw [h])

theorem raiseSnap_pending (cls c : Nat) : (s.raiseSnap cls c).flt.pending = s.flt.pending := by
  unfold State.raiseSnap
  split <;> rfl

theorem raisePins_pending (react : Nat) : (s.raisePins react).flt.pending = s.flt.pending := by
  simp only [State.raisePins, State.alert]
  split <;> split <;> rfl

theorem raiseAct_pending (c : Nat) (force due : Bool) : (s.raiseAct c force due).flt.pending = s.flt.pending := by
  simp only [State.raiseAct]
  split
  · rw [applySafe_flt]
  · split <;> rfl

/-- The unacknowledged classes after a raise that is not dropped (R349). -/
theorem raise_pending (r : Raise) (h : (r.lane && s.flt.matches_.any (r.sameAs (s.raiseCtx r))) = false) :
    (s.raise r).flt.pending = setLevel s.flt.pending { ctx := s.raiseCtx r, cls := r.cls, level := effective (s.judge r (s.raiseCtx r)).1 (s.flt.level (s.raiseCtx r) r.cls), sev := (s.judge r (s.raiseCtx r)).1, time := s.now } := by
  simp only [State.raise, h, Bool.false_eq_true, if_false]
  rw [raiseAct_pending, raisePins_pending, raiseSnap_pending, raiseBook_pending, raiseLog_pending, raiseCount_pending]

theorem raise_faulted (r : Raise) (h : (r.lane && s.flt.matches_.any (r.sameAs (s.raiseCtx r))) = false) : Faulted (s.raise r) (s.raiseCtx r) r.cls := by
  obtain ⟨p, hp, h1, h2, _⟩ := setLevel_mem s.flt.pending { ctx := s.raiseCtx r, cls := r.cls, level := effective (s.judge r (s.raiseCtx r)).1 (s.flt.level (s.raiseCtx r) r.cls), sev := (s.judge r (s.raiseCtx r)).1, time := s.now }
  exact ⟨p, by rw [raise_pending s r h]; exact hp, h1, h2⟩

theorem laneRaise_faulted (cls c : Nat) (sev : Option Nat) (site : Nat) (hc : (s.ctx? c).isSome = true) (h : s.flt.matches_ = []) :
    Faulted (s.laneRaise cls c sev site) c cls := by
  have := raise_faulted s { cls := cls, ctx := c, sev := sev, site := site, init := s.laneOrigin, lane := true } (by simp [h])
  simpa [State.laneRaise, State.raiseCtx, hc] using this

theorem coreRaise_faulted (cls c : Nat) (sev : Option Nat) (site : Nat) (hc : (s.ctx? c).isSome = true) : Faulted (s.coreRaise cls c sev site) c cls := by
  have := raise_faulted s { cls := cls, ctx := c, sev := sev, site := site } (by simp)
  simpa [State.coreRaise, State.raiseCtx, hc] using this

end Pending

/-! ### Fields that a raise leaves alone -/

section Fields

variable {s n : State} (h : OnlyFault s n)

include h

theorem OnlyFault.mram : n.mram = s.mram := by rw [h.1]
theorem OnlyFault.image : n.image = s.image := by rw [h.1]
theorem OnlyFault.now : n.now = s.now := by rw [h.1]
theorem OnlyFault.lane : n.lane = s.lane := by rw [h.1]
theorem OnlyFault.arb : n.arb = s.arb := by rw [h.1]
theorem OnlyFault.clk : n.clk = s.clk := by rw [h.1]
theorem OnlyFault.tw : n.tw = s.tw := by rw [h.1]
theorem OnlyFault.spi : n.spi = s.spi := by rw [h.1]
theorem OnlyFault.pending : n.pending = s.pending := by rw [h.1]
theorem OnlyFault.regsOk (hs : RegsOk s) : RegsOk n := h.2 hs

end Fields

end Sys2Proof
end

