-- ==== Sys2Proof/Laws/Words.lean ====
section
/-! SUPPORT. Where the words of contexts lie, and what the operations on them read back as. -/

namespace Sys2Proof

open Machine

@[simp] theorem ctxAddr_inj (c k j : Nat) : ctxAddr c k = ctxAddr c j ↔ k = j := by
  simp only [ctxAddr]
  omega

theorem ctxAddr_ge (c k : Nat) : 0x1000 ≤ ctxAddr c k := by
  simp only [ctxAddr]
  omega

/-- A word of a context block is no word of the global pages. -/
theorem ctxAddr_ne_global (c k : Nat) {a : Nat} (h : a < 0x1000) : ctxAddr c k ≠ a := by
  have := ctxAddr_ge c k
  omega

theorem global_ne_ctxAddr (c k : Nat) {a : Nat} (h : a < 0x1000) : a ≠ ctxAddr c k := (ctxAddr_ne_global c k h).symm

/-- The parts of an address of a context block (R510). -/
theorem ctxOf_ctxAddr {c k : Nat} (hk : k < 0x40) : ctxOf (ctxAddr c k) = (c, k) := by
  simp only [ctxOf, ctxAddr]
  have h : 0x1000 + 0x40 * c + k - 0x1000 = 0x40 * c + k := by omega
  rw [h]
  ext <;> simp <;> omega

theorem isCtxAddr_ctxAddr {c k : Nat} (hc : c < 128) (hk : k < 0x40) : isCtxAddr (ctxAddr c k) = true := by
  have h1 : (0x1000 : Nat) ≤ 0x1000 + 0x40 * c + k := by omega
  have h2 : 0x1000 + 0x40 * c + k < 0x3000 := by omega
  simp [isCtxAddr, ctxAddr, h1, h2]

/-- A context that is found has the number it was looked for by. -/
theorem ctx_number {s : State} {c : Nat} {r : CtxRec} (h : s.ctx? c = some r) : r.ctx = c := by
  unfold State.ctx? at h
  cases hi : s.image with
  | none => simp [hi] at h
  | some im =>
    have hf : im.contexts.find? (fun x => decide (x.ctx = c)) = some r := by simpa [hi, Image.ctx?] using h
    simpa using List.find?_some hf

theorem group_number {s : State} {c : Nat} {r : CtxRec} (h : s.group? c = some r) : r.ctx = c := by
  unfold State.group? at h
  exact ctx_number (Option.filter_eq_some_iff.mp h).1

theorem group_ctx {s : State} {c : Nat} {r : CtxRec} (h : s.group? c = some r) : s.ctx? c = some r ∧ r.typ = .group := by
  unfold State.group? at h
  have := Option.filter_eq_some_iff.mp h
  exact ⟨this.1, by simpa using this.2⟩

theorem isType_isSome {s : State} {c : Nat} {t : CtxType} (h : s.isType c t = true) : (s.ctx? c).isSome = true := by
  unfold State.isType at h
  cases hc : s.ctx? c with
  | none => simp [hc] at h
  | some r => rfl

/-- The phases of a group are phases of the part (R134). -/
theorem phases_lt {r : CtxRec} {p : Nat} (h : p ∈ r.phases) : p < 24 := by
  unfold CtxRec.phases at h
  exact List.mem_range.mp (List.mem_filter.mp h).1

section Words

variable {s : State} (h : RegsOk s)

include h

theorem cw_setC (c d k j : Nat) (w : Word) : (s.setC c k w).cw d j = if ctxAddr d j = ctxAddr c k then w else s.cw d j := reg_setReg h _ _ w

@[simp] theorem cw_setC_same (c k : Nat) (w : Word) : (s.setC c k w).cw c k = w := reg_setReg_same h _ w

theorem cw_setC_other (c : Nat) {k j : Nat} (w : Word) (hk : j ≠ k) : (s.setC c k w).cw c j = s.cw c j := reg_setReg_other h w (by simp [hk])

@[simp] theorem code_setCode (c : Nat) {v : Nat} (hv : v < 256) : (s.setCode c v).code c = v := by
  simp only [State.code, State.setCode, State.setFld, State.cw, reg_setReg_same h]
  rw [bits_putBits_same (by omega) (by omega)]
  exact Nat.mod_eq_of_lt hv

@[simp] theorem safe_setCode (c v : Nat) : (s.setCode c v).safe c = s.safe c := by
  simp only [State.safe, State.setCode, State.setFld, State.cw, reg_setReg_same h]
  exact bit_putBits_other (by omega) (by omega) (by omega)

@[simp] theorem held_setCode (c v : Nat) : (s.setCode c v).held c = s.held c := by
  simp only [State.held, State.setCode, State.setFld, State.cw, reg_setReg_same h]
  exact bit_putBits_other (by omega) (by omega) (by omega)

@[simp] theorem code_setHeld (c : Nat) (b : Bool) : (s.setHeld c b).code c = s.code c := by
  simp only [State.code, State.setHeld, State.setFlag, State.cw, reg_setReg_same h]
  exact bits_putBit_other b (by omega) (by omega)

@[simp] theorem held_setHeld (c : Nat) (b : Bool) : (s.setHeld c b).held c = b := by
  simp only [State.held, State.setHeld, State.setFlag, State.cw, reg_setReg_same h]
  exact bit_putBit_same b (by omega)

@[simp] theorem safe_setSafe (c : Nat) (b : Bool) : (s.setSafe c b).safe c = b := by
  simp only [State.safe, State.setSafe, State.setFlag, State.cw, reg_setReg_same h]
  exact bit_putBit_same b (by omega)

@[simp] theorem code_setSafe (c : Nat) (b : Bool) : (s.setSafe c b).code c = s.code c := by
  simp only [State.code, State.setSafe, State.setFlag, State.cw, reg_setReg_same h]
  exact bits_putBit_other b (by omega) (by omega)

theorem flag_setFlag_same (a : Nat) {n : Nat} (b : Bool) (hn : n < 18) : (s.setFlag a n b).flag a n = b := by
  simp only [State.flag, State.setFlag, reg_setReg_same h]
  exact bit_putBit_same b hn

theorem flag_setFlag_other {a c : Nat} (n m : Nat) (b : Bool) (hc : c ≠ a) : (s.setFlag a n b).flag c m = s.flag c m := by
  simp only [State.flag, State.setFlag, reg_setReg_other h _ hc]

theorem flag_sts_same (c : Nat) {b : Nat} (hb : b < 18) : (s.sts c b).flag (ctxAddr c CTX_STS) b = true := flag_setFlag_same h _ true hb

@[simp] theorem code_sts (c d b : Nat) (hd : ctxAddr d CTX_STATE ≠ ctxAddr c CTX_STS) : (s.sts c b).code d = s.code d := by
  simp only [State.code, State.sts, State.setFlag, State.cw, reg_setReg_other h _ hd]

/-- A bit set and its record offered (R380): the bit stands, and nothing changes but its word, the recorder and the recorder's words. -/
theorem flag_stsOffer (c : Nat) {b : Nat} (hb : b < 18) : (s.stsOffer c b).flag (ctxAddr c CTX_STS) b = true := by
  have h1 : RegsOk (s.sts c b) := setReg_regsOk h _ _
  simp only [State.stsOffer, State.flag]
  rw [offerRec_reg _ _ _ _ h1 (ctxAddr_not_recordWord c CTX_STS)]
  exact flag_sts_same h c hb

theorem stsOffer_kept (c b : Nat) : Kept s (s.stsOffer c b) (ctxAddr c CTX_STS :: recordWords) := by
  have h1 : RegsOk (s.sts c b) := setReg_regsOk h _ _
  refine kept_trans (m := s.sts c b) (kept_setReg h _ (List.mem_cons_self ..)) ?_
  exact kept_mono ((offerRec_only (s.sts c b) _ _ _).2 h1).2 (fun a ha => List.mem_cons_of_mem _ ha)

@[simp] theorem stsOffer_regsOk (c b : Nat) : RegsOk (s.stsOffer c b) := offerRec_regsOk _ _ _ _ (setReg_regsOk h _ _)

end Words

/-! ### Words after a step over a list -/

theorem forEach_regsOk {α : Type} (l : List α) (f : α → State → State) (hf : ∀ x s, RegsOk s → RegsOk (f x s)) {s : State} (h : RegsOk s) : RegsOk (s.forEach l f) := by
  unfold State.forEach
  induction l generalizing s with
  | nil => exact h
  | cons x r ih => exact ih (hf x s h)

/-- Words that no step of a list touches stay. -/
theorem forEach_kept {α : Type} (l : List α) (f : α → State → State) (ws : List Nat) (hr : ∀ x s, RegsOk s → RegsOk (f x s)) (hk : ∀ x ∈ l, ∀ s, RegsOk s → Kept s (f x s) ws)
    {s : State} (h : RegsOk s) : Kept s (s.forEach l f) ws := by
  unfold State.forEach
  induction l generalizing s with
  | nil => exact kept_refl s ws
  | cons x r ih => exact kept_trans (hk x (List.mem_cons_self ..) s h) (ih (fun y hy => hk y (List.mem_cons_of_mem _ hy)) (hr x s h))

end Sys2Proof
end

