-- ==== Sys2Proof/WellFormed.lean ====
section
/-! DEFINITION. Which commands are well formed: every operand names something the part has, and every list has the length its converter or its bus delivers. The meanings are total and leave the state as it is where an operand names nothing. -/

namespace Sys2Proof

open Machine

/-- A number below a bound. -/
def below (b n : Nat) : Bool := decide (n < b)

/-- A context number (R49). -/
def isCtx (c : Nat) : Bool := below 128 c

/-- A context number, or 0xFF for none (R378). -/
def isCtxOrNone (c : Nat) : Bool := below 128 c || c == 0xFF

/-- A phase (R134). -/
def isPhase (p : Nat) : Bool := below 24 p

/-- A gate channel, or another of sixteen things: a throttle output, a cell, an initiator code (R175, R292). -/
def isChannel (g : Nat) : Bool := below 16 g

/-- A downstream port (R417). -/
def isPort (p : Nat) : Bool := below 4 p

/-- A number that fits a byte. -/
def isByte (n : Nat) : Bool := below 256 n

/-- Bytes that a transaction or frame can carry (R399, R434, R472). -/
def isFrame (l : List Byte) : Bool := below 257 l.length

/-- The payload of a record: at most 236 bytes in words of four (R378). -/
def isPayload (l : List Byte) : Bool := below 237 l.length && l.length % 4 == 0

/-- What a frame delivers: one reading for every converter (R106, R140, R175, R250, R255). -/
def isFrameIn (f : FrameIn) : Bool :=
  f.vout.length == 8 && f.vlow.length == 8 && f.phase.length == 24 && f.gate.length == 16 && f.coulomb.length == 8 && f.ccn.length == 8 && f.cells.length == 32

/-- Whether a command is well formed. -/
def Instr.wf : Instr → Bool
  | .wordWrite _ code _ _ _ _ _ => below 128 code
  | .wordRead _ code _ => below 128 code
  | .wideValueFirstRead _ code _ => below 128 code
  | .ptrWrite _ _ _ _ _ => true
  | .ptrRead _ _ => true
  | .blockRead _ n _ => isByte n
  | .blockWrite _ n data _ _ => isByte n && isFrame data
  | .cpageWrite _ _ _ _ => true
  | .cpageRead _ _ => true
  | .gpageWrite _ _ _ _ => true
  | .gpageRead _ _ => true
  | .freeze _ _ _ => true
  | .thaw _ _ _ => true
  | .freezeRead _ _ => true
  | .summary _ _ => true
  | .receiveWithoutCommand _ => true
  | .addressProbe _ => true
  | .spiNoop _ => true
  | .alertResponse _ _ => true
  | .openSession _ data _ _ => isFrame data
  | .dataFrame _ data _ _ => isFrame data
  | .stagingCommitDone _ => true
  | .closeCheck _ _ _ => true
  | .stagingCheckDone _ => true
  | .closeAbandon _ _ _ => true
  | .status _ _ => true
  | .hostProtocolViolation _ code _ idx _ => below 256 code && isByte idx
  | .hostBusTimeout _ _ idx _ => isByte idx
  | .sysDormantRequest _ _ _ => true
  | .dormantEntryAbort src _ => below 8 src
  | .wake src _ => below 8 src
  | .frame inp => isFrameIn inp
  | .sampleInstant c _ _ late _ => isCtx c && late.all (below 256)
  | .shelfTick late _ => late.all (below 256)
  | .governorChange g _ => below 64 g
  | .fabCdataWrite _ _ _ => true
  | .fabSlotWrite _ _ _ => true
  | .fabCoefApply _ _ _ => true
  | .fabCoefDiscard _ _ _ => true
  | .slotSetWrite _ slot _ _ => below 256 slot
  | .slotEnable slot _ => below 256 slot
  | .epochBoundary _ => true
  | .checkpointCommitDone _ => true
  | .heartbeatTimeout _ => true
  | .laneHandback _ => true
  | .authorityConflict _ holder gen acc addr _ => below 4 holder && isByte gen && below 8 acc && below 2097152 addr
  | .lanePowered _ => true
  | .laneRestoreComplete _ => true
  | .firstStampedCommand _ => true
  | .restoreFail _ _ => true
  | .laneSwap _ _ _ => true
  | .laneRestartStart _ _ _ => true
  | .laneClrbad _ _ _ => true
  | .laneAutoRestart _ => true
  | .laneWatchdogExpiry _ _ => true
  | .imgCheck _ _ _ => true
  | .imgSwitch _ _ _ => true
  | .loaderCheckDone _ => true
  | .groupEnable c _ => isCtx c
  | .groupDisable c _ => isCtx c
  | .grpFswWrite _ c _ _ => isCtx c
  | .groupPowerGood c _ => isCtx c
  | .groupPowerGoodLost c _ => isCtx c
  | .softStartTimeout c _ => isCtx c
  | .hiccupEnd c _ => isCtx c
  | .groupRetrycntClear c _ => isCtx c
  | .phaseTrip ph _ _ => isPhase ph
  | .phaseTripRepeat ph _ => isPhase ph
  | .phaseImbalanceBlockEnd c _ => isCtx c
  | .syncAcquire c _ _ => isCtx c
  | .syncAligned c _ => isCtx c
  | .syncLoss c _ => isCtx c
  | .shedTransitionEnd c _ => isCtx c
  | .gateTrip ch _ _ => isChannel ch
  | .channelEnhanced ch _ => isChannel ch
  | .channelEnhancementLost ch _ => isChannel ch
  | .attemptTimerExpiry ch _ => isChannel ch
  | .feedEnableWrite _ c _ _ => isCtx c
  | .feedQualified c _ => isCtx c
  | .feedQualificationLost c _ => isCtx c
  | .feedOldGateOff _ => true
  | .feedSlowOff _ => true
  | .feedDeadTimeEnd _ => true
  | .feedSlowOn _ => true
  | .idealDiodeTurnOn c _ => isCtx c
  | .branchEnable c _ => isCtx c
  | .branchDisable c _ => isCtx c
  | .branchPowerGood c _ => isCtx c
  | .branchPowerGoodDrop c _ => isCtx c
  | .branchLimitStart c _ => isCtx c
  | .branchLimitEnd c _ => isCtx c
  | .branchOvertemp c _ => isCtx c
  | .branchCooldownEnd c _ => isCtx c
  | .brCoolremUpdate c _ => isCtx c
  | .branchRetrycntClear c _ => isCtx c
  | .stringEnable c _ => isCtx c
  | .stringDisable c _ => isCtx c
  | .stringCutoff c _ => isCtx c
  | .stringCutoffExit c _ => isCtx c
  | .dhCooldownEnd c _ => isCtx c
  | .dhRetrycntClear c _ => isCtx c
  | .hollowStart _ _ => true
  | .hollowEnd _ => true
  | .hollowTloss _ => true
  | .hrefFormed _ => true
  | .sadCmdSaddle _ _ _ => true
  | .sadCmdReturn _ _ _ => true
  | .saddleFeedsOff _ => true
  | .saddleComplete _ => true
  | .saddleDwellEnd _ => true
  | .saddleStable _ => true
  | .returnMatchDone _ => true
  | .returnCloseDone _ => true
  | .returnUnloadDone _ => true
  | .chargeEvaluation c _ => isCtx c
  | .chargeSuspendEnd c _ => isCtx c
  | .chargeTermination c _ => isCtx c
  | .topoffEnd c _ => isCtx c
  | .chargeSafetyTimeout c _ => isCtx c
  | .prechargeTimeout c _ => isCtx c
  | .rechargeStart c _ => isCtx c
  | .supervisedFull c _ => isCtx c
  | .cellOvTrip n k _ => below 2 n && isChannel k.cell
  | .estimatorEvaluation _ => true
  | .restCorrection c _ => isCtx c
  | .estQclr _ c _ _ => isCtx c
  | .estRelearn _ c _ _ => isCtx c
  | .estCommit _ c _ _ => isCtx c
  | .learnedCommitPeriodic _ => true
  | .learnedCommitDone _ => true
  | .rectShareError c _ => isCtx c
  | .throttleRelease n _ => isChannel n
  | .thrForceWrite _ _ _ => true
  | .cascadeReportSend _ => true
  | .cascadeAllocSend _ => true
  | .allocTimeout _ => true
  | .fballocApply _ => true
  | .reportTimeout n _ => below 8 n
  | .scanComplete raw _ => raw.length == 97
  | .railTonExpiry c _ => isCtx c
  | .railRiseTimeout c _ => isCtx c
  | .railToffExpiry c _ => isCtx c
  | .railFallTimeout c _ => isCtx c
  | .railDischargeEnd c _ => isCtx c
  | .graphOffWaitEnd g _ => below 8 g
  | .seqOn _ _ _ => true
  | .seqOff _ _ _ => true
  | .seqForce _ _ _ => true
  | .inputAccept pin _ _ => isByte pin
  | .inputIntervalEnd pin _ => isByte pin
  | .pbLongPress _ => true
  | .seqFltDriveRelease _ => true
  | .faultRaise cls c sev _ init acc addr _ => below 16 cls && isCtx c && sev.all (below 4) && isChannel init && below 8 acc && below 2097152 addr
  | .fltPulseEnd _ => true
  | .fltoutWrite _ _ _ => true
  | .faultAck _ _ _ => true
  | .faultInject _ _ _ => true
  | .feClear _ _ _ => true
  | .dieSensorMeasure _ _ => true
  | .sensorReadmit _ _ _ _ => true
  | .dieLevelLeave _ => true
  | .recordOffer code c payload _ => below 65536 code && isCtxOrNone c && isPayload payload
  | .recordWrite code c payload _ => below 65536 code && isCtxOrNone c && isPayload payload
  | .bucketRefill n _ => isByte n
  | .bbClear _ _ _ => true
  | .freezeExpiry _ => true
  | .bbPdataRead _ _ => true
  | .bbRebuildDone _ => true
  | .dsTransactionComplete port data _ => isPort port && isFrame data
  | .dsTransactionFail port _ _ => isPort port
  | .dsStretchTimeout port _ => isPort port
  | .pollCycle port _ => isPort port
  | .dsProbe port addr _ => isPort port && below 128 addr
  | .dsAlert port _ => isPort port
  | .dsAlertRepeat port _ => isPort port
  | .polEnWrite _ c _ _ => isCtx c
  | .polVsetWrite _ c _ _ => isCtx c
  | .segmentStuck port _ => isPort port
  | .segmentRequalify port _ => isPort port
  | .segmentCycleFail port _ => isPort port
  | .dspRequal _ port _ _ => isPort port
  | .linkFrameReceive _ bytes _ _ => isFrame bytes
  | .hello _ payload _ => isFrame payload
  | .helloSend _ _ => true
  | .echoRequestSend _ => true
  | .echoRequest _ payload _ => isFrame payload
  | .echoReply payload _ => isFrame payload
  | .timeSend _ => true
  | .time payload _ => isFrame payload
  | .report src payload _ => below 8 src && isFrame payload
  | .alloc payload _ => isFrame payload
  | .remoteRead src payload _ => below 8 src && isFrame payload
  | .remoteWrite src payload _ => below 8 src && isFrame payload
  | .remoteAnswer src payload _ => below 8 src && isFrame payload
  | .reset src payload _ => below 8 src && isFrame payload
  | .linkTrained _ _ => true
  | .linkLossOfLock _ _ _ => true
  | .linkUpTimeout _ _ => true
  | .cascPortEnableWrite _ _ _ => true
  | .cascRemoteRead _ _ _ => true
  | .cascRemoteWrite _ _ _ => true
  | .cascRemoteReset _ _ _ => true
  | .remoteAccessTimeout _ => true
  | .powerOn => true
  | .vinBrownOut _ => true
  | .rstNLow _ _ => true
  | .rstNRelease _ => true
  | .rstSw _ _ _ => true
  | .rstBlk _ _ _ => true
  | .blockResetEnd blk _ => below 9 blk
  | .fuseMapRead _ => true
  | .vreg5InRegulation straps _ => below 262144 straps
  | .vreg5OutOfRegulation _ => true
  | .vreg5Lost _ => true
  | .vioLoss _ => true
  | .vioReturn _ => true
  | .pllEnable _ => true
  | .clocksRelease => true
  | .firmwareChecked _ => true
  | .startLaneFail _ => true
  | .fcntStart _ _ _ => true
  | .fcntStop _ _ _ => true
  | .fcntGateComplete _ _ => true
  | .fcntTimeout _ => true
  | .fwActivate _ _ _ => true
  | .fwActivateReady _ => true
  | .trialConfirm _ _ _ => true
  | .trialWindowEnd _ => true
  | .fallbackRetry _ => true
  | .settingsSave _ _ _ => true
  | .switchingPeriod c _ _ _ => isCtx c
  | .cellOvRelease n k _ => below 2 n && isChannel k.cell
  | .dhLimitStart c _ _ => isCtx c
  | .dhLimitEnd c _ => isCtx c
  | .vresReserveLow _ => true
  | .vresCharged _ => true
  | .vdd08RegulatorFault _ => true
  | .referenceClockLoss _ => true
  | .laneStop _ => true
  | .testAccessPortTck _ _ _ => true
  | .trstNChange _ _ => true

end Sys2Proof
end

