-- ==== Sys2Proof/Tests/Slice0.lean ====
section
/-! SUPPORT. Tests: ill-formed commands that the checks refuse, vectors from outside the model, and for every statement with hypotheses concrete states and operands that meet them, clause by clause. -/

namespace Sys2Proof.Tests

set_option Elab.async false

open Sys2Proof Sys2Proof.Machine

/-! ### Sample states -/

/-- A context record for the samples: enabled, at the bases of the spec's example (54.00 V, 1500 A). -/
def recOf (c : Nat) (typ : CtxType) (inst a0 a1 a2 : Nat) : CtxRec :=
  { ctx := c, typ := typ, inst := inst, enabled := true, vbase := 0x3D518, ibase := 0x005DC, prigrp := 0xFF, dormant := 0, a0 := a0, a1 := a1, a2 := a2, a3 := 0 }

def rShelf : CtxRec := recOf 0 .shelf 0 0 0 0
def rFeed : CtxRec := recOf 1 .feed 0 0 0 0xFF
def rDiode : CtxRec := recOf 2 .feed 1 1 1 0xFF
def rRectA : CtxRec := recOf 3 .rectifier 0 0xFF 0 0x20
def rRectB : CtxRec := recOf 4 .rectifier 1 0xFF 0 0x21
def rGroup : CtxRec := recOf 5 .group 0 3 0 0
def rString : CtxRec := recOf 6 .string 0 0xFF 1 0
def rHang : CtxRec := recOf 7 .string 1 2 0 0xFF
def rBranch : CtxRec := recOf 8 .branch 0 3 0xFE 0
def rPol : CtxRec := recOf 9 .pol 0 0 0x30 0
def rRail : CtxRec := recOf 10 .rail 0 4 0 0
def rZone : CtxRec := recOf 11 .zone 0 5 0 0x80

/-- A loop slot of the samples: law 1, in group 0. -/
def slotZero : SlotRec := { slot := 0, law := 1, group := 0, ref := .none, fb := .none, ff := .none, words := [], coef := [0, 0, 0, 0, 0] }

/-- An image with one context of every type, a slot and a sequencing graph. -/
def sampleImage : Image where
  rollback := 0
  keySlot := 0
  imgVer := 1
  minFw := 0
  ckptVer := 1
  setVer := 1
  contexts := [rShelf, rFeed, rDiode, rRectA, rRectB, rGroup, rString, rHang, rBranch, rPol, rRail, rZone]
  slots := [slotZero]
  groups := []
  graphs := [{ rail := 0, graph := 0, discharge := true, segment := none, pred := [], disch := 0xFF }]
  matrix := []
  safe := []
  pins := []
  fallback := []
  overrides := []
  init := []
  migration := []

/-- A slot with no reference source, and an image in which it is the hold slot of the group. -/
def slotHold : SlotRec := { slotZero with words := [0x200] }
def strandImage : Image := { sampleImage with slots := [slotHold], groups := [{ group := 0, tkind := 1, tindex := 0, owner := 5, fallback := 0 }] }

/-- A converter group that serves no string. -/
def rGroupB : CtxRec := recOf 12 .group 1 4 0 0

/-- Register words of a list, in their canonical form. -/
def wordsOf (l : List (Nat × Word)) : List (Nat × Word) := l.foldl (fun acc p => assign 0 acc p.1 p.2) []

/-- A shelf in Normal under the sample image, lane A in charge, long after its start, with the words given beside those of its state and gate owners. -/
def smp (l : List (Nat × Word)) : State :=
  { State.reset with
    now := 1000000000000, clocks := true, image := some sampleImage, vresOk := true, arb := { stamped := true },
    regs := wordsOf ([(SYS_STATE, 1), (LANE_AUTH, 1), (GCH_OWNER, 1), (GCH_OWNER + 1, 2), (GCH_OWNER + 2, 7), (GCH_OWNER + 3, 8)] ++ l),
    clk := { vin := true, fuses := true, vreg5 := true, lost := false, pll := true } }

/-- A sample with timers that have run since its start. -/
def smpT (l : List (Nat × Word)) (ks : List Timer) : State := { smp l with timers := ks.map (fun k => (k, 0)) }

/-- A sample with qualifying counts of eight. -/
def smpC (l : List (Nat × Word)) (ks : List Count) : State := { smp l with counts := ks.map (fun k => (k, 8)) }

/-- The state a step answers. -/
def after (s : State) : State := match step s with
  | .next n => n
  | _ => s

/-- The state code word of a context. -/
def codeW (c : Nat) (w : Word) : Nat × Word := (ctxAddr c CTX_STATE, w)

theorem sampleImage_bytes : ByteImage sampleImage := by unfold ByteImage; decide

/-- Without images there is nothing to fit. -/
theorem no_images (s : State) (h : s.image = none) (h' : s.nextImage = none) : ImagesFit s :=
  ⟨fun _ hi => by (rw [h] at hi; cases hi), fun _ hi => by (rw [h'] at hi; cases hi)⟩

/-- The images of a sample fit. -/
theorem sample_fits (s : State) (h : s.image = some sampleImage) (h' : s.nextImage = none) : ImagesFit s :=
  ⟨fun im hi => by rw [h] at hi; cases hi; exact sampleImage_bytes, fun im hi => by rw [h'] at hi; cases hi⟩

theorem strandImage_bytes : ByteImage strandImage := by unfold ByteImage; decide

theorem strand_fits (s : State) (h : s.image = some strandImage) (h' : s.nextImage = none) : ImagesFit s :=
  ⟨fun im hi => by rw [h] at hi; cases hi; exact strandImage_bytes, fun im hi => by rw [h'] at hi; cases hi⟩

/-- The gate channels of a sample fit. -/
theorem sample_channels (s : State) (im : Image) (h : s.image = some im) (hb : im.contexts.all (fun r => decide (r.a0 < 16) || r.typ == .string && r.a0 == 0xFF || r.typ == .rectifier) = true) : ChannelsFit s := by
  intro c g hg
  unfold State.channelOf State.ctx? at hg
  rw [h] at hg
  simp only [Option.bind_some] at hg
  split at hg
  · next r hr =>
    unfold Image.ctx? at hr
    have hm := List.mem_of_find?_eq_some hr
    have := List.all_eq_true.mp hb r hm
    split at hg
    · next ht =>
      cases hg
      simp only [CtxRec.directHang] at ht
      grind
    · cases hg
  · cases hg

/-- A sample whose black box holds a control slot. -/
def ctlSample : State := (smp []).writeCtl 0 0 0

theorem of_none {α : Type} {o : Option α} {P : α → Prop} (h : o = none) : ∀ x, o = some x → P x := by intro x hx; rw [h] at hx; cases hx

/-- A checkpoint of the samples. -/
def ckSample : Ckpt := { epoch := 5, regs := [], clamped := [], timers := [], lane := {} }


/-- An older checkpoint of the samples. -/
def ckOther : Ckpt := { epoch := 4, regs := [], clamped := [], timers := [], lane := {} }

/-- A frame without readings. -/
def frameNone : FrameIn := { t := 0, vout := [], vlow := [], phase := [], gate := [], coulomb := [], ccn := [], cells := [] }
/-! ### Ill-formed commands -/

/-- A frame of zeros. -/
def frameSample : FrameIn :=
  { t := 0, vout := List.replicate 8 0, vlow := List.replicate 8 0, phase := List.replicate 24 0, gate := List.replicate 16 { shunt := 0, visn := 0, vsrc := 0, vgs := 0, regulating := false }, coulomb := List.replicate 8 0, ccn := List.replicate 8 0, cells := List.replicate 32 0 }

def illFormed0 : List Instr :=
  [.wordWrite .spi 128 0 0 0 none 0, .wordRead .spi 128 0, .wideValueFirstRead .spi 128 0, .blockRead .spi 256 0, .blockWrite .spi 256 [] none 0, .blockWrite .spi 0 (List.replicate 257 0) none 0, .openSession .spi (List.replicate 257 0) none 0, .dataFrame .spi (List.replicate 257 0) none 0, .hostProtocolViolation .spi 256 0 0 0, .hostProtocolViolation .spi 0 0 256 0, .hostBusTimeout .spi 0 256 0, .dormantEntryAbort 8 0]
def illFormed1 : List Instr :=
  [.wake 8 0, .frame { frameSample with gate := [] }, .sampleInstant 128 0 0 [] 0, .sampleInstant 0 0 0 [256] 0, .shelfTick [256] 0, .governorChange 64 0, .slotSetWrite .spi 256 0 0, .slotEnable 256 0, .authorityConflict .a 4 0 0 0 0, .authorityConflict .a 0 256 0 0 0, .authorityConflict .a 0 0 8 0 0, .authorityConflict .a 0 0 0 2097152 0]
def illFormed2 : List Instr :=
  [.groupEnable 128 0, .groupDisable 128 0, .grpFswWrite .spi 128 0 0, .groupPowerGood 128 0, .groupPowerGoodLost 128 0, .softStartTimeout 128 0, .hiccupEnd 128 0, .groupRetrycntClear 128 0, .phaseTrip 24 0 0, .phaseTripRepeat 24 0, .phaseImbalanceBlockEnd 128 0, .syncAcquire 128 0 0]
def illFormed3 : List Instr :=
  [.syncAligned 128 0, .syncLoss 128 0, .shedTransitionEnd 128 0, .gateTrip 16 0 0, .channelEnhanced 16 0, .channelEnhancementLost 16 0, .attemptTimerExpiry 16 0, .feedEnableWrite .spi 128 0 0, .feedQualified 128 0, .feedQualificationLost 128 0, .idealDiodeTurnOn 128 0, .branchEnable 128 0]
def illFormed4 : List Instr :=
  [.branchDisable 128 0, .branchPowerGood 128 0, .branchPowerGoodDrop 128 0, .branchLimitStart 128 0, .branchLimitEnd 128 0, .branchOvertemp 128 0, .branchCooldownEnd 128 0, .brCoolremUpdate 128 0, .branchRetrycntClear 128 0, .stringEnable 128 0, .stringDisable 128 0, .stringCutoff 128 0]
def illFormed5 : List Instr :=
  [.stringCutoffExit 128 0, .dhCooldownEnd 128 0, .dhRetrycntClear 128 0, .chargeEvaluation 128 0, .chargeSuspendEnd 128 0, .chargeTermination 128 0, .topoffEnd 128 0, .chargeSafetyTimeout 128 0, .prechargeTimeout 128 0, .rechargeStart 128 0, .supervisedFull 128 0, .cellOvTrip 2 ⟨0, 0⟩ 0]
def illFormed6 : List Instr :=
  [.cellOvTrip 0 ⟨16, 0⟩ 0, .restCorrection 128 0, .estQclr .spi 128 0 0, .estRelearn .spi 128 0 0, .estCommit .spi 128 0 0, .rectShareError 128 0, .throttleRelease 16 0, .reportTimeout 8 0, .scanComplete (List.replicate 96 0) 0, .railTonExpiry 128 0, .railRiseTimeout 128 0, .railToffExpiry 128 0]
def illFormed7 : List Instr :=
  [.railFallTimeout 128 0, .railDischargeEnd 128 0, .graphOffWaitEnd 8 0, .inputAccept 256 false 0, .inputIntervalEnd 256 0, .faultRaise 16 0 none 0 0 0 0 0, .faultRaise 0 128 none 0 0 0 0 0, .faultRaise 0 0 (some 4) 0 0 0 0 0, .faultRaise 0 0 none 0 16 0 0 0, .faultRaise 0 0 none 0 0 8 0 0, .faultRaise 0 0 none 0 0 0 2097152 0, .recordOffer 65536 0 [] 0]
def illFormed8 : List Instr :=
  [.recordOffer 0 128 [] 0, .recordOffer 0 0 (List.replicate 240 0) 0, .recordWrite 65536 0 [] 0, .recordWrite 0 128 [] 0, .recordWrite 0 0 (List.replicate 240 0) 0, .bucketRefill 256 0, .dsTransactionComplete 4 [] 0, .dsTransactionComplete 0 (List.replicate 257 0) 0, .dsTransactionFail 4 false 0, .dsStretchTimeout 4 0, .pollCycle 4 0, .dsProbe 4 0 0]
def illFormed9 : List Instr :=
  [.dsProbe 0 128 0, .dsAlert 4 0, .dsAlertRepeat 4 0, .polEnWrite .spi 128 0 0, .polVsetWrite .spi 128 0 0, .segmentStuck 4 0, .segmentRequalify 4 0, .segmentCycleFail 4 0, .dspRequal .spi 4 0 0, .linkFrameReceive false (List.replicate 257 0) 0 0, .hello false (List.replicate 257 0) 0, .echoRequest false (List.replicate 257 0) 0]
def illFormed10 : List Instr :=
  [.echoReply (List.replicate 257 0) 0, .time (List.replicate 257 0) 0, .report 8 [] 0, .report 0 (List.replicate 257 0) 0, .alloc (List.replicate 257 0) 0, .remoteRead 8 [] 0, .remoteRead 0 (List.replicate 257 0) 0, .remoteWrite 8 [] 0, .remoteWrite 0 (List.replicate 257 0) 0, .remoteAnswer 8 [] 0, .remoteAnswer 0 (List.replicate 257 0) 0, .reset 8 [] 0]
def illFormed11 : List Instr :=
  [.reset 0 (List.replicate 257 0) 0, .blockResetEnd 9 0, .vreg5InRegulation 262144 0, .switchingPeriod 128 0 0 0, .cellOvRelease 2 ⟨0, 0⟩ 0, .cellOvRelease 0 ⟨16, 0⟩ 0, .dhLimitStart 128 false 0, .dhLimitEnd 128 0]
/-- One ill-formed command for every check of Instr.wf. -/
theorem test_ill_formed_are_refused : (illFormed0 ++ illFormed1 ++ illFormed2 ++ illFormed3 ++ illFormed4 ++ illFormed5 ++ illFormed6 ++ illFormed7 ++ illFormed8 ++ illFormed9 ++ illFormed10 ++ illFormed11).all (fun i => i.wf == false) = true := by decide +kernel

def wellFormed0 : List Instr :=
  [.wordWrite .spi 0 0 0 0 none 0, .wordRead .spi 0 0, .wideValueFirstRead .spi 0 0, .blockRead .spi 0 0, .blockWrite .spi 0 [] none 0, .openSession .spi [] none 0, .dataFrame .spi [] none 0, .hostProtocolViolation .spi 0 0 0 0, .hostBusTimeout .spi 0 0 0, .dormantEntryAbort 0 0, .wake 0 0, .frame frameSample]
def wellFormed1 : List Instr :=
  [.sampleInstant 0 0 0 [] 0, .shelfTick [] 0, .governorChange 0 0, .slotSetWrite .spi 0 0 0, .slotEnable 0 0, .authorityConflict .a 0 0 0 0 0, .groupEnable 0 0, .groupDisable 0 0, .grpFswWrite .spi 0 0 0, .groupPowerGood 0 0, .groupPowerGoodLost 0 0, .softStartTimeout 0 0]
def wellFormed2 : List Instr :=
  [.hiccupEnd 0 0, .groupRetrycntClear 0 0, .phaseTrip 0 0 0, .phaseTripRepeat 0 0, .phaseImbalanceBlockEnd 0 0, .syncAcquire 0 0 0, .syncAligned 0 0, .syncLoss 0 0, .shedTransitionEnd 0 0, .gateTrip 0 0 0, .channelEnhanced 0 0, .channelEnhancementLost 0 0]
def wellFormed3 : List Instr :=
  [.attemptTimerExpiry 0 0, .feedEnableWrite .spi 0 0 0, .feedQualified 0 0, .feedQualificationLost 0 0, .idealDiodeTurnOn 0 0, .branchEnable 0 0, .branchDisable 0 0, .branchPowerGood 0 0, .branchPowerGoodDrop 0 0, .branchLimitStart 0 0, .branchLimitEnd 0 0, .branchOvertemp 0 0]
def wellFormed4 : List Instr :=
  [.branchCooldownEnd 0 0, .brCoolremUpdate 0 0, .branchRetrycntClear 0 0, .stringEnable 0 0, .stringDisable 0 0, .stringCutoff 0 0, .stringCutoffExit 0 0, .dhCooldownEnd 0 0, .dhRetrycntClear 0 0, .chargeEvaluation 0 0, .chargeSuspendEnd 0 0, .chargeTermination 0 0]
def wellFormed5 : List Instr :=
  [.topoffEnd 0 0, .chargeSafetyTimeout 0 0, .prechargeTimeout 0 0, .rechargeStart 0 0, .supervisedFull 0 0, .cellOvTrip 0 ⟨0, 0⟩ 0, .restCorrection 0 0, .estQclr .spi 0 0 0, .estRelearn .spi 0 0 0, .estCommit .spi 0 0 0, .rectShareError 0 0, .throttleRelease 0 0]
def wellFormed6 : List Instr :=
  [.reportTimeout 0 0, .scanComplete (List.replicate 97 0) 0, .railTonExpiry 0 0, .railRiseTimeout 0 0, .railToffExpiry 0 0, .railFallTimeout 0 0, .railDischargeEnd 0 0, .graphOffWaitEnd 0 0, .inputAccept 0 false 0, .inputIntervalEnd 0 0, .faultRaise 0 0 none 0 0 0 0 0, .recordOffer 0 0 [] 0]
def wellFormed7 : List Instr :=
  [.recordWrite 0 0 [] 0, .bucketRefill 0 0, .dsTransactionComplete 0 [] 0, .dsTransactionFail 0 false 0, .dsStretchTimeout 0 0, .pollCycle 0 0, .dsProbe 0 0 0, .dsAlert 0 0, .dsAlertRepeat 0 0, .polEnWrite .spi 0 0 0, .polVsetWrite .spi 0 0 0, .segmentStuck 0 0]
def wellFormed8 : List Instr :=
  [.segmentRequalify 0 0, .segmentCycleFail 0 0, .dspRequal .spi 0 0 0, .linkFrameReceive false [] 0 0, .hello false [] 0, .echoRequest false [] 0, .echoReply [] 0, .time [] 0, .report 0 [] 0, .alloc [] 0, .remoteRead 0 [] 0, .remoteWrite 0 [] 0]
def wellFormed9 : List Instr :=
  [.remoteAnswer 0 [] 0, .reset 0 [] 0, .blockResetEnd 0 0, .vreg5InRegulation 0 0, .switchingPeriod 0 0 0 0, .cellOvRelease 0 ⟨0, 0⟩ 0, .dhLimitStart 0 false 0, .dhLimitEnd 0 0]
/-- The same commands with operands of zero, lists of the right length. -/
theorem test_well_formed_are_taken : (wellFormed0 ++ wellFormed1 ++ wellFormed2 ++ wellFormed3 ++ wellFormed4 ++ wellFormed5 ++ wellFormed6 ++ wellFormed7 ++ wellFormed8 ++ wellFormed9).all (fun i => i.wf == true) = true := by decide +kernel

/-! ### Vectors from the spec's worked examples and from published standards -/

/-- 02, "Reading the shelf header" and R49: 54.00 V, 1500 A, PBASE 81.0 kW; 9123 W is stored as 9120 W. -/
theorem test_ef18_words : (ef 0x3D518, ef 0x005DC, toEF (ef 0x3D518 * ef 0x005DC), toEF 9123) = ((54 : Rat), (1500 : Rat), (0x03FA4 : Word), (0x02390 : Word)) := by decide +kernel

/-- The same example: 51.30 V and 1200 A on those bases, and their product. -/
theorem test_pu18_words : (toPU (5130 / 5400), toPU (1200 / 1500), toPU (pu 0x0F333 * pu 0x0CCCD)) = ((0x0F333 : Word), (0x0CCCD : Word), (0x0C28F : Word)) := by decide +kernel

/-- 02, "A clamped write seen on the bus": 1.5 pu written to a branch limit is stored as 1.25 pu, acknowledged, marked, and reported in CLAMP. -/
theorem test_clamped_write :
    (let n := after { smp [] with tw := { ctx := 8 }, pending := [.wordWrite .twoWire BR_ILIM 0x00 0x80 0x01 none 0] }
    (n.cw 8 BR_ILIM, n.isClamped (ctxAddr 8 BR_ILIM), n.flag (ctxAddr 8 CTX_STS) 1, n.tw.acked)) = ((0x14000 : Word), true, true, true) := by decide +kernel

/-- The same example: the read that follows. -/
theorem test_clamped_read :
    ((after { smp [(ctxAddr 8 BR_ILIM, 0x14000)] with clamped := [(ctxAddr 8 BR_ILIM, true)], tw := { ctx := 8 }, pending := [.wordRead .twoWire BR_ILIM 0] }).tw.resp).take 3 = [0x00, 0x40, 0x09] := by decide +kernel

/-- The converter group of 16, "Reading a group current with PEC": context 40 at 700 A, with its answer fresh. -/
def pecSample : State :=
  { smp [(HOST_CFG, 1), (ctxAddr 40 CTX_IMEAS, 0x07777)] with image := some { sampleImage with contexts := [rShelf, recOf 40 .group 2 3 0 0] }, updated := [(ctxAddr 40 CTX_IMEAS, 1000000000000)] }

/-- That example: CPAGE with PEC 0x5B is taken. -/
theorem test_pec_write : (after { pecSample with pending := [.cpageWrite .twoWire 0x28 (some 0x5B) 0] }).tw.ctx = 40 := by decide +kernel

/-- And with another PEC it is not. -/
theorem test_pec_refused : (after { pecSample with pending := [.cpageWrite .twoWire 0x28 (some 0x5C) 0] }).tw.ctx = 0 := by decide +kernel

/-- The read with PEC 0x04 over two-wire. -/
theorem test_pec_read : (after { pecSample with tw := { ctx := 40 }, pending := [.wordRead .twoWire 0x09 0] }).tw.resp = [0x77, 0x77, 0x00, 0x04] := by decide +kernel

/-- The read with CRC 0xDA over SPI, after the result of the write frame and the token. -/
theorem test_spi_read : (after { pecSample with spi := { ctx := 40 }, pending := [.wordRead .spi 0x09 0] }).spi.resp = [0x5A, 0x5A, 0x77, 0x77, 0x00, 0xDA] := by decide +kernel

/-- 18, "One allocation cycle": three chips, 200 kW, the shares rounded down. -/
theorem test_allocation_cycle :
    State.allocations { smp [(ctxAddr 0 CTX_PMEAS, 0x10000), (ctxAddr 0 CTX_PBASE, 0x03C20), (ctxAddr 0 SHELF_RFLOOR, 0x08E39), (ctxAddr 0 SHELF_RWEIGHT, 1), (ctxAddr 0 SHELF_RACKLIM, 0x047D0)] with
      casc := { nchip := 3, reports := [(1, { d := 0x03FA4, f := 0x02FA0, fb := 0, w := 1, time := 1000000000000, given := none }), (2, { d := 0x03770, f := 0x02FA0, fb := 0, w := 2, time := 1000000000000, given := none })] } } =
      [(0, some 0x03879), (1, some 0x03AF6), (2, some 0x03AAF)] := by decide +kernel

/-- 15, "A recall record read through the window": the first sixteen bytes and the length of the record. -/
theorem test_recall_record :
    (let r : Rec := { code := 0x1508, ctx := 0x28, time := 1000004000, origin := 1, replay := false, payload := List.replicate 16 0, written := false }
    ((r.bytes 0x1A2F3 false).take 16, (r.bytes 0x1A2F3 false).length)) =
      ([0x09, 0x01, 0x08, 0x15, 0xF3, 0xA2, 0x01, 0x00, 0xA0, 0xD9, 0x9A, 0x3B, 0x00, 0x00, 0x00, 0x28], 36) := by decide +kernel

/-- The check value of CRC-32 for "123456789" (R68 has the form of IEEE 802.3). -/
theorem test_crc32_check_value : crc32 [0x31, 0x32, 0x33, 0x34, 0x35, 0x36, 0x37, 0x38, 0x39] = 0xCBF43926 := by decide +kernel

/-- SHA-256 of "abc" (FIPS 180). -/
theorem test_sha256_abc : ofBe (sha256 [0x61, 0x62, 0x63]) = 0xba7816bf8f01cfea414140de5dae2223b00361a396177a9cb410ff61f20015ad := by decide +kernel

/-- The rows of the table give no bits, so no word spells a command. -/
theorem test_no_word_decodes : decodeTableWord 24 0x123456 = none ∧ (smp []).withFetchWord 24 0x123456 = smp [] := ⟨rfl, rfl⟩


/-- R175, R196: 5 mV across a branch's shunt of 1 mOhm is 5 A, which is 0.5 pu of a base of 10 A. -/
theorem test_shunt_current :
    (let n := after { smp [(GCH_STS + 3, 3), (ctxAddr 8 BR_RSHUNT, toEF (1 / 1000)), (ctxAddr 8 CTX_IBASE, toEF 10), (ctxAddr 8 CTX_VBASE, toEF 50)] with
      now := 1000000000000, pending := [.frame { frameSample with t := 1000000000200, gate := List.replicate 3 { shunt := 0, visn := 0, vsrc := 0, vgs := 0, regulating := false } ++ [{ shunt := 5000000, visn := 0, vsrc := 0, vgs := 12000000, regulating := false }] ++ List.replicate 12 { shunt := 0, visn := 0, vsrc := 0, vgs := 0, regulating := false } }] }
    (n.chan 3).cur) = 5 := by decide +kernel
/-! ### A signed firmware slot and a signed image slot -/

/-- The OTP with the SHA-256 of the key of RFC 6979, A.2.5, provisioned in slot 0 (R469). -/
def keyOtp : List (Nat × Byte) := assignAll 0 [] 0x20 (beBytes 32 0xd6c23e2744a840cb3a5a14b6554cce7c070057c4e3298cb93577de687eece659)

/-- The bytes that are not zero of a firmware slot of 4096 bytes: its header, four bytes of code, version 7, and a trailer signed outside the model under that key (R467, R70). -/
def fwCells0 : List (Nat × Byte) := [(0, 0x47), (1, 0x51), (2, 0x46), (3, 0x57), (4, 0x01), (6, 0x80), (9, 0x10), (12, 0x27), (13, 0x81), (16, 0x03), (20, 0x07), (28, 0x04), (124, 0x40), (125, 0x5D), (126, 0xCA), (127, 0x3C), (128, 0x11), (129, 0x22), (130, 0x33), (131, 0x44), (3968, 0x60), (3969, 0xFE), (3970, 0xD4), (3971, 0xBA), (3972, 0x25), (3973, 0x5A), (3974, 0x9D), (3975, 0x31), (3976, 0xC9), (3977, 0x61), (3978, 0xEB), (3979, 0x74), (3980, 0xC6), (3981, 0x35), (3982, 0x6D), (3983, 0x68), (3984, 0xC0), (3985, 0x49), (3986, 0xB8), (3987, 0x92), (3988, 0x3B), (3989, 0x61), (3990, 0xFA), (3991, 0x6C), (3992, 0xE6), (3993, 0x69), (3994, 0x62), (3995, 0x2E), (3996, 0x60), (3997, 0xF2), (3998, 0x9F), (3999, 0xB6), (4000, 0x79), (4001, 0x03), (4002, 0xFE), (4003, 0x10), (4004, 0x08), (4005, 0xB8), (4006, 0xBC), (4007, 0x99), (4008, 0xA4), (4009, 0x1A), (4010, 0xE9), (4011, 0xE9), (4012, 0x56), (4013, 0x28), (4014, 0xBC), (4015, 0x64), (4016, 0xF2), (4017, 0xF1), (4018, 0xB2), (4019, 0x0C), (4020, 0x2D), (4021, 0x7E), (4022, 0x9F), (4023, 0x51), (4024, 0x77), (4025, 0xA3), (4026, 0xC2), (4027, 0x94)]
def fwCells1 : List (Nat × Byte) := [(4028, 0xD4), (4029, 0x46), (4030, 0x22), (4031, 0x99), (4032, 0xEF), (4033, 0xD4), (4034, 0x8B), (4035, 0x2A), (4036, 0xAC), (4037, 0xB6), (4038, 0xA8), (4039, 0xFD), (4040, 0x11), (4041, 0x40), (4042, 0xDD), (4043, 0x9C), (4044, 0xD4), (4045, 0x5E), (4046, 0x81), (4047, 0xD6), (4048, 0x9D), (4049, 0x2C), (4050, 0x87), (4051, 0x7B), (4052, 0x56), (4053, 0xAA), (4054, 0xF9), (4055, 0x91), (4056, 0xC3), (4057, 0x4D), (4058, 0x0E), (4059, 0xA8), (4060, 0x4E), (4061, 0xAF), (4062, 0x37), (4063, 0x16), (4064, 0xB4), (4065, 0xB5), (4066, 0x67), (4067, 0xD0), (4068, 0x23), (4069, 0x11), (4070, 0x90), (4071, 0xCC), (4072, 0x6D), (4073, 0x34), (4074, 0x1C), (4076, 0x66), (4077, 0x46), (4078, 0xFB), (4079, 0x2A), (4080, 0x9C), (4081, 0x2B), (4082, 0x65), (4083, 0x59), (4084, 0xB4), (4085, 0x12), (4086, 0x75), (4087, 0x2E), (4088, 0x86), (4089, 0x11), (4090, 0x2E), (4091, 0x21), (4092, 0xC2), (4093, 0xBC), (4094, 0xE4), (4095, 0xBF)]
def fwCells : List (Nat × Byte) := fwCells0 ++ fwCells1

/-- The bytes that are not zero of an image of 1024 bytes: the shelf alone with its allowance group, the reaction matrix all Note, and a trailer signed outside the model under that key (R67 to R83). -/
def imgCells0 : List (Nat × Byte) := [(0, 0x53), (1, 0x59), (2, 0x4E), (3, 0x48), (4, 0x01), (6, 0x80), (9, 0x04), (12, 0x27), (13, 0x81), (16, 0x03), (18, 0x05), (24, 0x01), (28, 0x01), (30, 0x01), (124, 0xD2), (125, 0x14), (126, 0x1D), (127, 0x50), (128, 0x01), (130, 0x01), (132, 0xD0), (136, 0x10), (140, 0x01), (142, 0x10), (144, 0x03), (146, 0x01), (148, 0xE0), (152, 0x24), (156, 0x01), (158, 0x24), (160, 0x05), (162, 0x01), (164, 0x04), (165, 0x01), (168, 0x08), (172, 0x01), (174, 0x08), (176, 0x07), (178, 0x01), (180, 0x0C), (181, 0x01), (184, 0x40), (185, 0x02), (188, 0x90), (190, 0x04), (192, 0x08), (194, 0x01), (196, 0x4C), (197, 0x03), (200, 0x08), (204, 0x01), (206, 0x08), (209, 0x01), (211, 0x01), (212, 0x18), (213, 0xD5), (214, 0x03), (215, 0xDC), (216, 0x05), (218, 0xFF), (228, 0x14), (230, 0x15), (233, 0xC0), (261, 0x04), (266, 0x01), (268, 0x01), (272, 0x01), (273, 0x01), (276, 0x01), (277, 0x02), (280, 0x01), (281, 0x03), (284, 0x01), (285, 0x04), (288, 0x01), (289, 0x05), (292, 0x01), (293, 0x06), (296, 0x01), (297, 0x07)]
def imgCells1 : List (Nat × Byte) := [(300, 0x01), (301, 0x08), (304, 0x01), (305, 0x09), (308, 0x01), (309, 0x0A), (312, 0x01), (313, 0x0B), (316, 0x01), (317, 0x0C), (320, 0x01), (321, 0x0D), (324, 0x01), (325, 0x0E), (328, 0x01), (329, 0x0F), (332, 0x02), (336, 0x02), (337, 0x01), (340, 0x02), (341, 0x02), (344, 0x02), (345, 0x03), (348, 0x02), (349, 0x04), (352, 0x02), (353, 0x05), (356, 0x02), (357, 0x06), (360, 0x02), (361, 0x07), (364, 0x02), (365, 0x08), (368, 0x02), (369, 0x09), (372, 0x02), (373, 0x0A), (376, 0x02), (377, 0x0B), (380, 0x02), (381, 0x0C), (384, 0x02), (385, 0x0D), (388, 0x02), (389, 0x0E), (392, 0x02), (393, 0x0F), (396, 0x03), (400, 0x03), (401, 0x01), (404, 0x03), (405, 0x02), (408, 0x03), (409, 0x03), (412, 0x03), (413, 0x04), (416, 0x03), (417, 0x05), (420, 0x03), (421, 0x06), (424, 0x03), (425, 0x07), (428, 0x03), (429, 0x08), (432, 0x03), (433, 0x09), (436, 0x03), (437, 0x0A), (440, 0x03), (441, 0x0B), (444, 0x03), (445, 0x0C), (448, 0x03), (449, 0x0D), (452, 0x03), (453, 0x0E), (456, 0x03), (457, 0x0F), (460, 0x04), (464, 0x04)]
def imgCells2 : List (Nat × Byte) := [(465, 0x01), (468, 0x04), (469, 0x02), (472, 0x04), (473, 0x03), (476, 0x04), (477, 0x04), (480, 0x04), (481, 0x05), (484, 0x04), (485, 0x06), (488, 0x04), (489, 0x07), (492, 0x04), (493, 0x08), (496, 0x04), (497, 0x09), (500, 0x04), (501, 0x0A), (504, 0x04), (505, 0x0B), (508, 0x04), (509, 0x0C), (512, 0x04), (513, 0x0D), (516, 0x04), (517, 0x0E), (520, 0x04), (521, 0x0F), (524, 0x05), (528, 0x05), (529, 0x01), (532, 0x05), (533, 0x02), (536, 0x05), (537, 0x03), (540, 0x05), (541, 0x04), (544, 0x05), (545, 0x05), (548, 0x05), (549, 0x06), (552, 0x05), (553, 0x07), (556, 0x05), (557, 0x08), (560, 0x05), (561, 0x09), (564, 0x05), (565, 0x0A), (568, 0x05), (569, 0x0B), (572, 0x05), (573, 0x0C), (576, 0x05), (577, 0x0D), (580, 0x05), (581, 0x0E), (584, 0x05), (585, 0x0F), (588, 0x06), (592, 0x06), (593, 0x01), (596, 0x06), (597, 0x02), (600, 0x06), (601, 0x03), (604, 0x06), (605, 0x04), (608, 0x06), (609, 0x05), (612, 0x06), (613, 0x06), (616, 0x06), (617, 0x07), (620, 0x06), (621, 0x08), (624, 0x06), (625, 0x09), (628, 0x06)]
def imgCells3 : List (Nat × Byte) := [(629, 0x0A), (632, 0x06), (633, 0x0B), (636, 0x06), (637, 0x0C), (640, 0x06), (641, 0x0D), (644, 0x06), (645, 0x0E), (648, 0x06), (649, 0x0F), (652, 0x07), (656, 0x07), (657, 0x01), (660, 0x07), (661, 0x02), (664, 0x07), (665, 0x03), (668, 0x07), (669, 0x04), (672, 0x07), (673, 0x05), (676, 0x07), (677, 0x06), (680, 0x07), (681, 0x07), (684, 0x07), (685, 0x08), (688, 0x07), (689, 0x09), (692, 0x07), (693, 0x0A), (696, 0x07), (697, 0x0B), (700, 0x07), (701, 0x0C), (704, 0x07), (705, 0x0D), (708, 0x07), (709, 0x0E), (712, 0x07), (713, 0x0F), (716, 0x08), (720, 0x08), (721, 0x01), (724, 0x08), (725, 0x02), (728, 0x08), (729, 0x03), (732, 0x08), (733, 0x04), (736, 0x08), (737, 0x05), (740, 0x08), (741, 0x06), (744, 0x08), (745, 0x07), (748, 0x08), (749, 0x08), (752, 0x08), (753, 0x09), (756, 0x08), (757, 0x0A), (760, 0x08), (761, 0x0B), (764, 0x08), (765, 0x0C), (768, 0x08), (769, 0x0D), (772, 0x08), (773, 0x0E), (776, 0x08), (777, 0x0F), (780, 0x09), (784, 0x09), (785, 0x01), (788, 0x09), (789, 0x02), (792, 0x09), (793, 0x03)]
def imgCells4 : List (Nat × Byte) := [(796, 0x09), (797, 0x04), (800, 0x09), (801, 0x05), (804, 0x09), (805, 0x06), (808, 0x09), (809, 0x07), (812, 0x09), (813, 0x08), (816, 0x09), (817, 0x09), (820, 0x09), (821, 0x0A), (824, 0x09), (825, 0x0B), (828, 0x09), (829, 0x0C), (832, 0x09), (833, 0x0D), (836, 0x09), (837, 0x0E), (840, 0x09), (841, 0x0F), (896, 0x60), (897, 0xFE), (898, 0xD4), (899, 0xBA), (900, 0x25), (901, 0x5A), (902, 0x9D), (903, 0x31), (904, 0xC9), (905, 0x61), (906, 0xEB), (907, 0x74), (908, 0xC6), (909, 0x35), (910, 0x6D), (911, 0x68), (912, 0xC0), (913, 0x49), (914, 0xB8), (915, 0x92), (916, 0x3B), (917, 0x61), (918, 0xFA), (919, 0x6C), (920, 0xE6), (921, 0x69), (922, 0x62), (923, 0x2E), (924, 0x60), (925, 0xF2), (926, 0x9F), (927, 0xB6), (928, 0x79), (929, 0x03), (930, 0xFE), (931, 0x10), (932, 0x08), (933, 0xB8), (934, 0xBC), (935, 0x99), (936, 0xA4), (937, 0x1A), (938, 0xE9), (939, 0xE9), (940, 0x56), (941, 0x28), (942, 0xBC), (943, 0x64), (944, 0xF2), (945, 0xF1), (946, 0xB2), (947, 0x0C), (948, 0x2D), (949, 0x7E), (950, 0x9F), (951, 0x51)]
def imgCells5 : List (Nat × Byte) := [(952, 0x77), (953, 0xA3), (954, 0xC2), (955, 0x94), (956, 0xD4), (957, 0x46), (958, 0x22), (959, 0x99), (960, 0xEF), (961, 0xD4), (962, 0x8B), (963, 0x2A), (964, 0xAC), (965, 0xB6), (966, 0xA8), (967, 0xFD), (968, 0x11), (969, 0x40), (970, 0xDD), (971, 0x9C), (972, 0xD4), (973, 0x5E), (974, 0x81), (975, 0xD6), (976, 0x9D), (977, 0x2C), (978, 0x87), (979, 0x7B), (980, 0x56), (981, 0xAA), (982, 0xF9), (983, 0x91), (984, 0xC3), (985, 0x4D), (986, 0x0E), (987, 0xA8), (988, 0x4E), (989, 0xAF), (990, 0x37), (991, 0x16), (992, 0xA1), (993, 0x07), (994, 0x12), (995, 0x9E), (996, 0x7F), (997, 0x70), (998, 0xE6), (999, 0x62), (1000, 0x08), (1001, 0x89), (1002, 0x84), (1003, 0x6D), (1004, 0x20), (1005, 0xC6), (1006, 0x85), (1007, 0x17), (1008, 0xDC), (1009, 0xDC), (1010, 0xE3), (1011, 0x11), (1012, 0x38), (1013, 0x29), (1014, 0x42), (1015, 0x31), (1016, 0xF1), (1017, 0xD2), (1018, 0x7A), (1019, 0xE0), (1020, 0xA7), (1021, 0x75), (1022, 0xB1), (1023, 0x6E)]
def imgCells : List (Nat × Byte) := imgCells0 ++ (imgCells1 ++ (imgCells2 ++ (imgCells3 ++ (imgCells4 ++ imgCells5))))

/-- The firmware in slot A, no image: at start-up with its check due, and, for the other rules that check a slot, a CLOSE check and an activation of it. -/
def fwSample : State :=
  { smp [(SYS_STATE, 0)] with mram := fwCells, otp := keyOtp, image := none, arb := { col := some .startUp, stamped := true }, upd := { closing := some (1, 0), act := some 0, toTry := [0, 1] } }

/-- The image in image slot A, no image running, and a dry check of the slot. -/
def imgSample : State :=
  { smp [] with mram := imgCells.map (fun c => (0x100000 + c.1, c.2)), otp := keyOtp, image := none, upd := { check := some (.dry, 0) } }

/-- The firmware slot as it is read. -/
def fwRaw : Raw := { cells := fwCells, size := 524288 }

/-- The image slot as the loader reads it, and what it spells. -/
def imgRaw : Raw := { cells := imgCells, size := 131072 }
def imgData : Image where
  rollback := 0
  keySlot := 0
  imgVer := 1
  minFw := 0
  ckptVer := 1
  setVer := 1
  contexts := [rShelf]
  slots := [{ slot := 0, law := 0, group := 0, ref := .word 0 SHELF_PCAPEFF, fb := .word 0 SHELF_PSRC, ff := .none, words := List.replicate 8 0, coef := [] }]
  groups := [{ group := 0, tkind := 4, tindex := 0, owner := 0, fallback := 0x10000 }]
  graphs := []
  matrix := (List.range 144).map (fun i => { typ := i / 16 + 1, cls := i % 16, sev := 0, react := 0 })
  safe := [{ ctx := 0, menu := 0, param := 0 }]
  pins := []
  fallback := []
  overrides := []
  init := []
  migration := []


/-- The first n bytes that a canonical list of cells spells from a on, in one pass. -/
def dense : List (Nat × Byte) → Nat → Nat → List Byte
  | _, _, 0 => []
  | [], a, n + 1 => 0 :: dense [] (a + 1) n
  | (k, v) :: r, a, n + 1 => if k = a then v :: dense r (a + 1) n else 0 :: dense ((k, v) :: r) (a + 1) n

theorem canonicalFrom_mono {b b' : Nat} {l : List (Nat × Byte)} (h : canonicalFrom 0 b l = true) (hb : ∀ p ∈ l.head?, b' ≤ p.1) : canonicalFrom 0 b' l = true := by
  cases l with
  | nil => rfl
  | cons p r =>
    simp only [canonicalFrom, Bool.and_eq_true, decide_eq_true_eq] at h ⊢
    exact ⟨⟨hb p (by simp), h.1.2⟩, h.2⟩

theorem lookup_below {a b : Nat} {l : List (Nat × Byte)} (h : canonicalFrom 0 b l = true) (hab : a < b) : lookup 0 l a = 0 := by
  cases l with
  | nil => rfl
  | cons p r =>
    simp only [canonicalFrom, Bool.and_eq_true, decide_eq_true_eq] at h
    simp [lookup, Nat.lt_of_lt_of_le hab h.1.1]

theorem dense_spells (l : List (Nat × Byte)) (a n : Nat) (h : canonicalFrom 0 a l = true) : (List.range n).map (fun i => lookup 0 l (a + i)) = dense l a n := by
  induction n generalizing l a with
  | zero => simp [dense]
  | succ n ih =>
    have e : ∀ m : List (Nat × Byte), (List.range (n + 1)).map (fun i => lookup 0 m (a + i)) = lookup 0 m a :: (List.range n).map (fun i => lookup 0 m (a + 1 + i)) := by
      intro m
      rw [List.range_succ_eq_map]
      simp [Function.comp_def, Nat.add_assoc, Nat.add_comm 1]
    rw [e]
    cases l with
    | nil => simp [dense, lookup, ← ih [] (a + 1) rfl]
    | cons p r =>
      obtain ⟨k, v⟩ := p
      have h' := h
      simp only [canonicalFrom, Bool.and_eq_true, decide_eq_true_eq] at h
      simp only [dense]
      split
      · next hk =>
        subst hk
        rw [← ih r (k + 1) h.2]
        have : ∀ i, lookup 0 ((k, v) :: r) (k + 1 + i) = lookup 0 r (k + 1 + i) := by
          intro i
          simp only [lookup]
          rw [if_neg (by omega), if_neg (by omega)]
        have h0 : lookup 0 ((k, v) :: r) k = v := by simp [lookup]
        simp only [this, h0]
      · next hk =>
        rw [← ih ((k, v) :: r) (a + 1) (canonicalFrom_mono h' (by simp; omega))]
        have : lookup 0 ((k, v) :: r) a = 0 := by
          simp only [lookup]
          rw [if_pos (by omega)]
        rw [this]

/-- Bytes of a slot, cut from what its cells spell. -/
theorem bytes_spelled (b : Raw) (o n m : Nat) (h : canonicalFrom 0 0 b.cells = true) (hm : m ≤ b.size) (ho : o + n ≤ m) : b.bytes o n = ((dense b.cells 0 m).drop o).take n := by
  rw [← dense_spells b.cells 0 m h]
  apply List.ext_getElem
  · simp [Raw.bytes]; omega
  · intro i h1 h2
    simp only [Raw.bytes, List.length_map, List.length_range] at h1
    simp [Raw.bytes, Raw.at, show o + i < b.size by omega]

/-- A signature, on what the cells spell. -/
theorem signature_spelled (b : Raw) (m : Nat) (h : canonicalFrom 0 0 b.cells = true) (hm : m ≤ b.size) (ht : b.totlen = m) (h0 : 128 ≤ m) :
    b.signatureOk = (let l := dense b.cells 0 m
      let be (o : Nat) : Nat := ofBe ((l.drop o).take 32)
      ecdsaOk (be (m - 128)) (be (m - 96)) (be (m - 64)) (be (m - 32)) (sha256 (l.take (m - 64)))) := by
  unfold Raw.signatureOk
  simp only [ht]
  rw [bytes_spelled b 0 (m - 64) m h hm (by omega), bytes_spelled b (m - 128) 32 m h hm (by omega), bytes_spelled b (m - 96) 32 m h hm (by omega),
    bytes_spelled b (m - 64) 32 m h hm (by omega), bytes_spelled b (m - 32) 32 m h hm (by omega)]
  rfl

set_option maxRecDepth 100000

theorem firmware_signed : fwRaw.signatureOk = true := by
  rw [signature_spelled fwRaw 4096 (by decide +kernel) (by decide) (by decide +kernel) (by decide)]
  decide +kernel

theorem image_signed : imgRaw.signatureOk = true := by
  rw [signature_spelled imgRaw 1024 (by decide +kernel) (by decide) (by decide +kernel) (by decide)]
  decide +kernel

theorem firmware_slot : fwSample.firmwareSlot 0 = fwRaw := by
  have h : (fwSample.firmwareSlot 0).cells = fwCells := by decide +kernel
  have g : fwSample.firmwareSlot 0 = { cells := (fwSample.firmwareSlot 0).cells, size := 524288 } := rfl
  rw [g, h]
  rfl

theorem image_slot : imgSample.imageSlot 0 = imgRaw := by
  have h : (imgSample.imageSlot 0).cells = imgCells := by decide +kernel
  have g : imgSample.imageSlot 0 = { cells := (imgSample.imageSlot 0).cells, size := 131072 } := rfl
  rw [g, h]
  rfl

theorem firmware_head : fwSample.headChecks fwRaw firmwareHead = none := by
  unfold State.headChecks
  rw [firmware_signed]
  decide +kernel

theorem image_head : imgSample.headChecks imgRaw imageHead = none := by
  unfold State.headChecks
  rw [image_signed]
  decide +kernel

theorem image_version : need (decide (imgRaw.u 0x30 4 ≤ imgSample.fwver)) 0x0D 0 = none := by decide +kernel

theorem image_form : firstOf [imgRaw.dirChecks, imgRaw.checkZeros] = none := by decide +kernel

theorem image_data : imgRaw.image = imgData := by decide +kernel

theorem image_rules : firstOf [checkContexts imgRaw imgData, checkBases imgData, checkResources imgData, imgSample.checkVariant imgData, checkStrands imgData, checkSlots imgRaw imgData, checkGroups imgData, checkGraphs imgRaw imgData, checkMatrix imgData,
    checkSafe imgData, checkPins imgData, checkFallback imgData, checkInit imgData, none] = none := by decide +kernel

/-- What the checks of a firmware slot amount to. -/
theorem firmware_checked (s : State) (slot : Nat) (act : Bool) (b : Raw) (hb : s.firmwareSlot slot = b) (hi : s.image.isNone = true) (h : s.headChecks b firmwareHead = none)
    (h1 : need (b.u 0x18 4 % 4 == 0 && decide (b.u 0x18 4 < b.u 0x1C 4) && decide (1 ≤ b.u 0x1C 4) && decide (b.u 0x1C 4 ≤ 196608) && decide (0x80 + b.u 0x1C 4 + 128 ≤ b.totlen)) 0x21 0 = none)
    (h2 : need (b.zero 0x30 76) 0x22 0 = none) : s.checkFirmware slot act = none := by
  have h0 : ∀ x : Bool, need (!act || true || x) 0x0D 0 = none := by intro x; cases act <;> rfl
  simp only [State.checkFirmware, hb, hi, h, h0, h1, h2]
  rfl

/-- What the checks of an image slot amount to where no image runs. -/
theorem image_checked (s : State) (slot : Nat) (b : Raw) (im : Image) (hb : s.imageSlot slot = b) (hm : b.image = im) (hi : s.image.isSome = false) (h : s.headChecks b imageHead = none)
    (h1 : need (decide (b.u 0x30 4 ≤ s.fwver)) 0x0D 0 = none) (h2 : firstOf [b.dirChecks, b.checkZeros] = none)
    (h3 : firstOf [checkContexts b im, checkBases im, checkResources im, s.checkVariant im, checkStrands im, checkSlots b im, checkGroups im, checkGraphs b im, checkMatrix im,
      checkSafe im, checkPins im, checkFallback im, checkInit im, none] = none) : s.check slot = none := by
  have h0 : firstOf [(none : Option Bad), none] = none := rfl
  simp only [State.check, State.checkImage, hb, hm, hi, h, h1, h0, h2, h3, Bool.false_eq_true, if_false]

/-- The firmware passes every check of R468, its signature among them, and it may be activated: no image sets a lowest version. -/
theorem firmware_passes (act : Bool) : fwSample.checkFirmware 0 act = none :=
  firmware_checked fwSample 0 act fwRaw firmware_slot (by decide +kernel) firmware_head (by decide +kernel) (by decide +kernel)

/-- The image passes every check of R93, its signature among them. -/
theorem image_passes : imgSample.check 0 = none :=
  image_checked imgSample 0 imgRaw imgData image_slot image_data (by decide +kernel) image_head image_version image_form image_rules

theorem regs_ok {s : State} (h : canonical 0 s.regs = true) : RegsOk s := h
theorem listens {s : State} (h : s.sys ≠ sysDormant ∧ s.arb.entryWait = false) : Listens s := h
theorem formed {s : State} (h : canonical 0 s.regs = true ∧ canonical false s.clamped = true ∧ canonical 0 s.updated = true ∧ canonical false s.staleMark = true ∧ s.mram.wf = true) : Formed s := h
theorem answers {p : Port} {s : State} (h : (s.iface p).waiting = none ∧ s.arb.entryWait = false ∧ s.service p ≠ .away ∧ s.service p ≠ .other) : Answers p s := h
theorem serves {p : Port} {s : State} (h : (s.iface p).waiting = none ∧ s.arb.entryWait = false ∧ s.service p = .full ∧ s.journal.length < 96 ∧ s.upd.frame = none) : ServesAll p s := h

/-! ### Hypotheses that are met -/

/-- States and operands that meet the hypotheses of StepTakesTheFrontCommand, clause by clause. -/
theorem test_step_takes_the_front_command :
    (∃ (s : State), (s.pending = [])) :=
  ⟨State.reset, by decide +kernel⟩

/-- States and operands that meet the hypotheses of EveryCommandAdvancesTheQueue, clause by clause. -/
theorem test_every_command_advances_the_queue :
    (∃ (c : Instr) (rest : List Instr) (s : State), (s.pending = c :: rest)) :=
  ⟨.addressProbe 0, [.spiNoop 1], { State.reset with pending := [.addressProbe 0, .spiNoop 1] }, by decide +kernel⟩

/-- States and operands that meet the hypotheses of EveryStepKeepsOutputsTrue, clause by clause. -/
theorem test_every_step_keeps_outputs_true :
    (∃ (s : State) (n : State), (s.outs = outputs s) ∧ (step s = .next n)) :=
  ⟨{ State.reset with pending := [.addressProbe 0] }, after { State.reset with pending := [.addressProbe 0] }, by decide +kernel, by rfl⟩

/-- States and operands that meet the hypotheses of EveryStepKeepsTablesCanonical, clause by clause. -/
theorem test_every_step_keeps_tables_canonical :
    (∃ (s : State) (n : State), (Formed s) ∧ (step s = .next n)) ∧
    (∃ (s : State) (n : State), (ImagesFit s) ∧ (step s = .next n)) :=
  ⟨⟨{ State.reset with pending := [.addressProbe 0] }, after { State.reset with pending := [.addressProbe 0] }, formed (by decide +kernel), by rfl⟩,
   ⟨{ State.reset with pending := [.addressProbe 0] }, after { State.reset with pending := [.addressProbe 0] }, by exact no_images _ rfl rfl, by rfl⟩⟩

/-- States and operands that meet the hypotheses of MramReadsBackWhatACommitWrites, clause by clause. -/
theorem test_mram_reads_back_what_a_commit_writes :
    (∃ (s : State), (s.mram.wf = true)) :=
  ⟨State.reset, by decide +kernel⟩

/-- States and operands that meet the hypotheses of HostSelectionsAreSetAndReturned, clause by clause. -/
theorem test_host_selections_are_set_and_returned :
    (∃ (p : Port) (lo : Byte) (hi : Byte) (pec : Option Byte) (t : Nat) (s : State), (Answers p (s.at t)) ∧ ((s.at t).checkBad p [0xE0, lo, hi] pec = none)) ∧
    (∃ (p : Port) (v : Byte) (pec : Option Byte) (t : Nat) (s : State), (Answers p (s.at t)) ∧ (v.toNat ≤ 0x7F) ∧ ((s.at t).checkBad p [0xE2, v] pec = none)) ∧
    (∃ (p : Port) (v : Byte) (pec : Option Byte) (t : Nat) (s : State), (Answers p (s.at t)) ∧ (v.toNat ≤ 0x11) ∧ ((s.at t).checkBad p [0xE3, v] pec = none)) ∧
    (∃ (p : Port) (t : Nat) (s : State), (Answers p (s.at t))) ∧
    (∃ (p : Port) (t : Nat) (s : State), (Answers p (s.at t))) ∧
    (∃ (t : Nat) (s : State), (Answers .twoWire (s.at t))) ∧
    (∃ (t : Nat) (s : State), (Answers .twoWire (s.at t))) ∧
    (∃ (t : Nat) (s : State), (Answers .spi (s.at t))) ∧
    (∃ (t : Nat) (s : State), (Answers .twoWire (s.at t)) ∧ (s.flag HOST_CFG 2 = true) ∧ ((outputs (s.at t)).halert = true)) :=
  ⟨⟨.spi, 0x34, 0x12, none, 0, smp [], answers (by decide +kernel), by decide +kernel⟩,
   ⟨.twoWire, 0x7F, none, 0, smp [], answers (by decide +kernel), by decide +kernel⟩,
   ⟨.twoWire, 0x11, none, 0, smp [], answers (by decide +kernel), by decide +kernel⟩,
   ⟨.twoWire, 0, smp [], answers (by decide +kernel)⟩,
   ⟨.spi, 0, smp [], answers (by decide +kernel)⟩,
   ⟨0, smp [], answers (by decide +kernel)⟩,
   ⟨0, smp [], answers (by decide +kernel)⟩,
   ⟨0, smp [], answers (by decide +kernel)⟩,
   ⟨0, smp [(HOST_CFG, 4), (HOST_ALERT, 1), (HOST_ALERTEN, 1)], answers (by decide +kernel), by decide +kernel⟩⟩

/-- States and operands that meet the hypotheses of HostWordsAreWrittenAndRead, clause by clause. -/
theorem test_host_words_are_written_and_read :
    (∃ (p : Port) (code : Nat) (t : Nat) (b0 : Byte) (b1 : Byte) (b2 : Byte) (pec : Option Byte) (s : State), (ServesAll p (s.at t)) ∧ (code < 128) ∧ ((s.at t).checkBad p [BitVec.ofNat 8 code, b0, b1, b2] pec = none) ∧ (s.implemented ((s.iface p).addrOf code) = false)) ∧
    (∃ (p : Port) (c : Nat) (k : Nat) (t : Nat) (b0 : Byte) (b1 : Byte) (b2 : Byte) (pec : Option Byte) (r : CtxRec) (s : State), (RegsOk s) ∧ (canonical false s.clamped = true) ∧ (ServesAll p (s.at t)) ∧ (c < 128) ∧ (0x10 ≤ k) ∧ (k < 0x40) ∧ ((s.at t).checkBad p [BitVec.ofNat 8 k, b0, b1, b2] pec = none) ∧ ((s.iface p).ctx = c) ∧ (s.ctx? c = some r) ∧ (r.typ = .shelf ∨ r.typ = .branch ∨ r.typ = .rail ∨ r.typ = .zone) ∧ (s.implemented (ctxAddr c k) = true) ∧ (s.shape? (ctxAddr c k) ≠ some .readOnly) ∧ (s.routeRefused r k (bytesWord b0 b1 b2) = false)) ∧
    (∃ (p : Port) (code : Nat) (t : Nat) (s : State), (ServesAll p (s.at t)) ∧ (code < 128) ∧ (s.wideOf ((s.iface p).addrOf code) = none) ∧ ((s.iface p).addrOf code ≠ BB_PDATA) ∧ (s.isolatedWord ((s.iface p).addrOf code) = false)) ∧
    (∃ (p : Port) (code : Nat) (t : Nat) (m : Nat) (s : State), (ServesAll p (s.at t)) ∧ (code < 128) ∧ (s.wideOf ((s.iface p).addrOf code) = some ((s.iface p).addrOf code, m)) ∧ (s.isolatedWord ((s.iface p).addrOf code) = false)) :=
  ⟨⟨.twoWire, 63, 0, 0, 0, 0, none, smp [], serves (by decide +kernel), by decide +kernel⟩,
   ⟨.twoWire, 0, 0x11, 0, 0, 0, 0, none, rShelf, smp [], regs_ok (by decide +kernel), by decide +kernel, serves (by decide +kernel), by decide +kernel⟩,
   ⟨.spi, 16, 0, smp [], serves (by decide +kernel), by decide +kernel⟩,
   ⟨.twoWire, 107, 0, 4, smp [], serves (by decide +kernel), by decide +kernel⟩⟩

/-- States and operands that meet the hypotheses of BlocksMoveThePointer, clause by clause. -/
theorem test_blocks_move_the_pointer :
    (∃ (p : Port) (m : Nat) (t : Nat) (s : State), (ServesAll p (s.at t)) ∧ (3 ≤ m) ∧ (m ≤ 96) ∧ (m % 3 = 0) ∧ ((∀ a ∈ (s.iface p).blockAddrs m, s.wideOf a = none ∧ a ≠ BB_PDATA ∧ s.isolatedWord a = false))) ∧
    (∃ (p : Port) (m : Nat) (t : Nat) (data : List Byte) (pec : Option Byte) (s : State), (ServesAll p (s.at t)) ∧ (3 ≤ m) ∧ (m ≤ 96) ∧ (m % 3 = 0) ∧ (data.length = m) ∧ ((s.at t).checkBad p ([0xE1, BitVec.ofNat 8 m] ++ data) pec = none) ∧ ((∀ a ∈ (s.iface p).blockAddrs m, a ≠ RST_SW))) :=
  ⟨⟨.twoWire, 96, 0, { smp [] with tw := { ptr := 0x2FF0 } }, serves (by decide +kernel), by decide +kernel⟩,
   ⟨.twoWire, 3, 0, [1, 2, 3], none, smp [], serves (by decide +kernel), by decide +kernel⟩⟩

/-- States and operands that meet the hypotheses of UndefinedWordsReadAsZero, clause by clause. -/
theorem test_undefined_words_read_as_zero :
    (∃ (p : Port) (c : Nat) (k : Nat) (t : Nat) (s : State), (ServesAll p (s.at t)) ∧ (c < 128) ∧ (k < 0x40) ∧ ((s.iface p).ctx = c) ∧ (s.ctx? c = none)) ∧
    (∃ (p : Port) (c : Nat) (k : Nat) (t : Nat) (b0 : Byte) (b1 : Byte) (b2 : Byte) (pec : Option Byte) (s : State), (ServesAll p (s.at t)) ∧ (c < 128) ∧ (k < 0x40) ∧ ((s.iface p).ctx = c) ∧ (s.ctx? c = none) ∧ ((s.at t).checkBad p [BitVec.ofNat 8 k, b0, b1, b2] pec = none)) ∧
    (∃ (p : Port) (c : Nat) (t : Nat) (v : Byte) (pec : Option Byte) (s : State), (Answers p (s.at t)) ∧ (v.toNat = c) ∧ (c ≤ 0x7F) ∧ (s.ctx? c = none) ∧ ((s.at t).checkBad p [0xE2, v] pec = none)) ∧
    (∃ (p : Port) (t : Nat) (s : State), (ServesAll p (s.at t)) ∧ (s.implemented (s.iface p).ptr = false) ∧ ((s.iface p).ptr < 0x4000 ∨ 0x4200 ≤ (s.iface p).ptr) ∧ ((s.iface p).ptr < 65536) ∧ (s.wideOf (s.iface p).ptr = none)) ∧
    (∃ (p : Port) (t : Nat) (b0 : Byte) (b1 : Byte) (b2 : Byte) (pec : Option Byte) (s : State), (ServesAll p (s.at t)) ∧ (s.implemented (s.iface p).ptr = false) ∧ ((s.iface p).ptr < 65536) ∧ ((s.at t).checkBad p [0xE1, 3, b0, b1, b2] pec = none)) :=
  ⟨⟨.twoWire, 127, 0x3F, 0, { smp [] with tw := { ctx := 127 } }, serves (by decide +kernel), by decide +kernel⟩,
   ⟨.twoWire, 127, 0x3F, 0, 0, 0, 0, none, { smp [] with tw := { ctx := 127 } }, serves (by decide +kernel), by decide +kernel⟩,
   ⟨.twoWire, 127, 0, 0x7F, none, smp [], answers (by decide +kernel), by decide +kernel⟩,
   ⟨.twoWire, 0, { smp [] with tw := { ptr := 0x3FFF } }, serves (by decide +kernel), by decide +kernel⟩,
   ⟨.twoWire, 0, 0, 0, 0, none, { smp [] with tw := { ptr := 65535 } }, serves (by decide +kernel), by decide +kernel⟩⟩

/-- States and operands that meet the hypotheses of ViolationsAreCountedAndAnswered, clause by clause. -/
theorem test_violations_are_counted_and_answered :
    (∃ (p : Port) (code : Nat) (t : Nat) (s : State), (RegsOk s) ∧ (s.arb.entryWait = false) ∧ (s.service p ≠ .away) ∧ (s.service p ≠ .other) ∧ (p.detects code = true) ∧ (((s.iface p).violations.filter (fun t0 => decide ((s.at t).now < t0 + ticksPerSecond))).length < 15)) ∧
    (∃ (p : Port) (code : Nat) (t : Nat) (s : State), (s.service p ≠ .away) ∧ (s.service p ≠ .other) ∧ (p.detects code = true) ∧ (15 ≤ ((s.iface p).violations.filter (fun t0 => decide ((s.at t).now < t0 + ticksPerSecond))).length)) ∧
    (∃ (s : State), (s.service .twoWire ≠ .away) ∧ (s.service .twoWire ≠ .other)) :=
  ⟨⟨.twoWire, 1, 0, smp [], regs_ok (by decide +kernel), by decide +kernel⟩,
   ⟨.twoWire, 1, 0, { smp [] with tw := { violations := List.replicate 15 999999999999 } }, by decide +kernel⟩,
   ⟨smp [], by decide +kernel⟩⟩

/-- States and operands that meet the hypotheses of FreezeAndThaw, clause by clause. -/
theorem test_freeze_and_thaw :
    (∃ (p : Port) (pec : Option Byte) (t : Nat) (s : State), (RegsOk s) ∧ (Answers p (s.at t)) ∧ ((s.at t).checkBad p [0xE4, 0x01] pec = none) ∧ (s.rcd.frozenAt = none)) ∧
    (∃ (p : Port) (pec : Option Byte) (t : Nat) (t0 : Nat) (s : State), (RegsOk s) ∧ (Answers p (s.at t)) ∧ ((s.at t).checkBad p [0xE4, 0x00] pec = none) ∧ (s.rcd.frozenAt = some t0)) ∧
    (∃ (t : Nat) (t0 : Nat) (s : State), (RegsOk s) ∧ (s.rcd.frozenAt = some t0) ∧ ((s.at t).expiredTicks .freeze (ms (s.regN BB_FRZTO)) = true)) :=
  ⟨⟨.twoWire, none, 0, smp [], regs_ok (by decide +kernel), answers (by decide +kernel), by decide +kernel⟩,
   ⟨.twoWire, none, 0, 5, { smp [] with rcd := { frozenAt := some 5 } }, regs_ok (by decide +kernel), answers (by decide +kernel), by decide +kernel⟩,
   ⟨0, 5, { smpT [(BB_FRZTO, 1000)] [.freeze] with rcd := { frozenAt := some 5 } }, regs_ok (by decide +kernel), by decide +kernel⟩⟩

/-- States and operands that meet the hypotheses of StagingSessionsAndCommits, clause by clause. -/
theorem test_staging_sessions_and_commits :
    (∃ (p : Port) (target : Byte) (slot : Byte) (pec : Option Byte) (t : Nat) (s : State), (RegsOk s) ∧ (ServesAll p (s.at t)) ∧ (target = 1 ∨ target = 2) ∧ (slot.toNat ≤ 1) ∧ ((s.at t).checkBad p [0xF0, 2, target, slot] pec = none) ∧ (s.slotState (target == 2) slot.toNat ≠ slotActive) ∧ (s.slotState (target == 2) slot.toNat ≠ slotTrial) ∧ (s.slotLocked target.toNat slot.toNat = false) ∧ (s.stageOpen = false)) ∧
    (∃ (p : Port) (bs : List Byte) (pec : Option Byte) (t : Nat) (s : State), (ServesAll p (s.at t)) ∧ (5 ≤ bs.length) ∧ (bs.length ≤ 255) ∧ ((s.at t).checkBad p ([0xF1, BitVec.ofNat 8 bs.length] ++ bs) pec = none) ∧ (s.stageMine p = true) ∧ (s.stageTarget = 1 ∨ s.stageTarget = 2) ∧ (ofLe (bs.take 4) % 4 = 0) ∧ ((stageRange s.stageTarget).1 ≤ ofLe (bs.take 4)) ∧ (ofLe (bs.take 4) + (bs.drop 4).length ≤ (stageRange s.stageTarget).2) ∧ (s.slotLocked s.stageTarget s.stageSlot = false)) ∧
    (∃ (p : Port) (pec : Option Byte) (t : Nat) (s : State), (RegsOk s) ∧ (ServesAll p (s.at t)) ∧ ((s.at t).checkBad p [0xF2, 1, 0x01] pec = none) ∧ (s.stageMine p = true) ∧ (s.stageTarget = 1 ∨ s.stageTarget = 2)) ∧
    (∃ (p : Port) (pec : Option Byte) (t : Nat) (s : State), (RegsOk s) ∧ (ServesAll p (s.at t)) ∧ ((s.at t).checkBad p [0xF2, 1, 0x00] pec = none) ∧ (s.stageMine p = true)) ∧
    (∃ (p : Port) (t : Nat) (s : State), (ServesAll p (s.at t))) ∧
    (∃ (f : StageFrame) (s : State), (s.mram.wf = true) ∧ (s.laneRuns = true) ∧ (s.upd.frame = some f) ∧ (f.target = 1 ∨ f.target = 2) ∧ (s.vresOk = true) ∧ (s.commits = []) ∧ (s.tw.waiting = none) ∧ (s.spi.waiting = none)) ∧
    (∃ (slot : Nat) (s : State), (RegsOk s) ∧ (s.laneRuns = true) ∧ (s.upd.closing = some (1, slot)) ∧ (slot < 2) ∧ (s.checkFirmware slot false = none)) ∧
    (∃ (slot : Nat) (x : Bad) (s : State), (RegsOk s) ∧ (s.laneRuns = true) ∧ (s.upd.closing = some (1, slot)) ∧ (slot < 2) ∧ (x.code < 256) ∧ (s.checkFirmware slot false = some x)) :=
  ⟨⟨.twoWire, 2, 1, none, 0, smp [], regs_ok (by decide +kernel), serves (by decide +kernel), by decide +kernel⟩,
   ⟨.twoWire, [0, 0, 0, 0, 7], none, 0, smp [(UPD_STAGE, 3)], serves (by decide +kernel), by decide +kernel⟩,
   ⟨.twoWire, none, 0, smp [(UPD_STAGE, 3)], regs_ok (by decide +kernel), serves (by decide +kernel), by decide +kernel⟩,
   ⟨.twoWire, none, 0, smp [(UPD_STAGE, 3)], regs_ok (by decide +kernel), serves (by decide +kernel), by decide +kernel⟩,
   ⟨.twoWire, 0, smp [], serves (by decide +kernel)⟩,
   ⟨{ target := 1, slot := 1, off := 0, data := [7] }, { smp [] with upd := { frame := some { target := 1, slot := 1, off := 0, data := [7] } } }, by decide +kernel⟩,
   ⟨0, fwSample, regs_ok (by decide +kernel), by decide +kernel, by decide +kernel, by decide +kernel, by exact firmware_passes false⟩,
   ⟨1, { code := 0x02 }, { smp [] with upd := { closing := some (1, 1) } }, regs_ok (by decide +kernel), by decide +kernel⟩⟩

/-- States and operands that meet the hypotheses of BootRecordWrittenIsInForce, clause by clause. -/
theorem test_boot_record_written_is_in_force :
    (∃ (s : State) (states : List Nat), (s.mram.wf = true) ∧ (states.length = 4) ∧ ((∀ x ∈ states, x < 256)) ∧ ((∀ b bs, s.bootRec = some (b, bs) → sealedSeq bs + 1 < 2 ^ 32))) :=
  ⟨smp [], [3, 0, 3, 5], by decide +kernel, by decide +kernel, by decide +kernel, by exact fun b bs h => by rw [show (smp []).bootRec = none from by decide +kernel] at h; cases h⟩

/-- States and operands that meet the hypotheses of DormantRequestAbortAndWake, clause by clause. -/
theorem test_dormant_request_abort_and_wake :
    (∃ (p : Port) (w : Word) (t : Nat) (s : State), (ServesAll p (s.at t)) ∧ (bits w 15 0 = 0x5A5A) ∧ (s.dormantOk = true)) ∧
    (∃ (p : Port) (w : Word) (t : Nat) (s : State), (RegsOk s) ∧ (ServesAll p (s.at t)) ∧ (bits w 15 0 = 0x5A5A) ∧ (s.dormantOk = false)) ∧
    (∃ (p : Port) (s : State), (RegsOk s) ∧ (s.arb.entryWait = true) ∧ ((s.iface p).waiting = none) ∧ (s.service p = .full)) ∧
    (∃ (src : Nat) (s : State), (RegsOk s) ∧ (src < 8) ∧ (s.wakeEnabled src = true) ∧ (s.arb.entryWait = true)) ∧
    (∃ (src : Nat) (s : State), (RegsOk s) ∧ (src < 8) ∧ (s.wakeEnabled src = true) ∧ (s.sys = sysDormant) ∧ (s.holder = none) ∧ (s.dieLevel < 2) ∧ (s.clk.vreg5 = true)) :=
  ⟨⟨.twoWire, 0x5A5A, 0, smp [], serves (by decide +kernel), by decide +kernel⟩,
   ⟨.twoWire, 0x5A5A, 0, smp [(ctxAddr 5 GRP_CTL, 1)], regs_ok (by decide +kernel), serves (by decide +kernel), by decide +kernel⟩,
   ⟨.twoWire, { smp [] with arb := { stamped := true, entryWait := true } }, regs_ok (by decide +kernel), by decide +kernel⟩,
   ⟨7, { smp [] with arb := { stamped := true, entryWait := true } }, regs_ok (by decide +kernel), by decide +kernel⟩,
   ⟨1, { smp [] with regs := wordsOf [(SYS_STATE, 4)] }, regs_ok (by decide +kernel), by decide +kernel⟩⟩

/-- States and operands that meet the hypotheses of EpochsCommitAndTimeOut, clause by clause. -/
theorem test_epochs_commit_and_time_out :
    (∃ (t : Nat) (s : State), (s.laneRuns = true) ∧ ((s.at t).now % 1000 = 0) ∧ (s.upd.trial = none)) ∧
    (∃ (ck : Ckpt) (s : State), (RegsOk s) ∧ (s.laneRuns = true) ∧ (s.commit = some ck) ∧ (ck.epoch < 2 ^ 64) ∧ (s.arb.entryWait = false) ∧ (s.arb.swapAsked = false) ∧ (s.arb.imgAsked = false) ∧ (s.tw.waiting = none) ∧ (s.spi.waiting = none) ∧ (s.casc.held = none)) ∧
    (∃ (t : Nat) (l : LaneId) (s : State), (RegsOk s) ∧ (s.laneHeld = true) ∧ (s.holder = some l) ∧ (s.isBad l.other = false) ∧ (s.arb.lastBeat + 8000 ≤ (s.at t).now) ∧ (s.arb.swapAsked = false) ∧ (s.arb.imgAsked = false)) :=
  ⟨⟨0, smp [], by decide +kernel⟩,
   ⟨ckSample, { smp [] with commit := some ckSample }, regs_ok (by decide +kernel), by decide +kernel⟩,
   ⟨0, .a, smp [], regs_ok (by decide +kernel), by decide +kernel⟩⟩

/-- States and operands that meet the hypotheses of LanesFailInTheirWays, clause by clause. -/
theorem test_lanes_fail_in_their_ways :
    (∃ (l : LaneId) (s : State), (RegsOk s) ∧ (s.laneRuns = true) ∧ (s.holder = some l) ∧ (s.isBad l.other = false) ∧ (s.arb.swapAsked = false) ∧ (s.arb.imgAsked = false)) ∧
    (∃ (holder : Nat) (gen : Nat) (s : State), (s.stampOk holder gen = true)) ∧
    (∃ (holder : Nat) (gen : Nat) (l : LaneId) (s : State), (RegsOk s) ∧ (s.stampOk holder gen = false) ∧ (s.holder ≠ some l)) ∧
    (∃ (l : LaneId) (s : State), (RegsOk s) ∧ (s.holder = some l) ∧ (s.laneState l ≠ laneCold) ∧ (s.arb.stamped = true)) ∧
    (∃ (l : LaneId) (s : State), (s.holder = some l)) :=
  ⟨⟨.a, smp [], regs_ok (by decide +kernel), by decide +kernel⟩,
   ⟨9, 65280, smp [], by decide +kernel⟩,
   ⟨2, 3, .b, smp [], regs_ok (by decide +kernel), by decide +kernel⟩,
   ⟨.a, smp [(LANE_HEALTH, 0x100)], regs_ok (by decide +kernel), by decide +kernel⟩,
   ⟨.a, smp [], by decide +kernel⟩⟩

/-- States and operands that meet the hypotheses of TakeoverRunsToItsFirstCommand, clause by clause. -/
theorem test_takeover_runs_to_its_first_command :
    (∃ (l : LaneId) (k : ColKind) (s : State), (s.holder = some l) ∧ (s.arb.col = some k) ∧ (s.arb.powered = false) ∧ (k ≠ .imageSwitch)) ∧
    (∃ (l : LaneId) (s : State), (s.holder = some l) ∧ (s.arb.col = some .imageSwitch) ∧ (s.arb.powered = true) ∧ (s.arb.restored = false) ∧ (s.newestCkpt.isSome = true)) ∧
    (∃ (l : LaneId) (a : Ckpt) (b : Ckpt) (s : State), (s.holder = some l) ∧ (s.arb.col = some .imageSwitch) ∧ (s.arb.powered = true) ∧ (s.arb.restored = false) ∧ (s.ckptA = some a) ∧ (s.ckptB = some b)) ∧
    (∃ (l : LaneId) (k : ColKind) (ck : Ckpt) (im : Image) (s : State), (s.holder = some l) ∧ (s.arb.col = some k) ∧ (k = .timeout ∨ k = .handback ∨ k = .swap ∨ k = .wake ∨ k = .restart) ∧ (s.arb.powered = true) ∧ (s.arb.restored = false) ∧ (s.newestCkpt = some ck) ∧ (s.image = some im) ∧ (s.journal = [])) ∧
    (∃ (l : LaneId) (s : State), (RegsOk s) ∧ (s.holder = some l) ∧ (s.arb.col = some .timeout) ∧ (s.arb.restored = true) ∧ (s.arb.silent = false) ∧ (s.upd.bootDue = [])) ∧
    (∃ (l : LaneId) (s : State), (RegsOk s) ∧ (s.holder = some l) ∧ (s.arb.col = some .timeout) ∧ (s.arb.stamped = false) ∧ (s.arb.swapAsked = false) ∧ (s.arb.imgAsked = false) ∧ (s.tw.waiting = none) ∧ (s.spi.waiting = none)) :=
  ⟨⟨.a, .timeout, { smp [] with arb := { col := some .timeout } }, by decide +kernel⟩,
   ⟨.a, { smp [] with arb := { col := some .imageSwitch, powered := true }, ckptA := some ckSample }, by decide +kernel⟩,
   ⟨.a, ckSample, ckOther, { smp [] with arb := { col := some .imageSwitch, powered := true }, ckptA := some ckSample, ckptB := some ckOther }, by decide +kernel⟩,
   ⟨.a, .swap, ckSample, sampleImage, { smp [] with arb := { col := some .swap, powered := true }, ckptA := some ckSample }, by decide +kernel⟩,
   ⟨.b, { smp [(LANE_AUTH, 2)] with arb := { col := some .timeout, powered := true, restored := true } }, regs_ok (by decide +kernel), by decide +kernel⟩,
   ⟨.b, { smp [(LANE_AUTH, 2)] with arb := { col := some .timeout, powered := true } }, regs_ok (by decide +kernel), by decide +kernel⟩⟩

/-- States and operands that meet the hypotheses of SwapsRestartsAndImageChecks, clause by clause. -/
theorem test_swaps_restarts_and_image_checks :
    (∃ (p : Port) (w : Word) (t : Nat) (s : State), (ServesAll p (s.at t)) ∧ (bits w 15 0 = 0x5A3C) ∧ (s.swapRefused = false) ∧ (s.upd.trial = none)) ∧
    (∃ (p : Port) (w : Word) (t : Nat) (s : State), (RegsOk s) ∧ (ServesAll p (s.at t)) ∧ (bits w 15 0 = 0x5A3C) ∧ (s.swapRefused = true)) ∧
    (∃ (p : Port) (w : Word) (s : State), (RegsOk s) ∧ (s.service p = .plain) ∧ ((s.iface p).waiting = none) ∧ (s.arb.entryWait = false) ∧ (s.sys = sysPlain) ∧ (s.holder = none) ∧ (s.mayStart = true) ∧ (bits w 15 0 = 0x3CA5) ∧ (bit w 16 = true) ∧ (bit w 17 = false)) ∧
    (∃ (p : Port) (w : Word) (t : Nat) (s : State), (RegsOk s) ∧ (ServesAll p (s.at t)) ∧ (bits w 15 0 = 0x3CA5) ∧ (bit w 17 = true)) ∧
    (∃ (t : Nat) (s : State), (RegsOk s) ∧ (s.sys = sysPlain) ∧ (s.holder = none) ∧ (s.mayStart = true) ∧ (0 < ef (s.reg LANE_ARTIME)) ∧ (s.regN LANE_ARCNT < s.regN LANE_ARMAX) ∧ ((s.at t).expired .autoRestart (s.reg LANE_ARTIME) = true)) ∧
    (∃ (p : Port) (w : Word) (t : Nat) (s : State), (RegsOk s) ∧ (ServesAll p (s.at t)) ∧ (bits w 15 0 = 0x3C3C) ∧ (bit w 17 = true) ∧ (s.imgBusy = false) ∧ (s.switching = false) ∧ (s.upd.trial = none) ∧ (s.arb.entryWait = false)) ∧
    (∃ (p : Port) (w : Word) (t : Nat) (s : State), (RegsOk s) ∧ (ServesAll p (s.at t)) ∧ (bits w 15 0 = 0x3C3C) ∧ (bit w 17 = false) ∧ (s.imgBusy = false) ∧ (s.switching = false) ∧ (s.upd.trial = none) ∧ (s.arb.entryWait = false)) ∧
    (∃ (slot : Nat) (s : State), (RegsOk s) ∧ (slot < 2) ∧ (s.upd.check = some (.dry, slot)) ∧ (s.arb.imgAsked = false) ∧ (s.upd.closing = none) ∧ (s.check slot = none)) ∧
    (∃ (slot : Nat) (x : Bad) (s : State), (RegsOk s) ∧ (ImagesFit s) ∧ (slot < 2) ∧ (s.upd.check = some (.dry, slot)) ∧ (s.arb.imgAsked = false) ∧ (s.upd.closing = none) ∧ (s.check slot = some x) ∧ (x.code < 256) ∧ (s.flt.matches_ = [])) :=
  ⟨⟨.twoWire, 0x5A3C, 0, smp [], serves (by decide +kernel), by decide +kernel⟩,
   ⟨.twoWire, 0x5A3C, 0, smp [(IMG_LDSTAT, 1)], regs_ok (by decide +kernel), serves (by decide +kernel), by decide +kernel⟩,
   ⟨.twoWire, 0x13CA5, smp [(SYS_STATE, 3), (LANE_AUTH, 0)], regs_ok (by decide +kernel), by decide +kernel⟩,
   ⟨.twoWire, 0x23CA5, 0, smp [], regs_ok (by decide +kernel), serves (by decide +kernel), by decide +kernel⟩,
   ⟨0, smpT [(SYS_STATE, 3), (LANE_AUTH, 0), (LANE_ARTIME, 1000), (LANE_ARMAX, 3)] [.autoRestart], regs_ok (by decide +kernel), by decide +kernel⟩,
   ⟨.twoWire, 0x23C3C, 0, smp [], regs_ok (by decide +kernel), serves (by decide +kernel), by decide +kernel⟩,
   ⟨.twoWire, 0x13C3C, 0, smp [], regs_ok (by decide +kernel), serves (by decide +kernel), by decide +kernel⟩,
   ⟨0, imgSample, regs_ok (by decide +kernel), by decide +kernel, by decide +kernel, by decide +kernel, by decide +kernel, by exact image_passes⟩,
   ⟨1, { code := 0x02 }, { smp [] with upd := { check := some (.dry, 1) } }, regs_ok (by decide +kernel), sample_fits _ rfl rfl, by decide +kernel⟩⟩

/-- States and operands that meet the hypotheses of CoefficientsAndSlots, clause by clause. -/
theorem test_coefficients_and_slots :
    (∃ (p : Port) (t : Nat) (r : SlotRec) (s : State), (RegsOk s) ∧ (canonical false s.clamped = true) ∧ (ServesAll p (s.at t)) ∧ (s.image.bind (·.slot? (s.fld FAB_SLOT 7 0)) = some r) ∧ (s.fld FAB_SLOT 10 8 < r.coef.length)) ∧
    (∃ (p : Port) (t : Nat) (s : State), (RegsOk s) ∧ (ServesAll p (s.at t))) ∧
    (∃ (p : Port) (w : Word) (t : Nat) (sh : Shadow) (s : State), (ServesAll p (s.at t)) ∧ (bit w 0 = true) ∧ (bit w 1 = false) ∧ (s.lane.shadow = some sh) ∧ (sh.slot = s.fld FAB_SLOT 7 0)) ∧
    (∃ (p : Port) (w : Word) (t : Nat) (s : State), (ServesAll p (s.at t)) ∧ (bit w 1 = true)) ∧
    (∃ (sh : Shadow) (s : State), (s.lane.shadow = some sh) ∧ (sh.apply = true)) ∧
    (∃ (p : Port) (n0 : Nat) (t : Nat) (r : SlotRec) (s : State), (RegsOk s) ∧ (ServesAll p (s.at t)) ∧ (n0 < 256) ∧ (s.image.bind (·.slot? n0) = some r) ∧ (s.strandSlots.contains n0 = false)) ∧
    (∃ (p : Port) (n0 : Nat) (t : Nat) (r : SlotRec) (s : State), (RegsOk s) ∧ (canonical false s.clamped = true) ∧ (ServesAll p (s.at t)) ∧ (n0 < 256) ∧ (s.image.bind (·.slot? n0) = some r) ∧ (s.strandSlots.contains n0 = true)) ∧
    (∃ (n0 : Nat) (s : State), (s.works = true) ∧ (bit (s.sw n0 SLOT_CTL) 0 = true) ∧ ((s.slot n0).start = true)) :=
  ⟨⟨.twoWire, 0, slotZero, smp [], regs_ok (by decide +kernel), by decide +kernel, serves (by decide +kernel), by decide +kernel⟩,
   ⟨.twoWire, 0, smp [], regs_ok (by decide +kernel), serves (by decide +kernel)⟩,
   ⟨.twoWire, 1, 0, { slot := 0, vals := [(2, 5)], apply := false }, { smp [] with lane := { shadow := some { slot := 0, vals := [(2, 5)], apply := false } } }, serves (by decide +kernel), by decide +kernel⟩,
   ⟨.twoWire, 2, 0, smp [], serves (by decide +kernel), by decide +kernel⟩,
   ⟨{ slot := 0, vals := [(2, 5)], apply := true }, { smp [] with lane := { shadow := some { slot := 0, vals := [(2, 5)], apply := true } } }, by decide +kernel⟩,
   ⟨.twoWire, 0, 0, slotZero, smp [], regs_ok (by decide +kernel), serves (by decide +kernel), by decide +kernel⟩,
   ⟨.twoWire, 0, 0, slotHold, { smp [] with image := some strandImage }, regs_ok (by decide +kernel), by decide +kernel, serves (by decide +kernel), by decide +kernel⟩,
   ⟨0, smp [(slotAddr 0 SLOT_CTL, 1)], by decide +kernel⟩⟩

/-- States and operands that meet the hypotheses of FramesTicksAndSamples, clause by clause. -/
theorem test_frames_ticks_and_samples :
    (∃ (inp : FrameIn) (r : CtxRec) (s : State), (Formed s) ∧ (ImagesFit s) ∧ (s.clocks = true) ∧ ((s.at inp.t).now % 200 = 0) ∧ (s.sys ≠ sysDormant) ∧ (s.ctx? 0 = some r)) ∧
    (∃ (s : State), (s.clocks = false)) ∧
    (∃ (t : Nat) (s : State), (Formed s) ∧ (ImagesFit s) ∧ (s.clocks = true) ∧ ((s.at t).now % 2000 = 0) ∧ (s.works = true)) ∧
    (∃ (c : Nat) (t : Nat) (r : CtxRec) (s : State), (RegsOk s) ∧ (s.ctx? c = some r) ∧ (r.typ = .group) ∧ ((s.at t).now % 200 = 25 * r.inst) ∧ (s.works = false)) ∧
    (∃ (c : Nat) (t : Nat) (r : CtxRec) (s : State), (RegsOk s) ∧ (ImagesFit s) ∧ (s.ctx? c = some r) ∧ (r.typ = .group) ∧ ((s.at t).now % 200 = 25 * r.inst) ∧ (c < 128) ∧ (s.works = true) ∧ (s.held c = true)) ∧
    (∃ (c : Nat) (late : List Nat) (t : Nat) (r : CtxRec) (im : Image) (q : SlotRec) (g : GroupRec) (s : State), (RegsOk s) ∧ (ImagesFit s) ∧ (s.ctx? c = some r) ∧ (r.typ = .group) ∧ ((s.at t).now % 200 = 25 * r.inst) ∧ (c < 128) ∧ (s.works = true) ∧ (s.image = some im) ∧ (s.lateOf (im.fastSlots r.inst) late = [q]) ∧ (im.group? q.group = some g) ∧ ((s.ctx? g.owner).isSome = true) ∧ (s.flt.matches_ = [])) ∧
    (∃ (g : Nat) (n0 : Nat) (k : Nat) (im : Image) (s : State), (RegsOk s) ∧ (s.works = true) ∧ (s.image = some im) ∧ (g < 64) ∧ (n0 < 256) ∧ (s.lane.govRun.find? (fun p => p.1 = g) = some (g, n0, k)) ∧ (s.govq ≤ k) ∧ (s.flag (FAB_GGOV + g) 8 = false ∨ s.fld (FAB_GGOV + g) 7 0 ≠ n0)) :=
  ⟨⟨frameNone, rShelf, smp [], formed (by decide +kernel), sample_fits _ rfl rfl, by decide +kernel⟩,
   ⟨State.reset, by decide +kernel⟩,
   ⟨0, smp [], formed (by decide +kernel), sample_fits _ rfl rfl, by decide +kernel⟩,
   ⟨5, 0, rGroup, smp [(SYS_STATE, 3)], regs_ok (by decide +kernel), by decide +kernel⟩,
   ⟨5, 0, rGroup, smp [codeW 5 0x200], regs_ok (by decide +kernel), sample_fits _ rfl rfl, by decide +kernel⟩,
   ⟨5, [0], 0, rGroup, strandImage, slotHold, { group := 0, tkind := 1, tindex := 0, owner := 5, fallback := 0 }, { smp [(slotAddr 0 SLOT_CTL, 1)] with image := some strandImage }, regs_ok (by decide +kernel), by exact strand_fits _ rfl rfl, by decide +kernel⟩,
   ⟨63, 7, 9, sampleImage, { smp [] with lane := { govRun := [(63, 7, 9)] } }, regs_ok (by decide +kernel), by decide +kernel⟩⟩

/-- States and operands that meet the hypotheses of SoftStartRunsAndRetries, clause by clause. -/
theorem test_soft_start_runs_and_retries :
    (∃ (c : Nat) (r : CtxRec) (s : State), (RegsOk s) ∧ (s.works = true) ∧ (s.group? c = some r) ∧ ((s.grp c).en = true) ∧ (s.code c = 0)) ∧
    (∃ (c : Nat) (r : CtxRec) (s : State), (RegsOk s) ∧ (s.works = true) ∧ (s.group? c = some r) ∧ ((s.grp c).en = false) ∧ (s.code c ≠ 0) ∧ (s.held c = false)) ∧
    (∃ (p : Port) (c : Nat) (t : Nat) (r : CtxRec) (s : State), (RegsOk s) ∧ (ServesAll p (s.at t)) ∧ (s.group? c = some r) ∧ (c < 128)) ∧
    (∃ (c : Nat) (r : CtxRec) (s : State), (RegsOk s) ∧ (s.works = true) ∧ (s.group? c = some r) ∧ (s.code c = 1) ∧ (s.held c = false) ∧ ((s.grp c).cutStop = false) ∧ (8 ≤ s.count (.pgUp c))) ∧
    (∃ (c : Nat) (r : CtxRec) (s : State), (RegsOk s) ∧ (s.works = true) ∧ (s.group? c = some r) ∧ (s.held c = false) ∧ ((s.grp c).powerGood = true) ∧ (8 ≤ s.count (.pgDown c)) ∧ (runningCode (s.code c) = true) ∧ (s.flt.matches_ = [])) ∧
    (∃ (c : Nat) (t : Nat) (r : CtxRec) (s : State), (RegsOk s) ∧ (s.works = true) ∧ (s.group? c = some r) ∧ (s.code c = 1) ∧ (s.held c = false) ∧ ((s.at t).expired (.softStart c) (s.cw c GRP_SSTO) = true) ∧ (s.count (.pgUp c) < 8) ∧ ((s.cw c GRP_RETRYCNT).toNat < (s.cw c GRP_RETRY).toNat)) ∧
    (∃ (c : Nat) (t : Nat) (r : CtxRec) (s : State), (RegsOk s) ∧ (s.works = true) ∧ (s.group? c = some r) ∧ (s.code c = 1) ∧ (s.held c = false) ∧ ((s.at t).expired (.softStart c) (s.cw c GRP_SSTO) = true) ∧ (s.count (.pgUp c) < 8) ∧ ((s.cw c GRP_RETRY).toNat ≤ (s.cw c GRP_RETRYCNT).toNat) ∧ (s.flt.matches_ = [])) ∧
    (∃ (c : Nat) (t : Nat) (r : CtxRec) (s : State), (RegsOk s) ∧ (s.works = true) ∧ (s.group? c = some r) ∧ (s.code c = 6) ∧ ((s.grp c).en = true) ∧ ((s.at t).expired (.hiccup c) (s.cw c GRP_HICCUP) = true)) ∧
    (∃ (c : Nat) (t : Nat) (s : State), (RegsOk s) ∧ (s.works = true) ∧ (s.isType c .group = true) ∧ ((s.grp c).powerGood = true) ∧ ((s.at t).expiredTicks (.pgHeld c) ticksPerSecond = true)) :=
  ⟨⟨5, rGroup, { smp [(ctxAddr 5 GRP_CTL, 1)] with groups := [(5, { en := true })] }, regs_ok (by decide +kernel), by decide +kernel⟩,
   ⟨5, rGroup, smp [codeW 5 3], regs_ok (by decide +kernel), by decide +kernel⟩,
   ⟨.twoWire, 5, 0, rGroup, smp [], regs_ok (by decide +kernel), serves (by decide +kernel), by decide +kernel⟩,
   ⟨5, rGroup, smpC [codeW 5 1] [.pgUp 5], regs_ok (by decide +kernel), by decide +kernel⟩,
   ⟨5, rGroup, { smpC [codeW 5 3] [.pgDown 5] with groups := [(5, { powerGood := true })] }, regs_ok (by decide +kernel), by decide +kernel⟩,
   ⟨5, 0, rGroup, smpT [codeW 5 1, (ctxAddr 5 GRP_SSTO, 1000), (ctxAddr 5 GRP_RETRY, 1)] [.softStart 5], regs_ok (by decide +kernel), by decide +kernel⟩,
   ⟨5, 0, rGroup, smpT [codeW 5 1, (ctxAddr 5 GRP_SSTO, 1000)] [.softStart 5], regs_ok (by decide +kernel), by decide +kernel⟩,
   ⟨5, 0, rGroup, { smpT [codeW 5 6, (ctxAddr 5 GRP_CTL, 1)] [.hiccup 5] with groups := [(5, { en := true })] }, regs_ok (by decide +kernel), by decide +kernel⟩,
   ⟨5, 0, { smpT [] [.pgHeld 5] with groups := [(5, { powerGood := true })] }, regs_ok (by decide +kernel), by decide +kernel⟩⟩

/-- States and operands that meet the hypotheses of GroupModeNeedsACurrentGroup, clause by clause. -/
theorem test_group_mode_needs_a_current_group :
    (∃ (p : Port) (c : Nat) (t : Nat) (b0 : Byte) (b1 : Byte) (b2 : Byte) (pec : Option Byte) (r : CtxRec) (s : State), (RegsOk s) ∧ (canonical false s.clamped = true) ∧ (ServesAll p (s.at t)) ∧ (c < 128) ∧ ((s.iface p).ctx = c) ∧ (s.group? c = some r) ∧ (s.served c = []) ∧ (s.minGroup c 3 = none) ∧ (s.implemented (ctxAddr c GRP_CTL) = true) ∧ (s.routeRefused r GRP_CTL (bytesWord b0 b1 b2) = false) ∧ ((s.at t).checkBad p [BitVec.ofNat 8 GRP_CTL, b0, b1, b2] pec = none)) :=
  ⟨.twoWire, 12, 0, 0x09, 0, 0, none, rGroupB, { smp [] with image := some { sampleImage with contexts := sampleImage.contexts ++ [rGroupB] }, tw := { ctx := 12 } }, regs_ok (by decide +kernel), by decide +kernel, serves (by decide +kernel), by decide +kernel⟩

/-- States and operands that meet the hypotheses of PhasesTripAndSwitch, clause by clause. -/
theorem test_phases_trip_and_switch :
    (∃ (ph : Nat) (nv : Int) (reverse : Bool) (r : CtxRec) (s : State), (RegsOk s) ∧ (ph < 24) ∧ (s.groupOfPhase ph = some r) ∧ (s.phaseCrossing r nv = some reverse) ∧ (s.flag (PH_STS + ph) 3 = true) ∧ ((s.phase ph).skipping = false)) ∧
    (∃ (ph : Nat) (r : CtxRec) (s : State), (RegsOk s) ∧ (s.groupOfPhase ph = some r) ∧ (r.ctx < 128) ∧ ((s.ctx? r.ctx).isSome = true) ∧ (64 ≤ (s.phase ph).trips) ∧ ((s.phase ph).raised = false)) ∧
    (∃ (c : Nat) (s : State), (RegsOk s) ∧ (s.works = true) ∧ (s.isType c .group = true) ∧ (c < 128) ∧ (100 ≤ (s.grp c).blockTicks) ∧ ((∀ x ∈ (s.grp c).blockSum, x.1 < 24))) ∧
    (∃ (c : Nat) (r : CtxRec) (s : State), (s.group? c = some r) ∧ ((s.grp c).starting ≠ [] ∨ s.active r ≠ [])) :=
  ⟨⟨1, 250000000, false, rGroup, smp [(PH_STS + 1, 8), (ctxAddr 5 GRP_RSENSE, 1), (ctxAddr 5 CTX_IBASE, 0x005DC)], regs_ok (by decide +kernel), by decide +kernel⟩,
   ⟨1, rGroup, { smp [] with phases := [(1, { trips := 64 })] }, regs_ok (by decide +kernel), by decide +kernel⟩,
   ⟨5, { smp [] with groups := [(5, { blockTicks := 100, blockSum := [(0, 1), (23, 2)] })] }, regs_ok (by decide +kernel), by decide +kernel⟩,
   ⟨5, rGroup, { smp [] with groups := [(5, { starting := [0] })] }, by decide +kernel⟩⟩

/-- States and operands that meet the hypotheses of SyncAndShedFollowTheirEvents, clause by clause. -/
theorem test_sync_and_shed_follow_their_events :
    (∃ (c : Nat) (hz : Nat) (s : State), (s.isType c .group = true) ∧ (bit (s.cw c GRP_CTL) 5 = true) ∧ (s.syncValid c hz = true)) ∧
    (∃ (c : Nat) (s : State), (RegsOk s) ∧ (s.isType c .group = true) ∧ (bit (s.cw c GRP_CTL) 5 = true) ∧ ((s.grp c).sync = some (s.grp c).freq) ∧ ((s.grp c).aligned = false)) ∧
    (∃ (c : Nat) (s : State), (RegsOk s) ∧ (s.isType c .group = true) ∧ (c < 128) ∧ ((s.grp c).sync.isSome = true)) ∧
    (∃ (c : Nat) (p : Nat) (r : CtxRec) (s : State), (RegsOk s) ∧ (s.works = true) ∧ (s.group? c = some r) ∧ ((s.grp c).fading = some p) ∧ (p < 24) ∧ ((s.cw c GRP_FADE).toNat ≤ (s.grp c).faded)) ∧
    (∃ (p : Nat) (t0 : Nat) (current : Int) (r : CtxRec) (s : State), (RegsOk s) ∧ (s.works = true) ∧ (s.groupRunning r.ctx = true) ∧ (s.held r.ctx = false) ∧ ((s.grp r.ctx).fading = some p) ∧ ((s.grp r.ctx).shedAt = some t0) ∧ (p < 24) ∧ (((s.active r).length < 2 ∨ (current.natAbs : Int) ≤ (s.cw r.ctx (STEPPE_ADD + ((s.active r).length - 2))).toInt))) ∧
    (∃ (p : Nat) (current : Int) (r : CtxRec) (s : State), (RegsOk s) ∧ (s.works = true) ∧ (s.groupRunning r.ctx = true) ∧ (s.held r.ctx = false) ∧ ((s.grp r.ctx).fading = some p) ∧ (2 ≤ (s.active r).length) ∧ ((s.cw r.ctx (STEPPE_ADD + ((s.active r).length - 2))).toInt < (current.natAbs : Int))) :=
  ⟨⟨5, 400000, { smp [(ctxAddr 5 GRP_CTL, 0x20), (ctxAddr 5 GRP_FSW, 0x04FA0)] with groups := [(5, { freq := 400000 })] }, by decide +kernel⟩,
   ⟨5, { smp [(ctxAddr 5 GRP_CTL, 0x20)] with groups := [(5, { freq := 400000, sync := some 400000 })] }, regs_ok (by decide +kernel), by decide +kernel⟩,
   ⟨5, { smp [] with groups := [(5, { sync := some 400000 })] }, regs_ok (by decide +kernel), by decide +kernel⟩,
   ⟨5, 1, rGroup, { smp [] with groups := [(5, { fading := some 1 })] }, regs_ok (by decide +kernel), by decide +kernel⟩,
   ⟨1, 0, 0, rGroup, { smp [codeW 5 3] with groups := [(5, { fading := some 1, shedAt := some 0 })] }, regs_ok (by decide +kernel), by decide +kernel⟩,
   ⟨1, 5, rGroup, { smp [codeW 5 3, (PH_STS, 8), (PH_STS + 1, 8), (PH_STS + 2, 8)] with groups := [(5, { fading := some 1 })] }, regs_ok (by decide +kernel), by decide +kernel⟩⟩

/-- States and operands that meet the hypotheses of GateChannelsTripAndEnhance, clause by clause. -/
theorem test_gate_channels_trip_and_enhance :
    (∃ (ch : Nat) (nv : Int) (reverse : Bool) (r : CtxRec) (s : State), (RegsOk s) ∧ (ch < 16) ∧ (s.ownerRec ch = some r) ∧ (r.a0 = ch) ∧ (s.crossing r nv = some reverse) ∧ (s.drive ch ≠ 0) ∧ (s.sys ≠ sysDormant)) ∧
    (∃ (ch : Nat) (nv : Int) (reverse : Bool) (r : CtxRec) (s : State), (RegsOk s) ∧ (ch < 16) ∧ (s.ownerRec ch = some r) ∧ (r.a0 = ch) ∧ (s.crossing r nv = some reverse) ∧ (s.drive ch ≠ 0) ∧ (s.sys = sysDormant) ∧ (s.holder = none) ∧ (s.arb.entryFrom = none) ∧ (s.arb.entryWait = false) ∧ (s.dieLevel < 2) ∧ (s.clk.vreg5 = true)) ∧
    (∃ (ch : Nat) (nv : Int) (r : CtxRec) (s : State), (RegsOk s) ∧ (ImagesFit s) ∧ (ch < 16) ∧ (s.ownerRec ch = some r) ∧ (r.a0 = ch) ∧ (s.crossing r nv = some false) ∧ (r.typ = .feed) ∧ (r.a1 = 0) ∧ (s.drive ch ≠ 0) ∧ (s.sys ≠ sysDormant) ∧ (s.lane.change = none)) ∧
    (∃ (ch : Nat) (r : CtxRec) (s : State), (RegsOk s) ∧ (ch < 16) ∧ (s.ownerRec ch = some r) ∧ (s.drive ch ≠ 0) ∧ (s.enhanced ch = false) ∧ (8 ≤ s.count (.enhUp ch))) ∧
    (∃ (ch : Nat) (r : CtxRec) (s : State), (RegsOk s) ∧ (ch < 16) ∧ (s.ownerRec ch = some r) ∧ (s.enhanced ch = true) ∧ (8 ≤ s.count (.enhDown ch))) :=
  ⟨⟨3, 0, false, rBranch, smp [(GCH_STS + 3, 1)], regs_ok (by decide +kernel), by decide +kernel⟩,
   ⟨3, 0, false, rBranch, smp [(GCH_STS + 3, 1), (SYS_STATE, 4), (LANE_AUTH, 0)], regs_ok (by decide +kernel), by decide +kernel⟩,
   ⟨0, 0, rFeed, smp [(GCH_STS, 1)], regs_ok (by decide +kernel), sample_fits _ rfl rfl, by decide +kernel⟩,
   ⟨3, rBranch, smpC [(GCH_STS + 3, 1)] [.enhUp 3], regs_ok (by decide +kernel), by decide +kernel⟩,
   ⟨3, rBranch, smpC [(GCH_STS + 3, 5)] [.enhDown 3], regs_ok (by decide +kernel), by decide +kernel⟩⟩

/-- States and operands that meet the hypotheses of FailedAttemptsRetryOrLatch, clause by clause. -/
theorem test_failed_attempts_retry_or_latch :
    (∃ (ch : Nat) (t : Nat) (r : CtxRec) (s : State), (RegsOk s) ∧ (ch < 16) ∧ (s.ownerRec ch = some r) ∧ (r.a0 = ch) ∧ (r.typ = .branch) ∧ (s.drive ch ≠ 0) ∧ (brLive (s.code r.ctx) = true) ∧ ((s.at t).expired (.inrush ch) (s.cw r.ctx BR_ITO) = true) ∧ (s.count (.enhUp ch) < 8)) ∧
    (∃ (ch : Nat) (nv : Int) (r : CtxRec) (s : State), (RegsOk s) ∧ (ch < 16) ∧ (s.ownerRec ch = some r) ∧ (r.a0 = ch) ∧ (s.crossing r nv = some false) ∧ (r.typ = .branch) ∧ (s.drive ch ≠ 0) ∧ (brLive (s.code r.ctx) = true) ∧ (s.sys ≠ sysDormant) ∧ (s.arb.entryWait = false)) ∧
    (∃ (c : Nat) (r : CtxRec) (s : State), (RegsOk s) ∧ (s.branch? c = some r) ∧ (r.a0 < 16) ∧ (r.a1 = 0xFE) ∧ (s.laneRuns = true) ∧ (s.drive r.a0 ≠ 0) ∧ (brLive (s.code c) = true) ∧ (temp (s.cw c BR_TJMAX) ≤ temp (s.cw c CTX_TMEAS))) ∧
    (∃ (r : CtxRec) (s : State), (RegsOk s) ∧ (s.ctx? r.ctx = some r) ∧ (r.typ = .branch) ∧ (s.drive r.a0 = 0) ∧ (brLive (s.code r.ctx) = true) ∧ (s.brEn r.ctx = true) ∧ ((s.cw r.ctx BR_RETRYCNT).toNat < (s.cw r.ctx BR_RETRY).toNat) ∧ ((s.chan r.a0).downAt = some s.now)) ∧
    (∃ (r : CtxRec) (s : State), (RegsOk s) ∧ (ImagesFit s) ∧ (s.ctx? r.ctx = some r) ∧ (r.typ = .branch) ∧ (r.a0 < 16) ∧ (s.drive r.a0 = 0) ∧ (brLive (s.code r.ctx) = true) ∧ (s.brEn r.ctx = true) ∧ ((s.cw r.ctx BR_RETRY).toNat ≤ (s.cw r.ctx BR_RETRYCNT).toNat) ∧ (s.flt.matches_ = []) ∧ (s.sys ≠ sysDormant)) ∧
    (∃ (r : CtxRec) (s : State), (RegsOk s) ∧ (s.ctx? r.ctx = some r) ∧ (r.typ = .branch) ∧ (s.drive r.a0 = 0) ∧ (brLive (s.code r.ctx) = true) ∧ (s.brEn r.ctx = false)) :=
  ⟨⟨3, 0, rBranch, smpT [(GCH_STS + 3, 1), codeW 8 1, (ctxAddr 8 BR_RETRY, 1)] [.inrush 3], regs_ok (by decide +kernel), by decide +kernel⟩,
   ⟨3, 0, rBranch, smp [(GCH_STS + 3, 1), codeW 8 2, (ctxAddr 8 BR_CTL, 1)], regs_ok (by decide +kernel), by decide +kernel⟩,
   ⟨8, rBranch, smp [(GCH_STS + 3, 1), codeW 8 2, (ctxAddr 8 BR_RETRY, 1)], regs_ok (by decide +kernel), by decide +kernel⟩,
   ⟨rBranch, { smp [codeW 8 2, (ctxAddr 8 BR_CTL, 1), (ctxAddr 8 BR_RETRY, 1)] with channels := [(3, { downAt := some 1000000000000 })] }, regs_ok (by decide +kernel), by decide +kernel⟩,
   ⟨rBranch, smp [codeW 8 2, (ctxAddr 8 BR_CTL, 1)], regs_ok (by decide +kernel), sample_fits _ rfl rfl, by decide +kernel⟩,
   ⟨rBranch, smp [codeW 8 2], regs_ok (by decide +kernel), by decide +kernel⟩⟩

/-- States and operands that meet the hypotheses of FeedsQualifyAndAreEnabled, clause by clause. -/
theorem test_feeds_qualify_and_are_enabled :
    (∃ (p : Port) (c : Nat) (t : Nat) (w : Word) (r : CtxRec) (s : State), (RegsOk s) ∧ (ServesAll p (s.at t)) ∧ (c < 128) ∧ (s.ctx? c = some r) ∧ (r.typ = .feed) ∧ (s.feedEn c = false) ∧ (bit w 0 = true) ∧ (s.reenableRefused c = false)) ∧
    (∃ (p : Port) (c : Nat) (t : Nat) (w : Word) (r : CtxRec) (s : State), (RegsOk s) ∧ (ImagesFit s) ∧ (ServesAll p (s.at t)) ∧ (s.laneRuns = true) ∧ (c < 128) ∧ (s.ctx? c = some r) ∧ (r.typ = .feed) ∧ (r.a0 < 16) ∧ (bit w 0 = false)) ∧
    (∃ (c : Nat) (t : Nat) (s : State), (RegsOk s) ∧ (s.works = true) ∧ (s.isType c .feed = true) ∧ (s.feedOk c = true) ∧ ((s.at t).expired (.qualify c) (s.cw c FEED_TQUAL) = true)) ∧
    (∃ (c : Nat) (t : Nat) (s : State), (RegsOk s) ∧ (s.works = true) ∧ (s.isType c .feed = true) ∧ (s.qualified c = true) ∧ (s.acOk c = false ∨ (s.at t).expired (.disqualify c) (s.cw c FEED_TDQ) = true) ∧ (s.lane.change = none)) :=
  ⟨⟨.twoWire, 1, 0, 1, rFeed, smp [], regs_ok (by decide +kernel), serves (by decide +kernel), by decide +kernel⟩,
   ⟨.twoWire, 1, 0, 0, rFeed, smp [(ctxAddr 1 FEED_CTL, 1)], regs_ok (by decide +kernel), sample_fits _ rfl rfl, serves (by decide +kernel), by decide +kernel⟩,
   ⟨1, 0, smpT [(ctxAddr 1 FEED_CTL, 1)] [.qualify 1], regs_ok (by decide +kernel), by decide +kernel⟩,
   ⟨1, 0, { smp [] with lane := { feedQual := [1] }, timers := [(.disqualify 1, 0)] }, regs_ok (by decide +kernel), by decide +kernel⟩⟩

/-- States and operands that meet the hypotheses of FeedChangesBreakBeforeMake, clause by clause. -/
theorem test_feed_changes_break_before_make :
    (∃ (x : Nat) (ch : Change) (s : State), (RegsOk s) ∧ (s.works = true) ∧ (s.lane.change = some ch) ∧ (ch.phase = .opening) ∧ (ch.target = some x)) ∧
    (∃ (ch : Change) (s : State), (RegsOk s) ∧ (s.works = true) ∧ (s.lane.change = some ch) ∧ (ch.phase = .opening) ∧ (ch.target = none) ∧ (s.candidate = none)) ∧
    (∃ (t : Nat) (c : Nat) (g : Nat) (ch : Change) (s : State), (RegsOk s) ∧ (s.works = true) ∧ ((s.at t).expired .dead (s.reg FSEL_DEAD) = true) ∧ (s.lane.change = some ch) ∧ (ch.phase = .dead) ∧ (ch.target = some c) ∧ (s.qualified c = true) ∧ (s.channelOf c = some g) ∧ (g < 16) ∧ (s.drive g = 0) ∧ ((∀ q, s.ownerRec g = some q → q.typ = .feed))) ∧
    (∃ (t : Nat) (c : Nat) (r : CtxRec) (ch : Change) (s : State), (RegsOk s) ∧ (ImagesFit s) ∧ (s.works = true) ∧ ((s.at t).expiredTicks .slowOn (ms 50) = true) ∧ (s.lane.change = some ch) ∧ (ch.phase = .closing) ∧ (ch.target = some c) ∧ (s.ctx? c = some r) ∧ (r.typ = .feed) ∧ (r.a0 < 16) ∧ (s.drive r.a0 ≠ 3) ∧ (s.flt.matches_ = [])) ∧
    (∃ (t : Nat) (r : CtxRec) (s : State), (RegsOk s) ∧ (ImagesFit s) ∧ (s.works = true) ∧ (s.ctx? r.ctx = some r) ∧ (r.a0 < 16) ∧ (s.flt.matches_ = []) ∧ ((s.ofType .feed).filter (fun q => (s.code q.ctx == 5 || s.sad == 1 || s.lane.change.any (fun ch => ch.old = some q.ctx && ch.phase = .opening)) && (s.at t).expiredTicks (.gateOff q.a0) (us 10) && !s.gateIsOff q.ctx) = [r])) ∧
    (∃ (c : Nat) (r : CtxRec) (s : State), (RegsOk s) ∧ (s.ctx? c = some r) ∧ (r.typ = .feed) ∧ (r.a1 = 1) ∧ (r.a0 < 16) ∧ (s.feedEn c = true) ∧ (s.code c ≠ 7) ∧ (s.code c ≠ 4) ∧ (s.inhibit.contains c = false) ∧ (s.sys ≠ sysDormant ∨ r.dormant = 1) ∧ (8 ≤ s.count (.diode c)) ∧ ((∀ q, s.ownerRec r.a0 = some q → q.typ = .feed))) :=
  ⟨⟨1, { forced := false, old := none, target := some 1, phase := .opening }, { smp [] with lane := { change := some { forced := false, old := none, target := some 1, phase := .opening } } }, regs_ok (by decide +kernel), by decide +kernel⟩,
   ⟨{ forced := false, old := none, target := none, phase := .opening }, { smp [] with lane := { change := some { forced := false, old := none, target := none, phase := .opening } } }, regs_ok (by decide +kernel), by decide +kernel⟩,
   ⟨0, 1, 0, { forced := false, old := none, target := some 1, phase := .dead }, { smpT [] [.dead] with lane := { change := some { forced := false, old := none, target := some 1, phase := .dead }, feedQual := [1] } }, regs_ok (by decide +kernel), by decide +kernel⟩,
   ⟨0, 1, rFeed, { forced := false, old := none, target := some 1, phase := .closing }, { smpT [] [.slowOn] with lane := { change := some { forced := false, old := none, target := some 1, phase := .closing } } }, regs_ok (by decide +kernel), sample_fits _ rfl rfl, by decide +kernel⟩,
   ⟨0, rFeed, { smpT [codeW 1 5] [.gateOff 0] with channels := [(0, { vgs := 5000000 })] }, regs_ok (by decide +kernel), sample_fits _ rfl rfl, by decide +kernel⟩,
   ⟨2, rDiode, smpC [(ctxAddr 2 FEED_CTL, 1)] [.diode 2], regs_ok (by decide +kernel), by decide +kernel⟩⟩

/-- States and operands that meet the hypotheses of BranchesStartReachOnAndStop, clause by clause. -/
theorem test_branches_start_reach_on_and_stop :
    (∃ (c : Nat) (r : CtxRec) (s : State), (RegsOk s) ∧ (s.works = true) ∧ (s.branch? c = some r) ∧ (r.a0 < 16) ∧ (s.ownerRec r.a0 = some r) ∧ (s.brEn c = true) ∧ (s.code c = 0) ∧ (s.brCool c = true)) ∧
    (∃ (c : Nat) (r : CtxRec) (s : State), (RegsOk s) ∧ (s.works = true) ∧ (s.branch? c = some r) ∧ (s.brEn c = true) ∧ (s.code c = 0) ∧ (s.brCool c = false)) ∧
    (∃ (c : Nat) (r : CtxRec) (s : State), (RegsOk s) ∧ (s.works = true) ∧ (s.branch? c = some r) ∧ (r.a0 < 16) ∧ (s.brEn c = false) ∧ (s.code c ≠ 0)) ∧
    (∃ (c : Nat) (t : Nat) (r : CtxRec) (s : State), (RegsOk s) ∧ (s.works = true) ∧ (s.branch? c = some r) ∧ (r.a0 < 16) ∧ (s.ownerRec r.a0 = some r) ∧ (s.code c = 4) ∧ (s.brEn c = true) ∧ ((s.at t).expired (.cool c) (s.cw c BR_COOLMIN) = true) ∧ (s.brCool c = true)) ∧
    (∃ (c : Nat) (r : CtxRec) (s : State), (RegsOk s) ∧ (s.works = true) ∧ (s.branch? c = some r)) ∧
    (∃ (c : Nat) (r : CtxRec) (s : State), (RegsOk s) ∧ (s.branch? c = some r) ∧ (s.enhanced r.a0 = true) ∧ (s.drive r.a0 ≠ 0) ∧ (8 ≤ s.count (.brPg c)) ∧ (s.code c = 1) ∧ (s.flag (ctxAddr c BR_LIVE) 0 = false)) ∧
    (∃ (c : Nat) (r : CtxRec) (s : State), (RegsOk s) ∧ (s.branch? c = some r) ∧ (s.flag (ctxAddr c BR_LIVE) 0 = true) ∧ (s.enhanced r.a0 = false ∨ 8 ≤ s.count (.brPgLow c))) ∧
    (∃ (c : Nat) (r : CtxRec) (s : State), (RegsOk s) ∧ (s.branch? c = some r) ∧ (r.a0 < 16) ∧ (s.drive r.a0 ≠ 0) ∧ (s.code c = 2)) ∧
    (∃ (c : Nat) (r : CtxRec) (s : State), (RegsOk s) ∧ (s.branch? c = some r) ∧ (r.a0 < 16) ∧ (s.drive r.a0 ≠ 0) ∧ (s.code c = 3) ∧ (8 ≤ s.count (.limOff r.a0))) ∧
    (∃ (c : Nat) (t : Nat) (s : State), (RegsOk s) ∧ (s.works = true) ∧ (s.isType c .branch = true) ∧ (s.flag (ctxAddr c BR_LIVE) 0 = true) ∧ ((s.at t).expiredTicks (.brPgHeld c) ticksPerSecond = true)) :=
  ⟨⟨8, rBranch, smp [(ctxAddr 8 BR_CTL, 1)], regs_ok (by decide +kernel), by decide +kernel⟩,
   ⟨8, rBranch, smp [(ctxAddr 8 BR_CTL, 1), (ctxAddr 8 CTX_TMEAS, 0x15000)], regs_ok (by decide +kernel), by decide +kernel⟩,
   ⟨8, rBranch, smp [codeW 8 2], regs_ok (by decide +kernel), by decide +kernel⟩,
   ⟨8, 0, rBranch, smpT [codeW 8 4, (ctxAddr 8 BR_CTL, 1)] [.cool 8], regs_ok (by decide +kernel), by decide +kernel⟩,
   ⟨8, rBranch, smp [], regs_ok (by decide +kernel), by decide +kernel⟩,
   ⟨8, rBranch, smpC [(GCH_STS + 3, 5), codeW 8 1] [.brPg 8], regs_ok (by decide +kernel), by decide +kernel⟩,
   ⟨8, rBranch, smpC [(GCH_STS + 3, 1), (ctxAddr 8 BR_LIVE, 1)] [.brPgLow 8], regs_ok (by decide +kernel), by decide +kernel⟩,
   ⟨8, rBranch, smp [(GCH_STS + 3, 3), codeW 8 2], regs_ok (by decide +kernel), by decide +kernel⟩,
   ⟨8, rBranch, smpC [(GCH_STS + 3, 3), codeW 8 3] [.limOff 3], regs_ok (by decide +kernel), by decide +kernel⟩,
   ⟨8, 0, smpT [(ctxAddr 8 BR_LIVE, 1)] [.brPgHeld 8], regs_ok (by decide +kernel), by decide +kernel⟩⟩

/-- States and operands that meet the hypotheses of StringsConnectLimitAndRetry, clause by clause. -/
theorem test_strings_connect_limit_and_retry :
    (∃ (c : Nat) (r : CtxRec) (s : State), (RegsOk s) ∧ (s.works = true) ∧ (s.string? c = some r) ∧ (s.batEn c = true) ∧ (s.code c = 0) ∧ (r.directHang = true) ∧ (r.a0 < 16) ∧ (s.ownerRec r.a0 = some r) ∧ (s.belowCut c = false)) ∧
    (∃ (c : Nat) (r : CtxRec) (g : CtxRec) (s : State), (RegsOk s) ∧ (s.works = true) ∧ (s.string? c = some r) ∧ (s.batEn c = true) ∧ (s.code c = 0) ∧ (r.directHang = false) ∧ (s.servedBy r = some g) ∧ (s.belowCut c = false)) ∧
    (∃ (c : Nat) (r : CtxRec) (s : State), (RegsOk s) ∧ (s.works = true) ∧ (s.string? c = some r) ∧ (s.batEn c = false) ∧ (s.code c ≠ 0) ∧ ((r.directHang = true → r.a0 < 16))) ∧
    (∃ (c : Nat) (t : Nat) (r : CtxRec) (s : State), (RegsOk s) ∧ (s.works = true) ∧ (s.string? c = some r) ∧ (r.directHang = true) ∧ (r.a0 < 16) ∧ (s.ownerRec r.a0 = some r) ∧ (s.code c = 4) ∧ (s.batEn c = true) ∧ ((s.at t).expired (.cool c) (s.cw c BAT_DHCOOL) = true)) ∧
    (∃ (c : Nat) (r : CtxRec) (s : State), (RegsOk s) ∧ (s.string? c = some r) ∧ (r.directHang = true) ∧ (r.a0 < 16) ∧ (s.drive r.a0 ≠ 0) ∧ (s.code c = 2)) ∧
    (∃ (c : Nat) (r : CtxRec) (s : State), (RegsOk s) ∧ (s.string? c = some r) ∧ (r.directHang = true) ∧ (r.a0 < 16) ∧ (s.drive r.a0 ≠ 0) ∧ (s.code c = 3) ∧ (8 ≤ s.count (.limOff r.a0))) ∧
    (∃ (c : Nat) (t : Nat) (s : State), (RegsOk s) ∧ (s.works = true) ∧ (s.isType c .string = true) ∧ (s.flag (ctxAddr c BAT_PSTS) 3 = true) ∧ ((s.at t).expiredTicks (.dhHeld c) ticksPerSecond = true)) ∧
    (∃ (ch : Nat) (t : Nat) (r : CtxRec) (s : State), (RegsOk s) ∧ (ImagesFit s) ∧ (ch < 16) ∧ (s.ownerRec ch = some r) ∧ (r.a0 = ch) ∧ (r.directHang = true) ∧ (s.laneRuns = true) ∧ (s.drive ch ≠ 0) ∧ (dhLive (s.code r.ctx) = true) ∧ ((s.at t).expired (.inrush ch) (s.cw r.ctx BAT_DHITO) = true) ∧ (s.count (.enhUp ch) < 8)) :=
  ⟨⟨7, rHang, smp [(ctxAddr 7 BAT_CTL, 1), (ctxAddr 7 CTX_VMEAS, 0x10000)], regs_ok (by decide +kernel), by decide +kernel⟩,
   ⟨6, rString, rGroup, smp [(ctxAddr 6 BAT_CTL, 1), (ctxAddr 6 CTX_VMEAS, 0x10000)], regs_ok (by decide +kernel), by decide +kernel⟩,
   ⟨7, rHang, smp [codeW 7 2], regs_ok (by decide +kernel), by decide +kernel⟩,
   ⟨7, 0, rHang, smpT [codeW 7 4, (ctxAddr 7 BAT_CTL, 1)] [.cool 7], regs_ok (by decide +kernel), by decide +kernel⟩,
   ⟨7, rHang, smp [(GCH_STS + 2, 3), codeW 7 2], regs_ok (by decide +kernel), by decide +kernel⟩,
   ⟨7, rHang, smpC [(GCH_STS + 2, 3), codeW 7 3] [.limOff 2], regs_ok (by decide +kernel), by decide +kernel⟩,
   ⟨7, 0, smpT [(ctxAddr 7 BAT_PSTS, 8)] [.dhHeld 7], regs_ok (by decide +kernel), by decide +kernel⟩,
   ⟨2, 0, rHang, smpT [(GCH_STS + 2, 1), codeW 7 1] [.inrush 2], regs_ok (by decide +kernel), sample_fits _ rfl rfl, by decide +kernel⟩⟩

/-- States and operands that meet the hypotheses of CutOffIsEnteredAndLeft, clause by clause. -/
theorem test_cut_off_is_entered_and_left :
    (∃ (c : Nat) (r : CtxRec) (s : State), (RegsOk s) ∧ (ImagesFit s) ∧ (s.string? c = some r) ∧ ((∀ g, s.servedBy r = some g → g.ctx ≠ c)) ∧ (s.batEn c = true) ∧ (8 ≤ s.count (.cutLow c)) ∧ (s.isCut c = false) ∧ (s.code c ≠ 5)) ∧
    (∃ (c : Nat) (r : CtxRec) (g : CtxRec) (s : State), (RegsOk s) ∧ (s.works = true) ∧ (s.string? c = some r) ∧ (s.isCut c = true) ∧ (8 ≤ s.count (.cutHigh c)) ∧ (r.directHang = false) ∧ (s.servedBy r = some g)) :=
  ⟨⟨6, rString, smpC [codeW 6 7, (ctxAddr 6 BAT_CTL, 1)] [.cutLow 6], regs_ok (by decide +kernel), sample_fits _ rfl rfl, by decide +kernel, by exact fun g h => by rw [show State.servedBy _ rString = some rGroup from by decide +kernel] at h; cases h; decide, by decide +kernel⟩,
   ⟨6, rString, rGroup, smpC [(ctxAddr 6 BAT_PSTS, 4)] [.cutHigh 6], regs_ok (by decide +kernel), by decide +kernel⟩⟩

/-- States and operands that meet the hypotheses of HollowsAreDetected, clause by clause. -/
theorem test_hollows_are_detected :
    (∃ (v : Int) (s : State), (RegsOk s) ∧ (s.hollow.formed = true) ∧ (s.hollow.watched.isSome = true) ∧ (s.inHollow = false) ∧ (s.sys ≠ sysDormant) ∧ (s.busWord (v : Rat) < s.hollowLevel false)) ∧
    (∃ (s : State), (RegsOk s) ∧ (s.inHollow = true) ∧ (s.hollowLevel true ≤ s.busWord (s.hollow.last : Rat))) ∧
    (∃ (t : Nat) (s : State), (s.inHollow = true) ∧ ((s.at t).expired .hollow (s.reg SAD_TLOSS) = true)) ∧
    (∃ (s : State), (RegsOk s) ∧ (s.hollow.watched.isSome = true) ∧ (s.hollow.formed = false) ∧ (100 ≤ s.hollow.ticks.length)) :=
  ⟨⟨0, { smp [(SAD_HREF, 0x10000), (SAD_HTHR, 0x00CCD), (ctxAddr 0 CTX_VBASE, 0x3D518)] with hollow := { watched := some 5, formed := true } }, regs_ok (by decide +kernel), by decide +kernel⟩,
   ⟨{ smp [(SAD_STATE, 0x800), (SAD_HREF, 0x10000), (SAD_HTHR, 0x00CCD), (ctxAddr 0 CTX_VBASE, 0x3D518)] with hollow := { watched := some 5, formed := true, last := 54000000 } }, regs_ok (by decide +kernel), by decide +kernel⟩,
   ⟨0, smpT [(SAD_STATE, 0x800)] [.hollow], by decide +kernel⟩,
   ⟨{ smp [] with hollow := { watched := some 5, ticks := List.replicate 100 54000000 } }, regs_ok (by decide +kernel), by decide +kernel⟩⟩

/-- States and operands that meet the hypotheses of TheSaddleAndTheReturnPass, clause by clause. -/
theorem test_the_saddle_and_the_return_pass :
    (∃ (p : Port) (w : Word) (t : Nat) (s : State), (RegsOk s) ∧ (ServesAll p (s.at t)) ∧ (bit w 0 = true) ∧ (bit w 1 = false)) ∧
    (∃ (p : Port) (w : Word) (t : Nat) (s : State), (RegsOk s) ∧ (ServesAll p (s.at t)) ∧ (bit w 0 = false) ∧ (bit w 1 = true)) ∧
    (∃ (k : Nat) (s : State), (RegsOk s) ∧ (ChannelsFit s) ∧ (s.sad = 0) ∧ (s.servingGroups ≠ []) ∧ (s.availableGroups ≠ []) ∧ (s.saddleCause = some k)) ∧
    (∃ (s : State), (RegsOk s) ∧ (s.works = true) ∧ (s.sad = 1) ∧ ((∀ r ∈ s.ofType .feed, s.drive r.a0 = 0 ∧ (s.running (.gateOff r.a0) = false ∨ (s.chan r.a0).vgs < 1000000)))) ∧
    (∃ (s : State), (RegsOk s) ∧ (s.works = true) ∧ (s.sad = 2) ∧ (s.availableGroups.all (fun r => s.rampDone (s.holdSlot r.ctx)) = true)) ∧
    (∃ (t : Nat) (s : State), (RegsOk s) ∧ (s.works = true) ∧ (s.sad = 3) ∧ ((s.at t).expiredTicks .satDwell (ms 20) = true)) ∧
    (∃ (t : Nat) (r : CtxRec) (s : State), (RegsOk s) ∧ (s.works = true) ∧ (s.sad = 3) ∧ (s.flag SAD_STATE 3 = true) ∧ (s.returnTargets.head? = some r) ∧ (s.lane.stableFor = some r.ctx) ∧ ((s.at t).expired .stable (s.reg SAD_TSTABLE) = true)) ∧
    (∃ (c : Nat) (g : Nat) (s : State), (RegsOk s) ∧ (s.works = true) ∧ (s.sad = 4) ∧ (s.availableGroups.all (fun r => s.rampDone (s.holdSlot r.ctx)) = true) ∧ (s.nativeTarget = true) ∧ (s.lane.change = none) ∧ (s.sadTarget = some c) ∧ (s.channelOf c = some g) ∧ (g < 16) ∧ (s.drive g = 0) ∧ ((∀ q, s.ownerRec g = some q → q.typ = .feed))) ∧
    (∃ (s : State), (RegsOk s) ∧ (s.works = true) ∧ (s.sad = 4) ∧ (s.availableGroups.all (fun r => s.rampDone (s.holdSlot r.ctx)) = true) ∧ (s.nativeTarget = false)) ∧
    (∃ (t : Nat) (s : State), (RegsOk s) ∧ (s.works = true) ∧ (s.sad = 5) ∧ ((s.nativeTarget = true → ∃ c, s.sadTarget = some c ∧ s.code c = 4)) ∧ ((s.nativeTarget = false → ∃ t0, s.lane.releasedAt = some t0 ∧ t0 / 2000 < (s.at t).now / 2000))) ∧
    (∃ (s : State), (RegsOk s) ∧ (s.works = true) ∧ (s.sad = 6) ∧ (s.availableGroups.all (fun r => s.rampDone (s.releaseSlot r.ctx)) = true)) :=
  ⟨⟨.twoWire, 1, 0, smp [], regs_ok (by decide +kernel), serves (by decide +kernel), by decide +kernel⟩,
   ⟨.twoWire, 2, 0, smp [], regs_ok (by decide +kernel), serves (by decide +kernel), by decide +kernel⟩,
   ⟨1, smp [codeW 5 3, codeW 6 7, (ctxAddr 6 BAT_IDPERM, 0x10000)], regs_ok (by decide +kernel), sample_channels _ _ rfl rfl, by decide +kernel⟩,
   ⟨smp [(SAD_STATE, 1)], regs_ok (by decide +kernel), by decide +kernel⟩,
   ⟨smp [(SAD_STATE, 2)], regs_ok (by decide +kernel), by decide +kernel⟩,
   ⟨0, smpT [(SAD_STATE, 3)] [.satDwell], regs_ok (by decide +kernel), by decide +kernel⟩,
   ⟨0, rFeed, { smpT [(SAD_STATE, 0x0B)] [.stable] with lane := { feedQual := [1], stableFor := some 1 } }, regs_ok (by decide +kernel), by decide +kernel⟩,
   ⟨1, 0, smp [(SAD_STATE, 0x404)], regs_ok (by decide +kernel), by decide +kernel⟩,
   ⟨{ smp [(SAD_STATE, 0x404)] with image := some { sampleImage with contexts := [rShelf, rDiode] } }, regs_ok (by decide +kernel), by decide +kernel⟩,
   ⟨0, smp [(SAD_STATE, 0x405), codeW 1 4], regs_ok (by decide +kernel), by decide +kernel, by decide +kernel, by exact fun _ => ⟨1, by decide +kernel, by decide +kernel⟩, by exact fun h => absurd h (by decide +kernel)⟩,
   ⟨smp [(SAD_STATE, 6)], regs_ok (by decide +kernel), by decide +kernel⟩⟩

/-- States and operands that meet the hypotheses of ChargeEvaluationsStartAndRequest, clause by clause. -/
theorem test_charge_evaluations_start_and_request :
    (∃ (c : Nat) (g : Nat) (s : State), (RegsOk s) ∧ (s.works = true) ∧ (s.setOf c = some g)) ∧
    (∃ (c : Nat) (g : Nat) (s : State), (RegsOk s) ∧ (s.works = true) ∧ (s.setOf c = some g) ∧ (s.setPhaseOf (s.chargeSet g) = 0) ∧ (s.trippedMember (s.chargeSet g) (s.setPhaseOf (s.chargeSet g) == 0) = none) ∧ ((∀ x ∈ s.chargeSet g, s.chargeable x.ctx = true))) ∧
    (∃ (c : Nat) (g : Nat) (s : State), (RegsOk s) ∧ (s.works = true) ∧ (s.setOf c = some g) ∧ (s.setPhaseOf (s.chargeSet g) = 2) ∧ ((∀ x ∈ s.chargeSet g, s.chgPhase x.ctx = 2 ∨ s.chgPhase x.ctx = 0)) ∧ (s.trippedMember (s.chargeSet g) (s.setPhaseOf (s.chargeSet g) == 0) = none) ∧ ((∀ x ∈ s.chargeSet g, s.chargeable x.ctx = true)) ∧ (s.voltGoverns g = false)) ∧
    (∃ (c : Nat) (g : Nat) (s : State), (RegsOk s) ∧ (s.works = true) ∧ (s.setOf c = some g) ∧ ((∃ x ∈ s.chargeSet g, s.chargeable x.ctx = false))) ∧
    (∃ (c : Nat) (s : State), (RegsOk s) ∧ (s.works = true) ∧ (s.setOf c = none) ∧ (s.isType c .string = true) ∧ (s.chargeable c = true)) :=
  ⟨⟨6, 5, smp [(ctxAddr 6 BAT_CTL, 1)], regs_ok (by decide +kernel), by decide +kernel⟩,
   ⟨6, 5, smp [(ctxAddr 6 BAT_CTL, 1), (ctxAddr 6 CHG_CTL, 3)], regs_ok (by decide +kernel), by decide +kernel⟩,
   ⟨6, 5, smp [(ctxAddr 6 BAT_CTL, 1), (ctxAddr 6 CHG_CTL, 3), (ctxAddr 6 CHG_STATE, 2)], regs_ok (by decide +kernel), by decide +kernel⟩,
   ⟨5, 5, smp [(ctxAddr 6 BAT_CTL, 1)], regs_ok (by decide +kernel), by decide +kernel, by decide +kernel, by exact ⟨rString, by decide +kernel, by decide +kernel⟩⟩,
   ⟨7, smp [(ctxAddr 7 CHG_CTL, 3)], regs_ok (by decide +kernel), by decide +kernel⟩⟩

/-- States and operands that meet the hypotheses of ChargesTerminateAndRestart, clause by clause. -/
theorem test_charges_terminate_and_restart :
    (∃ (c : Nat) (g : Nat) (k : Nat) (t : Nat) (s : State), (RegsOk s) ∧ (s.works = true) ∧ (s.setOf c = some g) ∧ ((s.at t).termination g = some k)) ∧
    (∃ (c : Nat) (g : Nat) (s : State), (RegsOk s) ∧ (s.works = true) ∧ (s.setOf c = some g) ∧ (s.chargeSet g ≠ []) ∧ (s.pausing g = false) ∧ ((∀ b ∈ s.chargeSet g, s.chgPhase b.ctx = 4 ∧ ef (s.cw b.ctx CHG_TTOP) * 1000 ≤ ((s.str b.ctx).topped : Rat)))) ∧
    (∃ (c : Nat) (g : Nat) (t : Nat) (s : State), (RegsOk s) ∧ (s.works = true) ∧ (s.setOf c = some g) ∧ ((∃ b ∈ s.chargeSet g, s.chgPhase b.ctx = 5)) ∧ ((s.at t).expiredTicks (.chgB g) (10 * ticksPerSecond) = true)) ∧
    (∃ (c : Nat) (t : Nat) (s : State), (RegsOk s) ∧ (s.works = true) ∧ (s.isType c .string = true) ∧ (s.chgBit c 3 = true) ∧ ((s.at t).expiredTicks (.susp c) (10 * ticksPerSecond) = true)) ∧
    (∃ (c : Nat) (t : Nat) (s : State), (RegsOk s) ∧ (s.works = true) ∧ (s.isType c .string = true) ∧ (s.chgPhase c = 7) ∧ (s.chgBit c 10 = false) ∧ ((s.at t).expiredTicks (.chgA c) (10 * ticksPerSecond) = true)) :=
  ⟨⟨6, 5, 1, 0, { smp [(ctxAddr 6 BAT_CTL, 1), (ctxAddr 6 CHG_CTL, 9), (ctxAddr 6 CHG_STATE, 2), codeW 5 4] with lane := { strings := [(6, { peak := 5 })] } }, regs_ok (by decide +kernel), by decide +kernel⟩,
   ⟨6, 5, smp [(ctxAddr 6 BAT_CTL, 1), (ctxAddr 6 CHG_STATE, 4), codeW 5 4], regs_ok (by decide +kernel), by decide +kernel⟩,
   ⟨5, 5, 0, smpT [(ctxAddr 6 BAT_CTL, 1), (ctxAddr 6 CHG_STATE, 5)] [.chgB 5], regs_ok (by decide +kernel), by decide +kernel, by decide +kernel, by exact ⟨rString, by decide +kernel, by decide +kernel⟩, by decide +kernel⟩,
   ⟨6, 0, smpT [(ctxAddr 6 CHG_STATE, 8)] [.susp 6], regs_ok (by decide +kernel), by decide +kernel⟩,
   ⟨7, 0, smpT [(ctxAddr 7 CHG_STATE, 7)] [.chgA 7], regs_ok (by decide +kernel), by decide +kernel⟩⟩

/-- States and operands that meet the hypotheses of ChargesTimeOutAndCellsTrip, clause by clause. -/
theorem test_charges_time_out_and_cells_trip :
    (∃ (c : Nat) (g : Nat) (t : Nat) (b : CtxRec) (s : State), (RegsOk s) ∧ (s.works = true) ∧ (s.setOf c = some g) ∧ ((s.at t).termination g = none) ∧ ((s.ctx? b.ctx).isSome = true) ∧ (s.flt.matches_ = []) ∧ ((s.chargeSet g).find? (fun b => decide (1 ≤ s.chgPhase b.ctx) && decide (s.chgPhase b.ctx ≤ 3) && s.timedOut b.ctx) = some b)) ∧
    (∃ (c : Nat) (g : Nat) (t : Nat) (b : CtxRec) (s : State), (RegsOk s) ∧ (s.works = true) ∧ (s.setOf c = some g) ∧ ((s.ctx? b.ctx).isSome = true) ∧ (s.flt.matches_ = []) ∧ ((s.chargeSet g).find? (fun b => s.chgPhase b.ctx == 1 && !s.pausing g && decide (ef (s.cw b.ctx CHG_TSAFE) / 8 * ticksPerSecond ≤ (((s.at t).now - (s.str b.ctx).preAt : Nat) : Rat)) && decide (s.meanV b.ctx < pu (s.cw b.ctx CHG_VPRE))) = some b)) ∧
    (∃ (c : Nat) (r : CtxRec) (s : State), (RegsOk s) ∧ (s.works = true) ∧ (s.setOf c = none) ∧ (s.string? c = some r) ∧ (s.chgPhase c = 7) ∧ (s.chgBit c 10 = false) ∧ (s.timedOut c = true) ∧ ((s.str c).late = false) ∧ (s.flt.matches_ = [])) ∧
    (∃ (n0 : Nat) (k : Nat) (uv : Int) (r : CtxRec) (s : State), (RegsOk s) ∧ (ChannelsFit s) ∧ (s.cellString n0 k = some r) ∧ (pu (s.reg (CELL_OVTH + n0)) ≤ cellPu uv) ∧ (s.ctx? r.ctx = some r) ∧ (s.cellTripped.contains (16 * n0 + k) = false) ∧ (s.sys ≠ sysDormant)) ∧
    (∃ (n0 : Nat) (k : Nat) (r : CtxRec) (s : State), (s.cellString n0 k = some r) ∧ (s.cellTripped.contains (16 * n0 + k) = true)) :=
  ⟨⟨6, 5, 0, rString, smp [(ctxAddr 6 BAT_CTL, 1), (ctxAddr 6 CHG_STATE, 2)], regs_ok (by decide +kernel), by decide +kernel⟩,
   ⟨6, 5, 0, rString, smp [(ctxAddr 6 BAT_CTL, 1), (ctxAddr 6 CHG_STATE, 1), (ctxAddr 6 CHG_VPRE, 0x8000), codeW 5 4], regs_ok (by decide +kernel), by decide +kernel⟩,
   ⟨7, rHang, smp [(ctxAddr 7 CHG_STATE, 7)], regs_ok (by decide +kernel), by decide +kernel⟩,
   ⟨0, 15, 4300000, rString, smp [(CELL_CFG, 0x10), (CELL_OVTH, 4250)], regs_ok (by decide +kernel), sample_channels _ _ rfl rfl, by decide +kernel⟩,
   ⟨0, 15, rString, { smp [(CELL_CFG, 0x10), (CELL_OVTH, 4250)] with cellTripped := [15] }, by decide +kernel⟩⟩

/-- States and operands that meet the hypotheses of CountingAndRestEstimateTheCharge, clause by clause. -/
theorem test_counting_and_rest_estimate_the_charge :
    (∃ (r : CtxRec) (s : State), (RegsOk s) ∧ (ChannelsFit s) ∧ (s.works = true) ∧ (s.ofType .string = [r]) ∧ ((s.str r.ctx).fresh = false) ∧ (s.isCut r.ctx = false) ∧ ((s.str r.ctx).emptyOwed = false)) ∧
    (∃ (c : Nat) (t : Nat) (r : CtxRec) (s : State), (RegsOk s) ∧ (s.works = true) ∧ ((s.at t).expired (.rest c) (s.cw c EST_TREST) = true) ∧ (s.string? c = some r) ∧ (r.inst < 8) ∧ (bit (s.cw c EST_CTL) 0 = true) ∧ ((s.str c).anchored.any (fun a => decide ((s.str c).evalAt ≤ a)) = false) ∧ (2 / 1000 / slopeAt (s.ocvTable r.inst) (s.ocvInv r.inst (s.meanV c)) < (s.str c).unc)) ∧
    (∃ (c : Nat) (t : Nat) (r : CtxRec) (s : State), (RegsOk s) ∧ (s.works = true) ∧ ((s.at t).expired (.rest c) (s.cw c EST_TREST) = true) ∧ (s.string? c = some r) ∧ (bit (s.cw c EST_CTL) 0 = false)) :=
  ⟨⟨rString, { smp [] with image := some { sampleImage with contexts := [rShelf, rGroup, rString] }, lane := { strings := [(6, { fresh := false })] } }, regs_ok (by decide +kernel), sample_channels _ _ rfl rfl, by decide +kernel⟩,
   ⟨6, 0, rString, smpT [(ctxAddr 6 EST_CTL, 1), (EST_OCV, 0x0D000), (EST_OCV + 1, 0x0E000), (EST_OCV + 2, 0x0E800), (EST_OCV + 3, 0x0F000), (EST_OCV + 4, 0x0F400), (EST_OCV + 5, 0x0F800), (EST_OCV + 6, 0x0FC00), (EST_OCV + 7, 0x10000)] [.rest 6], regs_ok (by decide +kernel), by decide +kernel⟩,
   ⟨6, 0, rString, smpT [] [.rest 6], regs_ok (by decide +kernel), by decide +kernel⟩⟩

/-- States and operands that meet the hypotheses of EstimatorCommandsAndLearnedData, clause by clause. -/
theorem test_estimator_commands_and_learned_data :
    (∃ (p : Port) (c : Nat) (t : Nat) (w : Word) (s : State), (RegsOk s) ∧ (ServesAll p (s.at t)) ∧ (c < 128) ∧ (s.isType c .string = true) ∧ (bit w 2 = true) ∧ (bit w 3 = false) ∧ (bit w 4 = false)) ∧
    (∃ (p : Port) (c : Nat) (t : Nat) (w : Word) (s : State), (RegsOk s) ∧ (ServesAll p (s.at t)) ∧ (c < 128) ∧ (s.isType c .string = true) ∧ (bit w 2 = false) ∧ (bit w 3 = true) ∧ (bit w 4 = false)) ∧
    (∃ (p : Port) (c : Nat) (t : Nat) (w : Word) (s : State), (RegsOk s) ∧ (ServesAll p (s.at t)) ∧ (c < 128) ∧ (s.isType c .string = true) ∧ (bit w 2 = false) ∧ (bit w 3 = false) ∧ (bit w 4 = true)) ∧
    (∃ (t : Nat) (r : CtxRec) (s : State), (RegsOk s) ∧ (s.works = true) ∧ (s.running .lrnPeriod = false ∨ (s.at t).expiredTicks .lrnPeriod (60 * ticksPerSecond) = true) ∧ (r ∈ s.ofType .string) ∧ (1 / 100 < (s.str r.ctx).soc - (s.str r.ctx).committed)) ∧
    (∃ (bs : List Byte) (s : State), (RegsOk s) ∧ (s.mram.wf = true) ∧ (s.learned.busy = some bs) ∧ (bs.length = 256)) :=
  ⟨⟨.twoWire, 6, 0, 4, smp [], regs_ok (by decide +kernel), serves (by decide +kernel), by decide +kernel⟩,
   ⟨.twoWire, 6, 0, 8, smp [], regs_ok (by decide +kernel), serves (by decide +kernel), by decide +kernel⟩,
   ⟨.twoWire, 6, 0, 16, smp [], regs_ok (by decide +kernel), serves (by decide +kernel), by decide +kernel⟩,
   ⟨0, rString, { smp [] with lane := { strings := [(6, { soc := 1 })] } }, regs_ok (by decide +kernel), by decide +kernel⟩,
   ⟨List.replicate 256 0, { smp [] with learned := { busy := some (List.replicate 256 0) } }, regs_ok (by decide +kernel), by decide +kernel⟩⟩

/-- States and operands that meet the hypotheses of SharingSetsTheMean, clause by clause. -/
theorem test_sharing_sets_the_mean :
    (∃ (r : CtxRec) (s : State), (RegsOk s) ∧ (r ∈ s.sharingSet) ∧ (r.ctx < 128) ∧ (2 ≤ s.sharingSet.length)) ∧
    (∃ (c : Nat) (t : Nat) (s : State), (RegsOk s) ∧ (s.works = true) ∧ (s.isType c .rectifier = true) ∧ (s.code c = 1) ∧ ((s.at t).expiredTicks (.shareErr c) ticksPerSecond = true) ∧ (s.lane.sherrDone.contains c = false)) :=
  ⟨⟨rRectA, { smp [(ctxAddr 3 RECT_CTL, 1), (ctxAddr 4 RECT_CTL, 1)] with updated := [(ctxAddr 3 CTX_IMEAS, 1000000000000), (ctxAddr 4 CTX_IMEAS, 1000000000000)] }, regs_ok (by decide +kernel), by decide +kernel⟩,
   ⟨3, 0, smpT [codeW 3 1] [.shareErr 3], regs_ok (by decide +kernel), by decide +kernel⟩⟩

/-- States and operands that meet the hypotheses of ThrottlesAreForcedAndReleased, clause by clause. -/
theorem test_throttles_are_forced_and_released :
    (∃ (p : Port) (t : Nat) (s : State), (RegsOk s) ∧ (ImagesFit s) ∧ (ServesAll p (s.at t))) ∧
    (∃ (k : Nat) (t : Nat) (s : State), (RegsOk s) ∧ ((List.range 16).find? (s.at t).throttleRipe = some k)) :=
  ⟨⟨.twoWire, 0, smp [], regs_ok (by decide +kernel), sample_fits _ rfl rfl, serves (by decide +kernel)⟩,
   ⟨0, 0, smpT [(THR_LIVE, 1)] [.thrHold 0, .thrRel 0], regs_ok (by decide +kernel), by decide +kernel⟩⟩

/-- States and operands that meet the hypotheses of RailsRiseFallFailAndStick, clause by clause. -/
theorem test_rails_rise_fall_fail_and_stick :
    (∃ (c : Nat) (t : Nat) (s : State), (RegsOk s) ∧ (s.works = true) ∧ (s.isType c .rail = true) ∧ (s.code c = 1) ∧ ((s.at t).expired (.rail c) (s.cw c RAIL_TON) = true)) ∧
    (∃ (c : Nat) (t : Nat) (s : State), (RegsOk s) ∧ (s.works = true) ∧ (s.isType c .rail = true) ∧ (s.code c = 2) ∧ ((s.at t).expired (.rail c) (s.cw c RAIL_TRISE) = true) ∧ (s.railUp c = true)) ∧
    (∃ (c : Nat) (t : Nat) (s : State), (RegsOk s) ∧ (s.works = true) ∧ (s.isType c .rail = true) ∧ (s.code c = 2) ∧ ((s.at t).expired (.rail c) (s.cw c RAIL_TRISE) = true) ∧ (s.railUp c = false) ∧ (s.flt.matches_ = [])) ∧
    (∃ (c : Nat) (t : Nat) (s : State), (RegsOk s) ∧ (s.works = true) ∧ (s.isType c .rail = true) ∧ ((s.code c = 2 ∨ s.code c = 3 ∨ s.code c = 4)) ∧ ((s.at t).expired (.railOff c) (s.cw c RAIL_TOFF) = true)) ∧
    (∃ (c : Nat) (t : Nat) (s : State), (RegsOk s) ∧ (s.works = true) ∧ (s.isType c .rail = true) ∧ (s.code c = 5) ∧ ((s.at t).expired (.rail c) (s.cw c RAIL_TFALL) = true) ∧ (s.railFallen c = true)) ∧
    (∃ (c : Nat) (t : Nat) (s : State), (RegsOk s) ∧ (s.works = true) ∧ (s.isType c .rail = true) ∧ (s.code c = 5) ∧ ((s.at t).expired (.rail c) (s.cw c RAIL_TFALL) = true) ∧ (s.railFallen c = false) ∧ (s.flt.matches_ = [])) ∧
    (∃ (c : Nat) (t : Nat) (s : State), (s.works = true) ∧ (s.isType c .rail = true) ∧ ((s.at t).expired (.discharge c) (s.cw c RAIL_TDIS) = true)) ∧
    (∃ (s : State), (RegsOk s) ∧ (s.sys ≠ sysDormant)) :=
  ⟨⟨10, 0, smpT [codeW 10 1] [.rail 10], regs_ok (by decide +kernel), by decide +kernel⟩,
   ⟨10, 0, smpT [codeW 10 2] [.rail 10], regs_ok (by decide +kernel), by decide +kernel⟩,
   ⟨10, 0, smpT [codeW 10 2, (ctxAddr 10 RAIL_FILT, 3)] [.rail 10], regs_ok (by decide +kernel), by decide +kernel⟩,
   ⟨10, 0, smpT [codeW 10 3] [.railOff 10], regs_ok (by decide +kernel), by decide +kernel⟩,
   ⟨10, 0, smpT [codeW 10 5] [.rail 10], regs_ok (by decide +kernel), by decide +kernel⟩,
   ⟨10, 0, smpT [codeW 10 5, (ctxAddr 10 RAIL_FILT, 3)] [.rail 10], regs_ok (by decide +kernel), by decide +kernel⟩,
   ⟨10, 0, smpT [] [.discharge 10], by decide +kernel⟩,
   ⟨smp [], regs_ok (by decide +kernel), by decide +kernel⟩⟩

/-- States and operands that meet the hypotheses of GraphsFollowRequests, clause by clause. -/
theorem test_graphs_follow_requests :
    (∃ (p : Port) (w : Word) (t : Nat) (i : Instr) (s : State), (ServesAll p (s.at t)) ∧ (i = .seqOn p w t ∨ i = .seqOff p w t ∨ i = .seqForce p w t)) ∧
    (∃ (w : Word) (g : Nat) (s : State), (RegsOk s) ∧ (g ∈ s.addressed w) ∧ (bit w 8 = true) ∧ (bit w 9 = false) ∧ (bit w 10 = false) ∧ (s.gcode g = 0) ∧ (s.upBlocked g = false)) ∧
    (∃ (w : Word) (g : Nat) (s : State), (RegsOk s) ∧ (g ∈ s.addressed w) ∧ (bit w 8 = true) ∧ (bit w 9 = false) ∧ (bit w 10 = false) ∧ (s.gcode g = 0) ∧ (s.upBlocked g = true)) ∧
    (∃ (w : Word) (g : Nat) (s : State), (RegsOk s) ∧ (g ∈ s.addressed w) ∧ (bit w 8 = true) ∧ (bit w 9 = false) ∧ (bit w 10 = false) ∧ (s.gcode g = 3)) ∧
    (∃ (w : Word) (g : Nat) (s : State), (RegsOk s) ∧ (g ∈ s.addressed w) ∧ (bit w 9 = true) ∧ (bit w 10 = false) ∧ ((s.gcode g = 1 ∨ s.gcode g = 2))) ∧
    (∃ (w : Word) (g : Nat) (s : State), (RegsOk s) ∧ (g ∈ s.addressed w) ∧ (bit w 10 = true) ∧ (s.gcode g ≠ 0) ∧ (s.gcode g ≠ 4)) ∧
    (∃ (g : Nat) (t : Nat) (s : State), (RegsOk s) ∧ (s.works = true) ∧ (s.gcode g = 4) ∧ (g ∈ s.graphList) ∧ ((s.at t).expired (.graphOff g) (s.reg SEQ_TOFFMIN) = true)) :=
  ⟨⟨.twoWire, 0x101, 0, .seqOn .twoWire 0x101 0, smp [], serves (by decide +kernel), by decide +kernel⟩,
   ⟨0x101, 0, smp [], regs_ok (by decide +kernel), by decide +kernel⟩,
   ⟨0x101, 0, { smp [(SEQ_GCFG, 0x10)] with accepted := [(0x81, false)] }, regs_ok (by decide +kernel), by decide +kernel⟩,
   ⟨0x101, 0, smp [(SEQ_GSTATE, 3)], regs_ok (by decide +kernel), by decide +kernel⟩,
   ⟨0x201, 0, smp [(SEQ_GSTATE, 2)], regs_ok (by decide +kernel), by decide +kernel⟩,
   ⟨0x401, 0, smp [(SEQ_GSTATE, 1)], regs_ok (by decide +kernel), by decide +kernel⟩,
   ⟨0, 0, smpT [(SEQ_GSTATE, 4)] [.graphOff 0], regs_ok (by decide +kernel), by decide +kernel⟩⟩

/-- States and operands that meet the hypotheses of ControlInputsAct, clause by clause. -/
theorem test_control_inputs_act :
    (∃ (t : Nat) (s : State), (Listens s) ∧ (s.laneRuns = true) ∧ (s.actedLevel 0x80 = true) ∧ ((s.at t).intervalOver 0x80 false = true)) ∧
    (∃ (pin : Nat) (t : Nat) (level : Bool) (s : State), (RegsOk s) ∧ (Listens s ∨ s.inputSource pin level = none) ∧ (s.inputsActed = true) ∧ (pin ≠ 0x81 ∨ level = true) ∧ (s.actedLevel pin ≠ level) ∧ ((s.at t).intervalOver pin level = false)) ∧
    (∃ (pin : Nat) (level : Bool) (s : State), (RegsOk s) ∧ (Listens s ∨ s.inputSource pin level = none) ∧ (s.inputsActed = false) ∧ (pin ≠ 0x81 ∨ level = true) ∧ (s.actedLevel pin ≠ level)) ∧
    (∃ (k : Nat) (t : Nat) (s : State), (k < 4) ∧ (s.inputsActed = true) ∧ ((s.at t).intervalOver (0x90 + k) true = true)) ∧
    (∃ (t : Nat) (s : State), (s.laneRuns = true) ∧ (find s.accepted 0x80 = some false) ∧ (s.actedLevel 0x80 = true) ∧ ((s.at t).intervalOver 0x80 false = true)) ∧
    (∃ (t : Nat) (t0 : Nat) (g : Nat) (s : State), (RegsOk s) ∧ (s.works = true) ∧ (s.lane.seq.press = some t0) ∧ (s.lane.seq.long = false) ∧ (elapsed (s.reg PB_TLONG) t0 (s.at t).now = true) ∧ (g ∈ s.graphList) ∧ (s.gcode g ≠ 0) ∧ (s.gcode g ≠ 4)) ∧
    (∃ (t : Nat) (s : State), (s.works = true) ∧ (s.lane.seq.drives = true) ∧ ((s.at t).expired .seqFlt (s.reg SEQ_TFLT) = true) ∧ ((∀ g ∈ s.lane.seq.driving, s.gcode g = 0 ∨ s.gcode g = 4))) :=
  ⟨⟨0, smp [], listens (by decide +kernel), by decide +kernel⟩,
   ⟨0x05, 0, true, { smp [(GPIN_DEB, 1000)] with inputs := [(0x05, false)], actedAt := [(0x05, 999999999999)] }, regs_ok (by decide +kernel), by exact Or.inl (by unfold Listens; decide +kernel), by decide +kernel⟩,
   ⟨0x05, true, { smp [(SYS_STATE, 3), (LANE_AUTH, 0)] with inputs := [(0x05, false)] }, regs_ok (by decide +kernel), by exact Or.inl (by unfold Listens; decide +kernel), by decide +kernel⟩,
   ⟨3, 0, smp [], by decide +kernel⟩,
   ⟨0, { smp [] with accepted := [(0x80, false)] }, by decide +kernel⟩,
   ⟨0, 5, 0, { smp [(SEQ_GSTATE, 2)] with lane := { seq := { press := some 5 } } }, regs_ok (by decide +kernel), by decide +kernel⟩,
   ⟨0, { smpT [] [.seqFlt] with lane := { seq := { driving := [0], drives := true } } }, by decide +kernel⟩⟩

/-- States and operands that meet the hypotheses of RaisesAreJudgedLoggedAndActedOn, clause by clause. -/
theorem test_raises_are_judged_logged_and_acted_on :
    (∃ (cls : Nat) (c : Nat) (t : Nat) (s : State), (RegsOk s) ∧ (ImagesFit s) ∧ (cls < 16) ∧ ((s.ctx? c).isSome = true) ∧ (s.flt.matches_ = []) ∧ (s.flt.clearedAt ≠ some (s.at t).now)) ∧
    (∃ (cls : Nat) (c : Nat) (site : Nat) (sev : Option Nat) (r : CtxRec) (s : State), (RegsOk s) ∧ (ImagesFit s) ∧ (cls < 16) ∧ (s.ctx? c = some r) ∧ (r.typ ≠ .shelf) ∧ (s.flt.matches_ = []) ∧ (2 ≤ effective (s.judge { cls := cls, ctx := c, sev := sev, site := site } c).1 (s.flt.level c cls))) ∧
    (∃ (cls : Nat) (c : Nat) (s : State), (RegsOk s) ∧ (ImagesFit s) ∧ (cls < 16) ∧ ((s.ctx? c).isSome = true) ∧ (s.flt.matches_ = [])) ∧
    (∃ (t : Nat) (s : State), (s.flt.pulse = true) ∧ ((s.at t).expiredTicks .fltPulse (us 10) = true)) :=
  ⟨⟨15, 11, 0, smp [], regs_ok (by decide +kernel), sample_fits _ rfl rfl, by decide +kernel⟩,
   ⟨0, 11, 0, some 2, rZone, smp [], regs_ok (by decide +kernel), sample_fits _ rfl rfl, by decide +kernel⟩,
   ⟨15, 11, smp [], regs_ok (by decide +kernel), sample_fits _ rfl rfl, by decide +kernel⟩,
   ⟨0, { smpT [] [.fltPulse] with flt := { pulse := true } }, by decide +kernel⟩⟩

/-- States and operands that meet the hypotheses of FaultRegistersAct, clause by clause. -/
theorem test_fault_registers_act :
    (∃ (p : Port) (w : Word) (t : Nat) (s : State), (RegsOk s) ∧ (ServesAll p (s.at t)) ∧ (bit w 7 = false) ∧ ((∀ q ∈ s.flt.pending, q.ctx = bits w 6 0 → q.time ≠ (s.at t).now))) ∧
    (∃ (p : Port) (w : Word) (t : Nat) (im : Image) (s : State), (RegsOk s) ∧ (ServesAll p (s.at t)) ∧ (bit w 7 = true) ∧ (s.image = some im) ∧ ((∀ q ∈ s.flt.pending, q.time ≠ (s.at t).now))) ∧
    (∃ (p : Port) (w : Word) (t : Nat) (q : Pending) (s : State), (RegsOk s) ∧ (ServesAll p (s.at t)) ∧ (bit w 7 = false) ∧ (q ∈ s.flt.pending) ∧ (q.ctx = bits w 6 0) ∧ (q.time = (s.at t).now)) ∧
    (∃ (p : Port) (t : Nat) (s : State), (RegsOk s) ∧ (ServesAll p (s.at t))) ∧
    (∃ (p : Port) (w : Word) (t : Nat) (s : State), (RegsOk s) ∧ (ImagesFit s) ∧ (ServesAll p (s.at t)) ∧ (s.flag FLT_CTL 1 = true) ∧ ((s.ctx? (bits w 6 0)).isSome = true)) ∧
    (∃ (p : Port) (t : Nat) (s : State), (ServesAll p (s.at t)) ∧ (s.flag FLT_CTL 1 = false)) ∧
    (∃ (p : Port) (w : Word) (t : Nat) (s : State), (RegsOk s) ∧ (ServesAll p (s.at t)) ∧ (bit w 0 = true)) :=
  ⟨⟨.twoWire, 0x0B, 0, smp [], regs_ok (by decide +kernel), serves (by decide +kernel), by decide +kernel⟩,
   ⟨.twoWire, 0x80, 0, sampleImage, smp [], regs_ok (by decide +kernel), serves (by decide +kernel), by decide +kernel⟩,
   ⟨.twoWire, 0x0B, 0, { ctx := 11, cls := 0, level := 3, sev := 1, time := 1000000000000 }, { smp [] with flt := { pending := [{ ctx := 11, cls := 0, level := 3, sev := 1, time := 1000000000000 }] } }, regs_ok (by decide +kernel), serves (by decide +kernel), by decide +kernel⟩,
   ⟨.twoWire, 0, smp [], regs_ok (by decide +kernel), serves (by decide +kernel)⟩,
   ⟨.twoWire, 0x0B, 0, smp [(FLT_CTL, 2)], regs_ok (by decide +kernel), sample_fits _ rfl rfl, serves (by decide +kernel), by decide +kernel⟩,
   ⟨.twoWire, 0, smp [], serves (by decide +kernel), by decide +kernel⟩,
   ⟨.twoWire, 1, 0, smp [], regs_ok (by decide +kernel), serves (by decide +kernel), by decide +kernel⟩⟩

/-- States and operands that meet the hypotheses of TheDieIsMeasuredAndJudged, clause by clause. -/
theorem test_the_die_is_measured_and_judged :
    (∃ (temps : List Int) (s : State), (Formed s) ∧ (ImagesFit s) ∧ (temps.length = 24)) ∧
    (∃ (p : Port) (t : Nat) (s : State), (RegsOk s) ∧ (ServesAll p (s.at t))) ∧
    (∃ (t : Nat) (s : State), (RegsOk s) ∧ (s.dieLevel ≠ 0) ∧ ((s.at t).expiredTicks .dieLeave (ms 10) = true)) :=
  ⟨⟨List.replicate 24 300000, smp [], formed (by decide +kernel), sample_fits _ rfl rfl, by decide +kernel⟩,
   ⟨.twoWire, 0, smp [], regs_ok (by decide +kernel), serves (by decide +kernel)⟩,
   ⟨0, smpT [(TDIE_STS, 1)] [.dieLeave], regs_ok (by decide +kernel), by decide +kernel⟩⟩

/-- States and operands that meet the hypotheses of RecordsAreOfferedWrittenAndCommitted, clause by clause. -/
theorem test_records_are_offered_written_and_committed :
    (∃ (code : Nat) (c : Nat) (k : Nat) (b : Bucket) (s : State), (RegsOk s) ∧ (s.laneRuns = true) ∧ (s.rcd.frozenAt = none) ∧ (laneCode code = true) ∧ (c < 256) ∧ (s.rcd.buckets.findIdx? (fun b => b.code = code) = some k) ∧ (s.rcd.buckets[k]? = some b) ∧ (0 < b.tokens) ∧ (b.dropped = 0) ∧ (s.rcd.ovfAt = none) ∧ (s.staged + 2048 ≤ 8192)) ∧
    (∃ (code : Nat) (c : Nat) (k : Nat) (b : Bucket) (s : State), (RegsOk s) ∧ (s.laneRuns = true) ∧ (s.rcd.frozenAt = none) ∧ (laneCode code = true) ∧ (c < 256) ∧ (s.rcd.buckets.findIdx? (fun b => b.code = code) = some k) ∧ (s.rcd.buckets[k]? = some b) ∧ (b.tokens = 0)) ∧
    (∃ (code : Nat) (t0 : Nat) (s : State), (RegsOk s) ∧ (s.laneRuns = true) ∧ (laneCode code = true) ∧ (s.rcd.frozenAt = some t0)) ∧
    (∃ (s : State), (s.laneRuns = false)) ∧
    (∃ (k : Nat) (t : Nat) (b : Bucket) (s : State), (s.rcd.buckets[k]? = some b) ∧ (elapsed (s.reg BB_RLPER) b.refilled (s.at t).now = true)) ∧
    (∃ (code : Nat) (c : Nat) (t : Nat) (payload : List Byte) (s : State), (s.laneRuns = true) ∧ (laneCode code = true) ∧ (c < 256) ∧ (s.rcd.ovfAt = none) ∧ (s.staged + ((s.at t).mkRec code c (payloadOf payload) true).len ≤ 8192)) ∧
    (∃ (code : Nat) (t : Nat) (payload : List Byte) (r : Rec) (s : State), (RegsOk s) ∧ (s.mram.wf = true) ∧ (1 ≤ code) ∧ (code ≤ 5) ∧ ((s.at t).canCommit = true) ∧ (s.rcd.basinFull = false) ∧ (r = { code := code, ctx := 0xFF, time := (s.at t).now, origin := 0, replay := false, payload := payloadOf payload, written := true }) ∧ (pagePlace (4 * s.regN BB_BFILL) r.len + r.len ≤ 64512)) ∧
    (∃ (code : Nat) (t : Nat) (s : State), (1 ≤ code) ∧ (code ≤ 5) ∧ ((s.at t).canCommit = false)) :=
  ⟨⟨0x0206, 255, 0, { code := 0x0206, tokens := 1, dropped := 0, firstDrop := 0, refilled := 0, shared := false }, { smp [] with rcd := { buckets := [{ code := 0x0206, tokens := 1, dropped := 0, firstDrop := 0, refilled := 0, shared := false }] } }, regs_ok (by decide +kernel), by decide +kernel⟩,
   ⟨0x0206, 255, 0, { code := 0x0206, tokens := 0, dropped := 0, firstDrop := 0, refilled := 0, shared := false }, { smp [] with rcd := { buckets := [{ code := 0x0206, tokens := 0, dropped := 0, firstDrop := 0, refilled := 0, shared := false }] } }, regs_ok (by decide +kernel), by decide +kernel⟩,
   ⟨0x0206, 5, { smp [] with rcd := { frozenAt := some 5 } }, regs_ok (by decide +kernel), by decide +kernel⟩,
   ⟨smp [(LANE_AUTH, 0)], by decide +kernel⟩,
   ⟨0, 0, { code := 0x0206, tokens := 0, dropped := 0, firstDrop := 0, refilled := 0, shared := false }, { smp [] with rcd := { buckets := [{ code := 0x0206, tokens := 0, dropped := 0, firstDrop := 0, refilled := 0, shared := false }] } }, by decide +kernel⟩,
   ⟨0x0206, 255, 0, [], smp [], by decide +kernel⟩,
   ⟨1, 0, [], { code := 1, ctx := 0xFF, time := ((smp [(BB_STATE, 2)]).at 0).now, origin := 0, replay := false, payload := payloadOf [], written := true }, smp [(BB_STATE, 2)], regs_ok (by decide +kernel), by decide +kernel⟩,
   ⟨5, 0, { smp [(BB_STATE, 2)] with vresOk := false }, by decide +kernel⟩⟩

/-- States and operands that meet the hypotheses of TheBoxIsClearedReadAndRebuilt, clause by clause. -/
theorem test_the_box_is_cleared_read_and_rebuilt :
    (∃ (p : Port) (w : Word) (t : Nat) (s : State), (RegsOk s) ∧ (ServesAll p (s.at t)) ∧ (bits w 15 0 = 0x6C6C) ∧ ((s.rcd.frozenAt.isSome = true ∨ s.sys ≠ sysNormal))) ∧
    (∃ (p : Port) (w : Word) (t : Nat) (s : State), (RegsOk s) ∧ (ServesAll p (s.at t)) ∧ (bits w 15 0 = 0x6C6C) ∧ (s.rcd.frozenAt = none) ∧ (s.sys = sysNormal) ∧ (s.flag BB_STATE 1 = true) ∧ (s.laneRuns = true)) ∧
    (∃ (p : Port) (w : Word) (t : Nat) (s : State), (ServesAll p (s.at t)) ∧ (bits w 15 0 = 0x6C6C) ∧ (s.rcd.frozenAt = none) ∧ (s.sys = sysNormal) ∧ (s.flag BB_STATE 1 = false)) ∧
    (∃ (p : Port) (t : Nat) (s : State), (RegsOk s) ∧ (ServesAll p (s.at t))) ∧
    (∃ (b : Bool) (bs : List Byte) (s : State), (RegsOk s) ∧ (s.laneRuns = true) ∧ (s.flag BB_STATE 1 = false) ∧ (s.rcd.frozenAt = none) ∧ (s.rcd.clearDue = none) ∧ (s.ctlSlot = some (b, bs))) ∧
    (∃ (s : State), (RegsOk s) ∧ (s.laneRuns = true) ∧ (s.flag BB_STATE 1 = false) ∧ (s.rcd.frozenAt = none) ∧ (s.rcd.clearDue = none) ∧ (s.ctlSlot = none) ∧ (s.flt.matches_ = [])) :=
  ⟨⟨.twoWire, 0x6C6C, 0, { smp [] with rcd := { frozenAt := some 5 } }, regs_ok (by decide +kernel), serves (by decide +kernel), by decide +kernel, by exact Or.inl (by decide +kernel)⟩,
   ⟨.twoWire, 0x6C6C, 0, smp [(BB_STATE, 2)], regs_ok (by decide +kernel), serves (by decide +kernel), by decide +kernel⟩,
   ⟨.twoWire, 0x6C6C, 0, smp [], serves (by decide +kernel), by decide +kernel⟩,
   ⟨.twoWire, 0, smp [], regs_ok (by decide +kernel), serves (by decide +kernel)⟩,
   ⟨(ctlSample.ctlSlot.getD (false, [])).1, (ctlSample.ctlSlot.getD (false, [])).2, ctlSample, regs_ok (by decide +kernel), by decide +kernel⟩,
   ⟨smp [], regs_ok (by decide +kernel), by decide +kernel⟩⟩

/-- States and operands that meet the hypotheses of DownstreamResultsAndFailuresAct, clause by clause. -/
theorem test_downstream_results_and_failures_act :
    (∃ (port : Nat) (x : DsTx) (s : State), (RegsOk s) ∧ (s.laneRuns = false) ∧ ((s.port port).cur = some x) ∧ ((s.port port).resetDue = false)) ∧
    (∃ (port : Nat) (c : Nat) (x : DsTx) (s : State), (RegsOk s) ∧ (port < 4) ∧ (s.laneRuns = true) ∧ ((s.port port).cur = some x) ∧ ((s.port port).resetDue = false) ∧ (x.kind = .command) ∧ (x.ctx = some c) ∧ (x.code = 0x01) ∧ (x.safe = false) ∧ (s.code c ≠ 2)) ∧
    (∃ (port : Nat) (c : Nat) (data : List Byte) (x : DsTx) (s : State), (RegsOk s) ∧ (port < 4) ∧ (s.laneRuns = true) ∧ ((s.port port).cur = some x) ∧ ((s.port port).resetDue = false) ∧ (x.kind = .poll) ∧ (x.ctx = some c) ∧ (s.isType c .pol = true) ∧ (x.code = 0x79) ∧ (s.statusBad c (ofLe (data.take 2)) = true) ∧ (s.code c ≠ 2) ∧ (s.flt.matches_ = [])) ∧
    (∃ (port : Nat) (c : Nat) (data : List Byte) (x : DsTx) (s : State), (RegsOk s) ∧ (port < 4) ∧ (s.laneRuns = true) ∧ ((s.port port).cur = some x) ∧ ((s.port port).resetDue = false) ∧ (x.kind = .poll) ∧ (x.ctx = some c) ∧ (s.isType c .pol = true) ∧ (x.code = 0x79) ∧ (s.statusBad c (ofLe (data.take 2)) = false)) ∧
    (∃ (port : Nat) (c : Nat) (x : DsTx) (s : State), (RegsOk s) ∧ (canonical 0 s.updated = true) ∧ (port < 4) ∧ (s.laneRuns = true) ∧ ((s.port port).cur = some x) ∧ ((s.port port).resetDue = false) ∧ (x.kind = .poll) ∧ (x.ctx = some c) ∧ (x.code = 0x8B)) ∧
    (∃ (port : Nat) (c : Nat) (x : DsTx) (s : State), (RegsOk s) ∧ (port < 4) ∧ (s.laneRuns = true) ∧ ((s.port port).cur = some x) ∧ ((s.port port).resetDue = false) ∧ (x.kind = .probe) ∧ (x.ctx = some c) ∧ (x.code = 0x79) ∧ (s.isType c .rectifier = true) ∧ (s.offline c = true)) ∧
    (∃ (port : Nat) (x : DsTx) (s : State), (RegsOk s) ∧ (port < 4) ∧ (s.laneRuns = false) ∧ ((s.port port).cur = some x) ∧ ((s.port port).resetDue = true)) ∧
    (∃ (port : Nat) (c : Nat) (pec : Bool) (x : DsTx) (s : State), (RegsOk s) ∧ (port < 4) ∧ (s.laneRuns = true) ∧ ((s.port port).cur = some x) ∧ ((s.port port).resetDue = false) ∧ (x.kind = .poll) ∧ (x.ctx = some c) ∧ (s.isType c .pol = true) ∧ ((pec = true → x.pec = true)) ∧ ((s.target c).fails < 2)) ∧
    (∃ (port : Nat) (c : Nat) (pec : Bool) (x : DsTx) (s : State), (RegsOk s) ∧ (ImagesFit s) ∧ (port < 4) ∧ (s.laneRuns = true) ∧ ((s.port port).cur = some x) ∧ ((s.port port).resetDue = false) ∧ (x.kind = .poll) ∧ (x.ctx = some c) ∧ (s.isType c .pol = true) ∧ ((pec = true → x.pec = true)) ∧ ((s.target c).fails = 2) ∧ (s.offline c = false)) ∧
    (∃ (port : Nat) (x : DsTx) (s : State), ((s.port port).cur = some x) ∧ (x.pec = false ∨ x.reads = false)) ∧
    (∃ (port : Nat) (c : Nat) (x : DsTx) (s : State), (RegsOk s) ∧ (port < 4) ∧ ((s.port port).cur = some x) ∧ ((s.port port).resetDue = false) ∧ (x.kind = .poll) ∧ (x.ctx = some c) ∧ (s.isType c .rectifier = true) ∧ ((s.target c).fails < 2)) :=
  ⟨⟨0, { kind := .poll, ctx := some 9, addr := 0x30, code := 0x79, data := 0, safe := false }, { smp [(LANE_AUTH, 0)] with dsPorts := [(0, { cur := some { kind := .poll, ctx := some 9, addr := 0x30, code := 0x79, data := 0, safe := false } })] }, regs_ok (by decide +kernel), by decide +kernel⟩,
   ⟨0, 9, { kind := .command, ctx := some 9, addr := 0x30, code := 0x01, data := 0, safe := false }, { smp [] with dsPorts := [(0, { cur := some { kind := .command, ctx := some 9, addr := 0x30, code := 0x01, data := 0, safe := false } })] }, regs_ok (by decide +kernel), by decide +kernel⟩,
   ⟨0, 9, [0x04, 0x00], { kind := .poll, ctx := some 9, addr := 0x30, code := 0x79, data := 0, safe := false }, { smp [] with dsPorts := [(0, { cur := some { kind := .poll, ctx := some 9, addr := 0x30, code := 0x79, data := 0, safe := false } })] }, regs_ok (by decide +kernel), by decide +kernel⟩,
   ⟨0, 9, [0, 0], { kind := .poll, ctx := some 9, addr := 0x30, code := 0x79, data := 0, safe := false }, { smp [] with dsPorts := [(0, { cur := some { kind := .poll, ctx := some 9, addr := 0x30, code := 0x79, data := 0, safe := false } })] }, regs_ok (by decide +kernel), by decide +kernel⟩,
   ⟨0, 9, { kind := .poll, ctx := some 9, addr := 0x30, code := 0x8B, data := 0, safe := false }, { smp [] with dsPorts := [(0, { cur := some { kind := .poll, ctx := some 9, addr := 0x30, code := 0x8B, data := 0, safe := false } })] }, regs_ok (by decide +kernel), by decide +kernel⟩,
   ⟨0, 3, { kind := .probe, ctx := some 3, addr := 0x30, code := 0x79, data := 0, safe := false }, { smp [codeW 3 0x100] with dsPorts := [(0, { cur := some { kind := .probe, ctx := some 3, addr := 0x30, code := 0x79, data := 0, safe := false } })] }, regs_ok (by decide +kernel), by decide +kernel⟩,
   ⟨0, { kind := .poll, ctx := some 9, addr := 0x30, code := 0x79, data := 0, safe := false }, { smp [(LANE_AUTH, 0)] with dsPorts := [(0, { cur := some { kind := .poll, ctx := some 9, addr := 0x30, code := 0x79, data := 0, safe := false }, resetDue := true })] }, regs_ok (by decide +kernel), by decide +kernel⟩,
   ⟨0, 9, true, { kind := .poll, ctx := some 9, addr := 0x30, code := 0x79, data := 0, safe := false, pec := true }, { smp [] with dsPorts := [(0, { cur := some { kind := .poll, ctx := some 9, addr := 0x30, code := 0x79, data := 0, safe := false, pec := true } })] }, regs_ok (by decide +kernel), by decide +kernel⟩,
   ⟨0, 9, true, { kind := .poll, ctx := some 9, addr := 0x30, code := 0x79, data := 0, safe := false, pec := true }, { smp [] with dsPorts := [(0, { cur := some { kind := .poll, ctx := some 9, addr := 0x30, code := 0x79, data := 0, safe := false, pec := true } })], dsTargets := [(9, { fails := 2 })] }, regs_ok (by decide +kernel), sample_fits _ rfl rfl, by decide +kernel⟩,
   ⟨0, { kind := .poll, ctx := some 9, addr := 0x30, code := 0x79, data := 0, safe := false }, { smp [] with dsPorts := [(0, { cur := some { kind := .poll, ctx := some 9, addr := 0x30, code := 0x79, data := 0, safe := false } })] }, by decide +kernel⟩,
   ⟨0, 3, { kind := .poll, ctx := some 3, addr := 0x30, code := 0x79, data := 0, safe := false }, { smp [] with dsPorts := [(0, { cur := some { kind := .poll, ctx := some 3, addr := 0x30, code := 0x79, data := 0, safe := false } })] }, regs_ok (by decide +kernel), by decide +kernel⟩⟩

/-- States and operands that meet the hypotheses of PortsTakeTheirTransactionsInOrder, clause by clause. -/
theorem test_ports_take_their_transactions_in_order :
    (∃ (p : Nat) (s : State), (s.laneRuns = false ∨ (s.port p).cur.isSome = true)) ∧
    (∃ (p : Nat) (s : State), ((∃ d ∈ s.table p, s.sendable d = true ∧ d.safe = true))) ∧
    (∃ (p : Nat) (s : State), ((∀ d ∈ s.table p, s.sendable d = true → d.safe = false)) ∧ ((∃ d ∈ s.table p, s.sendable d = true))) ∧
    (∃ (p : Nat) (s : State), ((∀ d ∈ s.table p, s.sendable d = false)) ∧ ((s.port p).alertDue = true)) ∧
    (∃ (p : Nat) (c : Nat) (l : List Nat) (s : State), ((∀ d ∈ s.table p, s.sendable d = false)) ∧ ((s.port p).alertDue = false) ∧ ((s.port p).alertFor = none) ∧ ((s.port p).probes = c :: l)) ∧
    (∃ (p : Nat) (c : Nat) (k : Nat) (l : List (Nat × Nat)) (s : State), ((∀ d ∈ s.table p, s.sendable d = false)) ∧ ((s.port p).alertDue = false) ∧ ((s.port p).alertFor = none) ∧ ((s.port p).probes = []) ∧ ((s.port p).polls = (c, k) :: l)) ∧
    (∃ (port : Nat) (x : DsTx) (s : State), (port < 4) ∧ (s.works = true) ∧ (s.flag (DSP_CFG + port) 3 = true) ∧ (s.portCode port = 1) ∧ (s.portSupplied port = true) ∧ (s.running (.poll port) = false) ∧ ((s.port port).polls = []) ∧ ((s.port port).cur = some x) ∧ (x.kind ≠ .poll)) ∧
    (∃ (port : Nat) (t : Nat) (s : State), (RegsOk s) ∧ (port < 4) ∧ (s.works = true) ∧ (s.flag (DSP_CFG + port) 3 = true) ∧ (s.portCode port = 1) ∧ (s.portSupplied port = true) ∧ ((s.at t).expired (.poll port) (s.reg DS_POLL) = true) ∧ (s.cycleEnded port = false)) ∧
    (∃ (port : Nat) (addr : Nat) (c : Nat) (t : Nat) (r : CtxRec) (s : State), (port < 4) ∧ (s.works = true) ∧ (s.portCode port = 1) ∧ (s.portSupplied port = true) ∧ ((s.at t).expiredTicks (.probe port addr) (ms 100) = true) ∧ (r ∈ s.targets port) ∧ (r.ctx = c) ∧ (r.dsAddr = addr) ∧ (s.offline c = true) ∧ ((s.port port).cur.isSome = true)) ∧
    (∃ (port : Nat) (t : Nat) (s : State), (port < 4) ∧ (s.inputsActed = true) ∧ (s.actedLevel (0x90 + port) = true) ∧ ((s.at t).intervalOver (0x90 + port) false = true) ∧ ((s.port port).isolated = false) ∧ ((s.port port).cur.isSome = true)) ∧
    (∃ (port : Nat) (t : Nat) (s : State), (RegsOk s) ∧ (port < 4) ∧ (s.inputsActed = true) ∧ (s.actedLevel (0x90 + port) = true) ∧ ((s.at t).intervalOver (0x90 + port) false = true) ∧ ((s.port port).isolated = true)) ∧
    (∃ (port : Nat) (t : Nat) (s : State), (RegsOk s) ∧ (port < 4) ∧ (s.works = true) ∧ (find s.accepted (0x90 + port) = some false) ∧ (1 ≤ (s.port port).alertRuns) ∧ ((s.at t).expiredTicks (.alert port) (ms 1) = true)) ∧
    (∃ (p : Port) (c : Nat) (t : Nat) (w : Word) (r : CtxRec) (s : State), (RegsOk s) ∧ (ServesAll p (s.at t)) ∧ (c < 128) ∧ (s.ctx? c = some r) ∧ (r.typ = .pol) ∧ (bit (s.cw c POL_CTL) 0 = false) ∧ (bit (Written s (ctxAddr c POL_CTL) w) 0 = true) ∧ (bit w 0 = true) ∧ (s.reenableRefused c = false) ∧ (s.safe c = true) ∧ ((s.target c).ackV ≠ some (s.cw c POL_VSET)) ∧ ((s.port r.a0).cur.isSome = true)) ∧
    (∃ (p : Port) (c : Nat) (t : Nat) (w : Word) (r : CtxRec) (s : State), (RegsOk s) ∧ (ServesAll p (s.at t)) ∧ (c < 128) ∧ (s.ctx? c = some r) ∧ (r.typ = .pol) ∧ (bit (s.cw c POL_CTL) 0 = false) ∧ (bit (Written s (ctxAddr c POL_CTL) w) 0 = true) ∧ (bit w 0 = true) ∧ (s.reenableRefused c = false) ∧ (s.safe c = false) ∧ ((s.port r.a0).cur.isSome = true)) ∧
    (∃ (p : Port) (c : Nat) (t : Nat) (w : Word) (r : CtxRec) (s : State), (RegsOk s) ∧ (ServesAll p (s.at t)) ∧ (c < 128) ∧ (s.ctx? c = some r) ∧ (r.typ = .pol) ∧ (s.polSafe c 1 = false) ∧ ((s.target c).ackV ≠ some (Written s (ctxAddr c POL_VSET) w)) ∧ ((s.port r.a0).cur.isSome = true)) ∧
    (∃ (p : Port) (c : Nat) (t : Nat) (w : Word) (r : CtxRec) (s : State), (RegsOk s) ∧ (ServesAll p (s.at t)) ∧ (c < 128) ∧ (s.ctx? c = some r) ∧ (r.typ = .pol) ∧ ((s.target c).ackV = some (Written s (ctxAddr c POL_VSET) w)) ∧ ((∀ d ∈ s.table r.a0, ¬ (d.ctx = c ∧ d.code = 0x21))) ∧ ((∀ x, (s.port r.a0).cur = some x → ¬ (x.ctx = some c ∧ x.code = 0x21))) ∧ ((s.port r.a0).cur.isSome = true)) :=
  ⟨⟨0, { smp [] with dsPorts := [(0, { cur := some { kind := .poll, ctx := some 9, addr := 0x30, code := 0x79, data := 0, safe := false } })] }, by exact Or.inr (by decide +kernel)⟩,
   ⟨0, { smp [] with dsTable := [(0, [{ ctx := 9, code := 0x01, data := 0, safe := false }, { ctx := 9, code := 0x01, data := 0, safe := true }])] }, by exact ⟨{ ctx := 9, code := 0x01, data := 0, safe := true }, by decide +kernel, by decide +kernel⟩⟩,
   ⟨0, { smp [] with dsTable := [(0, [{ ctx := 9, code := 0x01, data := 0, safe := false }])] }, by decide +kernel, by exact ⟨{ ctx := 9, code := 0x01, data := 0, safe := false }, by decide +kernel, by decide +kernel⟩⟩,
   ⟨0, { smp [] with dsPorts := [(0, { alertDue := true })] }, by decide +kernel⟩,
   ⟨0, 9, [3], { smp [] with dsPorts := [(0, { probes := [9, 3] })] }, by decide +kernel⟩,
   ⟨0, 9, 0x79, [], { smp [] with dsPorts := [(0, { polls := [(9, 0x79)] })] }, by decide +kernel⟩,
   ⟨0, { kind := .command, ctx := some 9, addr := 0x30, code := 0x01, data := 0, safe := false }, { smp [(DSP_CFG, 8), (DSP_STATE, 1)] with dsPorts := [(0, { cur := some { kind := .command, ctx := some 9, addr := 0x30, code := 0x01, data := 0, safe := false } })] }, by decide +kernel⟩,
   ⟨0, 0, { smpT [(DSP_CFG, 8), (DSP_STATE, 1)] [.poll 0] with dsPorts := [(0, { polls := [(9, 0x79)] })] }, regs_ok (by decide +kernel), by decide +kernel⟩,
   ⟨0, 0x30, 9, 0, rPol, { smpT [(DSP_STATE, 1), codeW 9 0x100] [.probe 0 0x30] with dsPorts := [(0, { cur := some { kind := .poll, ctx := some 9, addr := 0x30, code := 0x79, data := 0, safe := false } })] }, by decide +kernel⟩,
   ⟨3, 0, { smp [] with dsPorts := [(3, { cur := some { kind := .poll, ctx := some 9, addr := 0x30, code := 0x79, data := 0, safe := false } })] }, by decide +kernel⟩,
   ⟨3, 0, { smp [] with dsPorts := [(3, { isolated := true })] }, regs_ok (by decide +kernel), by decide +kernel⟩,
   ⟨3, 0, { smpT [] [.alert 3] with accepted := [(0x93, false)], dsPorts := [(3, { alertRuns := 1 })] }, regs_ok (by decide +kernel), by decide +kernel⟩,
   ⟨.twoWire, 9, 0, 1, rPol, { smp [codeW 9 0x400, (ctxAddr 9 POL_VSET, 0x4000)] with dsPorts := [(0, { cur := some { kind := .poll, ctx := some 9, addr := 0x30, code := 0x79, data := 0, safe := false } })] }, regs_ok (by decide +kernel), serves (by decide +kernel), by decide +kernel⟩,
   ⟨.twoWire, 9, 0, 1, rPol, { smp [] with dsPorts := [(0, { cur := some { kind := .poll, ctx := some 9, addr := 0x30, code := 0x79, data := 0, safe := false } })] }, regs_ok (by decide +kernel), serves (by decide +kernel), by decide +kernel⟩,
   ⟨.twoWire, 9, 0, 0x4000, rPol, { smp [] with dsPorts := [(0, { cur := some { kind := .poll, ctx := some 9, addr := 0x30, code := 0x79, data := 0, safe := false } })] }, regs_ok (by decide +kernel), serves (by decide +kernel), by decide +kernel⟩,
   ⟨.twoWire, 9, 0, 0x4000, rPol, { smp [] with dsPorts := [(0, { cur := some { kind := .poll, ctx := some 9, addr := 0x30, code := 0x79, data := 0, safe := false } })], dsTargets := [(9, { ackV := some (Written (smp []) (ctxAddr 9 POL_VSET) 0x4000) })] }, regs_ok (by decide +kernel), serves (by decide +kernel), by decide +kernel, by decide +kernel, by decide +kernel, by decide +kernel, by decide +kernel, by exact fun x h => by (rw [show (State.port _ _).cur = some { kind := .poll, ctx := some 9, addr := 0x30, code := 0x79, data := 0, safe := false } from by decide +kernel] at h; cases h; decide), by decide +kernel⟩⟩

/-- States and operands that meet the hypotheses of StuckSegmentsAreIsolatedAndRequalified, clause by clause. -/
theorem test_stuck_segments_are_isolated_and_requalified :
    (∃ (port : Nat) (s : State), (RegsOk s) ∧ (ImagesFit s) ∧ (port < 4) ∧ ((s.port port).isolated = false)) ∧
    (∃ (port : Nat) (t : Nat) (s : State), (RegsOk s) ∧ (port < 4) ∧ (s.portCode port = 5 ∨ (s.portCode port = 3 ∧ (s.at t).expiredTicks (.segment port) (ms 21) = true))) ∧
    (∃ (p : Port) (port : Nat) (t : Nat) (w : Word) (s : State), (RegsOk s) ∧ (ServesAll p (s.at t)) ∧ (port < 4) ∧ (bit w 4 = true) ∧ (s.portCode port = 5) ∧ (s.isolatedWord (DSP_CFG + port) = false)) ∧
    (∃ (port : Nat) (t : Nat) (s : State), (RegsOk s) ∧ (ImagesFit s) ∧ (port < 4) ∧ (s.portCode port = 3) ∧ ((s.at t).expiredTicks (.segment port) (ms 100) = true)) :=
  ⟨⟨3, smp [], regs_ok (by decide +kernel), sample_fits _ rfl rfl, by decide +kernel⟩,
   ⟨3, 0, smp [(DSP_STATE + 3, 5)], regs_ok (by decide +kernel), by decide +kernel⟩,
   ⟨.twoWire, 3, 0, 0x10, smp [(DSP_STATE + 3, 5)], regs_ok (by decide +kernel), serves (by decide +kernel), by decide +kernel⟩,
   ⟨3, 0, smpT [(DSP_STATE + 3, 3)] [.segment 3], regs_ok (by decide +kernel), sample_fits _ rfl rfl, by decide +kernel⟩⟩

/-- States and operands that meet the hypotheses of LinksComeUpAndPassFrames, clause by clause. -/
theorem test_links_come_up_and_pass_frames :
    (∃ (down : Bool) (s : State), (RegsOk s) ∧ (Listens s) ∧ (s.linkState down = linkTraining) ∧ (s.flag RST_BLKSTS (6 + b2n down) = false)) ∧
    (∃ (down : Bool) (s : State), (s.sys ≠ sysDormant) ∧ (s.linkState down = linkHandshake)) ∧
    (∃ (down : Bool) (p : List Byte) (s : State), (RegsOk s) ∧ (Listens s) ∧ (s.linkState down = linkHandshake) ∧ (w3rThere p 2 = some 0x08127) ∧ ((p.getD 1 0).toNat = s.casc.nchip) ∧ ((p.getD 0 0).toNat = s.peer down) ∧ (s.laneHeld = true)) ∧
    (∃ (down : Bool) (p : List Byte) (s : State), (RegsOk s) ∧ (Listens s) ∧ (s.linkState down = linkHandshake) ∧ ((p.getD 0 0).toNat ≠ s.peer down) ∧ (s.flag CASC_STS 1 = false)) ∧
    (∃ (down : Bool) (s : State), (RegsOk s) ∧ (s.linkState down = linkIsUp)) ∧
    (∃ (down : Bool) (t : Nat) (s : State), (RegsOk s) ∧ (s.sys ≠ sysDormant) ∧ (s.linkEnabled down = true) ∧ (s.linkState down ≠ linkIsUp) ∧ ((s.link down).raised = false) ∧ ((s.at t).expiredTicks (.linkUp down) (ms 10) = true)) ∧
    (∃ (p : Port) (t : Nat) (s : State), (RegsOk s) ∧ (ServesAll p (s.at t))) ∧
    (∃ (down : Bool) (f : List Byte) (v : Nat) (t : Nat) (s : State), (RegsOk s) ∧ (Listens s) ∧ (s.linkState down = linkIsUp) ∧ (s.laneRuns = true) ∧ (frameOk f v = false) ∧ ((s.casc.discards.filter (fun t0 => decide ((s.at t).now < t0 + ticksPerSecond))).length < 15)) ∧
    (∃ (down : Bool) (f : List Byte) (v : Nat) (s : State), (RegsOk s) ∧ (Listens s) ∧ (s.linkState down = linkIsUp) ∧ (s.linkState (!down) = linkIsUp) ∧ (s.laneRuns = true) ∧ (frameOk f v = true) ∧ ((f.getD 1 0).toNat / 8 % 2 = 0) ∧ ((f.getD 1 0).toNat / 16 % 8 ≠ s.cpos)) :=
  ⟨⟨true, smp [(CASC_STATE, 0x20)], regs_ok (by decide +kernel), listens (by decide +kernel), by decide +kernel⟩,
   ⟨true, smp [(CASC_STATE, 0x40)], by decide +kernel⟩,
   ⟨true, [1, 2, 0x27, 0x81, 0x00], { smp [(CASC_STATE, 0x40)] with casc := { nchip := 2 } }, regs_ok (by decide +kernel), listens (by decide +kernel), by decide +kernel⟩,
   ⟨true, [7, 2], { smp [(CASC_STATE, 0x40)] with casc := { nchip := 2 } }, regs_ok (by decide +kernel), listens (by decide +kernel), by decide +kernel⟩,
   ⟨true, smp [(CASC_STATE, 0x60)], regs_ok (by decide +kernel), by decide +kernel⟩,
   ⟨true, 0, { smpT [(CASC_STATE, 0x20), (CASC_CFG, 0x20)] [.linkUp true] with casc := { nchip := 2 } }, regs_ok (by decide +kernel), by decide +kernel⟩,
   ⟨.twoWire, 0, smp [], regs_ok (by decide +kernel), serves (by decide +kernel)⟩,
   ⟨true, [], 1, 0, smp [(CASC_STATE, 0x60)], regs_ok (by decide +kernel), listens (by decide +kernel), by decide +kernel⟩,
   ⟨false, frameBytes 0x20 0 (toPos 2) 0 (zeros 4), 0, smp [(CASC_STATE, 0x79)], regs_ok (by decide +kernel), listens (by decide +kernel), by decide +kernel⟩⟩

/-- States and operands that meet the hypotheses of RackTimeAndAllocationsAreHandedDown, clause by clause. -/
theorem test_rack_time_and_allocations_are_handed_down :
    (∃ (t : Nat) (s : State), (s.laneRuns = true) ∧ (s.linkState true = linkIsUp) ∧ (s.running .echo = false ∨ (s.at t).expiredTicks .echo (ms 100) = true)) ∧
    (∃ (s : State), (Listens s) ∧ (s.laneRuns = true) ∧ (s.linkState false = linkIsUp)) ∧
    (∃ (s : State), (Listens s) ∧ (s.laneRuns = true)) ∧
    (∃ (t : Nat) (s : State), (s.laneRuns = true) ∧ ((s.at t).rackTime % ms 1 = 0) ∧ (s.linkState true = linkIsUp)) ∧
    (∃ (p : List Byte) (s : State), (RegsOk s) ∧ (Listens s) ∧ (s.laneRuns = true) ∧ (s.master = false) ∧ (field p 8 4 ≠ 0xFFFFFFFF)) ∧
    (∃ (t : Nat) (s : State), (s.laneRuns = true) ∧ (s.master = false) ∧ (1 < s.casc.nchip) ∧ ((s.at t).rackTime % us 100 = 0) ∧ (s.linkState false = linkIsUp)) ∧
    (∃ (src : Nat) (p : List Byte) (d : Word) (s : State), (RegsOk s) ∧ (Listens s) ∧ (s.laneRuns = true) ∧ (s.master = true) ∧ (0 < src) ∧ (src < s.casc.nchip) ∧ (src < 8) ∧ (w3rThere p 0 = some d)) ∧
    (∃ (t : Nat) (s : State), (RegsOk s) ∧ (s.laneRuns = true) ∧ (s.master = true) ∧ ((s.at t).rackTime % us 100 = us 50)) ∧
    (∃ (p : List Byte) (s : State), (RegsOk s) ∧ (Listens s) ∧ (s.laneRuns = true) ∧ (s.master = false) ∧ ((p.getD (8 + 4 * s.cpos) 0).toNat / 2 % 2 = 0) ∧ ((p.getD (8 + 4 * s.cpos) 0).toNat % 2 = 1)) ∧
    (∃ (t : Nat) (s : State), (RegsOk s) ∧ (s.laneRuns = true) ∧ ((s.at t).expiredTicks .allocAge (us 300) = true) ∧ (s.casc.capDue = none) ∧ (s.flag (ctxAddr 0 SHELF_CAPLIVE) 3 = true)) ∧
    (∃ (t : Nat) (s : State), (RegsOk s) ∧ (s.laneRuns = true) ∧ ((s.at t).expiredTicks .allocAge (ms 10) = true) ∧ (s.casc.capDue = none) ∧ (s.flag (ctxAddr 0 SHELF_CAPLIVE) 4 = false) ∧ (s.flt.matches_ = [])) ∧
    (∃ (k : Nat) (t : Nat) (r : CascReport) (s : State), (RegsOk s) ∧ (s.laneRuns = true) ∧ (s.master = true) ∧ (k < 8) ∧ (find s.casc.reports k = some r) ∧ ((s.at t).reachable r = false)) :=
  ⟨⟨0, smp [(CASC_STATE, 0x60)], by decide +kernel⟩,
   ⟨smp [(CASC_STATE, 0x18)], listens (by decide +kernel), by decide +kernel⟩,
   ⟨smp [], listens (by decide +kernel), by decide +kernel⟩,
   ⟨0, smp [(CASC_STATE, 0x60)], by decide +kernel⟩,
   ⟨zeros 12, { smp [(CASC_STATE, 0x01)] with casc := { nchip := 2 } }, regs_ok (by decide +kernel), listens (by decide +kernel), by decide +kernel⟩,
   ⟨0, { smp [(CASC_STATE, 0x19)] with casc := { nchip := 2 } }, by decide +kernel⟩,
   ⟨7, zeros 16, 0, { smp [] with casc := { nchip := 8 } }, regs_ok (by decide +kernel), listens (by decide +kernel), by decide +kernel⟩,
   ⟨0, { smp [] with casc := { nchip := 2 }, now := 1000000010000 }, regs_ok (by decide +kernel), by decide +kernel⟩,
   ⟨zeros 12 ++ [1, 0, 0, 0], { smp [(CASC_STATE, 0x01)] with casc := { nchip := 2 } }, regs_ok (by decide +kernel), listens (by decide +kernel), by decide +kernel⟩,
   ⟨0, smpT [(ctxAddr 0 SHELF_CAPLIVE, 8)] [.allocAge], regs_ok (by decide +kernel), by decide +kernel⟩,
   ⟨0, smpT [(ctxAddr 0 SHELF_CAPLIVE, 8)] [.allocAge], regs_ok (by decide +kernel), by decide +kernel⟩,
   ⟨7, 0, { d := 0, f := 0, fb := 0, w := 1, time := 0, given := none }, { smp [] with casc := { nchip := 8, reports := [(7, { d := 0, f := 0, fb := 0, w := 1, time := 0, given := none })] } }, regs_ok (by decide +kernel), by decide +kernel⟩⟩

/-- States and operands that meet the hypotheses of RemoteAccessIsAskedAndServed, clause by clause. -/
theorem test_remote_access_is_asked_and_served :
    (∃ (p : Port) (w : Word) (t : Nat) (s : State), (RegsOk s) ∧ (ServesAll p (s.at t)) ∧ (s.master = true) ∧ (s.flag CASC_RSTS 0 = false) ∧ (bits w 4 2 ≠ s.cpos) ∧ (bits w 4 2 < s.casc.nchip) ∧ (bits w 1 0 = 1) ∧ (s.linkState true = linkIsUp)) ∧
    (∃ (p : Port) (w : Word) (t : Nat) (s : State), (RegsOk s) ∧ (ServesAll p (s.at t)) ∧ (s.master = true) ∧ (s.flag CASC_RSTS 0 = false) ∧ (bits w 4 2 ≠ s.cpos) ∧ (bits w 4 2 < s.casc.nchip) ∧ (bits w 1 0 = 2) ∧ (s.linkState true = linkIsUp)) ∧
    (∃ (p : Port) (w : Word) (t : Nat) (s : State), (RegsOk s) ∧ (ServesAll p (s.at t)) ∧ (s.master = true) ∧ (s.flag CASC_RSTS 0 = false) ∧ (bits w 4 2 ≠ s.cpos) ∧ (bits w 4 2 < s.casc.nchip) ∧ (bits w 1 0 = 3) ∧ (s.linkState true = linkIsUp)) ∧
    (∃ (src : Nat) (tag : Nat) (p : List Byte) (s : State), (RegsOk s) ∧ (Listens s) ∧ (s.laneRuns = true) ∧ (s.casc.remote = some (src, tag, 1)) ∧ ((p.getD 0 0).toNat = tag) ∧ ((p.getD 1 0).toNat = 0)) ∧
    (∃ (t : Nat) (s : State), (RegsOk s) ∧ (s.laneRuns = true) ∧ (s.casc.remote.isSome = true) ∧ ((s.at t).expiredTicks .remote (ms 1) = true)) ∧
    (∃ (p : List Byte) (s : State), (Listens s) ∧ (s.laneRuns = true) ∧ (s.remoteOpen = true) ∧ (s.linkState false = linkIsUp) ∧ (s.casc.shadow = none) ∧ (field p 0 2 ≠ BB_PDATA)) ∧
    (∃ (s : State), (Listens s) ∧ (s.laneRuns = true) ∧ (s.remoteOpen = true) ∧ (s.journal.length < 128)) ∧
    (∃ (s : State), (RegsOk s) ∧ (Listens s) ∧ (s.laneRuns = true) ∧ (s.remoteOpen = false) ∧ (s.linkState false = linkIsUp)) ∧
    (∃ (s : State), (Listens s) ∧ (s.laneRuns = true) ∧ (s.remoteOpen = false)) ∧
    (∃ (p : List Byte) (s : State), (Listens s) ∧ (s.laneRuns = true) ∧ (s.remoteOpen = true) ∧ (p.getD 0 0 = 0xC5) ∧ (p.getD 1 0 = 0x5C)) :=
  ⟨⟨.twoWire, 0x05, 0, { smp [(CASC_STATE, 0x60)] with casc := { nchip := 2 } }, regs_ok (by decide +kernel), serves (by decide +kernel), by decide +kernel⟩,
   ⟨.twoWire, 0x06, 0, { smp [(CASC_STATE, 0x60)] with casc := { nchip := 2 } }, regs_ok (by decide +kernel), serves (by decide +kernel), by decide +kernel⟩,
   ⟨.twoWire, 0x07, 0, { smp [(CASC_STATE, 0x60)] with casc := { nchip := 2 } }, regs_ok (by decide +kernel), serves (by decide +kernel), by decide +kernel⟩,
   ⟨1, 3, [3, 0, 5, 0, 0], { smp [(CASC_STATE, 0x60)] with casc := { nchip := 2, remote := some (1, 3, 1) } }, regs_ok (by decide +kernel), listens (by decide +kernel), by decide +kernel⟩,
   ⟨0, { smpT [] [.remote] with casc := { nchip := 2, remote := some (1, 3, 1) } }, regs_ok (by decide +kernel), by decide +kernel⟩,
   ⟨[1, 0, 3], smp [(CASC_CFG, 0x40), (CASC_STATE, 0x19)], listens (by decide +kernel), by decide +kernel⟩,
   ⟨smp [(CASC_CFG, 0x40), (CASC_STATE, 0x19)], listens (by decide +kernel), by decide +kernel⟩,
   ⟨smp [(CASC_STATE, 0x19)], regs_ok (by decide +kernel), listens (by decide +kernel), by decide +kernel⟩,
   ⟨smp [(CASC_STATE, 0x19)], listens (by decide +kernel), by decide +kernel⟩,
   ⟨[0xC5, 0x5C], smp [(CASC_CFG, 0x40), (CASC_STATE, 0x19)], listens (by decide +kernel), by decide +kernel⟩⟩

/-- States and operands that meet the hypotheses of DeviceAndBlockResets, clause by clause. -/
theorem test_device_and_block_resets :
    (∃ (s : State), (s.clk.vin = false)) ∧
    (∃ (s : State), (s.clk.vin = true)) ∧
    (∃ (ticks : Nat) (s : State), (s.clk.vin = true) ∧ (s.clk.vio = true) ∧ (us 20 ≤ ticks)) ∧
    (∃ (ticks : Nat), (ticks < us 5)) ∧
    (∃ (ticks : Nat) (s : State), (s.clk.vin = true) ∧ (s.clk.vio = true) ∧ (us 5 ≤ ticks) ∧ (ticks < us 20)) ∧
    (∃ (s : State), (s.clk.held = true)) ∧
    (∃ (p : Port) (w : Word) (t : Nat) (s : State), (ServesAll p (s.at t)) ∧ (bits w 15 0 = 0xA55A)) ∧
    (∃ (p : Port) (w : Word) (t : Nat) (s : State), (ServesAll p (s.at t)) ∧ (bits w 15 0 ≠ 0xA55A)) ∧
    (∃ (p : Port) (w : Word) (b : Nat) (t : Nat) (s : State), (RegsOk s) ∧ (ServesAll p (s.at t)) ∧ (b < 9) ∧ (bit w b = true)) ∧
    (∃ (b : Nat) (s : State), (RegsOk s) ∧ (b < 9) ∧ (s.flag RST_BLKSTS b = true)) :=
  ⟨⟨State.reset, by decide +kernel⟩,
   ⟨smp [], by decide +kernel⟩,
   ⟨us 20, smp [], by decide +kernel⟩,
   ⟨us 5 - 1, by decide +kernel⟩,
   ⟨us 5, smp [], by decide +kernel⟩,
   ⟨{ smp [] with clk := { vin := true, held := true } }, by decide +kernel⟩,
   ⟨.twoWire, 0xA55A, 0, smp [], serves (by decide +kernel), by decide +kernel⟩,
   ⟨.twoWire, 0xA55B, 0, smp [], serves (by decide +kernel), by decide +kernel⟩,
   ⟨.twoWire, 0x100, 8, 0, smp [], regs_ok (by decide +kernel), serves (by decide +kernel), by decide +kernel⟩,
   ⟨8, smp [(RST_BLKSTS, 0x100)], regs_ok (by decide +kernel), by decide +kernel⟩⟩

/-- States and operands that meet the hypotheses of StartUpFollowsItsMoments, clause by clause. -/
theorem test_start_up_follows_its_moments :
    (∃ (s : State), (RegsOk s) ∧ (s.clk.vin = true) ∧ (s.clk.held = false) ∧ (s.clk.fuses = false)) ∧
    (∃ (s : State), (RegsOk s) ∧ (s.clk.vin = true) ∧ (s.clk.held = false) ∧ (s.clk.vreg5 = false) ∧ (s.clocks = false) ∧ (s.clk.strapped = false)) ∧
    (∃ (s : State), (s.clk.vin = true) ∧ (s.clk.held = false) ∧ (s.clk.vreg5 = false) ∧ (s.clocks = false) ∧ (s.clk.strapped = true)) ∧
    (∃ (s : State), (RegsOk s) ∧ (s.clk.vin = true) ∧ (s.clk.held = false) ∧ (s.clk.vreg5 = false) ∧ (s.clocks = true) ∧ (s.sys = sysPlain) ∧ (s.holder = none) ∧ (s.dieLevel < 2)) ∧
    (∃ (s : State), (s.clk.fuses = true) ∧ (s.clk.vreg5 = true) ∧ (s.clk.held = false) ∧ (s.clk.pll = false) ∧ (s.clocks = false)) ∧
    (∃ (s : State), (RegsOk s) ∧ (s.clk.pll = true) ∧ (s.clocks = false)) ∧
    (∃ (slot : Nat) (rest : List Nat) (s : State), (RegsOk s) ∧ (s.startingUp = true) ∧ (s.flag UPD_STS 8 = false) ∧ (s.upd.fw = none) ∧ (s.upd.toTry = slot :: rest) ∧ (s.checkFirmware slot false = none)) ∧
    (∃ (slot : Nat) (rest : List Nat) (x : Bad) (s : State), (RegsOk s) ∧ (s.startingUp = true) ∧ (s.flag UPD_STS 8 = false) ∧ (s.upd.fw = none) ∧ (s.upd.toTry = slot :: rest) ∧ (s.checkFirmware slot false = some x)) ∧
    (∃ (l : LaneId) (s : State), (RegsOk s) ∧ (s.startingUp = true) ∧ (s.holder = some l) ∧ (s.arb.startTried = false)) ∧
    (∃ (l : LaneId) (s : State), (RegsOk s) ∧ (s.startingUp = true) ∧ (s.holder = some l) ∧ (s.arb.startTried = true)) :=
  ⟨⟨{ State.reset with clk := { vin := true } }, regs_ok (by decide +kernel), by decide +kernel⟩,
   ⟨{ State.reset with clk := { vin := true } }, regs_ok (by decide +kernel), by decide +kernel⟩,
   ⟨{ State.reset with clk := { vin := true, strapped := true } }, by decide +kernel⟩,
   ⟨{ smp [(SYS_STATE, 3), (LANE_AUTH, 0)] with clk := { vin := true, fuses := true } }, regs_ok (by decide +kernel), by decide +kernel⟩,
   ⟨{ State.reset with clk := { vin := true, fuses := true, vreg5 := true } }, by decide +kernel⟩,
   ⟨{ State.reset with clk := { vin := true, fuses := true, vreg5 := true, pll := true } }, regs_ok (by decide +kernel), by decide +kernel⟩,
   ⟨0, [1], fwSample, regs_ok (by decide +kernel), by decide +kernel, by decide +kernel, by decide +kernel, by decide +kernel, by exact firmware_passes false⟩,
   ⟨0, [1], { code := 0x02 }, { smp [(SYS_STATE, 0)] with arb := { col := some .startUp }, upd := { toTry := [0, 1] } }, regs_ok (by decide +kernel), by decide +kernel⟩,
   ⟨.a, { smp [(SYS_STATE, 0)] with arb := { col := some .startUp } }, regs_ok (by decide +kernel), by decide +kernel⟩,
   ⟨.b, { smp [(SYS_STATE, 0), (LANE_AUTH, 2)] with arb := { col := some .startUp, startTried := true } }, regs_ok (by decide +kernel), by decide +kernel⟩⟩

/-- States and operands that meet the hypotheses of SuppliesFailAndReturn, clause by clause. -/
theorem test_supplies_fail_and_return :
    (∃ (s : State), (s.clk.vreg5 = true)) ∧
    (∃ (s : State), (RegsOk s) ∧ (s.clk.lost = false) ∧ (s.clocks = true)) ∧
    (∃ (s : State), (s.vresOk = true)) ∧
    (∃ (s : State), (RegsOk s) ∧ (s.vresOk = false) ∧ (s.rcd.staging = [])) :=
  ⟨⟨smp [], by decide +kernel⟩,
   ⟨smp [], regs_ok (by decide +kernel), by decide +kernel⟩,
   ⟨smp [], by decide +kernel⟩,
   ⟨{ smp [] with vresOk := false }, regs_ok (by decide +kernel), by decide +kernel⟩⟩

/-- States and operands that meet the hypotheses of TheCounterAndTheTestPortRun, clause by clause. -/
theorem test_the_counter_and_the_test_port_run :
    (∃ (p : Port) (w : Word) (t : Nat) (s : State), (RegsOk s) ∧ (ServesAll p (s.at t)) ∧ (s.flag RST_BLKSTS 8 = false) ∧ (bit w 1 = false) ∧ (bit w 0 = true) ∧ (s.gateRuns = false)) ∧
    (∃ (p : Port) (w : Word) (t : Nat) (s : State), (RegsOk s) ∧ (ServesAll p (s.at t)) ∧ (s.flag RST_BLKSTS 8 = false) ∧ (bit w 1 = true)) ∧
    (∃ (s : State), (RegsOk s) ∧ (s.gateRuns = true) ∧ (s.hasEdges (bits s.clk.gate 5 3) = true)) ∧
    (∃ (t : Nat) (s : State), (RegsOk s) ∧ (s.gateRuns = true) ∧ ((s.at t).expiredTicks (.gate 0) (10 * ticksPerSecond) = true)) ∧
    (∃ (s : State), (s.tap.run = true)) :=
  ⟨⟨.twoWire, 1, 0, smp [], regs_ok (by decide +kernel), serves (by decide +kernel), by decide +kernel⟩,
   ⟨.twoWire, 2, 0, smp [], regs_ok (by decide +kernel), serves (by decide +kernel), by decide +kernel⟩,
   ⟨{ smp [(FCNT_STS, 1)] with clk := { vin := true, gate := 0 } }, regs_ok (by decide +kernel), by decide +kernel⟩,
   ⟨0, smpT [(FCNT_STS, 1)] [.gate 0], regs_ok (by decide +kernel), by decide +kernel⟩,
   ⟨{ smp [] with tap := { run := true } }, by decide +kernel⟩⟩

/-- States and operands that meet the hypotheses of FirmwareTrialsAndSettings, clause by clause. -/
theorem test_firmware_trials_and_settings :
    (∃ (p : Port) (w : Word) (t : Nat) (s : State), (ServesAll p (s.at t)) ∧ (bits w 15 0 = 0x6996) ∧ (s.slotState false (b2n (bit w 16)) = slotStaged) ∧ (s.upd.act = none) ∧ (s.upd.trial = none) ∧ (s.swapRefused = false)) ∧
    (∃ (p : Port) (w : Word) (t : Nat) (s : State), (RegsOk s) ∧ (ServesAll p (s.at t)) ∧ (bits w 15 0 = 0x6996) ∧ (s.slotState false (b2n (bit w 16)) ≠ slotStaged)) ∧
    (∃ (slot : Nat) (s : State), (s.laneRuns = true) ∧ (s.upd.act = some slot) ∧ (s.upd.copied = false) ∧ (s.checkFirmware slot true = none) ∧ (s.flag UPD_STS 8 = false) ∧ (s.swapRefused = false)) ∧
    (∃ (slot : Nat) (x : Bad) (s : State), (RegsOk s) ∧ ((s.laneRuns = true ∨ s.flag UPD_STS 8 = true)) ∧ (s.upd.act = some slot) ∧ (s.upd.copied = false) ∧ (s.checkFirmware slot true = some x)) ∧
    (∃ (p : Port) (w : Word) (t : Nat) (x : Trial) (s : State), (RegsOk s) ∧ (ServesAll p (s.at t)) ∧ (bits w 15 0 = 0xC33C) ∧ (s.upd.trial = some x) ∧ (s.trialGood x = true)) ∧
    (∃ (t : Nat) (x : Trial) (s : State), (RegsOk s) ∧ (s.laneRuns = true) ∧ (s.upd.trial = some x) ∧ ((s.at t).expired .trial x.window = true) ∧ (s.trialGood x = true) ∧ (s.flag UPD_CTL 0 = false)) ∧
    (∃ (t : Nat) (x : Trial) (s : State), (RegsOk s) ∧ (ImagesFit s) ∧ (s.laneRuns = true) ∧ (s.upd.trial = some x) ∧ (x.image = false) ∧ ((s.at t).expired .trial x.window = true) ∧ (s.trialGood x = false) ∧ (s.swapRefused = false) ∧ (s.flt.matches_ = [])) ∧
    (∃ (t : Nat) (s : State), (RegsOk s) ∧ (s.flag UPD_STS 4 = true) ∧ ((s.at t).expiredTicks .fallback ticksPerSecond = true) ∧ (s.laneRuns = true) ∧ (s.imgBusy = false) ∧ (s.switching = false) ∧ (s.arb.entryWait = false) ∧ ((∀ l, s.holder = some l → s.isBad l.other = false))) ∧
    (∃ (t : Nat) (s : State), (RegsOk s) ∧ (s.flag UPD_STS 4 = true) ∧ ((s.at t).expiredTicks .fallback ticksPerSecond = true) ∧ (s.imgBusy = true)) ∧
    (∃ (p : Port) (w : Word) (t : Nat) (im : Image) (s : State), (RegsOk s) ∧ (ServesAll p (s.at t)) ∧ (bits w 15 0 = 0x5AA5) ∧ (s.saving = false) ∧ (s.image = some im)) ∧
    (∃ (p : Port) (w : Word) (t : Nat) (s : State), (ServesAll p (s.at t)) ∧ (bits w 15 0 ≠ 0x5AA5)) ∧
    (∃ (cls : Nat) (c : Nat) (t : Nat) (k : Confirmed) (s : State), (13 ≤ cls) ∧ (cls < 16) ∧ ((s.ctx? c).isSome = true) ∧ (s.flt.matches_ = []) ∧ (s.upd.confirmed = some k) ∧ (k.at_ = (s.at t).now)) :=
  ⟨⟨.twoWire, 0x6996, 0, (smp []).writeBoot [1, 0, 0, 0], serves (by decide +kernel), by decide +kernel⟩,
   ⟨.twoWire, 0x6996, 0, smp [], regs_ok (by decide +kernel), serves (by decide +kernel), by decide +kernel⟩,
   ⟨0, fwSample, by decide +kernel, by decide +kernel, by decide +kernel, by exact firmware_passes true, by decide +kernel⟩,
   ⟨1, { code := 0x02 }, { smp [] with upd := { act := some 1 } }, regs_ok (by decide +kernel), by decide +kernel⟩,
   ⟨.twoWire, 0xC33C, 0, { image := true, slot := 0, broken := false, window := 0, lane := .a }, { smp [] with upd := { trial := some { image := true, slot := 0, broken := false, window := 0, lane := .a } } }, regs_ok (by decide +kernel), serves (by decide +kernel), by decide +kernel⟩,
   ⟨0, { image := true, slot := 0, broken := false, window := 0, lane := .a }, { smpT [] [.trial] with upd := { trial := some { image := true, slot := 0, broken := false, window := 0, lane := .a } } }, regs_ok (by decide +kernel), by decide +kernel⟩,
   ⟨0, { image := false, slot := 0, broken := true, window := 0, lane := .a }, { smpT [] [.trial] with upd := { trial := some { image := false, slot := 0, broken := true, window := 0, lane := .a } } }, regs_ok (by decide +kernel), sample_fits _ rfl rfl, by decide +kernel⟩,
   ⟨0, smpT [(UPD_STS, 0x10)] [.fallback], regs_ok (by decide +kernel), by decide +kernel, by decide +kernel, by decide +kernel, by decide +kernel, by decide +kernel, by decide +kernel, by exact fun l h => by rw [show State.holder _ = some LaneId.a from by decide +kernel] at h; cases h; decide +kernel⟩,
   ⟨0, smpT [(UPD_STS, 0x10), (IMG_LDSTAT, 1)] [.fallback], regs_ok (by decide +kernel), by decide +kernel⟩,
   ⟨.twoWire, 0x5AA5, 0, sampleImage, smp [], regs_ok (by decide +kernel), serves (by decide +kernel), by decide +kernel⟩,
   ⟨.twoWire, 0, 0, smp [], serves (by decide +kernel), by decide +kernel⟩,
   ⟨13, 0, 0, { at_ := 1000000000000, trial := { image := true, slot := 0, broken := false, window := 0, lane := .a }, conf := false, keep := false, arb := 0, count := [0, 0, 0, 0, 0, 0, 0, 0], settings := none, learned := none, mem := [], progs := [], began := 5 }, { smp [] with upd := { confirmed := some { at_ := 1000000000000, trial := { image := true, slot := 0, broken := false, window := 0, lane := .a }, conf := false, keep := false, arb := 0, count := [0, 0, 0, 0, 0, 0, 0, 0], settings := none, learned := none, mem := [], progs := [], began := 5 } } }, by decide +kernel⟩⟩

end Sys2Proof.Tests
end

