-- ==== Sys2Proof/Proofs/Shelf/Sound.lean ====
section
/-! SUPPORT. What every step keeps (O5): Sound says that canonical tables stay canonical and the images' records bytes, one lemma for each operation on the state, in the order of the model. -/

namespace Sys2Proof

open Machine

/-- From s₀ on, s keeps canonical tables canonical (log 2) and the records of the images bytes. -/
def Sound (s₀ s : State) : Prop := (Formed s₀ → Formed s) ∧ (ImagesFit s₀ → ImagesFit s)

/-- A command's outcome keeps what every step keeps. -/
def SoundOut (s₀ : State) (o : Host.Outcome State Fault Refusal) : Prop := ∀ n, o = .next n → Sound s₀ n

section Sound

set_option Elab.async false

variable {s₀ s : State}

theorem Sound.refl (s : State) : Sound s s := ⟨id, id⟩

/-- A change of fields that are neither tables nor images. -/
theorem Sound.same {m : State} (h : Sound s₀ s)
    (e : (m.regs, m.clamped, m.updated, m.staleMark, m.mram, m.image, m.nextImage) = (s.regs, s.clamped, s.updated, s.staleMark, s.mram, s.image, s.nextImage) := by rfl) : Sound s₀ m := by
  simp only [Prod.mk.injEq] at e
  obtain ⟨hr, hc, hu, hs, hm, hi, hn⟩ := e
  unfold Sound Formed RegsOk ImagesFit
  rw [hr, hc, hu, hs, hm, hi, hn]
  exact h

/-- A change of tables that keeps their form, the images as they were. -/
theorem Sound.of_formed {m : State} (h : Sound s₀ s) (hf : Formed s → Formed m) (e : (m.image, m.nextImage) = (s.image, s.nextImage)) : Sound s₀ m := by
  simp only [Prod.mk.injEq] at e
  obtain ⟨hi, hn⟩ := e
  refine ⟨fun h0 => hf (h.1 h0), fun h0 => ?_⟩
  unfold ImagesFit
  rw [hi, hn]
  exact h.2 h0

theorem Sound.ite {a b : State} {c : Prop} {d : Decidable c} (ha : Sound s₀ a) (hb : Sound s₀ b) : Sound s₀ (if c then a else b) := by
  split <;> assumption

theorem SoundOut.ite {a b : Host.Outcome State Fault Refusal} {c : Prop} {d : Decidable c} (ha : SoundOut s₀ a) (hb : SoundOut s₀ b) : SoundOut s₀ (if c then a else b) := by
  split <;> assumption

theorem Sound.foldl {α : Type} (h : Sound s₀ s) {l : List α} {f : State → α → State} (hf : ∀ m x, Sound s₀ m → Sound s₀ (f m x)) : Sound s₀ (l.foldl f s) := by
  induction l generalizing s with
  | nil => exact h
  | cons x r ih => exact ih (hf s x h)

/-- Words taken from another list keep the form of the list they are laid over. -/
theorem overlay_canonical {α : Type} [DecidableEq α] {d : α} {take : Nat → Bool} {src rest : List (Nat × α)} (h : canonical d rest = true) :
    canonical d (overlay d take src rest) = true := by
  have step (l : List (Nat × α)) : ∀ r, canonical d r = true → canonical d (l.foldl (fun l p => assign d l p.1 p.2) r) = true := by
    induction l with
    | nil => exact fun _ hr => hr
    | cons p l ih => exact fun r hr => ih _ (assign_canonical hr)
  exact step _ _ (filter_canonical _ h)

/-- The table of the words at reset is canonical. -/
theorem resetRegs_canonical : canonical 0 resetRegs = true := by
  have step (l : List (Nat × Word)) : ∀ r, canonical 0 r = true → canonical 0 (l.foldl (fun l p => assign 0 l p.1 p.2) r) = true := by
    induction l with
    | nil => exact fun _ hr => hr
    | cons p l ih => exact fun r hr => ih _ (assign_canonical hr)
  exact step _ [] canonical_nil

/-- An unsigned field of one byte is a byte. -/
theorem raw_u_one_lt (b : Raw) (o : Nat) : b.u o 1 < 256 := by
  simp only [Raw.u, Raw.bytes, List.range_one, List.map_cons, List.map_nil, ofLe]
  have := (b.at (o + 0)).isLt
  omega

/-- The loader reads records of bytes (R72, R76, R78). -/
theorem raw_image_byteImage (b : Raw) : ByteImage b.image := by
  refine ⟨?_, ?_, ?_⟩
  · intro x hx
    obtain ⟨o, -, rfl⟩ := List.mem_map.mp hx
    exact ⟨raw_u_one_lt b _, raw_u_one_lt b _, raw_u_one_lt b _, raw_u_one_lt b _⟩
  · intro x hx
    obtain ⟨o, -, rfl⟩ := List.mem_map.mp hx
    exact raw_u_one_lt b _
  · intro x hx
    obtain ⟨o, -, rfl⟩ := List.mem_map.mp hx
    exact raw_u_one_lt b _

/-! ### Machine/Ops.lean -/

theorem Sound.setReg (h : Sound s₀ s) {a : Nat} {w : Word} : Sound s₀ (s.setReg a w) :=
  h.of_formed (fun ⟨hr, ht⟩ => ⟨setReg_regsOk hr a w, ht⟩) rfl

theorem Sound.setC (h : Sound s₀ s) {c k : Nat} {w : Word} : Sound s₀ (s.setC c k w) := h.setReg

theorem Sound.setS (h : Sound s₀ s) {n k : Nat} {w : Word} : Sound s₀ (s.setS n k w) := h.setReg

theorem Sound.setFld (h : Sound s₀ s) {a hi lo v : Nat} : Sound s₀ (s.setFld a hi lo v) := h.setReg

theorem Sound.setFlag (h : Sound s₀ s) {a n : Nat} {b : Bool} : Sound s₀ (s.setFlag a n b) := h.setReg

theorem Sound.inc (h : Sound s₀ s) {a : Nat} : Sound s₀ (s.inc a) := h.setReg

theorem Sound.setWide (h : Sound s₀ s) {a n v : Nat} : Sound s₀ (s.setWide a n v) := by
  induction n generalizing s a v with
  | zero => exact h
  | succ n ih => exact ih h.setReg

theorem Sound.onlyIf (h : Sound s₀ s) {b : Bool} {f : State → State} (hf : ∀ m, Sound s₀ m → Sound s₀ (f m)) : Sound s₀ (s.onlyIf b f) := .ite (hf s h) h

theorem Sound.forEach {α : Type} (h : Sound s₀ s) {l : List α} {f : α → State → State} (hf : ∀ x m, Sound s₀ m → Sound s₀ (f x m)) : Sound s₀ (s.forEach l f) :=
  h.foldl (fun m x => hf x m)

theorem Sound.measure (h : Sound s₀ s) {a : Nat} {w : Word} : Sound s₀ (s.measure a w) :=
  h.of_formed (fun ⟨hr, hc, hu, ht⟩ => ⟨setReg_regsOk hr a w, hc, assign_canonical hu, ht⟩) rfl

theorem Sound.markClamped (h : Sound s₀ s) {a : Nat} {b : Bool} : Sound s₀ (s.markClamped a b) :=
  h.of_formed (fun ⟨hr, hc, ht⟩ => ⟨hr, assign_canonical hc, ht⟩) rfl

theorem Sound.markStale (h : Sound s₀ s) {a : Nat} {b : Bool} : Sound s₀ (s.markStale a b) :=
  h.of_formed (fun ⟨hr, hc, hu, hs, hm⟩ => ⟨hr, hc, hu, assign_canonical hs, hm⟩) rfl

theorem Sound.sts (h : Sound s₀ s) {c b : Nat} : Sound s₀ (s.sts c b) := h.setFlag

theorem Sound.setCode (h : Sound s₀ s) {c v : Nat} : Sound s₀ (s.setCode c v) := h.setFld

theorem Sound.setPort (h : Sound s₀ s) {p : Nat} {f : DsPort → DsPort} : Sound s₀ (s.setPort p f) := h.same

theorem Sound.setHeld (h : Sound s₀ s) {c : Nat} {b : Bool} : Sound s₀ (s.setHeld c b) := h.setFlag

theorem Sound.setSafe (h : Sound s₀ s) {c : Nat} {b : Bool} : Sound s₀ (s.setSafe c b) := h.setFlag

theorem Sound.start (h : Sound s₀ s) {k : Timer} : Sound s₀ (s.start k) := h.same

theorem Sound.startOnce (h : Sound s₀ s) {k : Timer} : Sound s₀ (s.startOnce k) := .ite h h.start

theorem Sound.startAt (h : Sound s₀ s) {k : Timer} {t0 : Nat} : Sound s₀ (s.startAt k t0) := h.same

theorem Sound.stop (h : Sound s₀ s) {k : Timer} : Sound s₀ (s.stop k) := h.same

theorem Sound.qualify (h : Sound s₀ s) {k : Count} {b : Bool} : Sound s₀ (s.qualify k b) := .ite h.same h.same

theorem Sound.clearCount (h : Sound s₀ s) {k : Count} : Sound s₀ (s.clearCount k) := h.same

theorem Sound.alert (h : Sound s₀ s) {n : Nat} : Sound s₀ (s.alert n) := h.setFlag.same

theorem Sound.setSys (h : Sound s₀ s) {v : Nat} : Sound s₀ (s.setSys v) := .ite h h.setReg.alert

theorem Sound.at (h : Sound s₀ s) {t : Nat} : Sound s₀ (s.at t) := h.same

theorem Sound.setGrp (h : Sound s₀ s) {c : Nat} {f : GroupVar → GroupVar} : Sound s₀ (s.setGrp c f) := h.same

theorem Sound.setPhase (h : Sound s₀ s) {p : Nat} {f : PhaseVar → PhaseVar} : Sound s₀ (s.setPhase p f) := h.same

theorem Sound.setSlot (h : Sound s₀ s) {n : Nat} {f : SlotDyn → SlotDyn} : Sound s₀ (s.setSlot n f) := h.same

theorem Sound.setIface (h : Sound s₀ s) {p : Port} {f : Iface → Iface} : Sound s₀ (s.setIface p f) := by
  unfold State.setIface
  split <;> exact h.same

theorem Sound.drivePin (h : Sound s₀ s) {i : Nat} : Sound s₀ (s.drivePin i) := .ite h h.same

theorem SoundOut.finish {s0 : State} (h : Sound s₀ s) : SoundOut s₀ (finish s0 s) := by
  intro n hn
  obtain rfl := Host.Outcome.next.inj hn
  exact h.same

/-! ### Machine/Operands.lean -/

theorem Sound.seeStale (h : Sound s₀ s) : Sound s₀ (s.seeStale) := h.same

theorem Sound.watchStale (h : Sound s₀ s) : Sound s₀ (s.watchStale) := .seeStale (.forEach h (fun _ _ h => h.sts))

theorem Sound.storeAs (h : Sound s₀ s) {a : Nat} {r : Word × Bool} : Sound s₀ (s.storeAs a r) := .ite h.setReg.markClamped.sts h.setReg.markClamped

theorem Sound.store (h : Sound s₀ s) {a : Nat} {w : Word} : Sound s₀ (s.store a w) := by
  unfold State.store
  split
  · exact h
  · split
    · exact h
    · exact h
    · exact h.storeAs

theorem Sound.refuse (h : Sound s₀ s) {a : Nat} : Sound s₀ (s.refuse a) := h.storeAs

/-! ### Machine/Recorder.lean -/

theorem Sound.writeMram (h : Sound s₀ s) {a : Nat} {bs : List Byte} : Sound s₀ (s.writeMram a bs) :=
  h.of_formed (fun ⟨hr, hc, hu, hs, hm⟩ => ⟨hr, hc, hu, hs, assignAll_canonical hm⟩) rfl

theorem Sound.commitRec (h : Sound s₀ s) {r : Rec} : Sound s₀ (s.commitRec r) := .ite h.setWide.writeMram.setReg h.setWide.same.writeMram.setReg

theorem Sound.stage (h : Sound s₀ s) {r : Rec} : Sound s₀ (s.stage r) := h.same

theorem Sound.stageOverflow (h : Sound s₀ s) {len : Nat} : Sound s₀ (s.stageOverflow len) := by
  dsimp only [State.stageOverflow]
  split
  · exact .ite h.same h
  · exact h

theorem Sound.loseRec (h : Sound s₀ s) {r : Rec} : Sound s₀ (s.loseRec r) := .ite h.inc.setFlag.setFlag.same h.inc.setFlag.same

theorem Sound.writeLane (h : Sound s₀ s) {r : Rec} : Sound s₀ (s.writeLane r) := .ite h.stageOverflow.stage h.stageOverflow.loseRec

theorem Sound.writeRec (h : Sound s₀ s) {code c : Nat} {payload : List Byte} : Sound s₀ (s.writeRec code c payload) := .ite h.writeLane h

theorem Sound.letIn (h : Sound s₀ s) {rs : List Rec} : Sound s₀ (s.letIn rs) := .ite (.foldl h.stageOverflow (fun _ _ h => h.stage)) h.setReg.setFlag

theorem Sound.offerAll (h : Sound s₀ s) {code : Nat} {rs : List Rec} : Sound s₀ (s.offerAll code rs) := by
  unfold State.offerAll
  refine .ite h (.ite h.setFlag.setReg.same ?_)
  dsimp only
  split
  · exact h
  · exact .ite h.setReg.setFlag.same (.letIn (.ite h.same h.same.writeRec))

theorem Sound.offerRec (h : Sound s₀ s) {code c : Nat} {payload : List Byte} : Sound s₀ (s.offerRec code c payload) := h.offerAll

theorem Sound.stsOffer (h : Sound s₀ s) {c b : Nat} : Sound s₀ (s.stsOffer c b) := h.sts.offerRec

theorem Sound.stsWrite (h : Sound s₀ s) {c b : Nat} : Sound s₀ (s.stsWrite c b) := h.sts.writeRec

theorem Sound.gOffer (h : Sound s₀ s) {r b : Nat} : Sound s₀ (s.gOffer r b) := h.setFlag.offerRec

theorem Sound.note (h : Sound s₀ s) {site c : Nat} : Sound s₀ (s.note site c) := h.writeRec

theorem Sound.coreRec (h : Sound s₀ s) {code : Nat} {payload : List Byte} : Sound s₀ (s.coreRec code payload) := .ite h.commitRec h.stage

theorem Sound.commitRipe (h : Sound s₀ s) {epoch : Nat} {coreFirst : Bool} : Sound s₀ (s.commitRipe epoch coreFirst) := .ite (.forEach h.same (fun _ _ h => h.commitRec)) h

theorem Sound.commitStaged (h : Sound s₀ s) {epoch : Nat} : Sound s₀ (s.commitStaged epoch) := h.commitRipe

theorem Sound.discardStaged (h : Sound s₀ s) {epoch : Nat} : Sound s₀ (s.discardStaged epoch) := h.same

theorem Sound.endFreeze (h : Sound s₀ s) {endCode : Nat} : Sound s₀ (s.endFreeze endCode) := by
  dsimp only [State.endFreeze]
  split
  · exact h
  · exact .ite h.same.setFld.setFld.stop.commitRipe.commitRec h.same.setFld.setFld.stop.commitRipe.stage

theorem Sound.thawAfterAll (h : Sound s₀ s) {endCode : Nat} : Sound s₀ (s.thawAfterAll endCode) := by
  dsimp only [State.thawAfterAll]
  split
  · exact .ite h.same.setFlag.setFlag.same h
  · exact h

theorem Sound.thaw (h : Sound s₀ s) {endCode : Nat} : Sound s₀ (s.thaw endCode) := .ite h.endFreeze h.thawAfterAll

/-! ### Machine/Power.lean -/

theorem Sound.setChan (h : Sound s₀ s) {g : Nat} {f : ChanVar → ChanVar} : Sound s₀ (s.setChan g f) := h.same

theorem Sound.holdsEnd (h : Sound s₀ s) {g : Nat} : Sound s₀ (s.holdsEnd g) := by
  unfold State.holdsEnd
  split
  · exact h.stop.stop
  · exact h

theorem Sound.gateDown (h : Sound s₀ s) {g : Nat} : Sound s₀ (s.gateDown g) := .ite h h.setFld.setChan.start.stop.stop.clearCount.clearCount.holdsEnd

theorem Sound.gateDownOf (h : Sound s₀ s) {c : Nat} : Sound s₀ (s.gateDownOf c) := by
  unfold State.gateDownOf
  split
  · exact h.gateDown
  · exact h

theorem Sound.keepOutputs (h : Sound s₀ s) : Sound s₀ (s.keepOutputs) := .ite h h.same

theorem Sound.holdChannels (h : Sound s₀ s) : Sound s₀ (s.holdChannels) := .forEach (.keepOutputs (.forEach h (fun _ _ h => h.setFlag.setHeld))) (fun _ _ h => h.setHeld)

theorem Sound.freeChannels (h : Sound s₀ s) : Sound s₀ (s.freeChannels) := .forEach (.same (.forEach h (fun _ _ h => h.setFlag.setHeld))) (fun _ _ h => h.setHeld)

theorem Sound.endEnhanced (h : Sound s₀ s) {g : Nat} : Sound s₀ (s.endEnhanced g) := by
  dsimp only [State.endEnhanced]
  split
  · split
    · exact h.setFlag.holdsEnd.setFld
    · exact h.setFlag.holdsEnd.setFlag
    · exact h.setFlag.holdsEnd
  · exact h.setFlag.holdsEnd

theorem Sound.gateSource (h : Sound s₀ s) {g : Nat} {timed : Bool} : Sound s₀ (s.gateSource g timed) := .ite h.setFld.setChan.stop.clearCount.start h.setFld.setChan.stop.clearCount

theorem Sound.clearLive (h : Sound s₀ s) {c : Nat} : Sound s₀ (s.clearLive c) := by
  unfold State.clearLive
  split
  · exact h.setFlag
  · exact h.setFld
  · exact h

theorem Sound.phaseStop (h : Sound s₀ s) {lv : Level} {p : Nat} : Sound s₀ (s.phaseStop lv p) := h.setFld.setPhase

theorem Sound.phaseStart (h : Sound s₀ s) {p : Nat} : Sound s₀ (s.phaseStart p) := h.setFld.setPhase

theorem Sound.countActive (h : Sound s₀ s) {r : CtxRec} : Sound s₀ (s.countActive r) := h.setC

theorem Sound.newBlock (h : Sound s₀ s) {c : Nat} : Sound s₀ (s.newBlock c) := h.setGrp

theorem Sound.groupStop (h : Sound s₀ s) {r : CtxRec} {lv : Level} : Sound s₀ (s.groupStop r lv) := .clearCount (.clearCount (.stop (.stop (.stop (.stop (.stop (.setC (.setC (.newBlock (.setGrp (.forEach h (fun _ _ h => h.phaseStop))))))))))))

theorem Sound.groupTo (h : Sound s₀ s) {r : CtxRec} {code : Nat} : Sound s₀ (s.groupTo r code) := h.groupStop.setCode.setHeld

theorem Sound.followMode (h : Sound s₀ s) {c : Nat} : Sound s₀ (s.followMode c) := .ite h.setCode h

theorem Sound.setMode (h : Sound s₀ s) {c mode : Nat} {dir : Bool} : Sound s₀ (s.setMode c mode dir) := .ite h.followMode h.setC.markClamped.followMode

theorem Sound.coreMode (h : Sound s₀ s) {c mode : Nat} {dir : Bool} : Sound s₀ (s.coreMode c mode dir) := h.setMode.setGrp

theorem Sound.allPhases (h : Sound s₀ s) {r : CtxRec} : Sound s₀ (s.allPhases r) := .newBlock (.setGrp (.forEach h (fun _ _ h => h.setFlag)))

theorem Sound.throttle (h : Sound s₀ s) {k : Nat} : Sound s₀ (s.throttle k) := .ite h (.ite h.stop h.stop.drivePin.setFlag.setFlag.inc.start)

theorem Sound.setTable (h : Sound s₀ s) {p : Nat} {l : List DsCmd} : Sound s₀ (s.setTable p l) := h.same

theorem Sound.queueCmd (h : Sound s₀ s) {c code data : Nat} {safe : Bool} : Sound s₀ (s.queueCmd c code data safe) := by
  unfold State.queueCmd
  split
  · exact h.setTable
  · exact h

theorem Sound.dropCmd (h : Sound s₀ s) {c code : Nat} : Sound s₀ (s.dropCmd c code) := by
  unfold State.dropCmd
  split
  · exact .ite h.setTable h
  · exact h

theorem Sound.railFall (h : Sound s₀ s) {c : Nat} : Sound s₀ (s.railFall c) := h.setCode.stop.stop.start

theorem Sound.dischargeOn (h : Sound s₀ s) {c : Nat} : Sound s₀ (s.dischargeOn c) := .ite h.start.sts h

theorem Sound.enterSafe (h : Sound s₀ s) {r : CtxRec} : Sound s₀ (s.enterSafe r) := by
  dsimp only [State.enterSafe]
  split
  · exact .ite h.setSafe.gateDownOf.setCode.sts h.setSafe
  · exact .ite h.setSafe.setFlag.same.drivePin h.setSafe.setFlag
  · exact .ite h.setSafe.gateDownOf.clearLive.setCode.sts.stop (.ite h.setSafe.setC.setC h.setSafe.setC)
  · exact .ite h.setSafe (.ite h.setSafe.groupStop.setCode.sts.setHeld.start h.setSafe.groupStop.setCode.sts.setHeld)
  · exact .ite h.setSafe.gateDownOf.clearLive.setCode.stop.setC.sts.throttle h.setSafe.gateDownOf.clearLive.setCode.stop.setC.sts
  · exact .ite h.setSafe.queueCmd h.setSafe.queueCmd
  · split
    · exact .same (.onlyIf (.ite h.setSafe.railFall (.ite h.setSafe.setCode.stop h.setSafe)) (fun _ h => h.dischargeOn))
    · exact .onlyIf (.ite h.setSafe.railFall (.ite h.setSafe.setCode.stop h.setSafe)) (fun _ h => h.dischargeOn)
  · exact h.setSafe
  · exact h.setSafe

/-! ### Machine/Faults.lean -/

theorem Sound.safeOne (h : Sound s₀ s) {r : CtxRec} : Sound s₀ (s.safeOne r) := by
  dsimp only [State.safeOne]
  split
  · exact .ite (.forEach h.setSafe (fun _ _ h => .ite h h.enterSafe)) h.setSafe
  · exact h
  · exact .ite h h.enterSafe

theorem Sound.applySafe (h : Sound s₀ s) {c : Nat} : Sound s₀ (s.applySafe c) := by
  dsimp only [State.applySafe]
  split
  · exact h
  · exact .ite (.forEach (.ite (.forEach h.setSafe (fun _ _ h => h.throttle)) h.setSafe) (fun _ _ h => h.safeOne)) h.safeOne

theorem Sound.applyDue (h : Sound s₀ s) : Sound s₀ (s.applyDue) := .forEach h.same (fun _ _ h => h.applySafe)

theorem Sound.recordEntry (h : Sound s₀ s) {e : LogEntry} : Sound s₀ (s.recordEntry e).1 := by
  dsimp only [State.recordEntry]
  split
  · exact h.writeLane
  · exact h

theorem Sound.recordLog (h : Sound s₀ s) : Sound s₀ (s.recordLog) := by
  dsimp only [State.recordLog]
  refine h.foldl (fun m e h => ?_)
  split
  · exact h
  · exact h.recordEntry.same

theorem Sound.capture (h : Sound s₀ s) {r : Raise} {c e : Nat} {esc : Bool} : Sound s₀ (s.capture r c e esc) := .ite h h.setReg.setReg.setReg.setWide

theorem Sound.unconfirm (h : Sound s₀ s) : Sound s₀ (s.unconfirm) := by
  dsimp only [State.unconfirm]
  split
  · exact .ite h.setFlag.setFlag.setFlag.setReg.same.startAt h
  · exact h

theorem Sound.breakTrial (h : Sound s₀ s) : Sound s₀ (s.breakTrial) := h.same

theorem Sound.raiseCount (h : Sound s₀ s) {r : Raise} {c e sev : Nat} : Sound s₀ (s.raiseCount r c e sev) := .capture (.setC (.sts (.same (.onlyIf h.inc (fun _ h => h.inc)))))

theorem Sound.raiseLog (h : Sound s₀ s) {x : LogEntry} : Sound s₀ (s.raiseLog x) := .ite h.recordEntry.same h.inc

theorem Sound.raiseBook (h : Sound s₀ s) {r : Raise} {c : Nat} : Sound s₀ (s.raiseBook r c) := .ite (.breakTrial (.unconfirm (.ite h.same h))) (.ite h.same h)

theorem Sound.raisePins (h : Sound s₀ s) {react : Nat} : Sound s₀ (s.raisePins react) := .ite (.alert (.ite h.same.start h)) (.ite h.same.start h)

theorem Sound.raiseAct (h : Sound s₀ s) {c : Nat} {force due : Bool} : Sound s₀ (s.raiseAct c force due) := .ite h.applySafe (.ite h.same h)

theorem Sound.raiseSnap (h : Sound s₀ s) {cls c : Nat} : Sound s₀ (s.raiseSnap cls c) := .ite h.same h

theorem Sound.raise (h : Sound s₀ s) {r : Raise} : Sound s₀ (s.raise r) := .ite h.same h.raiseCount.raiseLog.raiseBook.raiseSnap.raisePins.raiseAct

theorem Sound.coreRaise (h : Sound s₀ s) {cls c : Nat} {sev : Option Nat} {site : Nat} : Sound s₀ (s.coreRaise cls c sev site) := h.raise

theorem Sound.laneRaise (h : Sound s₀ s) {cls c : Nat} {sev : Option Nat} {site : Nat} : Sound s₀ (s.laneRaise cls c sev site) := h.raise

theorem Sound.recapture (h : Sound s₀ s) {l : List LogEntry} : Sound s₀ (s.recapture l) := by
  unfold State.recapture
  split
  · exact h
  · exact h.setReg.capture

theorem Sound.orderRaises (h : Sound s₀ s) {from_ : State} : Sound s₀ (from_.orderRaises s) :=
  .ite h (.ite (.recapture (.forEach h.same (fun _ _ h => h.setC))) (.forEach h.same (fun _ _ h => h.setC)))

theorem Sound.ackOne (h : Sound s₀ s) {c : Nat} : Sound s₀ (s.ackOne c) := h.same.setC

theorem SoundOut.execFaultRaise (h : Sound s₀ s) {cls c : Nat} {sev : Option Nat} {site init acc addr t : Nat} : SoundOut s₀ (execFaultRaise cls c sev site init acc addr t s) := .finish h.at.raise

theorem SoundOut.execFltPulseEnd (h : Sound s₀ s) {t : Nat} : SoundOut s₀ (execFltPulseEnd t s) := .finish (.ite h.same.stop h.at)

/-! ### Machine/BlackBox.lean -/

theorem Sound.commitBytes (h : Sound s₀ s) {a : Nat} {bs : List Byte} : Sound s₀ (s.commitBytes a bs) := .ite h.writeMram h.same

theorem Sound.flushCommits (h : Sound s₀ s) : Sound s₀ (s.flushCommits) := .forEach h.same (fun _ _ h => h.writeMram)

theorem Sound.writeCtl (h : Sound s₀ s) {clrseq clrcnt via : Nat} : Sound s₀ (s.writeCtl clrseq clrcnt via) := h.commitBytes.setWide.setReg

theorem Sound.startBox (h : Sound s₀ s) {clrcnt previous via : Nat} : Sound s₀ (s.startBox clrcnt previous via) := .onlyIf h.setReg.setReg.same (fun _ h => h.stage)

theorem Sound.clearNow (h : Sound s₀ s) {via : Nat} : Sound s₀ (s.clearNow via) := h.writeCtl.setReg.same.startBox.setFlag

theorem Sound.clearBox (h : Sound s₀ s) {via : Nat} : Sound s₀ (s.clearBox via) := .ite h.setFlag (.ite h.clearNow h.same)

theorem Sound.findBox (h : Sound s₀ s) : Sound s₀ (s.findBox) := by
  unfold State.findBox
  extract_lets basin ring top
  split
  · extract_lets clrseq clrcnt since s1 s2
    have h2 : Sound s₀ s2 := h.setWide.setWide.setReg.setReg.setReg
    exact h2.same.setFlag
  · exact h.setWide.setFlag.laneRaise.writeCtl.startBox.setFlag

theorem Sound.rebuildBox (h : Sound s₀ s) : Sound s₀ (s.rebuildBox) := by
  dsimp only [State.rebuildBox]
  split
  · exact h.findBox.same.clearNow
  · exact h.findBox

theorem SoundOut.execRecordOffer (h : Sound s₀ s) {code c : Nat} {payload : List Byte} {t : Nat} : SoundOut s₀ (execRecordOffer code c payload t s) := .finish (.onlyIf h.at (fun _ h => h.offerRec))

theorem SoundOut.execRecordWrite (h : Sound s₀ s) {code c : Nat} {payload : List Byte} {t : Nat} : SoundOut s₀ (execRecordWrite code c payload t s) := .finish (.ite h.at.coreRec (.ite h.at.writeRec h.at))

theorem SoundOut.execBucketRefill (h : Sound s₀ s) {n t : Nat} : SoundOut s₀ (execBucketRefill n t s) := by
  dsimp only [Machine.execBucketRefill]
  refine .finish ?_
  split <;> exact .ite h.same h.at

theorem Sound.expireFreeze (h : Sound s₀ s) : Sound s₀ (s.expireFreeze) := h.endFreeze.setFlag.alert.same

theorem SoundOut.execFreezeExpiry (h : Sound s₀ s) {t : Nat} : SoundOut s₀ (execFreezeExpiry t s) := .finish (.ite h.at.expireFreeze h.at)

theorem SoundOut.execBbRebuildDone (h : Sound s₀ s) {t : Nat} : SoundOut s₀ (execBbRebuildDone t s) := .finish (.ite h.at.rebuildBox h.at)

/-! ### Machine/Feeds.lean -/

theorem Sound.measureAt (h : Sound s₀ s) {c a : Nat} {q : Rat} : Sound s₀ (s.measureAt c a q) := .onlyIf h.measure (fun _ h => h.sts)

theorem Sound.measurePU (h : Sound s₀ s) {c k : Nat} {q : Rat} : Sound s₀ (s.measurePU c k q) := h.measureAt

theorem Sound.measureTAt (h : Sound s₀ s) {c a : Nat} {kelvin : Rat} : Sound s₀ (s.measureTAt c a kelvin) := .onlyIf h.measure (fun _ h => h.sts)

theorem Sound.measureT (h : Sound s₀ s) {c k : Nat} {kelvin : Rat} : Sound s₀ (s.measureT c k kelvin) := h.measureTAt

theorem Sound.principal (h : Sound s₀ s) {c : Nat} {volts amps : Rat} : Sound s₀ (s.principal c volts amps) := h.measurePU.measurePU.measurePU

theorem Sound.setQualified (h : Sound s₀ s) {c : Nat} {b : Bool} : Sound s₀ (s.setQualified c b) := h.same

theorem Sound.showOpen (h : Sound s₀ s) {c : Nat} : Sound s₀ (s.showOpen c) := .ite h.setCode h

theorem Sound.trackFeed (h : Sound s₀ s) {c : Nat} : Sound s₀ (s.trackFeed c) := .ite (.ite h.stop h.startOnce) (.showOpen (.ite h.startOnce h.stop))

theorem Sound.frameFeed (h : Sound s₀ s) {r : CtxRec} {g : GateIn} : Sound s₀ (s.frameFeed r g) := .ite (.trackFeed (.qualify (.ite h.principal.measurePU.setFlag h.principal.measurePU))) (.qualify (.ite h.principal.measurePU.setFlag h.principal.measurePU))

theorem Sound.setChange (h : Sound s₀ s) {ch : Option Change} : Sound s₀ (s.setChange ch) := h.setFlag.same

theorem Sound.feedClosed (h : Sound s₀ s) {c : Nat} : Sound s₀ (s.feedClosed c) := by
  dsimp only [State.feedClosed]
  split
  · exact h.setCode.sts.setFld.inc.stop.setChange
  · exact h

theorem Sound.closeTarget (h : Sound s₀ s) {ch : Change} {c : Nat} : Sound s₀ (s.closeTarget ch c) := by
  dsimp only [State.closeTarget]
  split
  · exact .ite h.setFld.setChange (.ite h.startOnce.setChange h.gateSource.setCode.start.setChange)
  · exact h.setChange

theorem Sound.noFeed (h : Sound s₀ s) : Sound s₀ (s.noFeed) := h.setFlag.setChange

theorem Sound.nextCandidate (h : Sound s₀ s) {ch : Change} {failed : Nat} : Sound s₀ (s.nextCandidate ch failed) := by
  dsimp only [State.nextCandidate]
  split
  · exact .setChange (.onlyIf h (fun _ h => h.start))
  · exact h.noFeed

theorem Sound.openFeed (h : Sound s₀ s) {c code : Nat} : Sound s₀ (s.openFeed c code) := .ite h.gateDownOf.setCode.setFld h.gateDownOf.setCode

theorem Sound.startChange (h : Sound s₀ s) {forced : Bool} {old : Nat} {target : Option Nat} : Sound s₀ (s.startChange forced old target) := .ite (.start (.setChange (.ite (.openFeed (.ite h.setFlag.laneRaise h)) (.setFld (.ite h.setFlag.laneRaise h))))) (.setChange (.ite (.openFeed (.ite h.setFlag.laneRaise h)) (.setFld (.ite h.setFlag.laneRaise h))))

theorem Sound.latchFeed (h : Sound s₀ s) {c site : Nat} {lane : Bool} : Sound s₀ (s.latchFeed c site lane) := .ite (.laneRaise (.stop (.ite (.setQualified (.sts (.ite h.openFeed h.gateDownOf.setCode))) (.sts (.ite h.openFeed h.gateDownOf.setCode))))) (.coreRaise (.stop (.ite (.setQualified (.sts (.ite h.openFeed h.gateDownOf.setCode))) (.sts (.ite h.openFeed h.gateDownOf.setCode)))))

theorem Sound.loseQualification (h : Sound s₀ s) {c : Nat} : Sound s₀ (s.loseQualification c) := by
  dsimp only [State.loseQualification]
  split
  · split
    · split
      · exact .ite (.setChange (.stop (.openFeed (.onlyIf h.setQualified.stop.stop.sts (fun _ h => h.stop))))) (.nextCandidate (.stop (.openFeed (.onlyIf h.setQualified.stop.stop.sts (fun _ h => h.stop)))))
      · split
        · exact .setChange (.stop (.onlyIf h.setQualified.stop.stop.sts (fun _ h => h.stop)))
        · split <;> exact .setChange (.onlyIf h.setQualified.stop.stop.sts (fun _ h => h.stop))
    · exact .showOpen (.onlyIf h.setQualified.stop.stop.sts (fun _ h => h.stop))
  · exact .showOpen (.onlyIf h.setQualified.stop.stop.sts (fun _ h => h.stop))

theorem Sound.forcedChange (h : Sound s₀ s) {f : Nat} : Sound s₀ (s.forcedChange f) := .startChange (.ite h.loseQualification h)

theorem Sound.feedSelect (h : Sound s₀ s) : Sound s₀ (s.feedSelect) := by
  unfold State.feedSelect
  split
  · split
    · exact .ite h.feedClosed (.ite h.stop.nextCandidate h)
    · exact h
  · split
    · split
      · exact h.forcedChange
      · split
        · exact .ite (.ite h.startChange h.setFlag) h
        · exact h
    · split
      · exact h.closeTarget
      · split
        · split
          · exact h.closeTarget
          · exact h
        · exact h

theorem Sound.feedEnable (h : Sound s₀ s) {c : Nat} {was : Bool} : Sound s₀ (s.feedEnable c was) := by
  unfold State.feedEnable
  extract_lets s1 s2 s3
  have h1 : Sound s₀ s1 := .setQualified (.ite h.loseQualification h)
  have h2 : Sound s₀ s2 := .ite h1.forcedChange (.ite h1.openFeed h1)
  have h3 : Sound s₀ s3 := .ite h2.setCode h2
  exact .ite (.ite h.setSafe h) h3.stop.showOpen

theorem SoundOut.execFeedQualified (h : Sound s₀ s) {c t : Nat} : SoundOut s₀ (execFeedQualified c t s) := .finish (.ite h.at.setQualified.stop.showOpen h.at)

theorem SoundOut.execFeedQualificationLost (h : Sound s₀ s) {c t : Nat} : SoundOut s₀ (execFeedQualificationLost c t s) := .finish (.ite h.at.loseQualification h.at)

theorem SoundOut.execFeedOldGateOff (h : Sound s₀ s) {t : Nat} : SoundOut s₀ (execFeedOldGateOff t s) := by
  unfold Machine.execFeedOldGateOff
  extract_lets s
  have h' : Sound s₀ s := h.at
  refine .finish ?_
  split
  · refine .ite ?_ h'
    extract_lets s1
    have h1 : Sound s₀ s1 := by
      unfold s1
      split
      · exact .stop (.ite h'.setCode h')
      · exact h'
    exact .ite h1.noFeed h1.start.setChange
  · exact h'

theorem SoundOut.execFeedSlowOff (h : Sound s₀ s) {t : Nat} : SoundOut s₀ (execFeedSlowOff t s) := .finish (.ite (.forEach h.at (fun _ _ h => .ite h.setFlag.sts.stop.laneRaise.setChange h.setFlag.sts.stop.laneRaise)) h.at)

theorem SoundOut.execFeedDeadTimeEnd (h : Sound s₀ s) {t : Nat} : SoundOut s₀ (execFeedDeadTimeEnd t s) := by
  dsimp only [Machine.execFeedDeadTimeEnd]
  refine .finish ?_
  split
  · split
    · split
      · split
        · exact h.at.stop.closeTarget
        · split
          · exact h.at.stop.closeTarget
          · exact h.at.stop.noFeed
      · exact h.at.stop.noFeed
    · exact h.at
  · exact h.at

theorem SoundOut.execFeedSlowOn (h : Sound s₀ s) {t : Nat} : SoundOut s₀ (execFeedSlowOn t s) := by
  dsimp only [Machine.execFeedSlowOn]
  refine .finish ?_
  split
  · split
    · exact .ite h.at.feedClosed h.at.stop.sts.latchFeed.nextCandidate
    · exact h.at
  · exact h.at

theorem SoundOut.execIdealDiodeTurnOn (h : Sound s₀ s) {c t : Nat} : SoundOut s₀ (execIdealDiodeTurnOn c t s) := by
  dsimp only [Machine.execIdealDiodeTurnOn]
  refine .finish ?_
  split
  · exact .ite h.at.gateSource.setCode.sts h.at
  · exact h.at

/-! ### Machine/Branches.lean -/

theorem Sound.frameBranch (h : Sound s₀ s) {r : CtxRec} {g : GateIn} : Sound s₀ (s.frameBranch r g) := h.principal.measurePU.setC.qualify.qualify.setFlag.setFlag

theorem Sound.fosterTick (h : Sound s₀ s) {r : CtxRec} : Sound s₀ (s.fosterTick r) := h.same.measureT

theorem Sound.recordAttempt (h : Sound s₀ s) {r : CtxRec} : Sound s₀ (s.recordAttempt r) := h.setC

theorem Sound.failBranch (h : Sound s₀ s) {r : CtxRec} : Sound s₀ (s.failBranch r) := .ite h.gateDown.recordAttempt.clearLive.clearCount.clearCount.setCode.inc.startAt.stsOffer h.gateDown.recordAttempt.clearLive.clearCount.clearCount.setCode.sts.applySafe.laneRaise

theorem Sound.flagCauses (h : Sound s₀ s) {r : CtxRec} {statusBit : Nat} : Sound s₀ (s.flagCauses r statusBit) := .onlyIf (.onlyIf (.onlyIf h.sts (fun _ h => h.sts)) (fun _ h => h.sts)) (fun _ h => h.sts)

theorem Sound.attemptFails (h : Sound s₀ s) {r : CtxRec} {statusBit : Nat} : Sound s₀ (s.attemptFails r statusBit) := h.flagCauses.gateDown

theorem Sound.brInrush (h : Sound s₀ s) {r : CtxRec} : Sound s₀ (s.brInrush r) := h.gateSource.setCode.stop

theorem Sound.brTurnOn (h : Sound s₀ s) {r : CtxRec} : Sound s₀ (s.brTurnOn r) := .ite h.setC.setSafe.brInrush h.setC.setSafe.setCode.start

theorem Sound.brTurnOff (h : Sound s₀ s) {r : CtxRec} : Sound s₀ (s.brTurnOff r) := h.gateDown.clearLive.setCode.stop.setC

theorem Sound.enterFailed (h : Sound s₀ s) {r : CtxRec} : Sound s₀ (s.enterFailed r) := .ite (.ite h.failBranch h.brTurnOff) h

theorem SoundOut.execBranchEnable (h : Sound s₀ s) {c t : Nat} : SoundOut s₀ (execBranchEnable c t s) := by
  dsimp only [Machine.execBranchEnable]
  refine .finish ?_
  split
  · exact .ite h.at.brTurnOn h.at
  · exact h.at

theorem SoundOut.execBranchDisable (h : Sound s₀ s) {c t : Nat} : SoundOut s₀ (execBranchDisable c t s) := by
  dsimp only [Machine.execBranchDisable]
  refine .finish ?_
  split
  · exact .ite h.at.brTurnOff h.at
  · exact h.at

theorem SoundOut.execBranchPowerGood (h : Sound s₀ s) {c t : Nat} : SoundOut s₀ (execBranchPowerGood c t s) := by
  dsimp only [Machine.execBranchPowerGood]
  refine .finish ?_
  split
  · exact .ite (.ite h.at.setFlag.start.setCode.recordAttempt.stop h.at.setFlag.start) h.at
  · exact h.at

theorem Sound.pgDrop (h : Sound s₀ s) {r : CtxRec} : Sound s₀ (s.pgDrop r) := .ite h.setFlag.stop.stsOffer h.setFlag.stop

theorem SoundOut.execBranchPowerGoodDrop (h : Sound s₀ s) {c t : Nat} : SoundOut s₀ (execBranchPowerGoodDrop c t s) := by
  dsimp only [Machine.execBranchPowerGoodDrop]
  refine .finish ?_
  split
  · exact .ite h.at.pgDrop h.at
  · exact h.at

theorem SoundOut.execBranchLimitStart (h : Sound s₀ s) {c t : Nat} : SoundOut s₀ (execBranchLimitStart c t s) := by
  dsimp only [Machine.execBranchLimitStart]
  refine .finish ?_
  split
  · exact .ite h.at.setCode.setFld.startOnce.sts h.at
  · exact h.at

theorem SoundOut.execBranchLimitEnd (h : Sound s₀ s) {c t : Nat} : SoundOut s₀ (execBranchLimitEnd c t s) := by
  dsimp only [Machine.execBranchLimitEnd]
  refine .finish ?_
  split
  · exact .ite h.at.setCode.setFld.stop h.at
  · exact h.at

theorem SoundOut.execBranchOvertemp (h : Sound s₀ s) {c t : Nat} : SoundOut s₀ (execBranchOvertemp c t s) := by
  dsimp only [Machine.execBranchOvertemp]
  refine .finish ?_
  split
  · exact .ite h.at (.ite h.at.attemptFails (.ite h.at.sts h.at))
  · exact h.at

theorem SoundOut.execBranchCooldownEnd (h : Sound s₀ s) {c t : Nat} : SoundOut s₀ (execBranchCooldownEnd c t s) := by
  dsimp only [Machine.execBranchCooldownEnd]
  refine .finish ?_
  split
  · exact .ite h.at.brInrush.setC h.at
  · exact h.at

theorem SoundOut.execBrCoolremUpdate (h : Sound s₀ s) {c t : Nat} : SoundOut s₀ (execBrCoolremUpdate c t s) := by
  dsimp only [Machine.execBrCoolremUpdate]
  refine .finish ?_
  split
  · exact h.at.setC
  · exact h.at

theorem SoundOut.execBranchRetrycntClear (h : Sound s₀ s) {c t : Nat} : SoundOut s₀ (execBranchRetrycntClear c t s) := .finish (.ite h.at.setC h.at)

/-! ### Machine/PowerWords.lean -/

theorem Sound.allowance (h : Sound s₀ s) {w : Word} : Sound s₀ (s.allowance w) := h.measure.measurePU.measurePU

theorem Sound.showSupplement (h : Sound s₀ s) : Sound s₀ (s.showSupplement) := h.setFlag

theorem Sound.supplementResult (h : Sound s₀ s) {g : Nat} {w : Word} : Sound s₀ (s.supplementResult g w) := .ite h.same.showSupplement.stsOffer h.same.showSupplement

theorem Sound.throttleResult (h : Sound s₀ s) {g k : Nat} {w : Word} : Sound s₀ (s.throttleResult g k w) := .ite (.throttle (.ite h.same.setFlag.sts h.same.setFlag)) (.ite h.same.setFlag.sts h.same.setFlag)

theorem Sound.hardCause (h : Sound s₀ s) : Sound s₀ (s.hardCause) := by
  dsimp only [State.hardCause]
  split
  · exact h
  · exact .ite (.ite h.setFlag h) (.ite (.ite (.forEach h.setFlag.stsOffer (fun _ _ h => h.throttle)) h.setFlag.stsOffer) h)

theorem Sound.latchHard (h : Sound s₀ s) : Sound s₀ (s.latchHard) := h.same

theorem Sound.throttleFollow (h : Sound s₀ s) : Sound s₀ (s.throttleFollow) := .forEach h (fun _ _ h => .ite (.onlyIf h.throttle (fun _ h => h.sts)) (.ite h.startOnce h))

/-! ### Machine/Fabric.lean -/

theorem Sound.takeShadow (h : Sound s₀ s) {n : Nat} : Sound s₀ (s.takeShadow n) := by
  dsimp only [State.takeShadow]
  split
  · exact .ite h.same h
  · exact h

theorem Sound.setValid (h : Sound s₀ s) {n : Nat} {b : Bool} : Sound s₀ (s.setValid n b) := h.setFlag

theorem Sound.evalSlot (h : Sound s₀ s) {im : Image} {r : SlotRec} {period : Rat} : Sound s₀ (s.evalSlot im r period).1 := by
  have hm {b : Bool} {a : Nat} : Sound s₀ (if b = true then s.setFlag a 6 true else s) := .ite h.setFlag h
  dsimp only [State.evalSlot]
  split
  · exact h.setValid.setSlot
  · split
    · exact hm
    · split
      · exact hm.setValid.setSlot
      · exact hm.takeShadow.setS.setS.setValid

theorem Sound.commitSlot (h : Sound s₀ s) {p : Pend} {o : Int} {track : Bool} : Sound s₀ (s.commitSlot p o track) := .ite (.setFlag (.ite h.setSlot.setS.setFlag.setFlag.setFlag h.setSlot.setS.setFlag.setFlag)) (.ite h.setSlot.setS.setFlag.setFlag.setFlag h.setSlot.setS.setFlag.setFlag)

theorem Sound.applyTarget (h : Sound s₀ s) {r : GroupRec} {w : Word} : Sound s₀ (s.applyTarget r w) := by
  unfold State.applyTarget
  split
  · split
    · exact .ite h h.setC
    · exact h
  · exact .ite h h.same.drivePin
  · split
    · exact .ite h h.setC
    · exact h
  · exact .ite h.allowance h.supplementResult
  · exact h.throttleResult
  · exact h

theorem Sound.showGovernor (h : Sound s₀ s) {im : Image} {g : Nat} : Sound s₀ (s.showGovernor im g) := .ite (.forEach h (fun _ _ h => h.setC)) h

theorem Sound.formGroup (h : Sound s₀ s) {im : Image} {r : GroupRec} : Sound s₀ (s.formGroup im r) := by
  dsimp only [State.formGroup]
  split
  · exact .applyTarget (.same (.forEach h.setReg.setReg (fun _ _ h => h.setFlag)))
  · exact h.setReg.setReg.showGovernor.applyTarget

theorem Sound.countWin (h : Sound s₀ s) {g : Nat} : Sound s₀ (s.countWin g) := .ite h h.same

theorem Sound.holdStale (h : Sound s₀ s) {mine : List Pend} {outs : List (Nat × Int)} : Sound s₀ (s.holdStale mine outs) := .forEach h (fun _ _ h => h.setS)

theorem Sound.finishGroup (h : Sound s₀ s) {im : Image} {r : GroupRec} {ps : List Pend} {last : Bool} : Sound s₀ (s.finishGroup im r ps last) := by
  dsimp only [State.finishGroup]
  refine .onlyIf (.formGroup ?_) (fun _ h => h.countWin)
  split
  · exact .ite h.same h
  · exact .onlyIf (.forEach (.ite h.same h) (fun _ _ h => h.commitSlot)) (fun _ h => h.holdStale)

theorem Sound.startTargets (h : Sound s₀ s) {im : Image} {is : GroupRec → Bool} : Sound s₀ (s.startTargets im is) := .forEach h (fun _ _ h => h.applyTarget)

theorem Sound.governor (h : Sound s₀ s) {im : Image} {g : Nat} : Sound s₀ (s.governor im g) := by
  dsimp only [State.governor]
  split
  · exact h
  · exact .ite h (.offerRec (.forEach (.forEach h.setReg (fun _ _ h => h.setFlag)) (fun _ _ h => h.setC.sts)))

theorem Sound.evalList (h : Sound s₀ s) {im : Image} {fast : Bool} {period : Rat} {l : List SlotRec} {ps : List Pend} : Sound s₀ (State.evalList im fast period l s ps) := by
  induction l generalizing s ps with
  | nil => exact h
  | cons r rest ih =>
    unfold State.evalList
    split
    · exact ih (.onlyIf h.evalSlot (fun _ h => h.finishGroup))
    · exact ih h.evalSlot

theorem Sound.evalFast (h : Sound s₀ s) {im : Image} {inst : Nat} : Sound s₀ (s.evalFast im inst) := h.evalList

theorem Sound.evalShelf (h : Sound s₀ s) {im : Image} : Sound s₀ (s.evalShelf im) := h.evalList

theorem Sound.markLate (h : Sound s₀ s) {n : Nat} : Sound s₀ (s.markLate n) := h.setFlag.inc

theorem Sound.overruns (h : Sound s₀ s) {im : Image} {l : List SlotRec} : Sound s₀ (s.overruns im l) := .forEach h (fun _ _ h => h.markLate.laneRaise)

theorem Sound.restartRamp (h : Sound s₀ s) {n : Nat} : Sound s₀ (s.restartRamp n) := h.setSlot

theorem Sound.putSet (h : Sound s₀ s) {n : Nat} {w : Word} : Sound s₀ (s.putSet n w) := .ite h.setS.markClamped.restartRamp h.setS.markClamped

theorem Sound.slotOn (h : Sound s₀ s) {n : Nat} : Sound s₀ (s.slotOn n) := h.setSlot.restartRamp

theorem Sound.primaryReturn (h : Sound s₀ s) {im : Image} {r : CtxRec} : Sound s₀ (s.primaryReturn im r) := by
  dsimp only [State.primaryReturn]
  split
  · exact h.setHeld.followMode.start.setC
  · exact h.setHeld.followMode.start

theorem SoundOut.execSampleInstant (h : Sound s₀ s) {c : Nat} {v i : Int} {late : List Nat} {t : Nat} : SoundOut s₀ (execSampleInstant c v i late t s) := by
  dsimp only [Machine.execSampleInstant]
  refine .finish ?_
  split
  · split
    · exact .overruns (.ite (.primaryReturn (.evalFast (.onlyIf h.at.principal (fun _ h => h.sts)))) (.evalFast (.onlyIf h.at.principal (fun _ h => h.sts))))
    · exact .onlyIf h.at.principal (fun _ h => h.sts)
  · exact h.at

theorem SoundOut.execGovernorChange (h : Sound s₀ s) {g t : Nat} : SoundOut s₀ (execGovernorChange g t s) := by
  dsimp only [Machine.execGovernorChange]
  refine .finish ?_
  split
  · exact h.at.governor
  · exact h.at

theorem SoundOut.execSlotEnable (h : Sound s₀ s) {slot t : Nat} : SoundOut s₀ (execSlotEnable slot t s) := .finish (.ite h.at.slotOn h.at)

/-! ### Machine/Groups.lean -/

theorem Sound.softStart (h : Sound s₀ s) {r : CtxRec} {again : Bool} : Sound s₀ (s.softStart r again) := .stop (.clearCount (.clearCount (.start (.setCode (.ite (.forEach (.setGrp (.allPhases (.ite h h.setC))) (fun _ _ h => h.restartRamp)) (.drivePin (.forEach (.setGrp (.allPhases (.ite h h.setC))) (fun _ _ h => h.restartRamp))))))))

theorem Sound.groupOn (h : Sound s₀ s) {r : CtxRec} : Sound s₀ (s.groupOn r) := h.setSafe.softStart

theorem Sound.groupRuns (h : Sound s₀ s) {r : CtxRec} : Sound s₀ (s.groupRuns r) := h.setCode.stop.start

theorem Sound.frameGroup (h : Sound s₀ s) {r : CtxRec} {vout : Int} {phase : List Int} : Sound s₀ (s.frameGroup r vout phase) := .setGrp (.forEach h.setGrp.qualify.qualify (fun _ _ h => .onlyIf h.measureAt (fun _ h => h.sts)))

theorem Sound.recall (h : Sound s₀ s) {r : CtxRec} : Sound s₀ (s.recall r) := h.allPhases.stsWrite.inc.start

theorem Sound.shedDone (h : Sound s₀ s) {r : CtxRec} : Sound s₀ (s.shedDone r) := by
  unfold State.shedDone
  split
  · exact h.phaseStop.setGrp.countActive.start
  · exact h

theorem Sound.frameRecall (h : Sound s₀ s) {r : CtxRec} {current : Int} : Sound s₀ (s.frameRecall r current) := .ite h (.ite h.recall h.shedDone)

theorem Sound.hollowRecall (h : Sound s₀ s) {r : CtxRec} {depth : Int} : Sound s₀ (s.hollowRecall r depth) := .ite h.recall h

theorem Sound.addPhase (h : Sound s₀ s) {r : CtxRec} : Sound s₀ (s.addPhase r) := by
  dsimp only [State.addPhase]
  refine .start (.newBlock ?_)
  split
  · exact h.setFlag.setGrp
  · split
    · exact h.setGrp
    · exact h

theorem Sound.shedPhase (h : Sound s₀ s) {r : CtxRec} : Sound s₀ (s.shedPhase r) := by
  unfold State.shedPhase
  split
  · exact h.setFlag.setGrp.newBlock
  · exact h

theorem Sound.shedTick (h : Sound s₀ s) {r : CtxRec} {current : Rat} : Sound s₀ (s.shedTick r current) := .ite h (.ite (.ite h.addPhase h) (.ite h.addPhase (.ite h.shedPhase h)))

theorem Sound.dropSync (h : Sound s₀ s) {c : Nat} : Sound s₀ (s.dropSync c) := .ite h h.setGrp

theorem Sound.freqTick (h : Sound s₀ s) {r : CtxRec} : Sound s₀ (s.freqTick r) := .ite h.dropSync.measure h.dropSync.setGrp.measure

theorem Sound.balanceTick (h : Sound s₀ s) {r : CtxRec} : Sound s₀ (s.balanceTick r) := .ite h h.setGrp

theorem Sound.groupWarn (h : Sound s₀ s) {r : CtxRec} : Sound s₀ (s.groupWarn r) := h.stsOffer

theorem Sound.groupThermal (h : Sound s₀ s) {r : CtxRec} : Sound s₀ (s.groupThermal r) := .ite h.groupStop.setCode.setHeld.sts h

theorem Sound.toFallback (h : Sound s₀ s) : Sound s₀ (s.toFallback) := .forEach h (fun _ _ h => .ite h.allPhases.setGrp.setHeld.sts h)

theorem Sound.cutStop (h : Sound s₀ s) {r : CtxRec} : Sound s₀ (s.cutStop r) := by
  unfold State.cutStop
  extract_lets s1
  have h1 : Sound s₀ s1 := h.groupStop.setFlag.setGrp.setHeld
  exact h1.same

theorem Sound.cutCheck (h : Sound s₀ s) {r : CtxRec} : Sound s₀ (s.cutCheck r) := .ite h.cutStop h

theorem Sound.groupCoreTick (h : Sound s₀ s) {r : CtxRec} : Sound s₀ (s.groupCoreTick r) := h.freqTick

theorem Sound.groupTick (h : Sound s₀ s) {r : CtxRec} : Sound s₀ (s.groupTick r) := .shedTick (.balanceTick (.ite (.softStart (.ite h.setGrp.setCode h.setGrp)) (.ite h.setGrp.setCode h.setGrp)))

theorem SoundOut.execGroupEnable (h : Sound s₀ s) {c t : Nat} : SoundOut s₀ (execGroupEnable c t s) := by
  dsimp only [Machine.execGroupEnable]
  refine .finish ?_
  split
  · exact .ite h.at.groupOn h.at
  · exact h.at

theorem SoundOut.execGroupDisable (h : Sound s₀ s) {c t : Nat} : SoundOut s₀ (execGroupDisable c t s) := by
  dsimp only [Machine.execGroupDisable]
  refine .finish ?_
  split
  · exact .ite h.at.groupTo h.at
  · exact h.at

theorem SoundOut.execGroupPowerGood (h : Sound s₀ s) {c t : Nat} : SoundOut s₀ (execGroupPowerGood c t s) := by
  dsimp only [Machine.execGroupPowerGood]
  refine .finish ?_
  split
  · exact .ite (.ite h.at.setGrp.startOnce.groupRuns h.at.setGrp.startOnce) h.at
  · exact h.at

theorem SoundOut.execGroupPowerGoodLost (h : Sound s₀ s) {c t : Nat} : SoundOut s₀ (execGroupPowerGoodLost c t s) := .finish (.ite (.ite h.at.stop (.ite h.at.stop.setGrp.sts.laneRaise h.at.stop.setGrp)) h.at)

theorem SoundOut.execSoftStartTimeout (h : Sound s₀ s) {c t : Nat} : SoundOut s₀ (execSoftStartTimeout c t s) := by
  dsimp only [Machine.execSoftStartTimeout]
  refine .finish ?_
  split
  · exact .ite (.ite h.at.groupStop.setCode.inc.start.stsOffer (.laneRaise (.ite h.at.applySafe h.at.applySafe.groupTo.sts))) h.at
  · exact h.at

theorem SoundOut.execHiccupEnd (h : Sound s₀ s) {c t : Nat} : SoundOut s₀ (execHiccupEnd c t s) := by
  dsimp only [Machine.execHiccupEnd]
  refine .finish ?_
  split
  · exact .ite h.at.softStart h.at
  · exact h.at

theorem SoundOut.execGroupRetrycntClear (h : Sound s₀ s) {c t : Nat} : SoundOut s₀ (execGroupRetrycntClear c t s) := .finish (.ite h.at.setC h.at)

theorem SoundOut.execPhaseTrip (h : Sound s₀ s) {ph : Nat} {nv : Int} {t : Nat} : SoundOut s₀ (execPhaseTrip ph nv t s) := by
  dsimp only [Machine.execPhaseTrip]
  refine .finish ?_
  split
  · exact .ite h.at.setPhase.setFlag.sts h.at
  · exact h.at

theorem SoundOut.execPhaseTripRepeat (h : Sound s₀ s) {ph t : Nat} : SoundOut s₀ (execPhaseTripRepeat ph t s) := by
  dsimp only [Machine.execPhaseTripRepeat]
  refine .finish ?_
  split
  · exact .ite h.at.setPhase.coreRaise h.at
  · exact h.at

theorem Sound.placePhases (h : Sound s₀ s) {r : CtxRec} {starting : List Nat} {command : Rat} : Sound s₀ (s.placePhases r starting command) := .forEach h (fun _ _ h => h.setPhase)

theorem SoundOut.execSwitchingPeriod (h : Sound s₀ s) {c : Nat} {av ai : Int} {t : Nat} : SoundOut s₀ (execSwitchingPeriod c av ai t s) := by
  dsimp only [Machine.execSwitchingPeriod]
  refine .finish ?_
  split
  · exact .ite h.at (.cutCheck (.placePhases (.setGrp (.countActive (.forEach (.forEach h.at (fun _ _ h => h.setPhase)) (fun _ _ h => h.phaseStart))))))
  · exact h.at

theorem SoundOut.execPhaseImbalanceBlockEnd (h : Sound s₀ s) {c t : Nat} : SoundOut s₀ (execPhaseImbalanceBlockEnd c t s) := .finish (.ite (.ite h.at.newBlock (.stsOffer (.forEach h.at.newBlock (fun _ _ h => h.setFlag)))) h.at)

theorem SoundOut.execSyncAcquire (h : Sound s₀ s) {c hz t : Nat} : SoundOut s₀ (execSyncAcquire c hz t s) := .finish (.ite h.at.setGrp h.at)

theorem SoundOut.execSyncAligned (h : Sound s₀ s) {c t : Nat} : SoundOut s₀ (execSyncAligned c t s) := .finish (.ite h.at.setGrp.sts h.at)

theorem SoundOut.execSyncLoss (h : Sound s₀ s) {c t : Nat} : SoundOut s₀ (execSyncLoss c t s) := .finish (.ite h.at.setGrp.stsOffer h.at)

theorem SoundOut.execShedTransitionEnd (h : Sound s₀ s) {c t : Nat} : SoundOut s₀ (execShedTransitionEnd c t s) := by
  dsimp only [Machine.execShedTransitionEnd]
  refine .finish ?_
  split
  · exact .ite h.at.setGrp h.at
  · exact h.at

theorem Sound.writeFsw (h : Sound s₀ s) {c : Nat} {w : Word} : Sound s₀ (s.writeFsw c w) := h.store

/-! ### Machine/Estimate.lean -/

theorem Sound.setStr (h : Sound s₀ s) {c : Nat} {f : StringVar → StringVar} : Sound s₀ (s.setStr c f) := h.same

theorem Sound.showNet (h : Sound s₀ s) {c : Nat} {net : Rat} : Sound s₀ (s.showNet c net) :=
  .foldl h.setWide (fun _ _ h => h.of_formed (fun ⟨hr, hc, hu, ht⟩ => ⟨hr, hc, assign_canonical hu, ht⟩) rfl)

theorem Sound.countCharge (h : Sound s₀ s) {c : Nat} {sense : Int} : Sound s₀ (s.countCharge c sense) := by
  unfold State.countCharge
  exact (h.same (m := { s with coulomb := _ })).showNet

theorem Sound.sampleString (h : Sound s₀ s) {c : Nat} {last : Bool} : Sound s₀ (s.sampleString c last) := h.setStr

theorem Sound.noteCommitted (h : Sound s₀ s) : Sound s₀ (s.noteCommitted) := .forEach h (fun _ _ h => h.setStr)

theorem Sound.lrnRequest (h : Sound s₀ s) : Sound s₀ (s.lrnRequest) := .ite h.noteCommitted.setFlag.same h.noteCommitted.setFlag.same

theorem Sound.lrnStart (h : Sound s₀ s) : Sound s₀ (s.lrnStart) := by
  dsimp only [State.lrnStart]
  split
  · exact h.same
  · exact h

theorem Sound.lrnDurable (h : Sound s₀ s) : Sound s₀ (s.lrnDurable) := by
  dsimp only [State.lrnDurable]
  split
  · exact h
  · exact h.writeMram

theorem Sound.lrnFinish (h : Sound s₀ s) : Sound s₀ (s.lrnFinish) := by
  dsimp only [State.lrnFinish]
  split
  · exact h
  · exact h.lrnDurable.setFlag.setFlag.setReg.inc.same.lrnStart.setFlag

theorem Sound.publish (h : Sound s₀ s) {c : Nat} {soc idlim : Rat} : Sound s₀ (s.publish c soc idlim) := h.measure.measure.measure.measure

theorem Sound.disarm (h : Sound s₀ s) {c : Nat} : Sound s₀ (s.disarm c) := h.setFlag

theorem Sound.anchor (h : Sound s₀ s) {c kind : Nat} {soc unc : Rat} : Sound s₀ (s.anchor c kind soc unc) := h.setStr.setFld.measure.measure.stsOffer.lrnRequest

theorem Sound.anchorFull (h : Sound s₀ s) {c : Nat} : Sound s₀ (s.anchorFull c) := .anchor (.ite h.setFlag.setStr h)

theorem Sound.learn (h : Sound s₀ s) {c : Nat} : Sound s₀ (s.learn c) := by
  dsimp only [State.learn]
  split
  · exact .ite h.disarm.setStr.setC.setFld.setStr.stsOffer.lrnRequest h.disarm.setStr.laneRaise
  · exact h.setStr

theorem Sound.anchorEmpty (h : Sound s₀ s) {r : CtxRec} {before : Option Rat} : Sound s₀ (s.anchorEmpty r before) := h.setStr.anchor.setC

theorem Sound.anchorRest (h : Sound s₀ s) {c : Nat} {soc uocv : Rat} : Sound s₀ (s.anchorRest c soc uocv) := h.anchor

theorem Sound.estimate (h : Sound s₀ s) {r : CtxRec} : Sound s₀ (s.estimate r) := by
  unfold State.estimate
  extract_lets c v acc qcap dq soc0 late secs i soc unc z show_ lim ret s1 s2 s3 quiet s4 cut s5 s6
  refine .ite h.setStr ?_
  have h2 : Sound s₀ s2 := h.setStr.publish
  have h3 : Sound s₀ s3 := .ite h2.disarm h2
  have h4 : Sound s₀ s4 := .ite h3.startOnce h3.stop.setFlag
  have h5 : Sound s₀ s5 := h4.onlyIf (fun _ h => h.anchorEmpty)
  have h6 : Sound s₀ s6 := h5.setStr.learn
  exact .ite h6.setStr.laneRaise h6

theorem Sound.unlearned (h : Sound s₀ s) {c : Nat} : Sound s₀ (s.unlearned c) := h.setC.setC.setC.setStr

theorem Sound.fromRecord (h : Sound s₀ s) {r : CtxRec} {bs : List Byte} : Sound s₀ (s.fromRecord r bs) := .ite h.unlearned h.setC.setC.setStr.setC.setC

theorem Sound.fromMigrated (h : Sound s₀ s) {r : CtxRec} {named : List (Nat × Word)} : Sound s₀ (s.fromMigrated r named) := .ite h.unlearned (.onlyIf (.onlyIf h.fromRecord (fun _ h => h.setStr)) (fun _ h => h.setC.setStr))

theorem Sound.coldLearned (h : Sound s₀ s) {im : Image} {r : CtxRec} {ratio : Nat → Nat → Nat → Rat} : Sound s₀ (s.coldLearned im r ratio) := by
  dsimp only [State.coldLearned]
  split
  · exact .ite h.fromRecord h.fromMigrated
  · exact h.unlearned

theorem Sound.estimatorStart (h : Sound s₀ s) {im : Image} {ratio : Nat → Nat → Nat → Rat} : Sound s₀ (s.estimatorStart im ratio) := by
  dsimp only [State.estimatorStart]
  split
  · refine .forEach ?_ (fun _ _ h => h.coldLearned)
    split
    · exact h.setFlag.setFlag.setFlag.setReg
    · exact h.setFlag.setFlag
  · refine .laneRaise (.setFlag (.forEach ?_ (fun _ _ h => h.coldLearned)))
    split
    · exact h.setFlag.setFlag.setFlag.setReg
    · exact h.setFlag.setFlag

theorem SoundOut.execEstimatorEvaluation (h : Sound s₀ s) {t : Nat} : SoundOut s₀ (execEstimatorEvaluation t s) := .finish (.ite (.forEach h.at (fun _ _ h => h.estimate)) h.at)

theorem SoundOut.execRestCorrection (h : Sound s₀ s) {c t : Nat} : SoundOut s₀ (execRestCorrection c t s) := by
  dsimp only [Machine.execRestCorrection]
  refine .finish ?_
  split
  · exact .ite h.at.setFlag.start.anchorRest h.at.setFlag.start
  · exact h.at

theorem Sound.qclr (h : Sound s₀ s) {c : Nat} : Sound s₀ (s.qclr c) := h.same.showNet

theorem Sound.relearn (h : Sound s₀ s) {c : Nat} : Sound s₀ (s.relearn c) := h.setC.setFld

theorem SoundOut.execLearnedCommitPeriodic (h : Sound s₀ s) {t : Nat} : SoundOut s₀ (execLearnedCommitPeriodic t s) := .finish (.ite (.start (.ite h.at.lrnRequest h.at)) h.at)

theorem SoundOut.execLearnedCommitDone (h : Sound s₀ s) {t : Nat} : SoundOut s₀ (execLearnedCommitDone t s) := .finish h.at.lrnFinish

/-! ### Machine/Strings.lean -/

theorem Sound.clearCut (h : Sound s₀ s) {c : Nat} : Sound s₀ (s.clearCut c) := .onlyIf h.setFlag (fun _ h => h.setStr)

theorem Sound.frameString (h : Sound s₀ s) {r : CtxRec} {sense ccn : Int} {msEnd : Bool} : Sound s₀ (s.frameString r sense ccn msEnd) := .ite (.sampleString (.qualify (.qualify (.countCharge (.onlyIf h.principal (fun _ h => h.sts)))))) (.qualify (.qualify (.countCharge (.onlyIf h.principal (fun _ h => h.sts)))))

theorem Sound.permit (h : Sound s₀ s) {r : CtxRec} : Sound s₀ (s.permit r) := h.setC

theorem Sound.dhConnect (h : Sound s₀ s) {r : CtxRec} : Sound s₀ (s.dhConnect r) := h.gateSource.setCode.clearCut.stop

theorem Sound.failDh (h : Sound s₀ s) {r : CtxRec} : Sound s₀ (s.failDh r) := .ite h.gateDown.clearLive.setCode.inc.start.sts h.gateDown.clearLive.setCode.sts.applySafe.laneRaise

theorem Sound.dhFails (h : Sound s₀ s) {r : CtxRec} {statusBit : Nat} : Sound s₀ (s.dhFails r statusBit) := .ite h.gateDown.sts.failDh h.gateDown.sts

theorem Sound.enterCut (h : Sound s₀ s) {r : CtxRec} : Sound s₀ (s.enterCut r) := by
  unfold State.enterCut
  extract_lets c s1 s2
  have h1 : Sound s₀ s1 := h.setFlag.stsOffer
  have h2 : Sound s₀ s2 := by
    unfold s2
    split
    · exact h1.gateDown.clearLive.setCode.stop
    · exact h1.setCode.cutCheck
    · exact h1
  exact .ite h2.anchorEmpty h2

theorem Sound.stringOn (h : Sound s₀ s) {r : CtxRec} : Sound s₀ (s.stringOn r) := by
  dsimp only [State.stringOn]
  split
  · exact .ite h.setSafe.clearCount.setC.enterCut h.setSafe.clearCount.setC.dhConnect
  · exact .ite h.setSafe.clearCount.enterCut h.setSafe.clearCount.setCode
  · exact h.setSafe.clearCount.setCode

theorem Sound.cutLeft (h : Sound s₀ s) {r : CtxRec} : Sound s₀ (s.cutLeft r) := by
  unfold State.cutLeft
  split
  · exact h.setGrp
  · exact h

theorem Sound.chargeRest (h : Sound s₀ s) {c : Nat} : Sound s₀ (s.chargeRest c) := h.setFld.setFlag.setFld.setC.setStr

theorem Sound.stringOff (h : Sound s₀ s) {r : CtxRec} : Sound s₀ (s.stringOff r) := .ite (.cutLeft (.chargeRest (.disarm (.clearCount (.clearCount (.stop (.setCode (.clearCut (.clearLive (.ite h.gateDown h)))))))))) (.disarm (.clearCount (.clearCount (.stop (.setCode (.clearCut (.clearLive (.ite h.gateDown h))))))))

theorem Sound.dhTick (h : Sound s₀ s) {r : CtxRec} : Sound s₀ (s.dhTick r) := .ite h (.ite h.failDh (.ite h.dhConnect h))

theorem SoundOut.execStringEnable (h : Sound s₀ s) {c t : Nat} : SoundOut s₀ (execStringEnable c t s) := by
  dsimp only [Machine.execStringEnable]
  refine .finish ?_
  split
  · exact .ite h.at.stringOn h.at
  · exact h.at

theorem SoundOut.execStringDisable (h : Sound s₀ s) {c t : Nat} : SoundOut s₀ (execStringDisable c t s) := by
  dsimp only [Machine.execStringDisable]
  refine .finish ?_
  split
  · exact .ite h.at.stringOff h.at
  · exact h.at

theorem SoundOut.execStringCutoff (h : Sound s₀ s) {c t : Nat} : SoundOut s₀ (execStringCutoff c t s) := by
  dsimp only [Machine.execStringCutoff]
  refine .finish ?_
  split
  · exact .ite h.at.enterCut h.at
  · exact h.at

theorem SoundOut.execStringCutoffExit (h : Sound s₀ s) {c t : Nat} : SoundOut s₀ (execStringCutoffExit c t s) := by
  dsimp only [Machine.execStringCutoffExit]
  refine .finish ?_
  split
  · exact .ite (.ite h.at.clearCut.cutLeft.setCode h.at.clearCut.cutLeft) h.at
  · exact h.at

theorem SoundOut.execDhCooldownEnd (h : Sound s₀ s) {c t : Nat} : SoundOut s₀ (execDhCooldownEnd c t s) := by
  dsimp only [Machine.execDhCooldownEnd]
  refine .finish ?_
  split
  · exact .ite h.at.dhConnect h.at
  · exact h.at

theorem SoundOut.execDhRetrycntClear (h : Sound s₀ s) {c t : Nat} : SoundOut s₀ (execDhRetrycntClear c t s) := .finish (.ite h.at.setC h.at)

theorem SoundOut.execDhLimitStart (h : Sound s₀ s) {c : Nat} {charge : Bool} {t : Nat} : SoundOut s₀ (execDhLimitStart c charge t s) := by
  dsimp only [Machine.execDhLimitStart]
  refine .finish ?_
  split
  · exact .ite h.at.setCode.setFld.startOnce.setFlag.setFlag h.at
  · exact h.at

theorem SoundOut.execDhLimitEnd (h : Sound s₀ s) {c t : Nat} : SoundOut s₀ (execDhLimitEnd c t s) := by
  dsimp only [Machine.execDhLimitEnd]
  refine .finish ?_
  split
  · exact .ite h.at.setCode.setFld.stop.setFld h.at
  · exact h.at

/-! ### Machine/Channels.lean -/

theorem Sound.followDrive (h : Sound s₀ s) {ch : Nat} {regulating : Bool} : Sound s₀ (s.followDrive ch regulating) := .ite h h.setFld.setChan

theorem Sound.followOff (h : Sound s₀ s) {ch : Nat} {vgs : Int} : Sound s₀ (s.followOff ch vgs) := .ite h (.ite h.stop (.ite h.setFlag h))

theorem Sound.followLimit (h : Sound s₀ s) {ch : Nat} {regulating : Bool} : Sound s₀ (s.followLimit ch regulating) := .ite h.startOnce (.ite h.stop h)

theorem Sound.frameSense (h : Sound s₀ s) {r : CtxRec} {ch : Nat} {g : GateIn} : Sound s₀ (s.frameSense r ch g) := .onlyIf (.onlyIf h.setChan.qualify.qualify.qualify.followOff.followDrive (fun _ h => h.followLimit)) (fun _ h => h.sts)

theorem Sound.frameDh (h : Sound s₀ s) {r : CtxRec} {g : GateIn} : Sound s₀ (s.frameDh r g) := h.setFld

theorem Sound.frameChannel (h : Sound s₀ s) {ch : Nat} {g : GateIn} : Sound s₀ (s.frameChannel ch g) := by
  dsimp only [State.frameChannel]
  split
  · split
    · exact h.frameSense.frameFeed
    · exact h.frameSense.frameBranch
    · exact h.frameSense.frameDh
    · exact h.frameSense
  · exact h

theorem Sound.branchTick (h : Sound s₀ s) {r : CtxRec} : Sound s₀ (s.branchTick r) := .enterFailed (.ite h.fosterTick h)

theorem Sound.tripFeed (h : Sound s₀ s) {r : CtxRec} {reverse : Bool} : Sound s₀ (s.tripFeed r reverse) := by
  dsimp only [State.tripFeed]
  split
  · exact .ite h.gateDown.setCode.sts h.sts.latchFeed
  · split
    · exact .ite (.ite h.gateDown.sts.latchFeed.stop.nextCandidate h.gateDown.sts.latchFeed) h.gateDown.sts
    · exact .ite (.ite h.gateDown.sts.setCode.forcedChange h.gateDown.sts.setCode.sts) (.ite h.gateDown.sts.latchFeed.startChange h.gateDown.sts.latchFeed)

theorem Sound.tripBranch (h : Sound s₀ s) {r : CtxRec} {reverse : Bool} : Sound s₀ (s.tripBranch r reverse) := .ite h.gateDown h.attemptFails

theorem Sound.tripDh (h : Sound s₀ s) {r : CtxRec} {reverse : Bool} : Sound s₀ (s.tripDh r reverse) := .ite h.dhFails h.gateDown

theorem Sound.lateTrip (h : Sound s₀ s) {r : CtxRec} {ch : Nat} {reverse : Bool} : Sound s₀ (s.lateTrip r ch reverse) := .ite h.setFlag.sts h

theorem Sound.gateTrip (h : Sound s₀ s) {ch : Nat} {reverse : Bool} : Sound s₀ (s.gateTrip ch reverse) := by
  dsimp only [State.gateTrip]
  split
  · split
    · exact h.lateTrip
    · split
      · exact h.setFlag.setChan.tripFeed
      · exact h.setFlag.setChan.tripBranch
      · exact h.setFlag.setChan.tripDh
      · exact h.setFlag.setChan.gateDown
  · exact h

theorem Sound.ownerEnhanced (h : Sound s₀ s) {r : CtxRec} : Sound s₀ (s.ownerEnhanced r) := by
  dsimp only [State.ownerEnhanced]
  split
  · exact .ite h.feedClosed h
  · exact .ite h.setFlag.start.setCode h.setFlag.start
  · exact h.setFlag
  · exact h

theorem SoundOut.execChannelEnhanced (h : Sound s₀ s) {ch t : Nat} : SoundOut s₀ (execChannelEnhanced ch t s) := by
  dsimp only [Machine.execChannelEnhanced]
  refine .finish ?_
  split
  · exact .ite h.at.setFlag.setFld.stop.ownerEnhanced h.at
  · exact h.at

theorem SoundOut.execChannelEnhancementLost (h : Sound s₀ s) {ch t : Nat} : SoundOut s₀ (execChannelEnhancementLost ch t s) := by
  dsimp only [Machine.execChannelEnhancementLost]
  refine .finish ?_
  split
  · exact .ite (.endEnhanced (.onlyIf h.at (fun _ h => h.pgDrop))) h.at
  · exact h.at

theorem Sound.attemptOver (h : Sound s₀ s) {r : CtxRec} {b : Nat} : Sound s₀ (s.attemptOver r b) := .ite (.ite h.setFlag.attemptFails h.setFlag.gateDown) (.ite h.setFlag.dhFails h.setFlag.gateDown)

theorem SoundOut.execAttemptTimerExpiry (h : Sound s₀ s) {ch t : Nat} : SoundOut s₀ (execAttemptTimerExpiry ch t s) := by
  dsimp only [Machine.execAttemptTimerExpiry]
  refine .finish ?_
  split
  · exact .ite h.at (.ite h.at.attemptOver (.ite h.at.attemptOver h.at))
  · exact h.at

/-! ### Machine/Zones.lean -/

theorem Sound.servedTemp (h : Sound s₀ s) {c : Nat} : Sound s₀ (s.servedTemp c) := by
  unfold State.servedTemp
  split
  · exact h.measure
  · exact h

theorem Sound.onServedGroup (h : Sound s₀ s) {z : CtxRec} {f : State → CtxRec → State} (hf : ∀ m r, Sound s₀ m → Sound s₀ (f m r)) : Sound s₀ (s.onServedGroup z f) := by
  unfold State.onServedGroup
  split
  · exact .ite (hf s _ h) h
  · exact h

theorem Sound.zoneRaise (h : Sound s₀ s) {z : CtxRec} {site : Nat} : Sound s₀ (s.zoneRaise z site) := .ite h.laneRaise h.coreRaise

theorem Sound.zoneWarn (h : Sound s₀ s) {z : CtxRec} : Sound s₀ (s.zoneWarn z) := .onServedGroup h.stsOffer (fun _ _ h => h.groupWarn)

theorem Sound.zoneEnter (h : Sound s₀ s) {z : CtxRec} {code : Nat} : Sound s₀ (s.zoneEnter z code) := by
  dsimp only [State.zoneEnter]
  split
  · exact h
  · split
    · exact h.setCode.zoneWarn
    · exact .zoneRaise (.onServedGroup (.sts (.ite h.setCode h.setCode.zoneWarn)) (fun _ _ h => h.groupThermal))
    · exact h.setCode.sts.zoneRaise
    · exact h.setCode

theorem Sound.zoneSample (h : Sound s₀ s) {z : CtxRec} {t : Option Rat} : Sound s₀ (s.zoneSample z t) := by
  dsimp only [State.zoneSample]
  split
  · exact .ite h.markStale.qualify.clearCount.clearCount.clearCount.clearCount.clearCount.zoneEnter h.markStale.qualify.clearCount.clearCount.clearCount.clearCount.clearCount
  · exact .ite (.onServedGroup h.measureT.markStale.setC.clearCount.qualify.qualify.qualify.qualify.qualify.zoneEnter (fun _ _ h => h.groupThermal)) h.measureT.markStale.setC.clearCount.qualify.qualify.qualify.qualify.qualify.zoneEnter

theorem Sound.zoneUpdate (h : Sound s₀ s) {z : CtxRec} {t : Option Rat} : Sound s₀ (s.zoneUpdate z t) := by
  dsimp only [State.zoneUpdate]
  split
  · exact .ite h.zoneSample h.zoneSample.servedTemp
  · exact h.zoneSample

theorem Sound.scanZones (h : Sound s₀ s) : Sound s₀ (s.scanZones) := .forEach h (fun _ _ h => h.zoneUpdate)

theorem Sound.scanBranches (h : Sound s₀ s) : Sound s₀ (s.scanBranches) := by
  dsimp only [State.scanBranches]
  refine .forEach h ?_
  intro _ _ h
  split
  · exact h.measureT.markStale.qualify
  · exact h.markStale.clearCount

theorem Sound.reportedZones (h : Sound s₀ s) {c : Nat} : Sound s₀ (s.reportedZones c) := .ite h (.forEach h (fun _ _ h => h.zoneUpdate))

theorem Sound.sourcelessZones (h : Sound s₀ s) : Sound s₀ (s.sourcelessZones) := .forEach h (fun _ _ h => .ite h h.zoneUpdate)

/-! ### Machine/Sequencer.lean -/

theorem Sound.setGcode (h : Sound s₀ s) {g v : Nat} : Sound s₀ (s.setGcode g v) := h.setFld

theorem Sound.setPendOn (h : Sound s₀ s) {g : Nat} {b : Bool} : Sound s₀ (s.setPendOn g b) := h.setFlag

theorem Sound.setRefused (h : Sound s₀ s) {l : List Nat} : Sound s₀ (s.setRefused l) := h.same

theorem Sound.railFault (h : Sound s₀ s) {c b site : Nat} {lane : Bool} : Sound s₀ (s.railFault c b site lane) := .ite h.sts.laneRaise h.sts.coreRaise

theorem Sound.takeSnapshot (h : Sound s₀ s) : Sound s₀ (s.takeSnapshot) := .ite h (.offerAll (.forEach h.same.inc.setFlag (fun _ _ h => h.sts)))

theorem Sound.judgeRail (h : Sound s₀ s) {c key : Nat} {q applies : Bool} {b site : Nat} : Sound s₀ (s.judgeRail c key q applies b site) := by
  unfold State.judgeRail
  refine .ite h.same (.ite h ?_)
  extract_lets s1
  have h1 : Sound s₀ s1 := .railFault h.same
  exact h1.same

theorem Sound.sampleRail (h : Sound s₀ s) {r : CtxRec} : Sound s₀ (s.sampleRail r) := h.measurePU.qualify.qualify.qualify.qualify.judgeRail.judgeRail

theorem Sound.endDischarge (h : Sound s₀ s) {c : Nat} : Sound s₀ (s.endDischarge c) := h.stop

theorem Sound.railWait (h : Sound s₀ s) {c : Nat} : Sound s₀ (s.railWait c) := .ite h.setRefused.note h.endDischarge.setSafe.setCode.start

theorem Sound.railRise (h : Sound s₀ s) {c : Nat} : Sound s₀ (s.railRise c) := h.setCode.start

theorem Sound.railComesUp (h : Sound s₀ s) {c : Nat} : Sound s₀ (s.railComesUp c) := .ite h.setC.setCode.stop.stsOffer h.setC.setCode.stop

theorem Sound.railFails (h : Sound s₀ s) {c : Nat} : Sound s₀ (s.railFails c) := by
  dsimp only [State.railFails]
  split
  · exact h.setCode.railFault.setFlag
  · exact h.setCode.railFault

theorem Sound.upStep (h : Sound s₀ s) {r : GraphRec} : Sound s₀ (s.upStep r) := .ite h (.ite (.ite (.railRise (.ite h.railWait h)) (.ite h.railWait h)) (.ite (.railComesUp (.ite h.railWait h)) (.ite (.railFails (.ite h.railWait h)) (.ite h.railWait h))))

theorem Sound.railOffNow (h : Sound s₀ s) {c : Nat} : Sound s₀ (s.railOffNow c) := h.setCode.stop.stop.endDischarge

theorem Sound.railHasFallen (h : Sound s₀ s) {c : Nat} : Sound s₀ (s.railHasFallen c) := h.setC.railOffNow

theorem Sound.railStuck (h : Sound s₀ s) {c : Nat} : Sound s₀ (s.railStuck c) := h.setCode.railFault.dischargeOn

theorem Sound.stuckStep (h : Sound s₀ s) {c : Nat} : Sound s₀ (s.stuckStep c) := .onlyIf h (fun _ h => h.railHasFallen.offerRec)

theorem Sound.downStep (h : Sound s₀ s) {early : Bool} {r : GraphRec} : Sound s₀ (s.downStep early r) := by
  dsimp only [State.downStep]
  split
  · exact h.railOffNow
  · exact .ite h.railOffNow.stsOffer (.ite (.ite h.startOnce.railFall h.startOnce) h)
  · exact .ite h.railOffNow.stsOffer (.ite (.ite h.startOnce.railFall h.startOnce) h)
  · exact .ite h.railOffNow.stsOffer (.ite (.ite h.startOnce.railFall h.startOnce) h)
  · exact .ite h.railHasFallen (.ite h.railStuck h)
  · exact h.stuckStep

theorem Sound.forgetRefused (h : Sound s₀ s) {l : List GraphRec} : Sound s₀ (s.forgetRefused l) := h.setRefused

theorem Sound.graphUp (h : Sound s₀ s) {g : Nat} : Sound s₀ (s.graphUp g) := h.setGcode.setPendOn.setFlag.forgetRefused

theorem Sound.onRequest (h : Sound s₀ s) {g : Nat} : Sound s₀ (s.onRequest g) := by
  unfold State.onRequest
  split
  · exact .ite h.setPendOn h.graphUp
  · exact h.setPendOn.setFlag
  · exact h.setPendOn
  · exact h

theorem Sound.cycleOver (h : Sound s₀ s) {p : Nat} : Sound s₀ (s.cycleOver p) := .onlyIf h (fun _ h => h.setPort)

theorem Sound.dropCycles (h : Sound s₀ s) {g : Nat} : Sound s₀ (s.dropCycles g) := .same (.forEach h (fun _ _ h => h.cycleOver))

theorem Sound.stillLow (h : Sound s₀ s) {g : Nat} {l : List Nat} : Sound s₀ (s.stillLow g l) := h.same

theorem Sound.graphDown (h : Sound s₀ s) {g : Nat} {fault forced : Bool} : Sound s₀ (s.graphDown g fault forced) := h.dropCycles.setGcode.setFlag.setFlag.stillLow

theorem Sound.offRequest (h : Sound s₀ s) {g : Nat} : Sound s₀ (s.offRequest g) := by
  unfold State.offRequest
  split
  · exact h.graphDown
  · exact h.graphDown
  · exact h.setPendOn
  · exact h

theorem Sound.faultDown (h : Sound s₀ s) {g : Nat} {drive : Bool} : Sound s₀ (s.faultDown g drive) := .ite (.ite h.graphDown.same.setFlag.start h.graphDown) h

theorem Sound.railFaultDown (h : Sound s₀ s) {key : Nat} : Sound s₀ (s.railFaultDown key) := by
  dsimp only [State.railFaultDown]
  split
  · exact .ite (.railFall (.ite h.faultDown h)) (.ite h.faultDown h)
  · exact h

theorem Sound.forceOff (h : Sound s₀ s) {g : Nat} : Sound s₀ (s.forceOff g) := .ite h (.forEach h.graphDown.setPendOn (fun _ _ h => .ite (.ite h.railOffNow (.ite h.railFall h)) (.dischargeOn (.ite h.railOffNow (.ite h.railFall h)))))

theorem Sound.forceAll (h : Sound s₀ s) {l : List Nat} : Sound s₀ (s.forceAll l) := .ite h (.gOffer (.forEach h (fun _ _ h => h.forceOff)))

theorem Sound.seqCommand (h : Sound s₀ s) {w : Word} : Sound s₀ (s.seqCommand w) := .ite h.forceAll (.ite (.forEach h (fun _ _ h => h.offRequest)) (.ite (.forEach h (fun _ _ h => h.onRequest)) h))

theorem Sound.graphOff (h : Sound s₀ s) {g : Nat} : Sound s₀ (s.graphOff g) := .ite (.graphUp (.ite h.setGcode.stop.setPendOn h.setGcode.stop)) (.ite h.setGcode.stop.setPendOn h.setGcode.stop)

theorem Sound.hasReached (h : Sound s₀ s) {g : Nat} : Sound s₀ (s.hasReached g) := h.same

theorem Sound.graphTick (h : Sound s₀ s) {g : Nat} : Sound s₀ (s.graphTick g) := by
  dsimp only [State.graphTick]
  split
  · exact .ite (.graphUp (.forEach h (fun _ _ h => h.stuckStep))) (.forEach h (fun _ _ h => h.stuckStep))
  · exact .ite (.setGcode (.forEach (.forEach h (fun _ _ h => h.stuckStep)) (fun _ _ h => h.upStep))) (.forEach (.forEach h (fun _ _ h => h.stuckStep)) (fun _ _ h => h.upStep))
  · exact .forEach (.forEach h (fun _ _ h => h.stuckStep)) (fun _ _ h => .ite h.railComesUp h)
  · exact .ite (.start (.setGcode (.hasReached (.forEach (.stillLow (.forEach h (fun _ _ h => h.stuckStep))) (fun _ _ h => h.downStep))))) (.forEach (.stillLow (.forEach h (fun _ _ h => h.stuckStep))) (fun _ _ h => h.downStep))
  · exact .ite (.graphOff (.forEach h (fun _ _ h => h.stuckStep))) (.forEach h (fun _ _ h => h.stuckStep))

theorem Sound.setCycle (h : Sound s₀ s) {port phase : Nat} : Sound s₀ (s.setCycle port phase) := h.same

theorem Sound.cycleTick (h : Sound s₀ s) {port : Nat} : Sound s₀ (s.cycleTick port) := by
  dsimp only [State.cycleTick]
  split
  · split
    · exact .ite (.forEach h.setCycle (fun _ _ h => h.downStep)) h
    · exact .ite (.start (.setCycle (.forEach h (fun _ _ h => h.downStep)))) (.forEach h (fun _ _ h => h.downStep))
    · exact .ite (.forEach h.setCycle.stop.forgetRefused (fun _ _ h => h.upStep)) h
    · exact .ite (.same (.cycleOver (.forEach h (fun _ _ h => h.upStep)))) (.forEach h (fun _ _ h => h.upStep))
  · exact h

theorem Sound.shortPress (h : Sound s₀ s) : Sound s₀ (s.shortPress) := .ite (.forEach h.setFlag (fun _ _ h => h.offRequest)) (.forEach h.setFlag (fun _ _ h => h.onRequest))

theorem Sound.setPress (h : Sound s₀ s) {p : Option Nat} {long : Bool} : Sound s₀ (s.setPress p long) := h.same

theorem Sound.pushButton (h : Sound s₀ s) {level : Bool} {time : Nat} : Sound s₀ (s.pushButton level time) := by
  dsimp only [State.pushButton]
  split
  · exact h.setPress.start
  · split
    · exact h
    · exact .ite h.setPress.stop (.ite h.setPress.stop.shortPress h.setPress.stop.setFlag)

theorem Sound.longPress (h : Sound s₀ s) : Sound s₀ (s.longPress) := by
  unfold State.longPress
  split
  · exact .ite h.setPress.setFlag.forceAll h
  · exact h

theorem Sound.faultLine (h : Sound s₀ s) {level : Bool} : Sound s₀ (s.faultLine level) := .ite h (.forEach h.setFlag.same (fun _ _ h => h.faultDown))

theorem Sound.countInput (h : Sound s₀ s) {pin : Nat} : Sound s₀ (s.countInput pin) := h.inc.gOffer

theorem Sound.alertLine (h : Sound s₀ s) {p : Nat} {level : Bool} : Sound s₀ (s.alertLine p level) := .ite h (.ite h.countInput h.stop.setPort)

theorem Sound.alertOver (h : Sound s₀ s) {pin : Nat} {level : Bool} : Sound s₀ (s.alertOver pin level) := .onlyIf h (fun _ h => h.setPort)

theorem Sound.inputEffect (h : Sound s₀ s) {pin : Nat} {level : Bool} {time : Nat} : Sound s₀ (s.inputEffect pin level time) := by
  unfold State.inputEffect
  split
  · exact h.pushButton
  · split
    · exact h.faultLine
    · split
      · exact h.alertLine
      · split
        · exact .forEach h (fun _ _ h => .ite h.loseQualification h)
        · exact h

theorem Sound.actInput (h : Sound s₀ s) {pin : Nat} {level : Bool} : Sound s₀ (s.actInput pin level) := .onlyIf h.same (fun _ h => h.inputEffect)

theorem Sound.seenHigh (h : Sound s₀ s) {pin : Nat} {level : Bool} : Sound s₀ (s.seenHigh pin level) := .ite h.same h

theorem Sound.acceptInput (h : Sound s₀ s) {pin : Nat} {level : Bool} : Sound s₀ (s.acceptInput pin level) := .ite h (.ite (.onlyIf h.same.seenHigh.alertOver (fun _ h => h.countInput)) (.ite h.same.seenHigh.alertOver.inc (.ite h.same.seenHigh.alertOver.actInput h.same.seenHigh.alertOver.countInput)))

theorem Sound.freshPress (h : Sound s₀ s) : Sound s₀ (s.freshPress) := .ite h.same.setPress.start h.same.setPress.stop

theorem Sound.drainInputs (h : Sound s₀ s) {fresh : Bool} : Sound s₀ (s.drainInputs fresh) := .forEach (.ite h.same.freshPress (.forEach h (fun _ _ h => h.inputEffect))) (fun _ _ h => .ite h h.actInput)

theorem Sound.releaseFaultLine (h : Sound s₀ s) : Sound s₀ (s.releaseFaultLine) := .ite h.same h

theorem Sound.dischargeStep (h : Sound s₀ s) {c : Nat} : Sound s₀ (s.dischargeStep c) := .onlyIf h (fun _ h => h.endDischarge)

theorem Sound.seqTick (h : Sound s₀ s) : Sound s₀ (s.seqTick) := by
  dsimp only [State.seqTick]
  refine .forEach (.releaseFaultLine (.forEach (.forEach (.forEach (.forEach (.same (.forEach (.same ?_) (fun _ _ h => h.railFaultDown))) (fun _ _ h => h.offRequest)) (fun _ _ h => h.graphTick)) (fun _ _ h => h.cycleTick)) (fun _ _ h => h.dischargeStep))) (fun _ _ h => h.drivePin)
  split
  · exact h.longPress.same.seqCommand
  · exact h.longPress

theorem SoundOut.execScanComplete (h : Sound s₀ s) {raw : List Int} {t : Nat} : SoundOut s₀ (execScanComplete raw t s) := .finish (.orderRaises (.ite h.at (.takeSnapshot (.scanBranches (.scanZones (.forEach h.same.measure (fun _ _ h => .onlyIf h.sampleRail (fun _ h => h.sts))))))))

theorem SoundOut.execRailTonExpiry (h : Sound s₀ s) {c t : Nat} : SoundOut s₀ (execRailTonExpiry c t s) := .finish (.ite h.at.railRise h.at)

theorem SoundOut.execRailRiseTimeout (h : Sound s₀ s) {c t : Nat} : SoundOut s₀ (execRailRiseTimeout c t s) := .finish (.ite (.ite h.at.railComesUp h.at.railFails) h.at)

theorem SoundOut.execRailToffExpiry (h : Sound s₀ s) {c t : Nat} : SoundOut s₀ (execRailToffExpiry c t s) := .finish (.ite h.at.railFall h.at)

theorem SoundOut.execRailFallTimeout (h : Sound s₀ s) {c t : Nat} : SoundOut s₀ (execRailFallTimeout c t s) := .finish (.ite (.ite h.at.railHasFallen h.at.railStuck) h.at)

theorem SoundOut.execRailDischargeEnd (h : Sound s₀ s) {c t : Nat} : SoundOut s₀ (execRailDischargeEnd c t s) := .finish (.ite h.at.endDischarge h.at)

theorem SoundOut.execGraphOffWaitEnd (h : Sound s₀ s) {g t : Nat} : SoundOut s₀ (execGraphOffWaitEnd g t s) := .finish (.ite h.at.graphOff h.at)

theorem SoundOut.execPbLongPress (h : Sound s₀ s) {t : Nat} : SoundOut s₀ (execPbLongPress t s) := .finish (.ite h.at.longPress h.at)

theorem SoundOut.execSeqFltDriveRelease (h : Sound s₀ s) {t : Nat} : SoundOut s₀ (execSeqFltDriveRelease t s) := .finish (.ite h.at.releaseFaultLine h.at)

/-! ### Machine/Downstream.lean -/

theorem Sound.setTarget (h : Sound s₀ s) {c : Nat} {f : DsTarget → DsTarget} : Sound s₀ (s.setTarget c f) := h.same

theorem Sound.setPortCode (h : Sound s₀ s) {p v : Nat} : Sound s₀ (s.setPortCode p v) := h.setFld

theorem Sound.dsEvent (h : Sound s₀ s) {p addr code ev status : Nat} {c : Option Nat} : Sound s₀ (s.dsEvent p addr code ev status c) := h.offerRec

theorem Sound.polSts (h : Sound s₀ s) {c b : Nat} : Sound s₀ (s.polSts c b) := .ite h.sts h

theorem Sound.startPolls (h : Sound s₀ s) {p : Nat} : Sound s₀ (s.startPolls p) := h.setPort

theorem Sound.takeTx (h : Sound s₀ s) {p : Nat} {x : DsTx} {d : Option DsCmd} : Sound s₀ (s.takeTx p x d) := by
  dsimp only [State.takeTx]
  refine .setPort ?_
  split
  · exact .onlyIf h.setTable (fun _ h => h.setTarget)
  · exact h

theorem Sound.pump (h : Sound s₀ s) {p : Nat} : Sound s₀ (s.pump p) := by
  dsimp only [State.pump]
  split
  · exact h
  · split
    · exact .ite h.startPolls h
    · split
      · exact .ite (.setPort (.ite h.startPolls h)) (.setPort (.takeTx (.ite h.startPolls h)))
      · exact .takeTx (.ite h.startPolls h)

theorem Sound.pumpAll (h : Sound s₀ s) : Sound s₀ (s.pumpAll) := .forEach h (fun _ _ h => h.pump)

theorem Sound.queueVout (h : Sound s₀ s) {c : Nat} : Sound s₀ (s.queueVout c) := .ite h.queueCmd h.queueCmd

theorem Sound.queueOperation (h : Sound s₀ s) {c : Nat} : Sound s₀ (s.queueOperation c) := .ite h.queueCmd h.queueCmd

theorem Sound.resendCmd (h : Sound s₀ s) {c code data : Nat} {safe : Bool} : Sound s₀ (s.resendCmd c code data safe) := by
  unfold State.resendCmd
  split
  · exact h.setTable
  · exact h

theorem Sound.qualifyTarget (h : Sound s₀ s) {c : Nat} : Sound s₀ (s.qualifyTarget c) := .ite (.ite (.resendCmd (.ite h.setTarget.queueCmd.resendCmd h.setTarget.queueCmd.resendCmd)) (.resendCmd (.ite h.setTarget.queueCmd.resendCmd h.setTarget.queueCmd.resendCmd))) h.setTarget.queueCmd

theorem Sound.goOffline (h : Sound s₀ s) {p c : Nat} : Sound s₀ (s.goOffline p c) := h.setFlag.polSts.setPort.setTarget.startOnce.reportedZones

theorem Sound.goOnline (h : Sound s₀ s) {p c : Nat} : Sound s₀ (s.goOnline p c) := .ite h (.qualifyTarget (.ite h.setFlag.setTarget.dsEvent h.setFlag.setTarget.dsEvent.stop))

theorem Sound.portRaise (h : Sound s₀ s) {p c : Nat} {x : Option DsTx} {site : Nat} {lane : Bool} : Sound s₀ (s.portRaise p c x site lane) := h.raise

theorem Sound.takeStatus (h : Sound s₀ s) {p : Nat} {x : DsTx} {c w : Nat} : Sound s₀ (s.takeStatus p x c w) := .ite h (.ite (.ite h.measure h.measure.setCode.portRaise) (.ite h.measure.setCode h.measure))

theorem Sound.takeMode (h : Sound s₀ s) {p c m : Nat} : Sound s₀ (s.takeMode p c m) := .ite (.dsEvent (.markStale (.polSts (.ite h.setTarget.setC h.setTarget)))) (.markStale (.ite h.setTarget.setC h.setTarget))

theorem Sound.takeReading (h : Sound s₀ s) {c code w : Nat} : Sound s₀ (s.takeReading c code w) := .ite h.measurePU (.ite h.measurePU (.ite h.measurePU (.ite h.measureT.reportedZones (.ite h.measurePU h))))

theorem Sound.acknowledge (h : Sound s₀ s) {x : DsTx} {c : Nat} : Sound s₀ (s.acknowledge x c) := .ite (.ite (.ite h h.setCode) h.setCode) h

theorem Sound.complete (h : Sound s₀ s) {p : Nat} {x : DsTx} {data : List Byte} : Sound s₀ (s.complete p x data) := by
  dsimp only [State.complete]
  split
  · exact h.setPort.setTarget
  · split
    · exact h.setPort
    · exact h.setFlag.dsEvent.start
  · split
    · split
      · exact h.setTarget.takeStatus.goOnline
      · exact h.setTarget.takeStatus.polSts.dsEvent.start
      · exact h.setTarget.takeStatus
    · exact .ite h.setTarget.takeMode (.ite h.setTarget.takeReading h.setTarget.acknowledge)
  · exact h

theorem Sound.ackValue (h : Sound s₀ s) {x : DsTx} : Sound s₀ (s.ackValue x) := by
  unfold State.ackValue
  split
  · exact .ite h.setTarget (.ite h.setTarget (.ite h.setTarget h))
  · exact h

theorem Sound.portReset (h : Sound s₀ s) {p : Nat} : Sound s₀ (s.portReset p) := h.setFlag.setPort

theorem Sound.clearTx (h : Sound s₀ s) {p : Nat} : Sound s₀ (s.clearTx p) := .onlyIf h.setPort (fun _ h => h.portReset)

theorem Sound.failAhead (h : Sound s₀ s) {p c : Nat} {k : TxKind} : Sound s₀ (s.failAhead p c k) := by
  unfold State.failAhead
  split
  · exact h.setPort
  · exact h.setPort
  · exact h.setPort.start
  · exact h

theorem Sound.failTx (h : Sound s₀ s) {p kind : Nat} : Sound s₀ (s.failTx p kind) := by
  unfold State.failTx
  split
  · exact h
  · extract_lets s1
    have h1 : Sound s₀ s1 := h.clearTx.inc.setFlag.dsEvent
    split
    · exact h1.setFlag.dsEvent.start
    · extract_lets s2 s3 s4 s5
      have h2 : Sound s₀ s2 := .ite h1.inc h1
      have h3 : Sound s₀ s3 := .ite h2.polSts (.ite h2.polSts h2)
      have h4 : Sound s₀ s4 := h3.setPort.setTarget
      have h5 : Sound s₀ s5 := .ite h4.start (.ite h4.failAhead h4)
      exact .ite h5.goOffline.dsEvent.portRaise h5
    · exact h1

theorem Sound.askCycle (h : Sound s₀ s) {p : Nat} : Sound s₀ (s.askCycle p) := h.setPort.setFlag.setCycle.dsEvent

theorem Sound.putBack (h : Sound s₀ s) {p : Nat} : Sound s₀ (s.putBack p) := by
  unfold State.putBack
  split
  · exact .ite h h.setTable
  · exact h

theorem Sound.isolate (h : Sound s₀ s) {p : Nat} : Sound s₀ (s.isolate p) := by
  unfold State.isolate
  extract_lets s1 s2 s3 s4
  have h1 : Sound s₀ s1 := h.putBack.clearTx.setPort
  have h2 : Sound s₀ s2 := h1.setFlag.forEach (fun _ _ h => h.goOffline.polSts.stop)
  have h3 : Sound s₀ s3 := h2.dsEvent.portRaise.stop
  have h4 : Sound s₀ s4 := h3.setPortCode.setPort
  exact .ite (.ite h4.askCycle h4) h3.setPortCode

theorem Sound.requalify (h : Sound s₀ s) {p : Nat} : Sound s₀ (s.requalify p) := .forEach h.setPort.setPortCode.setFlag.dsEvent.stop (fun _ _ h => h.startOnce)

theorem Sound.portTick (h : Sound s₀ s) {p : Nat} : Sound s₀ (s.portTick p) := by
  dsimp only [State.portTick]
  split
  · exact h
  · exact .ite (.ite h.askCycle (.ite h.setCycle (.ite h.start h))) (.ite (.forEach (.setPort (.forEach h (fun _ _ h => h.goOffline))) (fun _ _ h => h.stop)) (.ite (.forEach h (fun _ _ h => h.startOnce)) h))

theorem Sound.takeHeld (h : Sound s₀ s) : Sound s₀ (s.takeHeld) := by
  unfold State.takeHeld
  refine .forEach h ?_
  intro _ _ h
  split
  · exact h.setPort.complete.ackValue
  · exact h

theorem Sound.dsTick (h : Sound s₀ s) : Sound s₀ (s.dsTick) := .pumpAll (.forEach h.takeHeld (fun _ _ h => h.portTick))

theorem SoundOut.execDsTransactionComplete (h : Sound s₀ s) {port : Nat} {data : List Byte} {t : Nat} : SoundOut s₀ (execDsTransactionComplete port data t s) := by
  dsimp only [Machine.execDsTransactionComplete]
  refine .finish ?_
  split
  · exact h.at
  · exact .ite h.at.clearTx.inc.complete.ackValue.pump h.at.clearTx.inc.setPort

theorem SoundOut.execDsTransactionFail (h : Sound s₀ s) {port : Nat} {pec : Bool} {t : Nat} : SoundOut s₀ (execDsTransactionFail port pec t s) := by
  dsimp only [Machine.execDsTransactionFail]
  refine .finish ?_
  split
  · exact .ite h.at.failTx.pump h.at
  · exact h.at
  · exact h.at.failTx.pump

theorem SoundOut.execDsStretchTimeout (h : Sound s₀ s) {port t : Nat} : SoundOut s₀ (execDsStretchTimeout port t s) := .finish h.at.failTx.pump

theorem SoundOut.execPollCycle (h : Sound s₀ s) {port t : Nat} : SoundOut s₀ (execPollCycle port t s) := .finish (.ite (.ite h.at.start.startPolls.pump h.at.start.setFlag.setPort) h.at)

theorem SoundOut.execDsProbe (h : Sound s₀ s) {port addr t : Nat} : SoundOut s₀ (execDsProbe port addr t s) := .finish (.ite h.at.start.setPort.pump h.at)

theorem SoundOut.execInputIntervalEnd (h : Sound s₀ s) {pin t : Nat} : SoundOut s₀ (execInputIntervalEnd pin t s) := by
  dsimp only [Machine.execInputIntervalEnd]
  refine .finish ?_
  split
  · exact .ite h.at.actInput.pumpAll h.at
  · exact h.at

theorem SoundOut.execDsAlert (h : Sound s₀ s) {port t : Nat} : SoundOut s₀ (execDsAlert port t s) := .finish (.ite h.at h.at.acceptInput.pump)

theorem SoundOut.execDsAlertRepeat (h : Sound s₀ s) {port t : Nat} : SoundOut s₀ (execDsAlertRepeat port t s) := .finish (.ite (.ite h.at.stop.setFlag h.at.stop.setPort.pump) h.at)

theorem SoundOut.execSegmentStuck (h : Sound s₀ s) {port t : Nat} : SoundOut s₀ (execSegmentStuck port t s) := .finish (.ite h.at.isolate h.at)

theorem SoundOut.execSegmentRequalify (h : Sound s₀ s) {port t : Nat} : SoundOut s₀ (execSegmentRequalify port t s) := .finish (.ite h.at.requalify.pump h.at)

theorem SoundOut.execSegmentCycleFail (h : Sound s₀ s) {port t : Nat} : SoundOut s₀ (execSegmentCycleFail port t s) := .finish (.ite (.ite h.at.setFlag.dsEvent.portRaise.stop.setPort.setPortCode (.ite h.at.setFlag.dsEvent.portRaise.stop.setPort.setPort.askCycle h.at.setFlag.dsEvent.portRaise.stop.setPort.setPort)) h.at)

theorem Sound.pollEnable (h : Sound s₀ s) {p : Nat} : Sound s₀ (s.pollEnable p) := .onlyIf h (fun _ h => h.setPort)

theorem Sound.requalWrite (h : Sound s₀ s) {p : Nat} : Sound s₀ (s.requalWrite p) := .ite h.requalify.pump h

theorem Sound.voutIfNew (h : Sound s₀ s) {c p : Nat} : Sound s₀ (s.voutIfNew c p) := .ite h h.queueVout

theorem Sound.polEn (h : Sound s₀ s) {c : Nat} {was : Bool} : Sound s₀ (s.polEn c was) := .ite h (.ite h.setSafe.voutIfNew.queueOperation.pump h.queueOperation.pump)

theorem Sound.polVset (h : Sound s₀ s) {c : Nat} : Sound s₀ (s.polVset c) := .ite h h.voutIfNew.pump

/-! ### Machine/Charge.lean -/

theorem Sound.setChgPhase (h : Sound s₀ s) {c p : Nat} : Sound s₀ (s.setChgPhase c p) := h.setFld

theorem Sound.setChgBit (h : Sound s₀ s) {c n : Nat} {b : Bool} : Sound s₀ (s.setChgBit c n b) := h.setFlag

theorem Sound.tempFactor (h : Sound s₀ s) {c : Nat} : Sound s₀ (s.tempFactor c) := h.setStr

theorem Sound.showReduced (h : Sound s₀ s) {c : Nat} : Sound s₀ (s.showReduced c) := h.setChgBit

theorem Sound.chargeTemp (h : Sound s₀ s) {c : Nat} : Sound s₀ (s.chargeTemp c) := .showReduced (.ite (.startOnce (.ite h.tempFactor.setChgBit.stsOffer h.tempFactor)) (.stop (.ite h.tempFactor.setChgBit.stsOffer h.tempFactor)))

theorem Sound.request (h : Sound s₀ s) {c : Nat} : Sound s₀ (s.request c) := h.setC

theorem Sound.setTelap (h : Sound s₀ s) {c : Nat} {q : Rat} : Sound s₀ (s.setTelap c q) := h.setStr.setC

theorem Sound.advance (h : Sound s₀ s) {c : Nat} : Sound s₀ (s.advance c) := h.setTelap

theorem Sound.bulkStart (h : Sound s₀ s) {c : Nat} : Sound s₀ (s.bulkStart c) := h.setStr

theorem Sound.startCharge (h : Sound s₀ s) {l : List CtxRec} : Sound s₀ (s.startCharge l) := .forEach h (fun _ _ h => h.setTelap.setChgPhase.setChgBit.setStr.bulkStart)

theorem Sound.chargeOff (h : Sound s₀ s) {l : List CtxRec} : Sound s₀ (s.chargeOff l) := .forEach h (fun _ _ h => h.chargeRest)

theorem Sound.joinSet (h : Sound s₀ s) {l : List CtxRec} : Sound s₀ (s.joinSet l) := by
  dsimp only [State.joinSet]
  split
  · exact h
  · exact .forEach h (fun _ _ h => h.setTelap.setChgPhase.setStr.bulkStart)

theorem Sound.chargeFault (h : Sound s₀ s) {l : List CtxRec} {c cause : Nat} {raised : Bool} : Sound s₀ (s.chargeFault l c cause raised) := .ite (.sts (.setFld (.forEach h (fun _ _ h => h.setChgPhase.setChgBit.setC)))) (.laneRaise (.sts (.setFld (.forEach h (fun _ _ h => h.setChgPhase.setChgBit.setC)))))

theorem Sound.terminate (h : Sound s₀ s) {l : List CtxRec} {tcause : Nat} : Sound s₀ (s.terminate l tcause) := .forEach h (fun _ _ h => h.setChgPhase.setFld.setChgBit.setStr.stsOffer.anchorFull)

theorem Sound.setMoves (h : Sound s₀ s) {g : Nat} {l : List CtxRec} {ph : Nat} {joined : CtxRec → Bool} : Sound s₀ (s.setMoves g l ph joined) := by
  unfold State.setMoves
  split
  · exact h.startCharge
  · exact h.startCharge.chargeFault
  · exact .ite h h.chargeFault
  · exact .ite (.forEach h (fun _ _ h => h.setChgPhase.bulkStart)) h
  · exact .ite (.forEach h (fun _ _ h => h.setChgPhase)) h
  · exact .ite (.forEach h (fun _ _ h => h.setChgPhase)) h
  · exact h

theorem Sound.memberCounts (h : Sound s₀ s) {x : CtxRec} {ph : Nat} {pause susp : Bool} : Sound s₀ (s.memberCounts x ph pause susp) := .ite (.setStr (.ite (.ite (.bulkStart (.setChgBit (.ite h.advance h))) (.setStr (.setChgBit (.ite h.advance h)))) (.setChgBit (.ite h.advance h)))) (.ite (.ite (.bulkStart (.setChgBit (.ite h.advance h))) (.setStr (.setChgBit (.ite h.advance h)))) (.setChgBit (.ite h.advance h)))

theorem Sound.evalSet (h : Sound s₀ s) {g : Nat} : Sound s₀ (s.evalSet g) := by
  unfold State.evalSet
  extract_lets l ph s1 s1a s2 pause susp ph2 s3 taper s4 low s5
  refine .ite h ?_
  have h1 : Sound s₀ s1 := h.joinSet.forEach (fun _ _ h => h.chargeTemp)
  have h2 : Sound s₀ s2 := (Sound.ite h1.setMoves h1.chargeOff).same
  have h3 : Sound s₀ s3 := h2.forEach (fun _ _ h => h.memberCounts)
  have h4 : Sound s₀ s4 := .ite h3.startOnce h3.stop
  have h5 : Sound s₀ s5 := .ite h4.startOnce h4.stop
  exact .ite h5 (h5.forEach (fun _ _ h => h.request))

theorem Sound.evalSupervised (h : Sound s₀ s) {r : CtxRec} : Sound s₀ (s.evalSupervised r) := by
  unfold State.evalSupervised
  extract_lets c s1 i iterm full s2 s3 near s4 hot s5
  refine .ite h.chargeOff ?_
  have h1 : Sound s₀ s1 := h.setChgPhase.tempFactor.showReduced
  have h2 : Sound s₀ s2 := .ite h1.setChgBit h1
  have h3 : Sound s₀ s3 := .ite h2.advance h2
  have h4 : Sound s₀ s4 := .ite h3.startOnce h3.stop
  have h5 : Sound s₀ s5 := .ite h4.sts.laneRaise h4
  exact h5.setStr.setC

theorem SoundOut.execChargeEvaluation (h : Sound s₀ s) {c t : Nat} : SoundOut s₀ (execChargeEvaluation c t s) := by
  dsimp only [Machine.execChargeEvaluation]
  refine .finish ?_
  split
  · exact h.at
  · split
    · exact h.at.evalSet
    · exact h.at.evalSupervised
    · exact h.at

theorem SoundOut.execChargeSuspendEnd (h : Sound s₀ s) {c t : Nat} : SoundOut s₀ (execChargeSuspendEnd c t s) := .finish (.ite h.at.setChgBit.stop.request h.at)

theorem SoundOut.execChargeTermination (h : Sound s₀ s) {c t : Nat} : SoundOut s₀ (execChargeTermination c t s) := by
  dsimp only [Machine.execChargeTermination]
  refine .finish ?_
  split
  · split
    · exact h.at.terminate.stop
    · exact h.at
  · exact h.at

theorem SoundOut.execTopoffEnd (h : Sound s₀ s) {c t : Nat} : SoundOut s₀ (execTopoffEnd c t s) := by
  dsimp only [Machine.execTopoffEnd]
  refine .finish ?_
  split
  · exact .ite (.forEach h.at (fun _ _ h => h.setChgPhase.request)) h.at
  · exact h.at

theorem SoundOut.execChargeSafetyTimeout (h : Sound s₀ s) {c t : Nat} : SoundOut s₀ (execChargeSafetyTimeout c t s) := by
  dsimp only [Machine.execChargeSafetyTimeout]
  refine .finish ?_
  split
  · exact h.at
  · split
    · split
      · exact h.at.chargeFault
      · exact h.at
    · exact .ite h.at.setFld.sts.setStr.laneRaise h.at
    · exact h.at

theorem SoundOut.execPrechargeTimeout (h : Sound s₀ s) {c t : Nat} : SoundOut s₀ (execPrechargeTimeout c t s) := by
  dsimp only [Machine.execPrechargeTimeout]
  refine .finish ?_
  split
  · split
    · exact h.at.chargeFault
    · exact h.at
  · exact h.at

theorem SoundOut.execRechargeStart (h : Sound s₀ s) {c t : Nat} : SoundOut s₀ (execRechargeStart c t s) := by
  dsimp only [Machine.execRechargeStart]
  refine .finish ?_
  split
  · exact .ite h.at.startCharge.stop h.at
  · exact h.at

theorem SoundOut.execSupervisedFull (h : Sound s₀ s) {c t : Nat} : SoundOut s₀ (execSupervisedFull c t s) := .finish (.ite h.at.setChgBit.setTelap.setStr.anchorFull h.at)

theorem Sound.cellAct (h : Sound s₀ s) {r : CtxRec} : Sound s₀ (s.cellAct r) := by
  unfold State.cellAct
  split
  · exact .ite h h.setFlag.dhFails
  · exact .ite h.coreMode h
  · exact h

theorem Sound.cellTrip (h : Sound s₀ s) {n k : Nat} : Sound s₀ (s.cellTrip n k) := by
  unfold State.cellTrip
  split
  · refine .ite h ?_
    extract_lets s1 s2 s3
    have h1 : Sound s₀ s1 := h.same
    have h3 : Sound s₀ s3 := h1.setFlag.sts.cellAct.coreRaise
    split
    · exact .ite h3.chargeFault h3
    · exact h3.same
    · exact h3
  · exact h

theorem SoundOut.execCellOvRelease (h : Sound s₀ s) {n : Nat} {k : CellIn} {t : Nat} : SoundOut s₀ (execCellOvRelease n k t s) := .finish (.ite h.same h.at)

/-! ### Machine/Saddle.lean -/

theorem Sound.endHollow (h : Sound s₀ s) {own : Bool} : Sound s₀ (s.endHollow own) := .ite (.ite h.setFlag.setReg.stop.gOffer h.setFlag.setReg.stop) h.setFlag.setReg.same

theorem Sound.deepen (h : Sound s₀ s) {uv : Int} : Sound s₀ (s.deepen uv) := .forEach h.same.setReg (fun _ _ h => h.hollowRecall)

theorem Sound.watch (h : Sound s₀ s) : Sound s₀ (s.watch) := by
  dsimp only [State.watch]
  split
  · split
    · exact .ite h h.endHollow
    · exact h.endHollow
  · exact .ite h h.same

theorem Sound.hollowFrame (h : Sound s₀ s) {vout vlow : List Int} : Sound s₀ (s.hollowFrame vout vlow) := by
  dsimp only [State.hollowFrame]
  split
  · exact .ite h.watch.same.deepen h.watch.same
  · exact h.watch

theorem Sound.hollowTick (h : Sound s₀ s) : Sound s₀ (s.hollowTick) := .ite h.watch (.ite h.watch.same.setReg h.watch.same)

theorem Sound.toStandby (h : Sound s₀ s) {charging : Bool} : Sound s₀ (s.toStandby charging) := .forEach h (fun _ _ h => .ite h.coreMode h)

theorem Sound.setHold (h : Sound s₀ s) {w : Word} {limited : Bool} : Sound s₀ (s.setHold w limited) := by
  unfold State.setHold
  refine .forEach h ?_
  intro _ _ h
  split
  · exact h.putSet
  · exact h

theorem Sound.setRelease (h : Sound s₀ s) {l : List CtxRec} {w : Word} : Sound s₀ (s.setRelease l w) := by
  unfold State.setRelease
  refine .forEach h ?_
  intro _ _ h
  split
  · exact h.putSet
  · exact h

theorem Sound.modeAll (h : Sound s₀ s) {mode : Nat} {dir : Option Bool} : Sound s₀ (s.modeAll mode dir) := .forEach h (fun _ _ h => h.setMode)

theorem Sound.writeStandby (h : Sound s₀ s) : Sound s₀ (s.writeStandby) := by
  dsimp only [State.writeStandby]
  refine .same (.forEach h ?_)
  intro _ _ h
  split
  · exact h.putSet
  · exact h

theorem Sound.setSad (h : Sound s₀ s) {code : Nat} : Sound s₀ (s.setSad code) := h.setFld

theorem Sound.enterDepleted (h : Sound s₀ s) : Sound s₀ (s.enterDepleted) := h.setSad.setFld.setFlag.setFlag.same.laneRaise

theorem Sound.feedsOff (h : Sound s₀ s) : Sound s₀ (s.feedsOff) := .same (.setFld (.setChange (.ite (.noFeed (.forEach h (fun _ _ h => .ite h.openFeed h))) (.forEach h (fun _ _ h => .ite h.openFeed h)))))

theorem Sound.catchActions (h : Sound s₀ s) : Sound s₀ (s.catchActions) := h.modeAll.feedsOff

theorem Sound.startSaddle (h : Sound s₀ s) {cause : Nat} : Sound s₀ (s.startSaddle cause) := .ite h.setFld.setFlag.same.enterDepleted h.setFld.setFlag.same.setSad.setFld.gOffer.catchActions

theorem Sound.followDiodes (h : Sound s₀ s) {lost : State → State} (hl : ∀ m, Sound s₀ m → Sound s₀ (lost m)) : Sound s₀ (s.followDiodes lost) := by
  unfold State.followDiodes
  split
  · exact h.setFld
  · exact hl s h

theorem Sound.enterBattery (h : Sound s₀ s) : Sound s₀ (s.enterBattery) := h.setSad.setFld.setFlag.same

theorem Sound.abortReturn (h : Sound s₀ s) : Sound s₀ (s.abortReturn) := h.enterBattery.setHold.setFlag

theorem Sound.abortClose (h : Sound s₀ s) : Sound s₀ (s.abortClose) := .abortReturn (.same (.forEach h (fun _ _ h => .ite h.openFeed h)))

theorem Sound.enterMatch (h : Sound s₀ s) {r : CtxRec} : Sound s₀ (s.enterMatch r) := h.setSad.setFld.setFlag.same.setHold

theorem Sound.closeActions (h : Sound s₀ s) : Sound s₀ (s.closeActions) := by
  dsimp only [State.closeActions]
  split
  · exact .ite h h.closeTarget
  · exact h.same

theorem Sound.trackStable (h : Sound s₀ s) : Sound s₀ (s.trackStable) := by
  dsimp only [State.trackStable]
  split
  · exact h.stop.setFlag.same
  · exact .ite h h.startAt.setFlag.same

theorem Sound.sourceMode (h : Sound s₀ s) {c : Nat} : Sound s₀ (s.sourceMode c) := .ite h.setMode (.ite h.setMode (.ite h.setMode h.setMode))

theorem Sound.strandEn (h : Sound s₀ s) {n : Nat} {b : Bool} : Sound s₀ (s.strandEn n b) := .ite h h.setFlag.markClamped

theorem Sound.holdEn (h : Sound s₀ s) {n : Nat} : Sound s₀ (s.holdEn n) := by
  dsimp only [State.holdEn]
  refine .strandEn ?_
  split
  · exact h
  · exact h.same

theorem Sound.freeEn (h : Sound s₀ s) {n : Nat} : Sound s₀ (s.freeEn n) := by
  dsimp only [State.freeEn]
  split
  · exact h.same.strandEn
  · exact h

theorem Sound.chargeEnables (h : Sound s₀ s) {g : Nat} : Sound s₀ (s.chargeEnables g) := .forEach (.forEach h (fun _ _ h => h.strandEn)) (fun _ _ h => .ite h.holdEn h.freeEn)

theorem Sound.cutRestart (h : Sound s₀ s) {r : CtxRec} : Sound s₀ (s.cutRestart r) := .ite h.setFlag.markClamped.setFlag.offerRec.startCharge.setGrp.groupOn h

theorem Sound.saddleMoves (h : Sound s₀ s) : Sound s₀ (s.saddleMoves) := by
  unfold State.saddleMoves
  extract_lets s0 s1 s3
  have h0 : Sound s₀ s0 := .ite h.enterDepleted h
  split
  · split
    · exact h0.startSaddle
    · have h1 : Sound s₀ s1 := h0.forEach (fun _ _ h => h.sourceMode)
      exact .ite h1.writeStandby h1
  · have h3 : Sound s₀ s3 := .ite h0.trackStable h0
    split
    · exact .ite h3.enterMatch h3
    · exact h3
  · exact .ite (.ite h0 h0.abortReturn) (h0.followDiodes (fun _ h => h.abortReturn))
  · refine .ite (h0.followDiodes (fun _ h => h.abortClose)) ?_
    split
    · split
      · exact h0.setFld
      · exact h0
    · exact .ite h0 h0.abortReturn
  · exact .ite h0 h0.setFlag.startSaddle
  · exact .ite h0.setSad.offerRec.same h0
  · exact h0

theorem Sound.saddleTick (h : Sound s₀ s) : Sound s₀ (s.saddleTick) := .ite h h.saddleMoves.same

theorem SoundOut.execHollowStart (h : Sound s₀ s) {v : Int} {t : Nat} : SoundOut s₀ (execHollowStart v t s) := .finish (.ite h.at.setFlag.inc.same.deepen.toStandby h.at)

theorem SoundOut.execHollowEnd (h : Sound s₀ s) {t : Nat} : SoundOut s₀ (execHollowEnd t s) := .finish (.ite h.at.endHollow h.at)

theorem SoundOut.execHollowTloss (h : Sound s₀ s) {t : Nat} : SoundOut s₀ (execHollowTloss t s) := .finish (.ite h.same h.at)

theorem SoundOut.execHrefFormed (h : Sound s₀ s) {t : Nat} : SoundOut s₀ (execHrefFormed t s) := .finish (.ite h.same.setReg h.at)

theorem SoundOut.execSaddleFeedsOff (h : Sound s₀ s) {t : Nat} : SoundOut s₀ (execSaddleFeedsOff t s) := .finish (.ite (.setHold (.setSad (.forEach h.at (fun _ _ h => h.setCode.stop)))) h.at)

theorem SoundOut.execSaddleComplete (h : Sound s₀ s) {t : Nat} : SoundOut s₀ (execSaddleComplete t s) := .finish (.ite h.at.inc.enterBattery h.at)

theorem SoundOut.execSaddleDwellEnd (h : Sound s₀ s) {t : Nat} : SoundOut s₀ (execSaddleDwellEnd t s) := .finish (.ite h.at.setFlag.same.trackStable h.at)

theorem SoundOut.execSaddleStable (h : Sound s₀ s) {t : Nat} : SoundOut s₀ (execSaddleStable t s) := .finish (.ite h.at.setFlag h.at)

theorem SoundOut.execReturnMatchDone (h : Sound s₀ s) {t : Nat} : SoundOut s₀ (execReturnMatchDone t s) := .finish (.ite h.at.setSad.closeActions h.at)

theorem SoundOut.execReturnCloseDone (h : Sound s₀ s) {t : Nat} : SoundOut s₀ (execReturnCloseDone t s) := .finish (.ite h.at.setSad.modeAll.setRelease h.at)

theorem SoundOut.execReturnUnloadDone (h : Sound s₀ s) {t : Nat} : SoundOut s₀ (execReturnUnloadDone t s) := .finish (.ite h.at.modeAll.setRelease.setSad.setFld.setFlag.gOffer.same h.at)

theorem Sound.cmdSaddle (h : Sound s₀ s) : Sound s₀ (s.cmdSaddle) := .ite h.same h.setFlag

theorem Sound.cmdReturn (h : Sound s₀ s) : Sound s₀ (s.cmdReturn) := .ite h.same h.setFlag

/-! ### Machine/Sharing.lean -/

theorem Sound.parkRect (h : Sound s₀ s) {r : CtxRec} : Sound s₀ (s.parkRect r) := .forEach (.setCode (.ite h.sts h)) (fun _ _ h => .ite h.holdEn h.freeEn)

theorem Sound.trimRect (h : Sound s₀ s) {r : CtxRec} : Sound s₀ (s.trimRect r) := by
  dsimp only [State.trimRect]
  split
  · exact h
  · exact .ite (.ite h.setC.stsOffer h.setC) (.ite (.queueCmd (.ite h.setC.stsOffer h.setC)) (.dropCmd (.ite h.setC.stsOffer h.setC)))

theorem Sound.shareTimer (h : Sound s₀ s) {c : Nat} : Sound s₀ (s.shareTimer c) := .ite h.startOnce h.same

theorem Sound.shareRefs (h : Sound s₀ s) : Sound s₀ (s.shareRefs) := .forEach h (fun _ _ h => .ite h.measure.markStale h.markStale)

theorem Sound.shareTick (h : Sound s₀ s) : Sound s₀ (s.shareTick) := .forEach h (fun _ _ h => .shareTimer (.trimRect (.parkRect (.onlyIf h.setC (fun _ h => h.sts)))))

theorem Sound.capEffective (h : Sound s₀ s) : Sound s₀ (s.capEffective) := h.setC

theorem SoundOut.execRectShareError (h : Sound s₀ s) {c t : Nat} : SoundOut s₀ (execRectShareError c t s) := .finish (.ite h.same.stsOffer h.at)

theorem SoundOut.execThrottleRelease (h : Sound s₀ s) {n t : Nat} : SoundOut s₀ (execThrottleRelease n t s) := .finish (.ite h.at.setFlag.stop.stop.start h.at)

/-! ### Machine/Cascade.lean -/

theorem Sound.setLink (h : Sound s₀ s) {down : Bool} {f : CascPort → CascPort} : Sound s₀ (s.setLink down f) := h.same

theorem Sound.setLinkState (h : Sound s₀ s) {down : Bool} {v : Nat} : Sound s₀ (s.setLinkState down v) := .ite h.setFld h.setFld

theorem Sound.train (h : Sound s₀ s) {down : Bool} : Sound s₀ (s.train down) := h.setLinkState.setLink.start

theorem Sound.linkEvent (h : Sound s₀ s) {down : Bool} {ev : Nat} : Sound s₀ (s.linkEvent down ev) := h.offerRec

theorem Sound.linkChange (h : Sound s₀ s) {down : Bool} {was : Nat} : Sound s₀ (s.linkChange down was) := h.linkEvent

theorem Sound.portEnables (h : Sound s₀ s) : Sound s₀ (s.portEnables) := .forEach h (fun _ _ h => .ite (.ite h.train.linkChange h) (.ite h.stop h.setLinkState.stop.linkChange))

theorem Sound.startCascade (h : Sound s₀ s) : Sound s₀ (s.startCascade) := .portEnables (.ite (.start (.ite (.setFlag (.ite h.same.setFlag.setFlag.coreRaise h.same.setFlag.setFlag)) (.ite h.same.setFlag.setFlag.coreRaise h.same.setFlag.setFlag))) (.ite (.setFlag (.ite h.same.setFlag.setFlag.coreRaise h.same.setFlag.setFlag)) (.ite h.same.setFlag.setFlag.coreRaise h.same.setFlag.setFlag)))

theorem Sound.countCodes (h : Sound s₀ s) {down : Bool} {n : Nat} : Sound s₀ (s.countCodes down n) := .ite h h.setReg

theorem Sound.clearOut (h : Sound s₀ s) : Sound s₀ (s.clearOut) := h.same

theorem Sound.send (h : Sound s₀ s) {down : Bool} {typ dest : Nat} {payload : List Byte} : Sound s₀ (s.send down typ dest payload) := .ite h h.same

theorem Sound.linkRaise (h : Sound s₀ s) {down : Bool} {typ site : Nat} : Sound s₀ (s.linkRaise down typ site) := h.raise

theorem Sound.discardFrame (h : Sound s₀ s) {down : Bool} {typ : Nat} : Sound s₀ (s.discardFrame down typ) := .ite h.inc.setFlag.linkEvent.same.linkRaise h.inc.setFlag.linkEvent.same

theorem Sound.trackSeq (h : Sound s₀ s) {down : Bool} {q : Nat} : Sound s₀ (s.trackSeq down q) := .ite h.setLink.setFlag.linkEvent h.setLink

theorem Sound.passOn (h : Sound s₀ s) {down : Bool} {f : List Byte} : Sound s₀ (s.passOn down f) := .ite h.same h

theorem Sound.echoSend (h : Sound s₀ s) : Sound s₀ (s.echoSend) := h.send.start

theorem Sound.helloOut (h : Sound s₀ s) {down : Bool} : Sound s₀ (s.helloOut down) := h.send

theorem Sound.takeHello (h : Sound s₀ s) {down : Bool} {p : List Byte} : Sound s₀ (s.takeHello down p) := .ite h (.ite (.ite h (.ite h.setLinkState.stop.linkEvent.echoSend h.setLinkState.stop.linkEvent)) (.ite h.setFlag.linkEvent h.setFlag.linkEvent.linkRaise))

theorem Sound.takeEcho (h : Sound s₀ s) {down : Bool} {p : List Byte} : Sound s₀ (s.takeEcho down p) := .ite h h.send

theorem Sound.takeReply (h : Sound s₀ s) {p : List Byte} : Sound s₀ (s.takeReply p) := .ite h.setLink h

theorem Sound.timeOut (h : Sound s₀ s) : Sound s₀ (s.timeOut) := h.send

theorem Sound.takeTime (h : Sound s₀ s) {p : List Byte} : Sound s₀ (s.takeTime p) := .ite h (.forEach h.setReg.markStale (fun _ _ h => h.measure))

theorem Sound.reportOut (h : Sound s₀ s) : Sound s₀ (s.reportOut) := h.send

theorem Sound.takeReport (h : Sound s₀ s) {src : Nat} {p : List Byte} : Sound s₀ (s.takeReport src p) := by
  dsimp only [State.takeReport]
  split
  · exact h
  · split
    · exact h
    · exact h.setFlag.same

theorem Sound.takeAlloc (h : Sound s₀ s) {a : Option Word} : Sound s₀ (s.takeAlloc a) := h.same.setFlag.setFlag.setFlag.start

theorem Sound.allocOut (h : Sound s₀ s) : Sound s₀ (s.allocOut) := by
  dsimp only [State.allocOut]
  split
  · exact h.send.same.takeAlloc
  · exact h.send.same

theorem Sound.takeAllocs (h : Sound s₀ s) {p : List Byte} : Sound s₀ (s.takeAllocs p) := .ite h (.ite h.takeAlloc (.ite h.takeAlloc h))

theorem Sound.applyAlloc (h : Sound s₀ s) : Sound s₀ (s.applyAlloc) := by
  dsimp only [State.applyAlloc]
  split
  · exact h.setC.same
  · exact h

theorem Sound.endRemote (h : Sound s₀ s) {err : Nat} : Sound s₀ (s.endRemote err) := .same (.ite h.setFlag.setFld.stop.setFlag h.setFlag.setFld.stop)

theorem Sound.remoteCmd (h : Sound s₀ s) {w : Word} : Sound s₀ (s.remoteCmd w) := .ite h (.ite h.setFld (.ite h.setFld (.ite h.same.setFlag.setFld.start.send (.ite h.same.setFlag.setFld.start.send h.same.setFlag.setFld.start.send))))

theorem Sound.takeAnswer (h : Sound s₀ s) {src : Nat} {p : List Byte} : Sound s₀ (s.takeAnswer src p) := by
  dsimp only [State.takeAnswer]
  split
  · exact .ite (.ite (.endRemote (.ite h.setReg.same h)) h.endRemote) h
  · exact h

theorem Sound.answer (h : Sound s₀ s) {tag : Byte} {result : Nat} {x : Word × Nat} : Sound s₀ (s.answer tag result x) := h.send

theorem SoundOut.execHelloSend (h : Sound s₀ s) {down : Bool} {t : Nat} : SoundOut s₀ (execHelloSend down t s) := .finish (.ite h.at.clearOut.helloOut h.at.clearOut)

theorem SoundOut.execEchoRequestSend (h : Sound s₀ s) {t : Nat} : SoundOut s₀ (execEchoRequestSend t s) := .finish (.ite h.at.clearOut.echoSend h.at.clearOut)

theorem SoundOut.execTimeSend (h : Sound s₀ s) {t : Nat} : SoundOut s₀ (execTimeSend t s) := .finish (.ite h.at.clearOut.timeOut h.at.clearOut)

theorem SoundOut.execCascadeReportSend (h : Sound s₀ s) {t : Nat} : SoundOut s₀ (execCascadeReportSend t s) := .finish (.ite h.at.clearOut.reportOut h.at.clearOut)

theorem SoundOut.execCascadeAllocSend (h : Sound s₀ s) {t : Nat} : SoundOut s₀ (execCascadeAllocSend t s) := .finish (.ite h.at.clearOut.allocOut h.at.clearOut)

theorem SoundOut.execAllocTimeout (h : Sound s₀ s) {t : Nat} : SoundOut s₀ (execAllocTimeout t s) := .finish (.ite h.same.setFlag.setFlag.sts h.at)

theorem SoundOut.execFballocApply (h : Sound s₀ s) {t : Nat} : SoundOut s₀ (execFballocApply t s) := .finish (.ite h.at.setC.setFlag.setFlag.sts.laneRaise h.at)

theorem SoundOut.execReportTimeout (h : Sound s₀ s) {n t : Nat} : SoundOut s₀ (execReportTimeout n t s) := by
  dsimp only [Machine.execReportTimeout]
  refine .finish ?_
  split
  · exact .ite h.at h.at.setFlag
  · exact h.at

theorem SoundOut.execRemoteAccessTimeout (h : Sound s₀ s) {t : Nat} : SoundOut s₀ (execRemoteAccessTimeout t s) := .finish (.ite h.at.endRemote h.at)

theorem SoundOut.execLinkLossOfLock (h : Sound s₀ s) {down : Bool} {violations t : Nat} : SoundOut s₀ (execLinkLossOfLock down violations t s) := .finish (.ite h.at.clearOut.countCodes.setFlag.train.linkEvent h.at.clearOut.countCodes)

theorem SoundOut.execLinkUpTimeout (h : Sound s₀ s) {down : Bool} {t : Nat} : SoundOut s₀ (execLinkUpTimeout down t s) := .finish (.ite h.at.setLink.linkEvent.coreRaise h.at)

/-! ### Machine/Install.lean -/

theorem Sound.putAs (h : Sound s₀ s) {a : Nat} {l : Word × Bool} : Sound s₀ (s.putAs a l) := by
  dsimp only [State.putAs]
  split
  · exact h
  · split
    · exact h
    · exact h
    · exact h.storeAs

theorem Sound.put (h : Sound s₀ s) {a : Nat} {w : Word} : Sound s₀ (s.put a w) := h.putAs

theorem Sound.setAll (h : Sound s₀ s) {l : List (Nat × Word)} : Sound s₀ (s.setAll l) := .forEach h (fun _ _ h => h.setReg)

theorem Sound.setOwners (h : Sound s₀ s) {im : Image} : Sound s₀ (s.setOwners im) := .forEach (.forEach h (fun _ _ h => .forEach h (fun _ _ h => h.setFld))) (fun _ _ h => h.setReg)

/-- A new image in use with canonical words over what stays of the old ones. -/
theorem Sound.newImage (h : Sound s₀ s) {im : Image} (hb : ImagesFit s₀ → ByteImage im) {l : List (Nat × Word)} {keep : Nat × Bool → Bool} {keepStale : Nat × Bool → Bool}
    (hl : RegsOk s → canonical 0 l = true) :
    Sound s₀ { s with regs := l, image := some im, clamped := s.clamped.filter keep, staleMark := s.staleMark.filter keepStale } := by
  refine ⟨fun h0 => ?_, fun h0 => ⟨fun x hx => ?_, (h.2 h0).2⟩⟩
  · obtain ⟨hr, hc, hu, hs, hm⟩ := h.1 h0
    exact ⟨hl hr, filter_canonical _ hc, hu, filter_canonical _ hs, hm⟩
  · obtain rfl : im = x := Option.some.inj hx
    exact hb h0

/-- The words of a new image lie over canonical tables; the image must be one of bytes. -/
theorem Sound.imageWords (h : Sound s₀ s) {im : Image} (hb : ImagesFit s₀ → ByteImage im) : Sound s₀ (s.imageWords im) := by
  unfold State.imageWords
  extract_lets s1 s2 s3 s4 s5 harden
  have h1 : Sound s₀ s1 := Sound.newImage h hb (fun hr => overlay_canonical (filter_canonical _ hr))
  have h2 : Sound s₀ s2 := h1.forEach (fun _ _ h => h.forEach (fun _ _ h => h.setC))
  have h3 : Sound s₀ s3 := h2.forEach (fun _ _ h => h.forEach (fun _ _ h => h.setS))
  have h4 : Sound s₀ s4 := h3.forEach (fun _ _ h => h.setReg.setReg)
  have h5 : Sound s₀ s5 := h4.forEach (fun _ _ h => h.setAll)
  exact h5.setReg.setReg.setOwners

theorem Sound.initialValues (h : Sound s₀ s) {im : Image} {cold : Bool} : Sound s₀ (s.initialValues im cold) := .forEach h (fun _ _ h => h.put)

theorem Sound.applySaved (h : Sound s₀ s) {im : Image} {old : Option Image} : Sound s₀ (s.applySaved im old) := by
  dsimp only [State.applySaved]
  split
  · exact h
  · exact .forEach h (fun _ _ h => h.put)

theorem Sound.coldWords (h : Sound s₀ s) {im : Image} {old : Option Image} (hb : ImagesFit s₀ → ByteImage im) : Sound s₀ (s.coldWords im old) := (h.imageWords hb).initialValues.applySaved

theorem Sound.startPorts (h : Sound s₀ s) {im : Image} : Sound s₀ (s.startPorts im) := .forEach (.forEach h (fun _ _ h => .ite h h.setPortCode)) (fun _ _ h => h.qualifyTarget)

theorem Sound.showImage (h : Sound s₀ s) {im : Image} {slot : Nat} : Sound s₀ (s.showImage im slot) := h.setReg.setReg.setFlag.setFlag

theorem Sound.installCold (h : Sound s₀ s) {im : Image} {slot : Nat} (hb : ImagesFit s₀ → ByteImage im) : Sound s₀ (s.installCold im slot) := by
  unfold State.installCold
  extract_lets s1 s2 s3 clk s4
  have h2 : Sound s₀ s2 := (h.coldWords hb).same
  have h3 : Sound s₀ s3 := h2.startPorts.estimatorStart
  have hb : Sound s₀ { s3 with clk := { s3.clk with overrides := im.overrides } } := h3.same
  have h4 : Sound s₀ s4 := hb.startTargets
  exact ((h4.forEach (fun _ _ h => h.onRequest)).showImage).seeStale

theorem Sound.keepCore (h : Sound s₀ s) {cur : State} : Sound s₀ (s.keepCore cur) := .forEach (.forEach (.forEach (.forEach h.setFlag (fun _ _ h => .onlyIf (.onlyIf h (fun _ h => h.setMode)) (fun _ h => h.setFlag))) (fun _ _ h => .ite h.setFlag h)) (fun _ _ h => .ite h (.onlyIf h.setC (fun _ h => h.setC)))) (fun _ _ h => h.setHeld)

theorem Sound.rebuildFabric (h : Sound s₀ s) {im : Image} : Sound s₀ (s.rebuildFabric im) := .forEach h.same (fun _ _ h => h.restartRamp)

theorem Sound.catchUp (h : Sound s₀ s) : Sound s₀ (s.catchUp) := .forEach h (fun _ _ h => .ite h.setTelap h)

theorem Sound.restoreSame (h : Sound s₀ s) {ck : Ckpt} : Sound s₀ (s.restoreSame ck) := by
  unfold State.restoreSame
  extract_lets s1
  have h1 : Sound s₀ s1 := by
    refine h.of_formed (fun hf => ?_) rfl
    obtain ⟨hr, hc, ht⟩ := hf
    exact ⟨overlay_canonical hr, overlay_canonical hc, ht⟩
  exact h1.keepCore

theorem Sound.startEstimators (h : Sound s₀ s) {old new : Image} {is : CtxRec → Bool} : Sound s₀ (s.startEstimators old new is) := .forEach h (fun _ _ h => h.coldLearned)

theorem Sound.keepFixed (h : Sound s₀ s) {cold : State} {new : Image} : Sound s₀ (s.keepFixed cold new) := .forEach (.forEach (.forEach h (fun _ _ h => h.setS)) (fun _ _ h => .onlyIf h.setC.followMode (fun _ h => h.markClamped))) (fun _ _ h => h.setFld)

theorem Sound.carryOver (h : Sound s₀ s) {from_ : State} {ck : Ckpt} {old new : Image} : Sound s₀ (from_.carryOver s ck old new) := by
  unfold State.carryOver
  extract_lets kept s1
  have h1 : Sound s₀ s1 := by
    refine h.of_formed (fun hf => ?_) rfl
    obtain ⟨hr, ht⟩ := hf
    have hk : canonical 0 s1.regs = true := by
      dsimp only [s1, kept]
      exact overlay_canonical (overlay_canonical hr)
    exact ⟨hk, ht⟩
  exact h1.keepFixed

theorem Sound.carryAnew (h : Sound s₀ s) {from_ : State} {ck : Ckpt} {old new : Image} : Sound s₀ (from_.carryAnew s ck old new) := by
  unfold State.carryAnew
  extract_lets kept s1 s2 l s3 named s4
  have h1 : Sound s₀ s1 := by
    refine h.of_formed (fun hf => ?_) rfl
    obtain ⟨hr, ht⟩ := hf
    have hk : canonical 0 s1.regs = true := by
      dsimp only [s1, kept]
      exact overlay_canonical (overlay_canonical hr)
    exact ⟨hk, ht⟩
  have h3 : Sound s₀ s3 := h1.startEstimators.forEach (fun _ _ h => h.setReg)
  exact (h3.forEach (fun _ _ h => h.setStr)).keepFixed

theorem Sound.restoreUnder (h : Sound s₀ s) {ck : Ckpt} {old new : Image} (hb : ImagesFit s₀ → ByteImage new) : Sound s₀ (s.restoreUnder ck old new) := by
  have h1 : Sound s₀ (if carriesOver old new then s.carryOver (s.coldWords new (some old)) ck old new else s.carryAnew (s.coldWords new (some old)) ck old new) :=
    .ite (h.coldWords hb).carryOver (h.coldWords hb).carryAnew
  exact .startTargets (.keepCore (.forEach (.forEach h1.setOwners.startEstimators (fun _ _ h => h.qualifyTarget)) (fun _ _ h => .ite h.setPortCode h)))

/-! ### Machine/Arbiter.lean -/

theorem Sound.setLane (h : Sound s₀ s) {l : LaneId} {v : Nat} : Sound s₀ (s.setLane l v) := h.setFld

theorem Sound.markBad (h : Sound s₀ s) {l : LaneId} {cause : Nat} : Sound s₀ (s.markBad l cause) := h.setFlag.setFld.same

theorem Sound.clearBad (h : Sound s₀ s) : Sound s₀ (s.clearBad) := h.setFld.same

theorem Sound.tokenTo (h : Sound s₀ s) {h' : Option LaneId} {cause : Option Nat} {wdraw : Bool} : Sound s₀ (s.tokenTo h' cause wdraw) := by
  dsimp only [State.tokenTo]
  refine .same (.setFlag ?_)
  split
  · exact h.setFld.setFld.setFld
  · exact h.setFld.setFld

theorem Sound.refuseSwap (h : Sound s₀ s) : Sound s₀ (s.refuseSwap) := h.setFlag.note

/-! ### Machine/Update.lean -/

theorem Sound.writeBoot (h : Sound s₀ s) {states : List Nat} : Sound s₀ (s.writeBoot states) := h.commitBytes

theorem Sound.setSlots (h : Sound s₀ s) {l : List (Nat × Nat)} : Sound s₀ (s.setSlots l) := .ite h.same (.ite h h.writeBoot)

theorem Sound.flushSlots (h : Sound s₀ s) : Sound s₀ (s.flushSlots) := .ite h h.same.setSlots

theorem Sound.setSlotState (h : Sound s₀ s) {image : Bool} {slot v : Nat} : Sound s₀ (s.setSlotState image slot v) := h.setSlots

theorem Sound.bootStates (h : Sound s₀ s) : Sound s₀ (s.bootStates) := .ite h h.setSlots

theorem Sound.bootLoaded (h : Sound s₀ s) {image : Bool} {slot : Nat} : Sound s₀ (s.bootLoaded image slot) := .ite h h.setSlotState

theorem Sound.showBad (h : Sound s₀ s) {x : Bad} {slot : Nat} {live : Bool} : Sound s₀ (s.showBad x slot live) := h.setReg.setReg

theorem Sound.runFirmware (h : Sound s₀ s) {slot : Nat} : Sound s₀ (s.runFirmware slot) := h.setWide.same

theorem Sound.fillLane (h : Sound s₀ s) {l : LaneId} {slot : Nat} : Sound s₀ (s.fillLane l slot) := h.same

theorem Sound.fillPrograms (h : Sound s₀ s) {l : LaneId} {slot : Nat} : Sound s₀ (s.fillPrograms l slot) := h.same

theorem Sound.fillOtherPrograms (h : Sound s₀ s) : Sound s₀ (s.fillOtherPrograms) := by
  unfold State.fillOtherPrograms
  split
  · exact h.fillPrograms
  · exact h

theorem Sound.fillOther (h : Sound s₀ s) : Sound s₀ (s.fillOther) := by
  unfold State.fillOther
  split
  · exact h.fillLane
  · exact h

theorem Sound.loadFirmware (h : Sound s₀ s) {slot : Nat} : Sound s₀ (s.loadFirmware slot) := by
  unfold State.loadFirmware
  split
  · exact h.fillLane.runFirmware
  · exact h.runFirmware

theorem Sound.fallbackWaits (h : Sound s₀ s) : Sound s₀ (s.fallbackWaits) := .ite h.setFlag h

theorem Sound.setImgValid (h : Sound s₀ s) {slot : Nat} {b : Bool} : Sound s₀ (s.setImgValid slot b) := h.setFlag

theorem Sound.loaderPass (h : Sound s₀ s) {slot : Nat} : Sound s₀ (s.loaderPass slot) := h.setImgValid.gOffer.alert

theorem Sound.loaderFail (h : Sound s₀ s) {x : Bad} {slot : Nat} {live : Bool} {sev : Nat} : Sound s₀ (s.loaderFail x slot live sev) := h.setImgValid.showBad.gOffer.alert.laneRaise

theorem Sound.refuseSwitch (h : Sound s₀ s) {slot : Nat} : Sound s₀ (s.refuseSwitch slot) := h.showBad.gOffer.alert.laneRaise

theorem Sound.imgRequest (h : Sound s₀ s) {w : Word} {kind : CheckKind} : Sound s₀ (s.imgRequest w kind) := .ite h (.ite h.refuseSwitch h.setFlag.same)

theorem Sound.askSwitch (h : Sound s₀ s) {slot : Nat} : Sound s₀ (s.askSwitch slot) := by
  refine ⟨h.1, fun h0 => ⟨(h.2 h0).1, fun x hx => ?_⟩⟩
  obtain rfl : (s.imageSlot slot).image = x := Option.some.inj hx
  exact raw_image_byteImage _

theorem Sound.keepFalling (h : Sound s₀ s) : Sound s₀ (s.keepFalling) := .ite h.setFlag.start h

theorem Sound.abandonSwitch (h : Sound s₀ s) : Sound s₀ s.abandonSwitch := by
  dsimp only [State.abandonSwitch]
  split
  · refine .keepFalling (.coreRaise (.alert (.gOffer (.setImgValid (.setFlag ?_)))))
    exact ⟨h.1, fun h0 => ⟨(h.2 h0).1, fun _ hx => nomatch hx⟩⟩
  · exact h

theorem Sound.startTrial (h : Sound s₀ s) {image : Bool} {slot : Nat} : Sound s₀ (s.startTrial image slot) := h.setFlag.setFlag.setFlag.setFlag.same.start

theorem Sound.releaseKept (h : Sound s₀ s) : Sound s₀ (s.releaseKept) := h.setFlag.same

theorem Sound.endTrial (h : Sound s₀ s) : Sound s₀ (s.endTrial) := h.setFlag.same.stop

theorem Sound.raiseRollback (h : Sound s₀ s) {n : Nat} : Sound s₀ (s.raiseRollback n) := h.same.setReg

theorem Sound.confirmTrial (h : Sound s₀ s) {x : Trial} : Sound s₀ (s.confirmTrial x) := by
  unfold State.confirmTrial
  extract_lets s1 fw im s2 upd s3
  have h1 : Sound s₀ s1 := h.setSlots
  have h2 : Sound s₀ s2 := h1.endTrial.releaseKept.setFlag.raiseRollback
  have h3 : Sound s₀ s3 := h2.same
  exact .ite h3.fillOtherPrograms h3.fillOther

theorem Sound.fallBack (h : Sound s₀ s) {slot : Nat} : Sound s₀ (s.fallBack slot) := .ite h.setFlag.same.stop.setFlag h.setFlag.start

theorem Sound.failTrial (h : Sound s₀ s) {x : Trial} {onOld : Bool} : Sound s₀ (s.failTrial x onOld) := .ite h.setSlots.endTrial.setFlag.laneRaise.fallBack (.ite h.setSlots.endTrial.setFlag.laneRaise.runFirmware (.ite h.setSlots.endTrial.setFlag.laneRaise.setFlag h.setSlots.endTrial.setFlag.laneRaise.same))

theorem Sound.stageRefuse (h : Sound s₀ s) {code : Nat} : Sound s₀ (s.stageRefuse code) := h.setFld

theorem Sound.stageBegin (h : Sound s₀ s) {p : Port} {target slot : Nat} : Sound s₀ (s.stageBegin p target slot) := .ite h.stageRefuse (.ite h.stageRefuse (.ite h.stageRefuse (.ite h.setFld (.ite h.setFld.commitBytes.setSlotState.setImgValid h.setFld.commitBytes.setSlotState))))

theorem Sound.stageData (h : Sound s₀ s) {p : Port} {off : Nat} {data : List Byte} : Sound s₀ (s.stageData p off data) := by
  dsimp only [State.stageData]
  split
  · exact h.stageRefuse
  · exact h.same

theorem Sound.stageApply (h : Sound s₀ s) {f : StageFrame} : Sound s₀ (s.stageApply f) := .ite h.same.commitBytes h.same

theorem Sound.stageClose (h : Sound s₀ s) {p : Port} {check : Bool} : Sound s₀ (s.stageClose p check) := .ite h.stageRefuse (.ite h.setFlag (.same (.ite h.setFlag.setFlag h.setFlag)))

theorem Sound.showBusy (h : Sound s₀ s) : Sound s₀ (s.showBusy) := h.setFlag

theorem Sound.commitLong (h : Sound s₀ s) {n a : Nat} {bs : List Byte} : Sound s₀ (s.commitLong n a bs) := by
  induction n generalizing s a bs with
  | zero => exact h
  | succ n ih => exact .ite h (ih h.commitBytes)

theorem Sound.writeSettings (h : Sound s₀ s) : Sound s₀ (s.writeSettings) := by
  dsimp only [State.writeSettings]
  split
  · exact h
  · exact .ite h.commitLong.commitBytes.setFlag.setFlag h.commitLong.commitBytes.setFlag

theorem Sound.saveSettings (h : Sound s₀ s) : Sound s₀ (s.saveSettings) := .ite h.writeSettings h.same

theorem Sound.flushSave (h : Sound s₀ s) : Sound s₀ (s.flushSave) := .ite h.same.saveSettings h

theorem Sound.fwFail (h : Sound s₀ s) : Sound s₀ (s.fwFail) := h.setFlag.same

theorem Sound.fwRequest (h : Sound s₀ s) {w : Word} : Sound s₀ (s.fwRequest w) := .ite h (.ite h.same h.setFlag)

theorem Sound.confirmRequest (h : Sound s₀ s) {w : Word} : Sound s₀ (s.confirmRequest w) := by
  unfold State.confirmRequest
  split
  · exact .ite h.confirmTrial h
  · exact h

theorem Sound.saveRequest (h : Sound s₀ s) {w : Word} : Sound s₀ (s.saveRequest w) := .ite h.saveSettings h

theorem SoundOut.execStagingCheckDone (h : Sound s₀ s) {t : Nat} : SoundOut s₀ (execStagingCheckDone t s) := by
  dsimp only [Machine.execStagingCheckDone]
  refine .finish ?_
  split
  · exact h.at
  · split
    · exact h.at
    · split
      · split
        · exact h.same.showBusy.loaderFail.setFlag
        · exact h.same.showBusy.loaderPass.setSlotState.setFlag
      · split
        · exact h.same.showBusy.showBad.setFlag
        · exact h.same.showBusy.setSlotState.setFlag

theorem Sound.checkFirst (h : Sound s₀ s) : Sound s₀ (s.checkFirst) := by
  dsimp only [State.checkFirst]
  split
  · exact h.setFlag.same
  · exact h

theorem Sound.startPass (h : Sound s₀ s) {slot : Nat} : Sound s₀ (s.startPass slot) := by
  have h1 : Sound s₀ (s.onlyIf s.holder.isSome (fun s => s.fillPrograms (s.holder.getD .a) slot)) := h.onlyIf (fun _ h => h.fillPrograms)
  exact (h1.loaderPass.bootLoaded.installCold (fun _ => raw_image_byteImage _)).startCascade

theorem Sound.startFail (h : Sound s₀ s) {x : Bad} {slot : Nat} : Sound s₀ (s.startFail x slot) := by
  dsimp only [State.startFail]
  split
  · exact h.loaderFail.setFlag.same
  · refine .setSys ?_
    split
    · exact h.loaderFail.setFlag.startCascade.same.setLane
    · exact h.loaderFail.setFlag.startCascade.same

theorem SoundOut.execLoaderCheckDone (h : Sound s₀ s) {t : Nat} : SoundOut s₀ (execLoaderCheckDone t s) := by
  unfold Machine.execLoaderCheckDone
  extract_lets s upd s1
  have h' : Sound s₀ s := h.at
  refine .finish ?_
  split
  · exact h'
  · refine .ite h' ?_
    have hb : Sound s₀ { s with upd := { s.upd with check := none } } := h'.same
    have h1 : Sound s₀ s1 := hb.showBusy
    split
    · refine .ite h1 ?_
      split
      · exact h1.startPass
      · exact h1.startFail
    · split
      · exact h1.loaderPass
      · exact h1.loaderFail
    · split
      · exact h1.loaderFail.keepFalling
      · refine .ite h1.loaderPass.askSwitch.setFlag ?_
        extract_lets s2 s3
        have h3 : Sound s₀ s3 := (h1.loaderPass.setSlots.installCold (fun _ => raw_image_byteImage _)).startCascade
        exact h3.same (by dsimp only)

theorem SoundOut.execFwActivateReady (h : Sound s₀ s) {t : Nat} : SoundOut s₀ (execFwActivateReady t s) := by
  dsimp only [Machine.execFwActivateReady]
  refine .finish ?_
  split
  · split
    · exact h.at.showBad.fwFail
    · exact .ite h.at.setSlotState.setFlag.same.loadFirmware.checkFirst (.ite h.at.fwFail (.same (.onlyIf h.at.setSlotState (fun _ h => h.fillLane))))
  · exact h.at

theorem SoundOut.execTrialWindowEnd (h : Sound s₀ s) {t : Nat} : SoundOut s₀ (execTrialWindowEnd t s) := by
  dsimp only [Machine.execTrialWindowEnd]
  refine .finish ?_
  split
  · exact .ite (.ite h.at.confirmTrial h.at.failTrial) h.at
  · exact h.at

theorem SoundOut.execFallbackRetry (h : Sound s₀ s) {t : Nat} : SoundOut s₀ (execFallbackRetry t s) := .finish (.ite h.at.fallBack h.at)

/-! ### Machine/Violations.lean -/

theorem Sound.countViolation (h : Sound s₀ s) {p : Port} {code : Nat} : Sound s₀ (s.countViolation p code) := .ite h (.ite h.setIface.raise h.setIface)

theorem Sound.violation (h : Sound s₀ s) {p : Port} {code cmd idx : Nat} {read : Bool} : Sound s₀ (s.violation p code cmd idx read) := h.inc.setReg.setFlag.alert.offerRec.countViolation.setIface

theorem Sound.refuseOp (h : Sound s₀ s) {p : Port} {op : HostOp} : Sound s₀ (s.refuseOp p op) := h.violation

theorem Sound.refuseWaiting (h : Sound s₀ s) {p : Port} : Sound s₀ (s.refuseWaiting p) := by
  unfold State.refuseWaiting
  split
  · exact h.setIface.refuseOp
  · exact h

/-! ### Machine/Lanes.lean -/

theorem Sound.endRuns (h : Sound s₀ s) : Sound s₀ (s.endRuns) := .forEach h (fun _ _ h => h.setPort)

theorem Sound.takeOver (h : Sound s₀ s) {k : ColKind} : Sound s₀ (s.takeOver k) := h.endRuns.same

theorem Sound.swapLost (h : Sound s₀ s) : Sound s₀ (s.swapLost) := by
  unfold State.swapLost
  split
  · exact h.setSlotState.fwFail
  · exact h.fallbackWaits

theorem Sound.dropSwap (h : Sound s₀ s) : Sound s₀ (s.dropSwap) := h.same.refuseSwap.swapLost

theorem Sound.failedChange (h : Sound s₀ s) {k : ColKind} {returns : Bool} : Sound s₀ (s.failedChange k returns) := .ite h.abandonSwitch (.swapLost (.onlyIf h (fun _ h => h.setFlag)))

theorem Sound.displace (h : Sound s₀ s) : Sound s₀ (s.displace) := by
  unfold State.displace
  extract_lets s0 s1
  have h0 : Sound s₀ s0 := by
    unfold s0
    split
    · exact h.failedChange
    · exact h.failedChange
    · exact h
  have h1 : Sound s₀ s1 := .ite h0.abandonSwitch h0
  exact .ite h1.dropSwap h1

theorem Sound.startCol (h : Sound s₀ s) {k : ColKind} {l : LaneId} {cause : Nat} : Sound s₀ (s.startCol k l cause) := h.applyDue.takeOver.tokenTo.setLane.toFallback.holdChannels.setFlag.setFlag.inc.setSys.breakTrial.coreRec

theorem Sound.enterPlain (h : Sound s₀ s) {cause : Nat} : Sound s₀ (s.enterPlain cause) := by
  unfold State.enterPlain
  extract_lets s0 s1 arb s2 s3 s4 s5 core clk s6
  have h1 : Sound s₀ s1 := h.applyDue.displace.setLane.setLane.setFlag
  have h2 : Sound s₀ s2 := h1.same
  have h5 : Sound s₀ s5 := h2.toFallback.toStandby.holdChannels.setFlag.setReg.setSys.start.coreRec
  have hc : Sound s₀ (if cause = 2 then s5 else s5.coreRaise 13 0 none 1301) := .ite h5 h5.coreRaise
  have h6 : Sound s₀ s6 := hc.same
  exact h6.refuseWaiting.refuseWaiting

theorem Sound.plainByLevel (h : Sound s₀ s) {cause : Nat} : Sound s₀ (s.plainByLevel cause) := by
  unfold State.plainByLevel
  extract_lets s1 s2
  have h1 : Sound s₀ s1 := .ite h.tokenTo h
  refine .ite ?_ h1.enterPlain
  have h2 : Sound s₀ s2 := h1.setLane.setLane
  exact h2.same

theorem Sound.startFromPlain (h : Sound s₀ s) : Sound s₀ (s.startFromPlain) := h.takeOver.tokenTo.setLane.start

theorem Sound.tryStart (h : Sound s₀ s) : Sound s₀ (s.tryStart) := .ite h.startFromPlain h

theorem Sound.loseHolder (h : Sound s₀ s) {l : LaneId} {kind : ColKind} {mark cause : Nat} : Sound s₀ (s.loseHolder l kind mark cause) := by
  have hb : Sound s₀ { s with arb := { s.arb with silent := true } } := h.same
  exact .ite hb.displace.setLane.markBad.tokenTo.enterPlain hb.displace.setLane.markBad.startCol

theorem Sound.powerStart (h : Sound s₀ s) {l : LaneId} : Sound s₀ (s.powerStart l) := h.setFld.setLane.same

theorem Sound.restartBoot (h : Sound s₀ s) : Sound s₀ s.restartBoot := by
  unfold State.restartBoot
  extract_lets boot upd s1
  have h1 : Sound s₀ s1 := by
    refine ⟨h.1, fun _ => ⟨fun _ hx => ?_, fun _ hx => ?_⟩⟩
    · exact nomatch hx
    · exact nomatch hx
  exact h1.setFlag.setFlag

theorem Sound.startFails (h : Sound s₀ s) {cause : Nat} : Sound s₀ (s.startFails cause) := by
  dsimp only [State.startFails]
  split
  · exact h
  · exact .ite h.setLane.markBad.setFlag.setFld.same.coreRaise h.setLane.markBad.setFlag.same.restartBoot.powerStart

theorem Sound.returnToken (h : Sound s₀ s) {l : LaneId} : Sound s₀ (s.returnToken l) := h.tokenTo.setLane.same

theorem Sound.restoreFails (h : Sound s₀ s) {cause : Nat} : Sound s₀ (s.restoreFails cause) := by
  unfold State.restoreFails
  split
  · refine .ite h.startFails ?_
    extract_lets mark s1 halted s2 s3
    have h1 : Sound s₀ s1 := h.setLane.markBad.setFlag.coreRaise
    refine .ite h1.failedChange.returnToken ?_
    have h3 : Sound s₀ s3 := .tokenTo (.ite h1.failedChange h1)
    exact .ite h3.same (.ite h3.enterPlain.tryStart h3.enterPlain)
  · exact h

/-! ### Machine/Die.lean -/

theorem Sound.exclude (h : Sound s₀ s) {i : Nat} : Sound s₀ (s.exclude i) := .coreRaise (.clearCount (.ite h.setFlag h.setFlag))

theorem Sound.crossCheck (h : Sound s₀ s) : Sound s₀ (s.crossCheck) := .forEach (.forEach h (fun _ _ h => h.qualify)) (fun _ _ h => h.exclude)

theorem Sound.formTj (h : Sound s₀ s) : Sound s₀ (s.formTj) := .ite (.markStale (.markStale (.ite h.setFlag.coreRaise h.setFlag))) (.ite (.setReg (.ite (.measure (.measure (.markStale (.markStale (.ite h.setFlag.coreRaise h.setFlag))))) (.measure (.markStale (.markStale (.ite h.setFlag.coreRaise h.setFlag)))))) (.ite (.measure (.measure (.markStale (.markStale (.ite h.setFlag.coreRaise h.setFlag))))) (.measure (.markStale (.markStale (.ite h.setFlag.coreRaise h.setFlag))))))

theorem Sound.lifeInc (h : Sound s₀ s) {r base : Nat} : Sound s₀ (s.lifeInc r base) := h.inc.commitBytes

theorem Sound.hardStop (h : Sound s₀ s) : Sound s₀ (s.hardStop) := by
  unfold State.hardStop
  extract_lets s1 s2 s3 s4 s5 rails s6 s7 forced
  have h1 : Sound s₀ s1 := h.forEach (fun _ _ h => h.gateDown)
  have h2 : Sound s₀ s2 := h1.forEach (fun _ _ h => h.groupStop.setCode.sts.setHeld.setSafe)
  have h3 : Sound s₀ s3 := h2.forEach (fun _ _ h => h.setCode.sts.setSafe)
  have h4 : Sound s₀ s4 := h3.forEach (fun _ _ h => h.clearLive.setCode.sts.stop.stop.setC.setSafe)
  have h5 : Sound s₀ s5 := h4.forEach (fun _ _ h => h.clearLive.setCode.sts.stop.setSafe)
  have h6 : Sound s₀ s6 := h5.forEach (fun _ _ h => h.railFall.stop.setSafe)
  have h7 : Sound s₀ s7 := (h6.forEach (fun _ _ h => h.stop.stop)).setReg
  exact h7.same (by dsimp only)

theorem Sound.reachWarning (h : Sound s₀ s) : Sound s₀ (s.reachWarning) := h.setFld.gOffer.coreRaise

theorem Sound.reachPlain (h : Sound s₀ s) : Sound s₀ (s.reachPlain) := .ite h.setFld.setFlag.coreRaise (.ite h.setFld.setFlag.coreRaise.plainByLevel h.setFld.setFlag.coreRaise.plainByLevel.lifeInc)

theorem Sound.reachHard (h : Sound s₀ s) : Sound s₀ (s.reachHard) := .ite h.hardStop.setFld.setFlag.lifeInc.coreRec.coreRaise h.hardStop.setFld.setFlag.lifeInc.coreRec.coreRaise.plainByLevel

theorem Sound.judgeDie (h : Sound s₀ s) : Sound s₀ (s.judgeDie) := by
  unfold State.judgeDie
  extract_lets none? tj above s1 s2 s3 s4
  have h1 : Sound s₀ s1 := h.qualify.qualify.qualify
  have h2 : Sound s₀ s2 := .ite h1.reachWarning h1
  have h3 : Sound s₀ s3 := .ite h2.reachPlain h2
  have h4 : Sound s₀ s4 := .ite h3.reachHard h3
  exact .ite h4.startOnce h4.stop

theorem Sound.leaveDie (h : Sound s₀ s) : Sound s₀ (s.leaveDie) := .ite h.setFld.stop.tryStart h.setFld.stop

theorem SoundOut.execDieSensorMeasure (h : Sound s₀ s) {temps : List Int} {t : Nat} : SoundOut s₀ (execDieSensorMeasure temps t s) := .finish (.judgeDie (.formTj (.crossCheck (.forEach h.at (fun _ _ h => h.measureTAt)))))

theorem SoundOut.execDieLevelLeave (h : Sound s₀ s) {t : Nat} : SoundOut s₀ (execDieLevelLeave t s) := .finish (.ite h.at.leaveDie h.at)

/-! ### Machine/Clocks.lean -/

theorem regsOk_of_reset {m : State} (e : m.regs = resetRegs) : RegsOk m := by
  unfold RegsOk
  rw [e]
  exact resetRegs_canonical

theorem Sound.resetWords (h : Sound s₀ s) {code : Nat} : Sound s₀ (s.resetWords code) := by
  have h1 : Sound s₀ { State.reset with mram := s.mram } := by
    refine ⟨fun h0 => ?_, fun _ => ⟨fun _ hx => ?_, fun _ hx => ?_⟩⟩
    · obtain ⟨-, -, -, -, hm⟩ := h.1 h0
      exact ⟨regsOk_of_reset (by dsimp only [State.reset]), canonical_nil (d := false), canonical_nil (d := 0), canonical_nil (d := false), hm⟩
    · exact nomatch hx
    · exact nomatch hx
  exact .ite h1.setReg.setReg.setReg h1.setReg.setReg.setReg.setReg

theorem Sound.deviceReset (h : Sound s₀ s) {code : Nat} : Sound s₀ (s.deviceReset code) := h.lrnDurable.resetWords.same

theorem Sound.readFuses (h : Sound s₀ s) : Sound s₀ (s.readFuses) := h.setReg.setReg.setFlag.same

theorem Sound.holdStraps (h : Sound s₀ s) {straps : Nat} : Sound s₀ (s.holdStraps straps) := h.setReg.setFld.setFld.same

theorem Sound.releaseClocks (h : Sound s₀ s) : Sound s₀ (s.releaseClocks) := h.same.bootStates.restartBoot.powerStart

theorem Sound.gateStop (h : Sound s₀ s) : Sound s₀ (s.gateStop) := h.setFlag.stop

theorem Sound.fcntCmd (h : Sound s₀ s) {w : Word} : Sound s₀ (s.fcntCmd w) := .ite h.gateStop (.ite h.setFlag.same.start h)

theorem Sound.freeBits (h : Sound s₀ s) {n : Nat} : Sound s₀ (s.freeBits n).2 := h.same

theorem Sound.tapEdge (h : Sound s₀ s) {tdi : Bool} : Sound s₀ (s.tapEdge tdi) := by
  dsimp only [State.tapEdge]
  split
  · split
    · exact h.same
    · exact h.same
    · exact h.same
    · exact h.same
  · exact h.same
  · exact h.same
  · exact h.same
  · exact h

theorem SoundOut.execPowerOn (h : Sound s₀ s) : SoundOut s₀ (execPowerOn s) := by
  refine .finish (.ite h ?_)
  extract_lets s1
  have hb : Sound s₀ { s with tap := {} } := h.same
  have h1 : Sound s₀ s1 := hb.deviceReset
  exact h1.same (by dsimp only)

theorem SoundOut.execVinBrownOut (h : Sound s₀ s) {t : Nat} : SoundOut s₀ (execVinBrownOut t s) := by
  refine .finish (.ite ?_ h.at)
  extract_lets s1
  have h1 : Sound s₀ s1 := h.at.deviceReset
  exact h1.same (by dsimp only)

theorem SoundOut.execRstNLow (h : Sound s₀ s) {ticks t : Nat} : SoundOut s₀ (execRstNLow ticks t s) := by
  unfold Machine.execRstNLow
  extract_lets s s0 s1
  have h' : Sound s₀ s := h.at
  refine .finish (.ite h' ?_)
  have h0 : Sound s₀ s0 := .ite h' h'.same
  refine .ite ?_ h0
  have h1 : Sound s₀ s1 := h0.deviceReset
  exact h1.same (by dsimp only)

theorem SoundOut.execRstNRelease (h : Sound s₀ s) {t : Nat} : SoundOut s₀ (execRstNRelease t s) := .finish h.same

theorem SoundOut.execFuseMapRead (h : Sound s₀ s) {t : Nat} : SoundOut s₀ (execFuseMapRead t s) := .finish (.ite h.at.readFuses h.at)

theorem SoundOut.execVreg5InRegulation (h : Sound s₀ s) {straps t : Nat} : SoundOut s₀ (execVreg5InRegulation straps t s) := .finish (.ite h.at (.ite h.same.tryStart (.ite h.same h.same.holdStraps)))

theorem SoundOut.execVreg5OutOfRegulation (h : Sound s₀ s) {t : Nat} : SoundOut s₀ (execVreg5OutOfRegulation t s) := .finish (.ite h.same.coreRaise h.at)

theorem SoundOut.execVreg5Lost (h : Sound s₀ s) {t : Nat} : SoundOut s₀ (execVreg5Lost t s) := by
  unfold Machine.execVreg5Lost
  extract_lets s clk s1 clk1 s2
  have h' : Sound s₀ s := h.at
  refine .finish (.ite h' ?_)
  have hb : Sound s₀ { s with clk := { s.clk with vreg5 := false } } := h'.same
  have h1 : Sound s₀ s1 := .ite hb.coreRaise h'
  have h2 : Sound s₀ s2 := h1.same
  exact .ite h2.plainByLevel h2

theorem SoundOut.execVioLoss (h : Sound s₀ s) {t : Nat} : SoundOut s₀ (execVioLoss t s) := .finish h.same

theorem SoundOut.execVioReturn (h : Sound s₀ s) {t : Nat} : SoundOut s₀ (execVioReturn t s) := .finish h.same

theorem SoundOut.execPllEnable (h : Sound s₀ s) {t : Nat} : SoundOut s₀ (execPllEnable t s) := .finish (.ite h.same h.at)

theorem SoundOut.execClocksRelease (h : Sound s₀ s) : SoundOut s₀ (execClocksRelease s) := .finish (.ite h.releaseClocks h)

theorem SoundOut.execFirmwareChecked (h : Sound s₀ s) {t : Nat} : SoundOut s₀ (execFirmwareChecked t s) := by
  dsimp only [Machine.execFirmwareChecked]
  refine .finish ?_
  split
  · split
    · split
      · exact h.same.loadFirmware.bootLoaded.checkFirst
      · exact h.same.showBad.setFlag
    · exact h.at
  · exact h.at

theorem SoundOut.execStartLaneFail (h : Sound s₀ s) {t : Nat} : SoundOut s₀ (execStartLaneFail t s) := .finish (.ite h.at.startFails h.at)

theorem SoundOut.execFcntGateComplete (h : Sound s₀ s) {count t : Nat} : SoundOut s₀ (execFcntGateComplete count t s) := .finish (.ite (.ite h.at.gateStop.setFlag.setWide.setFlag h.at.gateStop.setFlag.setWide) h.at)

theorem SoundOut.execFcntTimeout (h : Sound s₀ s) {t : Nat} : SoundOut s₀ (execFcntTimeout t s) := .finish (.ite h.at.gateStop.setFlag h.at)

theorem SoundOut.execVresReserveLow (h : Sound s₀ s) {t : Nat} : SoundOut s₀ (execVresReserveLow t s) := .finish (.ite h.same.coreRaise h.at)

theorem SoundOut.execVresCharged (h : Sound s₀ s) {t : Nat} : SoundOut s₀ (execVresCharged t s) := .finish (.ite h.at h.same.flushCommits.commitStaged.lrnStart)

theorem SoundOut.execVdd08RegulatorFault (h : Sound s₀ s) {t : Nat} : SoundOut s₀ (execVdd08RegulatorFault t s) := .finish h.at.coreRaise

theorem SoundOut.execReferenceClockLoss (h : Sound s₀ s) {t : Nat} : SoundOut s₀ (execReferenceClockLoss t s) := .finish h.same

theorem SoundOut.execTestAccessPortTck (h : Sound s₀ s) {tms tdi : Bool} {t : Nat} : SoundOut s₀ (execTestAccessPortTck tms tdi t s) := .finish (.ite h.at.tapEdge.same h.at)

theorem SoundOut.execTrstNChange (h : Sound s₀ s) {level : Bool} {t : Nat} : SoundOut s₀ (execTrstNChange level t s) := .finish h.same

/-! ### Machine/Epochs.lean -/

theorem Sound.storeCkpt (h : Sound s₀ s) {ck : Ckpt} : Sound s₀ (s.storeCkpt ck) := by
  unfold State.storeCkpt
  split
  · exact h.same
  · exact h.same
  · exact .ite h.same h.same

theorem Sound.startCommit (h : Sound s₀ s) : Sound s₀ (s.startCommit) := by
  dsimp only [State.startCommit]
  refine .same ?_
  split
  · exact .ite h.same h.same
  · exact h

theorem Sound.ageJournal (h : Sound s₀ s) {epoch : Nat} : Sound s₀ (s.ageJournal epoch) := h.same

theorem Sound.commitCkpt (h : Sound s₀ s) {ck : Ckpt} : Sound s₀ (s.commitCkpt ck) := by
  unfold State.commitCkpt
  extract_lets s1 arb s2 s3
  have hb : Sound s₀ { s with commit := none } := h.same
  have h1 : Sound s₀ s1 := hb.storeCkpt.setWide
  have h2 : Sound s₀ s2 := h1.same
  have h3 : Sound s₀ s3 := h2.ageJournal.commitStaged
  exact h3.same

theorem Sound.swapRequest (h : Sound s₀ s) {w : Word} : Sound s₀ (s.swapRequest w) := .ite h (.ite h.refuseSwap h.same)

theorem Sound.restartRequest (h : Sound s₀ s) {w : Word} : Sound s₀ (s.restartRequest w) := .ite h (.ite (.tryStart (.ite h.clearBad h)) (.ite h.clearBad h))

theorem Sound.stepDown (h : Sound s₀ s) {k : ColKind} {l : LaneId} {cause : Nat} : Sound s₀ (s.stepDown k l cause) := h.same.setLane.startCol

theorem Sound.changeLanes (h : Sound s₀ s) {boundary : Nat} : Sound s₀ (s.changeLanes boundary) := by
  dsimp only [State.changeLanes]
  split
  · exact h
  · exact .ite h (.ite (.ite (.abandonSwitch (.ite h.dropSwap h)) (.stepDown (.onlyIf (.same (.ite h.dropSwap h)) (fun _ h => h.fillPrograms)))) (.ite (.ite h.dropSwap h.same.stepDown) h))

theorem Sound.dormantRequest (h : Sound s₀ s) {w : Word} : Sound s₀ (s.dormantRequest w) := .ite h (.ite h.lrnRequest.same h.setFlag.note)

theorem Sound.dormantGates (h : Sound s₀ s) : Sound s₀ (s.dormantGates) := by
  dsimp only [State.dormantGates]
  split
  · exact h
  · exact .forEach h (fun _ _ h => .ite h.gateDownOf.clearLive.setCode.setFld h.gateDownOf.clearLive.setCode)

theorem Sound.dormantGroups (h : Sound s₀ s) : Sound s₀ (s.dormantGroups) := .forEach h (fun _ _ h => h.groupTo)

theorem Sound.enterDormant (h : Sound s₀ s) : Sound s₀ (s.enterDormant) := by
  unfold State.enterDormant
  extract_lets s0 keep s1 arb clk s2
  have h1 : Sound s₀ s1 := h.applyDue.tokenTo
  have h2 : Sound s₀ s2 := h1.same
  exact h2.setLane.setLane.setSys.dormantGroups.dormantGates.holdChannels

theorem Sound.undoEntry (h : Sound s₀ s) {k : EntryKeep} : Sound s₀ (s.undoEntry k) :=
  h.of_formed (fun ⟨hr, ht⟩ => ⟨overlay_canonical hr, ht⟩) rfl

theorem Sound.noteWake (h : Sound s₀ s) {src : Nat} : Sound s₀ (s.noteWake src) := h.setFlag.setFld

theorem Sound.wakeLane (h : Sound s₀ s) : Sound s₀ (s.wakeLane) := h.takeOver.tokenTo.setLane.same

theorem Sound.wakeBy (h : Sound s₀ s) {src : Nat} : Sound s₀ (s.wakeBy src) := by
  unfold State.wakeBy
  refine .ite ?_ h
  extract_lets clk s0 s1 s2
  have h0 : Sound s₀ s0 := h.same
  have h2 : Sound s₀ s2 := .ite h0.noteWake.alert.setFlag h0.noteWake.alert
  exact .ite h2.enterPlain.lifeInc (.ite h2.enterPlain h2.wakeLane)

theorem Sound.abortEntry (h : Sound s₀ s) {src : Nat} : Sound s₀ (s.abortEntry src) := by
  dsimp only [State.abortEntry]
  split
  · exact h
  · split
    · exact h.same.noteWake
    · split
      · exact .ite h.undoEntry.takeOver.tokenTo.setLane.noteWake.same h
      · exact h

theorem Sound.wakeEvent (h : Sound s₀ s) {src : Nat} : Sound s₀ (s.wakeEvent src) := .ite h.abortEntry h.wakeBy

theorem SoundOut.execInputAccept (h : Sound s₀ s) {pin : Nat} {level : Bool} {t : Nat} : SoundOut s₀ (execInputAccept pin level t s) := by
  dsimp only [Machine.execInputAccept]
  refine .finish ?_
  split
  · exact h.at.acceptInput.pumpAll.wakeEvent
  · exact h.at.acceptInput.pumpAll

theorem SoundOut.execEpochBoundary (h : Sound s₀ s) {t : Nat} : SoundOut s₀ (execEpochBoundary t s) := by
  dsimp only [Machine.execEpochBoundary]
  refine .finish ?_
  split
  · refine .startCommit ?_
    split
    · exact .ite h.at.failTrial h.at
    · exact h.at
  · exact h.at

theorem SoundOut.execHeartbeatTimeout (h : Sound s₀ s) {t : Nat} : SoundOut s₀ (execHeartbeatTimeout t s) := by
  dsimp only [Machine.execHeartbeatTimeout]
  refine .finish ?_
  split
  · exact .ite h.at.loseHolder h.at
  · exact h.at

theorem SoundOut.execLaneHandback (h : Sound s₀ s) {t : Nat} : SoundOut s₀ (execLaneHandback t s) := by
  dsimp only [Machine.execLaneHandback]
  refine .finish ?_
  split
  · exact .ite h.at.loseHolder h.at.loseHolder
  · exact h.at

theorem SoundOut.execAuthorityConflict (h : Sound s₀ s) {l : LaneId} {holder gen acc addr t : Nat} : SoundOut s₀ (execAuthorityConflict l holder gen acc addr t s) := .finish (.ite h.at (.ite h.at.coreRec.setFlag.raise.setLane.markBad (.ite h.at.coreRec.setFlag.raise.loseHolder h.at.coreRec.setFlag.raise.restoreFails)))

theorem SoundOut.execLanePowered (h : Sound s₀ s) {t : Nat} : SoundOut s₀ (execLanePowered t s) := by
  dsimp only [Machine.execLanePowered]
  refine .finish ?_
  split
  · exact .ite h.at (.ite h.same.setReg h.same)
  · exact h.at

theorem SoundOut.execRestoreFail (h : Sound s₀ s) {conflict : Bool} {t : Nat} : SoundOut s₀ (execRestoreFail conflict t s) := .finish (.ite h.at h.at.restoreFails)

theorem SoundOut.execLaneAutoRestart (h : Sound s₀ s) {t : Nat} : SoundOut s₀ (execLaneAutoRestart t s) := .finish (.ite h.at.inc.startFromPlain h.at)

theorem SoundOut.execLaneWatchdogExpiry (h : Sound s₀ s) {l : LaneId} {t : Nat} : SoundOut s₀ (execLaneWatchdogExpiry l t s) := .finish (.ite (.ite h.at.setReg.setLane.same h.at.setReg.setLane.restoreFails) h.at)

theorem SoundOut.execLaneStop (h : Sound s₀ s) {t : Nat} : SoundOut s₀ (execLaneStop t s) := .finish (.ite h.same h.at)

theorem SoundOut.execDormantEntryAbort (h : Sound s₀ s) {src t : Nat} : SoundOut s₀ (execDormantEntryAbort src t s) := .finish h.at.abortEntry

theorem SoundOut.execWake (h : Sound s₀ s) {src t : Nat} : SoundOut s₀ (execWake src t s) := .finish h.at.wakeBy

theorem SoundOut.execGateTrip (h : Sound s₀ s) {ch : Nat} {nv : Int} {t : Nat} : SoundOut s₀ (execGateTrip ch nv t s) := by
  dsimp only [Machine.execGateTrip]
  refine .finish ?_
  split
  · exact .onlyIf h.at.gateTrip (fun _ h => h.wakeEvent)
  · exact h.at

theorem SoundOut.execCellOvTrip (h : Sound s₀ s) {n : Nat} {k : CellIn} {t : Nat} : SoundOut s₀ (execCellOvTrip n k t s) := .finish (.ite h.at h.at.cellTrip.wakeEvent)

/-! ### Machine/Frame.lean -/

theorem Sound.shelfFrame (h : Sound s₀ s) {vout : List Int} : Sound s₀ (s.shelfFrame vout) := by
  dsimp only [State.shelfFrame]
  split
  · exact h
  · exact h.principal.markStale.markStale.measurePU.measurePU

theorem Sound.rangeMarks (h : Sound s₀ s) {inp : FrameIn} : Sound s₀ (s.rangeMarks inp) := .forEach h (fun _ _ h => .onlyIf h (fun _ h => h.sts))

theorem Sound.framesChannels (h : Sound s₀ s) {l : List GateIn} : Sound s₀ (s.framesChannels l) := .forEach h (fun _ _ h => .ite h h.frameChannel)

theorem Sound.frameStrings (h : Sound s₀ s) {inp : FrameIn} {msEnd : Bool} : Sound s₀ (s.frameStrings inp msEnd) := .forEach h (fun _ _ h => h.frameString)

theorem Sound.stopLowEnd (h : Sound s₀ s) {r : CtxRec} : Sound s₀ (s.stopLowEnd r) := .ite (.stop (.forEach h (fun _ _ h => h.phaseStop))) h

theorem Sound.frameGroups (h : Sound s₀ s) {inp : FrameIn} : Sound s₀ (s.frameGroups inp) := .forEach h (fun _ _ h => h.frameGroup.frameRecall.stopLowEnd)

theorem Sound.frameCells (h : Sound s₀ s) {cells : List Int} : Sound s₀ (s.frameCells cells) := .forEach h (fun _ _ h => .ite (.onlyIf h.measureAt (fun _ h => h.sts)) h.measure)

theorem Sound.feedsOpen (h : Sound s₀ s) : Sound s₀ (s.feedsOpen) := .forEach h (fun _ _ h => h.setCode.stop)

theorem Sound.frameShelf (h : Sound s₀ s) {inp : FrameIn} : Sound s₀ (s.frameShelf inp) := .ite (.forEach (.feedsOpen (.throttleFollow (.hardCause (.ite h.frameGroups.hollowFrame.shelfFrame.frameCells h.frameGroups.hollowFrame.shelfFrame)))) (fun _ _ h => h.enterFailed)) (.throttleFollow (.hardCause (.ite h.frameGroups.hollowFrame.shelfFrame.frameCells h.frameGroups.hollowFrame.shelfFrame)))

theorem Sound.tickCore (h : Sound s₀ s) : Sound s₀ (s.tickCore) := .hollowTick (.forEach h (fun _ _ h => h.groupCoreTick))

theorem Sound.tickPower (h : Sound s₀ s) : Sound s₀ (s.tickPower) := .feedSelect (.forEach (.forEach h (fun _ _ h => h.groupTick)) (fun _ _ h => h.branchTick))

theorem Sound.tickStrings (h : Sound s₀ s) : Sound s₀ (s.tickStrings) := .forEach (.forEach (.saddleTick (.forEach h (fun _ _ h => h.permit.dhTick))) (fun _ _ h => h.cutRestart)) (fun _ _ h => h.chargeEnables)

theorem Sound.tickLane (h : Sound s₀ s) {im : Image} {late : List Nat} : Sound s₀ (s.tickLane im late) := h.applyAlloc.applyDue.capEffective.tickPower.tickStrings.shareRefs.evalShelf.overruns.shareTick.seqTick.dsTick.sourcelessZones

theorem SoundOut.execFrame (h : Sound s₀ s) {inp : FrameIn} : SoundOut s₀ (execFrame inp s) := .finish (.orderRaises (.ite (.ite h.at.watchStale.framesChannels.frameStrings h.at.watchStale.framesChannels.frameStrings.rangeMarks.frameShelf) h.at))

theorem SoundOut.execShelfTick (h : Sound s₀ s) {late : List Nat} {t : Nat} : SoundOut s₀ (execShelfTick late t s) := by
  dsimp only [Machine.execShelfTick]
  refine .finish (.orderRaises ?_)
  split
  · split
    · exact h.at.tickCore.tickLane.latchHard.throttleFollow
    · exact h.at.tickCore.throttleFollow
  · exact h.at

/-! ### Machine/Writes.lean -/

theorem Sound.setHolding (h : Sound s₀ s) {via : Nat} {l : List (Nat × Word)} : Sound s₀ (s.setHolding via l) := .ite h.same (.ite h.same h.same)

theorem Sound.commitGate (h : Sound s₀ s) {via : Nat} {w : Word} : Sound s₀ (s.commitGate via w) := h.setHolding.setWide.markClamped.markClamped

theorem Sound.stringWritten (h : Sound s₀ s) {c k : Nat} {w : Word} : Sound s₀ (s.stringWritten c k w) := .ite (.ite (.lrnRequest (.ite (.ite (.relearn (.ite h.qclr h)) (.ite h.qclr h)) (.disarm (.ite (.relearn (.ite h.qclr h)) (.ite h.qclr h))))) (.ite (.ite (.relearn (.ite h.qclr h)) (.ite h.qclr h)) (.disarm (.ite (.relearn (.ite h.qclr h)) (.ite h.qclr h))))) (.ite h.disarm (.ite (.ite h.setC h) (.ite (.ite h h.disarm) h)))

theorem Sound.writeOwn (h : Sound s₀ s) {r : CtxRec} {k : Nat} {w : Word} : Sound s₀ (s.writeOwn r k w) := by
  dsimp only [State.writeOwn]
  split
  · exact .ite h.put.followMode (.ite h.writeFsw h.put)
  · exact .ite h.put.feedEnable h.put
  · exact .ite h.put.polEn (.ite h.put.polVset h.put)
  · exact .ite h.put.setSafe h.put
  · exact .ite h.putAs h.put.stringWritten
  · exact h.put

theorem Sound.writeCtx (h : Sound s₀ s) {r : CtxRec} {k : Nat} {w : Word} : Sound s₀ (s.writeCtx r k w) := .ite h.refuse (.ite h.writeOwn.setFlag h.writeOwn)

theorem Sound.writeSlotCtl (h : Sound s₀ s) {n : Nat} {w : Word} : Sound s₀ (s.writeSlotCtl n w) := .ite h.same.putAs (.ite h.putAs h.putAs)

theorem Sound.writeSlot (h : Sound s₀ s) {n k : Nat} {w : Word} : Sound s₀ (s.writeSlot n k w) := .ite h.writeSlotCtl (.ite (.ite h.refuse (.ite h.put.restartRamp h.put)) h.put)

theorem Sound.writeCdata (h : Sound s₀ s) {w : Word} : Sound s₀ (s.writeCdata w) := h.same.markClamped

theorem Sound.writeFabSlot (h : Sound s₀ s) {w : Word} : Sound s₀ (s.writeFabSlot w) := .ite h.put h.put.same

theorem Sound.writeCapply (h : Sound s₀ s) {w : Word} : Sound s₀ (s.writeCapply w) := .ite h.same (.ite h.same h)

theorem Sound.resetBlock (h : Sound s₀ s) {b : Nat} : Sound s₀ (s.resetBlock b) := by
  dsimp only [State.resetBlock]
  split
  · exact h
  · split
    · exact .ite h.setPort h.portReset
    · split
      · exact h.setFlag.setIface
      · exact h.setFlag.setIface
      · exact .ite h.setFlag.train h.setFlag
      · exact .ite h.setFlag.train h.setFlag
      · exact h.setFlag.gateStop

theorem Sound.writeBlk (h : Sound s₀ s) {w : Word} : Sound s₀ (s.writeBlk w) := .forEach h (fun _ _ h => h.resetBlock)

theorem Sound.acknowledgeCtx (h : Sound s₀ s) {c : Nat} : Sound s₀ (s.acknowledgeCtx c) := .ite h.ackOne.queueCmd h.ackOne

theorem Sound.writeAck (h : Sound s₀ s) {w : Word} : Sound s₀ (s.writeAck w) := .pumpAll (.forEach h (fun _ _ h => h.acknowledgeCtx))

theorem Sound.writeInject (h : Sound s₀ s) {via : Nat} {w : Word} : Sound s₀ (s.writeInject via w) := .ite h.raise h

theorem Sound.writeFe (h : Sound s₀ s) {w : Word} : Sound s₀ (s.writeFe w) := .ite h.put.same.setReg.setReg.setReg.setWide h.put

theorem Sound.settleMask (h : Sound s₀ s) : Sound s₀ (s.settleMask) := .ite h.same h

theorem Sound.writeCore (h : Sound s₀ s) {via a : Nat} {w : Word} : Sound s₀ (s.writeCore via a w) := .ite h.put.settleMask (.ite h.put.settleMask (.ite h.dormantRequest (.ite h.swapRequest (.ite h.restartRequest (.ite h.writeAck (.ite h.writeInject (.ite h.writeFe (.ite (.ite h.clearBox h) h.put))))))))

theorem Sound.readmit (h : Sound s₀ s) {second : Bool} {w : Word} : Sound s₀ (s.readmit second w) := .setFlag (.forEach h.put (fun _ _ h => h.clearCount))

theorem Sound.writePage (h : Sound s₀ s) {via a : Nat} {w : Word} : Sound s₀ (s.writePage via a w) := .ite h.same (.ite h.readmit (.ite h.readmit (.ite h.writeFabSlot (.ite h.writeCdata (.ite h.writeCapply (.ite (.onlyIf (.ite h.cmdSaddle h) (fun _ h => h.cmdReturn)) (.ite (.ite h.put.setHold h.put) (.ite h.put.same (.ite h.put.throttleFollow (.ite h.imgRequest (.ite h.fwRequest (.ite h.confirmRequest (.ite h.saveRequest (.ite (.ite h.deviceReset h) (.ite h.writeBlk (.ite h.fcntCmd (.ite h.setHolding (.ite h.commitGate (.ite (.onlyIf h.put.pollEnable (fun _ h => h.requalWrite)) (.ite h.put.portEnables (.ite h.remoteCmd (.ite h.put.same h.put))))))))))))))))))))))

theorem Sound.applyWrite (h : Sound s₀ s) {via a : Nat} {w : Word} : Sound s₀ (s.applyWrite via a w) := by
  unfold State.applyWrite
  extract_lets s
  have h' : Sound s₀ s := .ite h h.setHolding
  refine .ite h' (.ite h'.inc (.ite h'.writeCore (.ite h'.writePage (.ite ?_ h'.writeSlot))))
  split
  · exact h'.writeCtx
  · exact h'

theorem SoundOut.execBlockResetEnd (h : Sound s₀ s) {blk t : Nat} : SoundOut s₀ (execBlockResetEnd blk t s) := .finish (.ite (.ite h.at.setFlag.pump h.at.setFlag) h.at)

/-! ### Machine/HostPort.lean -/

theorem Sound.afterRead (h : Sound s₀ s) {a : Nat} : Sound s₀ (s.afterRead a) := .ite (.setReg (.ite h.inc h)) (.ite h.inc h)

theorem Sound.hostRead (h : Sound s₀ s) {p : Port} {a : Nat} : Sound s₀ (s.hostRead p a).2 := h.afterRead.setIface

theorem Sound.reply (h : Sound s₀ s) {p : Port} {head data : List Byte} : Sound s₀ (s.reply p head data) := h.setIface

theorem Sound.done (h : Sound s₀ s) {p : Port} : Sound s₀ (s.done p) := h.setIface

theorem Sound.busy (h : Sound s₀ s) {p : Port} : Sound s₀ (s.busy p) := h.setIface

theorem Sound.notAwake (h : Sound s₀ s) {p : Port} : Sound s₀ (s.notAwake p) := .ite (.wakeEvent (.onlyIf h.setIface (fun _ h => h.setFlag))) h.setIface

theorem Sound.notServed (h : Sound s₀ s) {p : Port} : Sound s₀ (s.notServed p) := h.setIface

theorem Sound.holdBack (h : Sound s₀ s) {p : Port} {op : HostOp} : Sound s₀ (s.holdBack p op) := .ite h.busy h.setIface

theorem Sound.hostWrite (h : Sound s₀ s) {p : Port} {a : Nat} {w : Word} : Sound s₀ (s.hostWrite p a w) := .applyWrite (.ite h.same h)

theorem Sound.hostBlock (h : Sound s₀ s) {p : Port} {sv : Service} {l : List (Nat × Word)} : Sound s₀ (State.hostBlock p sv l s) := by
  induction l generalizing s with
  | nil => exact h
  | cons x r ih => exact .ite (ih h) (.ite h.hostWrite (ih h.hostWrite))

theorem Sound.hostBlockRead (h : Sound s₀ s) {p : Port} {sv : Service} {l : List Nat} : Sound s₀ (State.hostBlockRead p sv l s).2 := by
  induction l generalizing s with
  | nil => exact h
  | cons a r ih =>
    refine ih ?_
    split
    · exact h.hostRead
    · exact h

theorem Sound.stageRun (h : Sound s₀ s) {p : Port} {code : Nat} {data : List Byte} : Sound s₀ (s.stageRun p code data) := .ite h.stageBegin (.ite h.stageData h.stageClose)

theorem Sound.framed (h : Sound s₀ s) {p : Port} {bs : List Byte} {pec : Option Byte} {f : State → State} (hf : ∀ m, Sound s₀ m → Sound s₀ (f m)) : Sound s₀ (s.framed p bs pec f) := by
  unfold State.framed
  split
  · exact h.violation
  · exact hf _ h.done

theorem Sound.dropWords (h : Sound s₀ s) {p : Port} {before : Iface} : Sound s₀ (s.dropWords p before) := h.violation.setIface

theorem Sound.serve (h : Sound s₀ s) {p : Port} {sv : Service} {op : HostOp} : Sound s₀ (s.serve p sv op) := by
  dsimp only [State.serve]
  split
  · exact h.hostRead.reply
  · exact h.hostRead.reply
  · exact .framed h (fun _ h => h.hostWrite)
  · exact h.done.hostWrite
  · exact h.hostBlockRead.setIface.reply
  · exact .ite h.violation (.ite h.violation (.framed h (fun _ h => .hostBlock (.ite h.setIface.dropWords h.setIface))))
  · exact .framed h (fun _ h => h.stageRun)
  · exact h.reply

theorem Sound.hostWake (h : Sound s₀ s) {p : Port} : Sound s₀ (s.hostWake p) := .ite h.abortEntry h

theorem Sound.hostRun (h : Sound s₀ s) {p : Port} {op : HostOp} : Sound s₀ (s.hostRun p op) := .ite h (.ite h.notAwake (.ite h.notServed (.ite (.ite h.holdBack h.refuseOp) (.ite h.violation (.ite h.holdBack (.ite h.holdBack h.serve))))))

theorem Sound.hostOp (h : Sound s₀ s) {p : Port} {op : HostOp} : Sound s₀ (s.hostOp p op) := h.hostWake.hostRun

theorem Sound.resume (h : Sound s₀ s) {p : Port} : Sound s₀ (s.resume p) := by
  unfold State.resume
  split
  · exact .ite h.setIface.hostRun h
  · exact h

theorem Sound.resumeAll (h : Sound s₀ s) : Sound s₀ (s.resumeAll) := h.resume.resume

theorem Sound.control (h : Sound s₀ s) {p : Port} {f : State → State} (hf : ∀ m, Sound s₀ m → Sound s₀ (f m)) : Sound s₀ (s.control p f) :=
  .ite h (.ite h.notAwake (.ite h.notServed (hf _ h.hostWake)))

theorem SoundOut.execWordWrite (h : Sound s₀ s) {p : Port} {code : Nat} {b0 b1 b2 : Byte} {pec : Option Byte} {t : Nat} : SoundOut s₀ (execWordWrite p code b0 b1 b2 pec t s) := .finish h.at.hostOp

theorem SoundOut.execWordRead (h : Sound s₀ s) {p : Port} {code t : Nat} : SoundOut s₀ (execWordRead p code t s) := .finish h.at.hostOp

theorem SoundOut.execWideValueFirstRead (h : Sound s₀ s) {p : Port} {code t : Nat} : SoundOut s₀ (execWideValueFirstRead p code t s) := .finish h.at.hostOp

theorem SoundOut.execBlockRead (h : Sound s₀ s) {p : Port} {n t : Nat} : SoundOut s₀ (execBlockRead p n t s) := .finish h.at.hostOp

theorem SoundOut.execBlockWrite (h : Sound s₀ s) {p : Port} {n : Nat} {data : List Byte} {pec : Option Byte} {t : Nat} : SoundOut s₀ (execBlockWrite p n data pec t s) := .finish h.at.hostOp

theorem SoundOut.execPtrWrite (h : Sound s₀ s) {p : Port} {lo hi : Byte} {pec : Option Byte} {t : Nat} : SoundOut s₀ (execPtrWrite p lo hi pec t s) := .finish (.control h.at (fun _ h => .framed h (fun _ h => h.setIface)))

theorem SoundOut.execPtrRead (h : Sound s₀ s) {p : Port} {t : Nat} : SoundOut s₀ (execPtrRead p t s) := .finish (.control h.at (fun _ h => h.reply))

theorem SoundOut.execCpageWrite (h : Sound s₀ s) {p : Port} {v : Byte} {pec : Option Byte} {t : Nat} : SoundOut s₀ (execCpageWrite p v pec t s) := .finish (.control h.at (fun _ h => .ite h.violation (.framed h (fun _ h => h.setIface))))

theorem SoundOut.execCpageRead (h : Sound s₀ s) {p : Port} {t : Nat} : SoundOut s₀ (execCpageRead p t s) := .finish (.control h.at (fun _ h => h.reply))

theorem SoundOut.execGpageWrite (h : Sound s₀ s) {p : Port} {v : Byte} {pec : Option Byte} {t : Nat} : SoundOut s₀ (execGpageWrite p v pec t s) := .finish (.control h.at (fun _ h => .ite h.violation (.framed h (fun _ h => h.setIface))))

theorem SoundOut.execGpageRead (h : Sound s₀ s) {p : Port} {t : Nat} : SoundOut s₀ (execGpageRead p t s) := .finish (.control h.at (fun _ h => h.reply))

theorem Sound.freezeBox (h : Sound s₀ s) {p : Port} : Sound s₀ (s.freezeBox p) := .ite h h.setFlag.setFld.same.start

theorem SoundOut.execFreeze (h : Sound s₀ s) {p : Port} {pec : Option Byte} {t : Nat} : SoundOut s₀ (execFreeze p pec t s) := .finish (.control h.at (fun _ h => .framed h (fun _ h => h.freezeBox)))

theorem SoundOut.execThaw (h : Sound s₀ s) {p : Port} {pec : Option Byte} {t : Nat} : SoundOut s₀ (execThaw p pec t s) := .finish (.control h.at (fun _ h => .framed h (fun _ h => h.thaw)))

theorem SoundOut.execFreezeRead (h : Sound s₀ s) {p : Port} {t : Nat} : SoundOut s₀ (execFreezeRead p t s) := .finish (.control h.at (fun _ h => h.reply))

theorem SoundOut.execSummary (h : Sound s₀ s) {p : Port} {t : Nat} : SoundOut s₀ (execSummary p t s) := .finish (.control h.at (fun _ h => h.reply))

theorem SoundOut.execReceiveWithoutCommand (h : Sound s₀ s) {t : Nat} : SoundOut s₀ (execReceiveWithoutCommand t s) := .finish (.control h.at (fun _ h => h.setIface))

theorem SoundOut.execAddressProbe (h : Sound s₀ s) {t : Nat} : SoundOut s₀ (execAddressProbe t s) := .finish (.control h.at (fun _ h => h.setIface))

theorem SoundOut.execSpiNoop (h : Sound s₀ s) {t : Nat} : SoundOut s₀ (execSpiNoop t s) := .finish (.control h.at (fun _ h => h.setIface))

theorem SoundOut.execAlertResponse (h : Sound s₀ s) {won : Bool} {t : Nat} : SoundOut s₀ (execAlertResponse won t s) := .finish (.ite h.at (.ite (.ite h.at.setIface.same h.at.setIface) h.at.setIface))

theorem SoundOut.execOpenSession (h : Sound s₀ s) {p : Port} {data : List Byte} {pec : Option Byte} {t : Nat} : SoundOut s₀ (execOpenSession p data pec t s) := .finish h.at.hostOp

theorem SoundOut.execDataFrame (h : Sound s₀ s) {p : Port} {data : List Byte} {pec : Option Byte} {t : Nat} : SoundOut s₀ (execDataFrame p data pec t s) := .finish h.at.hostOp

theorem SoundOut.execCloseCheck (h : Sound s₀ s) {p : Port} {pec : Option Byte} {t : Nat} : SoundOut s₀ (execCloseCheck p pec t s) := .finish h.at.hostOp

theorem SoundOut.execCloseAbandon (h : Sound s₀ s) {p : Port} {pec : Option Byte} {t : Nat} : SoundOut s₀ (execCloseAbandon p pec t s) := .finish h.at.hostOp

theorem SoundOut.execStatus (h : Sound s₀ s) {p : Port} {t : Nat} : SoundOut s₀ (execStatus p t s) := .finish h.at.hostOp

theorem SoundOut.execStagingCommitDone (h : Sound s₀ s) {t : Nat} : SoundOut s₀ (execStagingCommitDone t s) := by
  dsimp only [Machine.execStagingCommitDone]
  refine .finish ?_
  split
  · exact .ite h.at.stageApply.resumeAll h.at
  · exact h.at

theorem SoundOut.execHostProtocolViolation (h : Sound s₀ s) {p : Port} {code : Nat} {cmd : Byte} {idx t : Nat} : SoundOut s₀ (execHostProtocolViolation p code cmd idx t s) := .finish (.ite h.at (.ite h.at.hostWake.setIface.violation.setIface h.at.hostWake.setIface.violation))

theorem SoundOut.execHostBusTimeout (h : Sound s₀ s) {p : Port} {cmd : Byte} {idx t : Nat} : SoundOut s₀ (execHostBusTimeout p cmd idx t s) := .finish (.ite h.at h.at.setIface.violation)

/-! ### Machine/HostRows.lean -/

theorem SoundOut.execSysDormantRequest (h : Sound s₀ s) {p : Port} {w : Word} {t : Nat} : SoundOut s₀ (execSysDormantRequest p w t s) := .finish h.at.hostOp

theorem SoundOut.execFabCdataWrite (h : Sound s₀ s) {p : Port} {w : Word} {t : Nat} : SoundOut s₀ (execFabCdataWrite p w t s) := .finish h.at.hostOp

theorem SoundOut.execFabSlotWrite (h : Sound s₀ s) {p : Port} {w : Word} {t : Nat} : SoundOut s₀ (execFabSlotWrite p w t s) := .finish h.at.hostOp

theorem SoundOut.execFabCoefApply (h : Sound s₀ s) {p : Port} {w : Word} {t : Nat} : SoundOut s₀ (execFabCoefApply p w t s) := .finish h.at.hostOp

theorem SoundOut.execFabCoefDiscard (h : Sound s₀ s) {p : Port} {w : Word} {t : Nat} : SoundOut s₀ (execFabCoefDiscard p w t s) := .finish h.at.hostOp

theorem SoundOut.execLaneSwap (h : Sound s₀ s) {p : Port} {w : Word} {t : Nat} : SoundOut s₀ (execLaneSwap p w t s) := .finish h.at.hostOp

theorem SoundOut.execLaneRestartStart (h : Sound s₀ s) {p : Port} {w : Word} {t : Nat} : SoundOut s₀ (execLaneRestartStart p w t s) := .finish h.at.hostOp

theorem SoundOut.execLaneClrbad (h : Sound s₀ s) {p : Port} {w : Word} {t : Nat} : SoundOut s₀ (execLaneClrbad p w t s) := .finish h.at.hostOp

theorem SoundOut.execImgCheck (h : Sound s₀ s) {p : Port} {w : Word} {t : Nat} : SoundOut s₀ (execImgCheck p w t s) := .finish h.at.hostOp

theorem SoundOut.execImgSwitch (h : Sound s₀ s) {p : Port} {w : Word} {t : Nat} : SoundOut s₀ (execImgSwitch p w t s) := .finish h.at.hostOp

theorem SoundOut.execSadCmdSaddle (h : Sound s₀ s) {p : Port} {w : Word} {t : Nat} : SoundOut s₀ (execSadCmdSaddle p w t s) := .finish h.at.hostOp

theorem SoundOut.execSadCmdReturn (h : Sound s₀ s) {p : Port} {w : Word} {t : Nat} : SoundOut s₀ (execSadCmdReturn p w t s) := .finish h.at.hostOp

theorem SoundOut.execThrForceWrite (h : Sound s₀ s) {p : Port} {w : Word} {t : Nat} : SoundOut s₀ (execThrForceWrite p w t s) := .finish h.at.hostOp

theorem SoundOut.execSeqOn (h : Sound s₀ s) {p : Port} {w : Word} {t : Nat} : SoundOut s₀ (execSeqOn p w t s) := .finish h.at.hostOp

theorem SoundOut.execSeqOff (h : Sound s₀ s) {p : Port} {w : Word} {t : Nat} : SoundOut s₀ (execSeqOff p w t s) := .finish h.at.hostOp

theorem SoundOut.execSeqForce (h : Sound s₀ s) {p : Port} {w : Word} {t : Nat} : SoundOut s₀ (execSeqForce p w t s) := .finish h.at.hostOp

theorem SoundOut.execFltoutWrite (h : Sound s₀ s) {p : Port} {w : Word} {t : Nat} : SoundOut s₀ (execFltoutWrite p w t s) := .finish h.at.hostOp

theorem SoundOut.execFaultAck (h : Sound s₀ s) {p : Port} {w : Word} {t : Nat} : SoundOut s₀ (execFaultAck p w t s) := .finish h.at.hostOp

theorem SoundOut.execFaultInject (h : Sound s₀ s) {p : Port} {w : Word} {t : Nat} : SoundOut s₀ (execFaultInject p w t s) := .finish h.at.hostOp

theorem SoundOut.execFeClear (h : Sound s₀ s) {p : Port} {w : Word} {t : Nat} : SoundOut s₀ (execFeClear p w t s) := .finish h.at.hostOp

theorem SoundOut.execBbClear (h : Sound s₀ s) {p : Port} {w : Word} {t : Nat} : SoundOut s₀ (execBbClear p w t s) := .finish h.at.hostOp

theorem SoundOut.execCascPortEnableWrite (h : Sound s₀ s) {p : Port} {w : Word} {t : Nat} : SoundOut s₀ (execCascPortEnableWrite p w t s) := .finish h.at.hostOp

theorem SoundOut.execCascRemoteRead (h : Sound s₀ s) {p : Port} {w : Word} {t : Nat} : SoundOut s₀ (execCascRemoteRead p w t s) := .finish h.at.hostOp

theorem SoundOut.execCascRemoteWrite (h : Sound s₀ s) {p : Port} {w : Word} {t : Nat} : SoundOut s₀ (execCascRemoteWrite p w t s) := .finish h.at.hostOp

theorem SoundOut.execCascRemoteReset (h : Sound s₀ s) {p : Port} {w : Word} {t : Nat} : SoundOut s₀ (execCascRemoteReset p w t s) := .finish h.at.hostOp

theorem SoundOut.execRstSw (h : Sound s₀ s) {p : Port} {w : Word} {t : Nat} : SoundOut s₀ (execRstSw p w t s) := .finish h.at.hostOp

theorem SoundOut.execRstBlk (h : Sound s₀ s) {p : Port} {w : Word} {t : Nat} : SoundOut s₀ (execRstBlk p w t s) := .finish h.at.hostOp

theorem SoundOut.execFcntStart (h : Sound s₀ s) {p : Port} {w : Word} {t : Nat} : SoundOut s₀ (execFcntStart p w t s) := .finish h.at.hostOp

theorem SoundOut.execFcntStop (h : Sound s₀ s) {p : Port} {w : Word} {t : Nat} : SoundOut s₀ (execFcntStop p w t s) := .finish h.at.hostOp

theorem SoundOut.execFwActivate (h : Sound s₀ s) {p : Port} {w : Word} {t : Nat} : SoundOut s₀ (execFwActivate p w t s) := .finish h.at.hostOp

theorem SoundOut.execTrialConfirm (h : Sound s₀ s) {p : Port} {w : Word} {t : Nat} : SoundOut s₀ (execTrialConfirm p w t s) := .finish h.at.hostOp

theorem SoundOut.execSettingsSave (h : Sound s₀ s) {p : Port} {w : Word} {t : Nat} : SoundOut s₀ (execSettingsSave p w t s) := .finish h.at.hostOp

theorem SoundOut.execSensorReadmit (h : Sound s₀ s) {p : Port} {second : Bool} {w : Word} {t : Nat} : SoundOut s₀ (execSensorReadmit p second w t s) := .finish h.at.hostOp

theorem SoundOut.execBbPdataRead (h : Sound s₀ s) {p : Port} {t : Nat} : SoundOut s₀ (execBbPdataRead p t s) := .finish h.at.hostOp

theorem SoundOut.execSlotSetWrite (h : Sound s₀ s) {p : Port} {slot : Nat} {w : Word} {t : Nat} : SoundOut s₀ (execSlotSetWrite p slot w t s) := .finish (.ite h.at.hostOp h.at)

theorem SoundOut.execDspRequal (h : Sound s₀ s) {p : Port} {port : Nat} {w : Word} {t : Nat} : SoundOut s₀ (execDspRequal p port w t s) := .finish (.ite h.at.hostOp h.at)

theorem Sound.ctxRow (h : Sound s₀ s) {p : Port} {typ : CtxType} {c k : Nat} {w : Word} : Sound s₀ (s.ctxRow p typ c k w) := .ite h.hostOp h

theorem SoundOut.execGrpFswWrite (h : Sound s₀ s) {p : Port} {c : Nat} {w : Word} {t : Nat} : SoundOut s₀ (execGrpFswWrite p c w t s) := .finish h.at.ctxRow

theorem SoundOut.execFeedEnableWrite (h : Sound s₀ s) {p : Port} {c : Nat} {w : Word} {t : Nat} : SoundOut s₀ (execFeedEnableWrite p c w t s) := .finish h.at.ctxRow

theorem SoundOut.execEstQclr (h : Sound s₀ s) {p : Port} {c : Nat} {w : Word} {t : Nat} : SoundOut s₀ (execEstQclr p c w t s) := .finish h.at.ctxRow

theorem SoundOut.execEstRelearn (h : Sound s₀ s) {p : Port} {c : Nat} {w : Word} {t : Nat} : SoundOut s₀ (execEstRelearn p c w t s) := .finish h.at.ctxRow

theorem SoundOut.execEstCommit (h : Sound s₀ s) {p : Port} {c : Nat} {w : Word} {t : Nat} : SoundOut s₀ (execEstCommit p c w t s) := .finish h.at.ctxRow

theorem SoundOut.execPolEnWrite (h : Sound s₀ s) {p : Port} {c : Nat} {w : Word} {t : Nat} : SoundOut s₀ (execPolEnWrite p c w t s) := .finish h.at.ctxRow

theorem SoundOut.execPolVsetWrite (h : Sound s₀ s) {p : Port} {c : Nat} {w : Word} {t : Nat} : SoundOut s₀ (execPolVsetWrite p c w t s) := .finish h.at.ctxRow

/-! ### Machine/Links.lean -/

theorem Sound.refuseRemote (h : Sound s₀ s) {p : List Byte} : Sound s₀ (s.refuseRemote p) := h.answer.linkEvent

theorem Sound.takeRead (h : Sound s₀ s) {src : Nat} {p : List Byte} : Sound s₀ (s.takeRead src p) := .ite h (.ite h.refuseRemote h.afterRead.same.answer)

theorem Sound.takeWrite (h : Sound s₀ s) {src : Nat} {p : List Byte} : Sound s₀ (s.takeWrite src p) := .ite h (.ite h.refuseRemote (.ite h.same (.answer (.applyWrite (.ite h.same h)))))

theorem Sound.resumeRemote (h : Sound s₀ s) : Sound s₀ (s.resumeRemote) := by
  dsimp only [State.resumeRemote]
  split
  · exact .ite h.same.takeWrite h
  · exact h

theorem Sound.takeReset (h : Sound s₀ s) {src : Nat} {p : List Byte} : Sound s₀ (s.takeReset src p) := .ite h.linkEvent.deviceReset h

theorem Sound.takeMessage (h : Sound s₀ s) {down : Bool} {typ src : Nat} {p : List Byte} : Sound s₀ (s.takeMessage down typ src p) := by
  unfold State.takeMessage
  split
  · exact h.takeHello
  · exact h.takeEcho
  · exact .ite h.takeReply h
  · exact .ite h h.takeTime
  · exact h.takeReport
  · exact h.takeAllocs
  · exact h.takeRead
  · exact h.takeWrite
  · exact h.takeAnswer
  · exact h.takeReset

theorem Sound.takeFrame (h : Sound s₀ s) {down : Bool} {f : List Byte} : Sound s₀ (s.takeFrame down f) := .ite (.takeMessage (.ite h.trackSeq.passOn h.trackSeq)) (.ite h.trackSeq.passOn h.trackSeq)

theorem Sound.linkActivity (h : Sound s₀ s) {down : Bool} : Sound s₀ (s.linkActivity down) := .ite h.wakeEvent h

theorem Sound.received (h : Sound s₀ s) {down : Bool} {f : State → State} (hf : ∀ m, Sound s₀ m → Sound s₀ (f m)) : Sound s₀ (s.received down f) :=
  .ite h.linkActivity (hf _ h.linkActivity)

theorem SoundOut.execLinkTrained (h : Sound s₀ s) {down : Bool} {t : Nat} : SoundOut s₀ (execLinkTrained down t s) := .finish (.received h.at.clearOut (fun _ h => .ite h.setLinkState.linkChange.helloOut h))

theorem Sound.frameIn (h : Sound s₀ s) {down : Bool} {frame : List Byte} {violations : Nat} : Sound s₀ (s.frameIn down frame violations) := .ite (.ite h.discardFrame (.ite h.trackSeq.takeHello h.trackSeq)) (.ite (.ite h.discardFrame h.takeFrame) h)

theorem SoundOut.execLinkFrameReceive (h : Sound s₀ s) {down : Bool} {frame : List Byte} {violations t : Nat} : SoundOut s₀ (execLinkFrameReceive down frame violations t s) := .finish (.received h.at.clearOut (fun _ h => h.countCodes.frameIn))

theorem SoundOut.execHello (h : Sound s₀ s) {down : Bool} {payload : List Byte} {t : Nat} : SoundOut s₀ (execHello down payload t s) := .finish (.received h.at.clearOut (fun _ h => h.takeHello))

theorem SoundOut.execEchoRequest (h : Sound s₀ s) {down : Bool} {payload : List Byte} {t : Nat} : SoundOut s₀ (execEchoRequest down payload t s) := .finish (.received h.at.clearOut (fun _ h => h.takeEcho))

theorem SoundOut.execEchoReply (h : Sound s₀ s) {payload : List Byte} {t : Nat} : SoundOut s₀ (execEchoReply payload t s) := .finish (.received h.at.clearOut (fun _ h => h.takeReply))

theorem SoundOut.execTime (h : Sound s₀ s) {payload : List Byte} {t : Nat} : SoundOut s₀ (execTime payload t s) := .finish (.received h.at.clearOut (fun _ h => h.takeTime))

theorem SoundOut.execReport (h : Sound s₀ s) {src : Nat} {payload : List Byte} {t : Nat} : SoundOut s₀ (execReport src payload t s) := .finish (.received h.at.clearOut (fun _ h => h.takeReport))

theorem SoundOut.execAlloc (h : Sound s₀ s) {payload : List Byte} {t : Nat} : SoundOut s₀ (execAlloc payload t s) := .finish (.received h.at.clearOut (fun _ h => h.takeAllocs))

theorem SoundOut.execRemoteAnswer (h : Sound s₀ s) {src : Nat} {payload : List Byte} {t : Nat} : SoundOut s₀ (execRemoteAnswer src payload t s) := .finish (.received h.at.clearOut (fun _ h => .ite h.takeAnswer h))

theorem SoundOut.execRemoteRead (h : Sound s₀ s) {src : Nat} {payload : List Byte} {t : Nat} : SoundOut s₀ (execRemoteRead src payload t s) := .finish (.received h.at.clearOut (fun _ h => h.takeRead))

theorem SoundOut.execRemoteWrite (h : Sound s₀ s) {src : Nat} {payload : List Byte} {t : Nat} : SoundOut s₀ (execRemoteWrite src payload t s) := .finish (.received h.at.clearOut (fun _ h => h.takeWrite))

theorem SoundOut.execReset (h : Sound s₀ s) {src : Nat} {payload : List Byte} {t : Nat} : SoundOut s₀ (execReset src payload t s) := .finish (.received h.at.clearOut (fun _ h => h.takeReset))

/-! ### Machine/Takeover.lean -/

theorem Sound.afterCommit (h : Sound s₀ s) {boundary : Nat} : Sound s₀ (s.afterCommit boundary) := .ite h.enterDormant (.ite h.resumeAll.resumeRemote h.changeLanes.resumeAll.resumeRemote)

theorem SoundOut.execCheckpointCommitDone (h : Sound s₀ s) {t : Nat} : SoundOut s₀ (execCheckpointCommitDone t s) := by
  dsimp only [Machine.execCheckpointCommitDone]
  refine .finish ?_
  split
  · exact h.at.commitCkpt.afterCommit
  · exact h.at

theorem Sound.replay (h : Sound s₀ s) : Sound s₀ (s.replay) := .forEach h (fun _ _ h => h.applyWrite)

theorem Sound.afterRestore (h : Sound s₀ s) {im : Image} {epoch : Nat} : Sound s₀ (s.afterRestore im epoch) := h.rebuildFabric.replay.same

theorem Sound.restoreLane (h : Sound s₀ s) {k : ColKind} : Sound s₀ (s.restoreLane k) := by
  dsimp only [State.restoreLane]
  split
  · exact h.restoreFails
  · split
    · exact h.same
    · split
      · exact h.same.restoreSame.afterRestore
      · exact h.same

theorem Sound.dropBuffers (h : Sound s₀ s) {badA badB : Bool} : Sound s₀ (s.dropBuffers badA badB) := by
  dsimp only [State.dropBuffers]
  split
  · exact h
  · split
    · exact .setWide (.onlyIf (.onlyIf h.same (fun _ h => h.coreRaise)) (fun _ h => h.coreRaise))
    · exact .onlyIf (.onlyIf h.same (fun _ h => h.coreRaise)) (fun _ h => h.coreRaise)

theorem SoundOut.execLaneRestoreComplete (h : Sound s₀ s) {inp : RestoreIn} : SoundOut s₀ (execLaneRestoreComplete inp s) := by
  dsimp only [Machine.execLaneRestoreComplete]
  refine .finish ?_
  split
  · exact .ite h.at h.at.dropBuffers.restoreLane
  · exact h.at

theorem Sound.inCharge (h : Sound s₀ s) {l : LaneId} : Sound s₀ (s.inCharge l) := .freeChannels (.setSys (.same (.ite (.setFlag (.setReg (.ite h.setLane.setLane h.setLane))) (.ite h.setLane.setLane h.setLane))))

theorem Sound.requalifyFeeds (h : Sound s₀ s) : Sound s₀ (s.requalifyFeeds) := .forEach h (fun _ _ h => .ite h.setQualified.stop.stop.trackFeed (.ite h.loseQualification h))

theorem Sound.switchIn (h : Sound s₀ s) : Sound s₀ s.switchIn := by
  dsimp only [State.switchIn]
  split
  · rename_i new _ _ hn _ _
    have hb (h0 : ImagesFit s₀) : ByteImage new := (h.2 h0).2 new hn
    refine .seeStale (.onlyIf (.portEnables (.afterRestore (.restoreUnder ?_ hb))) (fun _ h => h.requalifyFeeds))
    refine ⟨h.1, fun h0 => ⟨fun x hx => ?_, fun _ hx => nomatch hx⟩⟩
    obtain rfl : new = x := Option.some.inj hx
    exact hb h0
  · exact h

theorem Sound.switchDone (h : Sound s₀ s) : Sound s₀ (s.switchDone) := by
  unfold State.switchDone
  split
  · extract_lets s1 upd s2
    have h1 : Sound s₀ s1 := h.gOffer.alert.showImage
    have hb : Sound s₀ { s1 with upd := { s1.upd with check := none } } := h1.same
    have h2 : Sound s₀ s2 := hb.showBusy
    exact .ite h2.setFlag.releaseKept h2.setSlotState.startTrial
  · exact h

theorem Sound.swapDone (h : Sound s₀ s) : Sound s₀ (s.swapDone) := by
  dsimp only [State.swapDone]
  split
  · exact h.setFlag.inc.same.startTrial
  · exact h.setFlag.inc

theorem Sound.startDone (h : Sound s₀ s) : Sound s₀ (s.startDone) := by
  dsimp only [State.startDone]
  split
  · exact h.fillOther.fillOtherPrograms.writeRec.same.startTrial
  · exact h.fillOther.fillOtherPrograms.writeRec

theorem Sound.restartRest (h : Sound s₀ s) {c : Nat} : Sound s₀ (s.restartRest c) := h.stop.setFlag

theorem Sound.restsAfterCol (h : Sound s₀ s) : Sound s₀ (s.restsAfterCol) := .forEach h (fun _ _ h => .ite h.restartRest h)

theorem Sound.holdDone (h : Sound s₀ s) : Sound s₀ (s.holdDone) := .forEach h.coreRec.setReg.stop.requalifyFeeds.stop.setFlag.same (fun _ _ h => h.restartRest)

theorem Sound.resumeSaddle (h : Sound s₀ s) : Sound s₀ (s.resumeSaddle) := by
  unfold State.resumeSaddle
  split
  · exact h.catchActions
  · exact h.setHold
  · split
    · exact h.setHold
    · exact h
  · exact h.closeActions
  · exact h.modeAll.setRelease
  · exact h

theorem Sound.firmwareInCharge (h : Sound s₀ s) {l : LaneId} : Sound s₀ (s.firmwareInCharge l) := by
  dsimp only [State.firmwareInCharge]
  split
  · split
    · refine .failTrial ?_
      split
      · exact .ite h.runFirmware.setFlag h.runFirmware
      · exact h
    · split
      · exact .ite h.runFirmware.setFlag h.runFirmware
      · exact h
  · split
    · exact .ite h.runFirmware.setFlag h.runFirmware
    · exact h

theorem Sound.takeoverDone (h : Sound s₀ s) {k : ColKind} : Sound s₀ (s.takeoverDone k) := by
  unfold State.takeoverDone
  split
  · exact h.restsAfterCol.catchUp.swapDone
  · exact h.restsAfterCol.catchUp.switchDone
  · exact h.restsAfterCol.catchUp
  · exact h.restsAfterCol.catchUp
  · exact h.restsAfterCol.catchUp
  · exact h.holdDone
  · exact h
  · exact h
  · exact h.startDone

theorem Sound.beforeStamp (h : Sound s₀ s) {k : ColKind} : Sound s₀ (s.beforeStamp k) := by
  unfold State.beforeStamp
  split
  · exact h.switchIn
  · split
    · exact h.restoreSame.afterRestore
    · exact h
  · exact h

theorem SoundOut.execFirstStampedCommand (h : Sound s₀ s) {t : Nat} : SoundOut s₀ (execFirstStampedCommand t s) := by
  dsimp only [Machine.execFirstStampedCommand]
  refine .finish ?_
  split
  · exact h.at.beforeStamp.inCharge.flushSlots.flushSave.firmwareInCharge.takeoverDone.resumeSaddle.recordLog.drainInputs.takeHeld.pumpAll.resumeAll.resumeRemote
  · exact h.at

/-! ### The dispatcher and the step -/

/-- Every instruction keeps what every step keeps. -/
theorem SoundOut.exec (h : Sound s₀ s) {i : Instr} : SoundOut s₀ (Machine.exec i s) := by
  cases i with
  | wordWrite => exact SoundOut.execWordWrite h
  | wordRead => exact SoundOut.execWordRead h
  | wideValueFirstRead => exact SoundOut.execWideValueFirstRead h
  | ptrWrite => exact SoundOut.execPtrWrite h
  | ptrRead => exact SoundOut.execPtrRead h
  | blockRead => exact SoundOut.execBlockRead h
  | blockWrite => exact SoundOut.execBlockWrite h
  | cpageWrite => exact SoundOut.execCpageWrite h
  | cpageRead => exact SoundOut.execCpageRead h
  | gpageWrite => exact SoundOut.execGpageWrite h
  | gpageRead => exact SoundOut.execGpageRead h
  | freeze => exact SoundOut.execFreeze h
  | thaw => exact SoundOut.execThaw h
  | freezeRead => exact SoundOut.execFreezeRead h
  | summary => exact SoundOut.execSummary h
  | receiveWithoutCommand => exact SoundOut.execReceiveWithoutCommand h
  | addressProbe => exact SoundOut.execAddressProbe h
  | spiNoop => exact SoundOut.execSpiNoop h
  | alertResponse => exact SoundOut.execAlertResponse h
  | openSession => exact SoundOut.execOpenSession h
  | dataFrame => exact SoundOut.execDataFrame h
  | stagingCommitDone => exact SoundOut.execStagingCommitDone h
  | closeCheck => exact SoundOut.execCloseCheck h
  | stagingCheckDone => exact SoundOut.execStagingCheckDone h
  | closeAbandon => exact SoundOut.execCloseAbandon h
  | status => exact SoundOut.execStatus h
  | hostProtocolViolation => exact SoundOut.execHostProtocolViolation h
  | hostBusTimeout => exact SoundOut.execHostBusTimeout h
  | sysDormantRequest => exact SoundOut.execSysDormantRequest h
  | dormantEntryAbort => exact SoundOut.execDormantEntryAbort h
  | wake => exact SoundOut.execWake h
  | frame => exact SoundOut.execFrame h
  | sampleInstant => exact SoundOut.execSampleInstant h
  | shelfTick => exact SoundOut.execShelfTick h
  | governorChange => exact SoundOut.execGovernorChange h
  | fabCdataWrite => exact SoundOut.execFabCdataWrite h
  | fabSlotWrite => exact SoundOut.execFabSlotWrite h
  | fabCoefApply => exact SoundOut.execFabCoefApply h
  | fabCoefDiscard => exact SoundOut.execFabCoefDiscard h
  | slotSetWrite => exact SoundOut.execSlotSetWrite h
  | slotEnable => exact SoundOut.execSlotEnable h
  | epochBoundary => exact SoundOut.execEpochBoundary h
  | checkpointCommitDone => exact SoundOut.execCheckpointCommitDone h
  | heartbeatTimeout => exact SoundOut.execHeartbeatTimeout h
  | laneHandback => exact SoundOut.execLaneHandback h
  | authorityConflict => exact SoundOut.execAuthorityConflict h
  | lanePowered => exact SoundOut.execLanePowered h
  | laneRestoreComplete => exact SoundOut.execLaneRestoreComplete h
  | firstStampedCommand => exact SoundOut.execFirstStampedCommand h
  | restoreFail => exact SoundOut.execRestoreFail h
  | laneSwap => exact SoundOut.execLaneSwap h
  | laneRestartStart => exact SoundOut.execLaneRestartStart h
  | laneClrbad => exact SoundOut.execLaneClrbad h
  | laneAutoRestart => exact SoundOut.execLaneAutoRestart h
  | laneWatchdogExpiry => exact SoundOut.execLaneWatchdogExpiry h
  | imgCheck => exact SoundOut.execImgCheck h
  | imgSwitch => exact SoundOut.execImgSwitch h
  | loaderCheckDone => exact SoundOut.execLoaderCheckDone h
  | groupEnable => exact SoundOut.execGroupEnable h
  | groupDisable => exact SoundOut.execGroupDisable h
  | grpFswWrite => exact SoundOut.execGrpFswWrite h
  | groupPowerGood => exact SoundOut.execGroupPowerGood h
  | groupPowerGoodLost => exact SoundOut.execGroupPowerGoodLost h
  | softStartTimeout => exact SoundOut.execSoftStartTimeout h
  | hiccupEnd => exact SoundOut.execHiccupEnd h
  | groupRetrycntClear => exact SoundOut.execGroupRetrycntClear h
  | phaseTrip => exact SoundOut.execPhaseTrip h
  | phaseTripRepeat => exact SoundOut.execPhaseTripRepeat h
  | phaseImbalanceBlockEnd => exact SoundOut.execPhaseImbalanceBlockEnd h
  | syncAcquire => exact SoundOut.execSyncAcquire h
  | syncAligned => exact SoundOut.execSyncAligned h
  | syncLoss => exact SoundOut.execSyncLoss h
  | shedTransitionEnd => exact SoundOut.execShedTransitionEnd h
  | gateTrip => exact SoundOut.execGateTrip h
  | channelEnhanced => exact SoundOut.execChannelEnhanced h
  | channelEnhancementLost => exact SoundOut.execChannelEnhancementLost h
  | attemptTimerExpiry => exact SoundOut.execAttemptTimerExpiry h
  | feedEnableWrite => exact SoundOut.execFeedEnableWrite h
  | feedQualified => exact SoundOut.execFeedQualified h
  | feedQualificationLost => exact SoundOut.execFeedQualificationLost h
  | feedOldGateOff => exact SoundOut.execFeedOldGateOff h
  | feedSlowOff => exact SoundOut.execFeedSlowOff h
  | feedDeadTimeEnd => exact SoundOut.execFeedDeadTimeEnd h
  | feedSlowOn => exact SoundOut.execFeedSlowOn h
  | idealDiodeTurnOn => exact SoundOut.execIdealDiodeTurnOn h
  | branchEnable => exact SoundOut.execBranchEnable h
  | branchDisable => exact SoundOut.execBranchDisable h
  | branchPowerGood => exact SoundOut.execBranchPowerGood h
  | branchPowerGoodDrop => exact SoundOut.execBranchPowerGoodDrop h
  | branchLimitStart => exact SoundOut.execBranchLimitStart h
  | branchLimitEnd => exact SoundOut.execBranchLimitEnd h
  | branchOvertemp => exact SoundOut.execBranchOvertemp h
  | branchCooldownEnd => exact SoundOut.execBranchCooldownEnd h
  | brCoolremUpdate => exact SoundOut.execBrCoolremUpdate h
  | branchRetrycntClear => exact SoundOut.execBranchRetrycntClear h
  | stringEnable => exact SoundOut.execStringEnable h
  | stringDisable => exact SoundOut.execStringDisable h
  | stringCutoff => exact SoundOut.execStringCutoff h
  | stringCutoffExit => exact SoundOut.execStringCutoffExit h
  | dhCooldownEnd => exact SoundOut.execDhCooldownEnd h
  | dhRetrycntClear => exact SoundOut.execDhRetrycntClear h
  | hollowStart => exact SoundOut.execHollowStart h
  | hollowEnd => exact SoundOut.execHollowEnd h
  | hollowTloss => exact SoundOut.execHollowTloss h
  | hrefFormed => exact SoundOut.execHrefFormed h
  | sadCmdSaddle => exact SoundOut.execSadCmdSaddle h
  | sadCmdReturn => exact SoundOut.execSadCmdReturn h
  | saddleFeedsOff => exact SoundOut.execSaddleFeedsOff h
  | saddleComplete => exact SoundOut.execSaddleComplete h
  | saddleDwellEnd => exact SoundOut.execSaddleDwellEnd h
  | saddleStable => exact SoundOut.execSaddleStable h
  | returnMatchDone => exact SoundOut.execReturnMatchDone h
  | returnCloseDone => exact SoundOut.execReturnCloseDone h
  | returnUnloadDone => exact SoundOut.execReturnUnloadDone h
  | chargeEvaluation => exact SoundOut.execChargeEvaluation h
  | chargeSuspendEnd => exact SoundOut.execChargeSuspendEnd h
  | chargeTermination => exact SoundOut.execChargeTermination h
  | topoffEnd => exact SoundOut.execTopoffEnd h
  | chargeSafetyTimeout => exact SoundOut.execChargeSafetyTimeout h
  | prechargeTimeout => exact SoundOut.execPrechargeTimeout h
  | rechargeStart => exact SoundOut.execRechargeStart h
  | supervisedFull => exact SoundOut.execSupervisedFull h
  | cellOvTrip => exact SoundOut.execCellOvTrip h
  | estimatorEvaluation => exact SoundOut.execEstimatorEvaluation h
  | restCorrection => exact SoundOut.execRestCorrection h
  | estQclr => exact SoundOut.execEstQclr h
  | estRelearn => exact SoundOut.execEstRelearn h
  | estCommit => exact SoundOut.execEstCommit h
  | learnedCommitPeriodic => exact SoundOut.execLearnedCommitPeriodic h
  | learnedCommitDone => exact SoundOut.execLearnedCommitDone h
  | rectShareError => exact SoundOut.execRectShareError h
  | throttleRelease => exact SoundOut.execThrottleRelease h
  | thrForceWrite => exact SoundOut.execThrForceWrite h
  | cascadeReportSend => exact SoundOut.execCascadeReportSend h
  | cascadeAllocSend => exact SoundOut.execCascadeAllocSend h
  | allocTimeout => exact SoundOut.execAllocTimeout h
  | fballocApply => exact SoundOut.execFballocApply h
  | reportTimeout => exact SoundOut.execReportTimeout h
  | scanComplete => exact SoundOut.execScanComplete h
  | railTonExpiry => exact SoundOut.execRailTonExpiry h
  | railRiseTimeout => exact SoundOut.execRailRiseTimeout h
  | railToffExpiry => exact SoundOut.execRailToffExpiry h
  | railFallTimeout => exact SoundOut.execRailFallTimeout h
  | railDischargeEnd => exact SoundOut.execRailDischargeEnd h
  | graphOffWaitEnd => exact SoundOut.execGraphOffWaitEnd h
  | seqOn => exact SoundOut.execSeqOn h
  | seqOff => exact SoundOut.execSeqOff h
  | seqForce => exact SoundOut.execSeqForce h
  | inputAccept => exact SoundOut.execInputAccept h
  | inputIntervalEnd => exact SoundOut.execInputIntervalEnd h
  | pbLongPress => exact SoundOut.execPbLongPress h
  | seqFltDriveRelease => exact SoundOut.execSeqFltDriveRelease h
  | faultRaise => exact SoundOut.execFaultRaise h
  | fltPulseEnd => exact SoundOut.execFltPulseEnd h
  | fltoutWrite => exact SoundOut.execFltoutWrite h
  | faultAck => exact SoundOut.execFaultAck h
  | faultInject => exact SoundOut.execFaultInject h
  | feClear => exact SoundOut.execFeClear h
  | dieSensorMeasure => exact SoundOut.execDieSensorMeasure h
  | sensorReadmit => exact SoundOut.execSensorReadmit h
  | dieLevelLeave => exact SoundOut.execDieLevelLeave h
  | recordOffer => exact SoundOut.execRecordOffer h
  | recordWrite => exact SoundOut.execRecordWrite h
  | bucketRefill => exact SoundOut.execBucketRefill h
  | bbClear => exact SoundOut.execBbClear h
  | freezeExpiry => exact SoundOut.execFreezeExpiry h
  | bbPdataRead => exact SoundOut.execBbPdataRead h
  | bbRebuildDone => exact SoundOut.execBbRebuildDone h
  | dsTransactionComplete => exact SoundOut.execDsTransactionComplete h
  | dsTransactionFail => exact SoundOut.execDsTransactionFail h
  | dsStretchTimeout => exact SoundOut.execDsStretchTimeout h
  | pollCycle => exact SoundOut.execPollCycle h
  | dsProbe => exact SoundOut.execDsProbe h
  | dsAlert => exact SoundOut.execDsAlert h
  | dsAlertRepeat => exact SoundOut.execDsAlertRepeat h
  | polEnWrite => exact SoundOut.execPolEnWrite h
  | polVsetWrite => exact SoundOut.execPolVsetWrite h
  | segmentStuck => exact SoundOut.execSegmentStuck h
  | segmentRequalify => exact SoundOut.execSegmentRequalify h
  | segmentCycleFail => exact SoundOut.execSegmentCycleFail h
  | dspRequal => exact SoundOut.execDspRequal h
  | linkFrameReceive => exact SoundOut.execLinkFrameReceive h
  | hello => exact SoundOut.execHello h
  | helloSend => exact SoundOut.execHelloSend h
  | echoRequestSend => exact SoundOut.execEchoRequestSend h
  | echoRequest => exact SoundOut.execEchoRequest h
  | echoReply => exact SoundOut.execEchoReply h
  | timeSend => exact SoundOut.execTimeSend h
  | time => exact SoundOut.execTime h
  | report => exact SoundOut.execReport h
  | alloc => exact SoundOut.execAlloc h
  | remoteRead => exact SoundOut.execRemoteRead h
  | remoteWrite => exact SoundOut.execRemoteWrite h
  | remoteAnswer => exact SoundOut.execRemoteAnswer h
  | reset => exact SoundOut.execReset h
  | linkTrained => exact SoundOut.execLinkTrained h
  | linkLossOfLock => exact SoundOut.execLinkLossOfLock h
  | linkUpTimeout => exact SoundOut.execLinkUpTimeout h
  | cascPortEnableWrite => exact SoundOut.execCascPortEnableWrite h
  | cascRemoteRead => exact SoundOut.execCascRemoteRead h
  | cascRemoteWrite => exact SoundOut.execCascRemoteWrite h
  | cascRemoteReset => exact SoundOut.execCascRemoteReset h
  | remoteAccessTimeout => exact SoundOut.execRemoteAccessTimeout h
  | powerOn => exact SoundOut.execPowerOn h
  | vinBrownOut => exact SoundOut.execVinBrownOut h
  | rstNLow => exact SoundOut.execRstNLow h
  | rstNRelease => exact SoundOut.execRstNRelease h
  | rstSw => exact SoundOut.execRstSw h
  | rstBlk => exact SoundOut.execRstBlk h
  | blockResetEnd => exact SoundOut.execBlockResetEnd h
  | fuseMapRead => exact SoundOut.execFuseMapRead h
  | vreg5InRegulation => exact SoundOut.execVreg5InRegulation h
  | vreg5OutOfRegulation => exact SoundOut.execVreg5OutOfRegulation h
  | vreg5Lost => exact SoundOut.execVreg5Lost h
  | vioLoss => exact SoundOut.execVioLoss h
  | vioReturn => exact SoundOut.execVioReturn h
  | pllEnable => exact SoundOut.execPllEnable h
  | clocksRelease => exact SoundOut.execClocksRelease h
  | firmwareChecked => exact SoundOut.execFirmwareChecked h
  | startLaneFail => exact SoundOut.execStartLaneFail h
  | fcntStart => exact SoundOut.execFcntStart h
  | fcntStop => exact SoundOut.execFcntStop h
  | fcntGateComplete => exact SoundOut.execFcntGateComplete h
  | fcntTimeout => exact SoundOut.execFcntTimeout h
  | fwActivate => exact SoundOut.execFwActivate h
  | fwActivateReady => exact SoundOut.execFwActivateReady h
  | trialConfirm => exact SoundOut.execTrialConfirm h
  | trialWindowEnd => exact SoundOut.execTrialWindowEnd h
  | fallbackRetry => exact SoundOut.execFallbackRetry h
  | settingsSave => exact SoundOut.execSettingsSave h
  | switchingPeriod => exact SoundOut.execSwitchingPeriod h
  | cellOvRelease => exact SoundOut.execCellOvRelease h
  | dhLimitStart => exact SoundOut.execDhLimitStart h
  | dhLimitEnd => exact SoundOut.execDhLimitEnd h
  | vresReserveLow => exact SoundOut.execVresReserveLow h
  | vresCharged => exact SoundOut.execVresCharged h
  | vdd08RegulatorFault => exact SoundOut.execVdd08RegulatorFault h
  | referenceClockLoss => exact SoundOut.execReferenceClockLoss h
  | laneStop => exact SoundOut.execLaneStop h
  | testAccessPortTck => exact SoundOut.execTestAccessPortTck h
  | trstNChange => exact SoundOut.execTrstNChange h

theorem SoundOut.step : SoundOut s (Machine.step s) := by
  unfold Machine.step
  split
  · rintro n ⟨⟩
    exact Sound.refl s
  · exact .exec (Sound.same (.refl s))

/-- Settles O5: every state operation keeps canonical tables canonical and the images' records bytes (Sound), so every instruction and every step does. -/
theorem everyStepKeepsTablesCanonical : Obligations.EveryStepKeepsTablesCanonical :=
  ⟨fun _ n hs hn => (SoundOut.step n hn).1 hs, fun _ n hs hn => (SoundOut.step n hn).2 hs⟩

end Sound

end Sys2Proof
end
-- ==== Sys2Proof/Proofs/Shelf/Mram.lean ====
section
/-! O6: a commit to the MRAM. -/

namespace Sys2Proof

open Machine

/-- Settles O6: a commit assigns the bytes in turn, and a canonical memory is read through its assignments. -/
theorem mramReadsBackWhatACommitWrites : Obligations.MramReadsBackWhatACommitWrites := fun _ _ _ hw =>
  ⟨assignAll_canonical hw, fun _ hk => lookup_assignAll_inside hw hk, fun _ hc => lookup_assignAll_outside hw hc⟩

end Sys2Proof
end
-- ==== Sys2Proof/Proofs/Shelf/Steady.lean ====
section
/-! SUPPORT. What the entry of Plain hold and the raises under it leave: the words that say who is in charge, the supplies, and every standing fault, one lemma for each operation. -/

namespace Sys2Proof

open Machine

/-- The words that say who is in charge: the device state, the Dormant status, the token, the lanes' states and their status. -/
def chargeWords : List Nat := [SYS_STATE, SYS_DSTAT, LANE_AUTH, LANE_HEALTH, LANE_STS]

/-- A later state with the same device state, token and lanes, supplies and Col, and every fault still standing; of LANE.STS the bits of a refused swap and a returned token may have risen (2 and 3). -/
def Steady (s₀ s : State) : Prop :=
  (s.clk = s₀.clk ∧ s.arb.col = s₀.arb.col) ∧ (∀ c cls, Faulted s₀ c cls → Faulted s c cls) ∧
  (RegsOk s₀ → RegsOk s ∧ (∀ a ∈ chargeWords, a ≠ LANE_STS → s.reg a = s₀.reg a) ∧ ∀ k, 4 ≤ k → s.flag LANE_STS k = s₀.flag LANE_STS k)

/-- No word of a context block is one of them. -/
theorem ctxAddr_off (c k : Nat) : ctxAddr c k ∉ chargeWords := by
  have := ctxAddr_ge c k
  simp only [chargeWords, SYS_STATE, SYS_DSTAT, LANE_AUTH, LANE_HEALTH, LANE_STS, List.mem_cons, List.not_mem_nil, or_false, not_or]
  omega

/-- No word from 0x20 on is one of them. -/
theorem above_off {a : Nat} (h : 0x20 ≤ a) : a ∉ chargeWords := by
  simp only [chargeWords, SYS_STATE, SYS_DSTAT, LANE_AUTH, LANE_HEALTH, LANE_STS, List.mem_cons, List.not_mem_nil, or_false, not_or]
  omega

/-- No word of a list of words from 0x20 on is one of them. -/
theorem add_off (a i : Nat) (h : 0x20 ≤ a := by decide) : a + i ∉ chargeWords := above_off (by omega)

section Steady

set_option Elab.async false

variable {s₀ s : State}

theorem Steady.refl (s : State) : Steady s s :=
  ⟨⟨rfl, rfl⟩, fun _ _ h => h, fun h => ⟨h, fun _ _ _ => rfl, fun _ _ => rfl⟩⟩

theorem Steady.trans {m : State} (h : Steady s₀ s) (h' : Steady s m) : Steady s₀ m := by
  obtain ⟨⟨hc, ha⟩, hf, hr⟩ := h
  obtain ⟨⟨hc', ha'⟩, hf', hr'⟩ := h'
  refine ⟨⟨hc'.trans hc, ha'.trans ha⟩, fun c cls hx => hf' c cls (hf c cls hx), fun h0 => ?_⟩
  obtain ⟨h1, hw, hs⟩ := hr h0
  obtain ⟨h2, hw', hs'⟩ := hr' h1
  exact ⟨h2, fun a hm hn => (hw' a hm hn).trans (hw a hm hn), fun k hk => (hs' k hk).trans (hs k hk)⟩

/-- A change of fields beside the words, the supplies, the Col and the standing faults. -/
theorem Steady.same {m : State} (h : Steady s₀ s) (e : (m.regs, m.flt.pending, m.clk, m.arb.col) = (s.regs, s.flt.pending, s.clk, s.arb.col) := by rfl) : Steady s₀ m := by
  simp only [Prod.mk.injEq] at e
  obtain ⟨hr, hp, hc, ha⟩ := e
  unfold Steady Faulted RegsOk State.flag State.reg
  rw [hr, hp, hc, ha]
  exact h

/-- A write of another word. -/
theorem Steady.setReg (h : Steady s₀ s) {a : Nat} {w : Word} (ha : a ∉ chargeWords := by decide) : Steady s₀ (s.setReg a w) := by
  refine h.trans ⟨⟨rfl, rfl⟩, fun _ _ hx => hx, fun h0 => ⟨setReg_regsOk h0 a w, fun c hc _ => ?_, fun k _ => ?_⟩⟩
  · exact reg_setReg_other h0 w (fun e : c = a => ha (e ▸ hc))
  · simp only [State.flag]
    rw [reg_setReg_other h0 w (fun e : LANE_STS = a => ha (e ▸ by decide))]

theorem Steady.ite {a b : State} {c : Prop} {d : Decidable c} (ha : Steady s₀ a) (hb : Steady s₀ b) : Steady s₀ (if c then a else b) := by
  split <;> assumption

theorem Steady.foldl {α : Type} (h : Steady s₀ s) {l : List α} {f : State → α → State} (hf : ∀ m x, Steady s₀ m → Steady s₀ (f m x)) : Steady s₀ (l.foldl f s) := by
  induction l generalizing s with
  | nil => exact h
  | cons x r ih => exact ih (hf s x h)

theorem Steady.forEach {α : Type} (h : Steady s₀ s) {l : List α} {f : α → State → State} (hf : ∀ x m, Steady s₀ m → Steady s₀ (f x m)) : Steady s₀ (s.forEach l f) :=
  h.foldl (fun m x => hf x m)

theorem Steady.onlyIf (h : Steady s₀ s) {b : Bool} {f : State → State} (hf : ∀ m, Steady s₀ m → Steady s₀ (f m)) : Steady s₀ (s.onlyIf b f) := .ite (hf s h) h

theorem Steady.setFld (h : Steady s₀ s) {a hi lo v : Nat} (ha : a ∉ chargeWords := by decide) : Steady s₀ (s.setFld a hi lo v) := h.setReg ha

theorem Steady.setFlag (h : Steady s₀ s) {a n : Nat} {b : Bool} (ha : a ∉ chargeWords := by decide) : Steady s₀ (s.setFlag a n b) := h.setReg ha

theorem Steady.inc (h : Steady s₀ s) {a : Nat} (ha : a ∉ chargeWords := by decide) : Steady s₀ (s.inc a) := h.setReg ha

theorem Steady.setC (h : Steady s₀ s) {c k : Nat} {w : Word} : Steady s₀ (s.setC c k w) := h.setReg (ctxAddr_off c k)

theorem Steady.setWide (h : Steady s₀ s) {a n v : Nat} (ha : 0x20 ≤ a := by decide) : Steady s₀ (s.setWide a n v) := by
  induction n generalizing s a v with
  | zero => exact h
  | succ n ih => exact ih (h.setReg (above_off ha)) (by omega)

/-- The bits of LANE.STS that a refused swap and a returned token set. -/
theorem Steady.setLaneSts (h : Steady s₀ s) {n : Nat} {b : Bool} (hn : n < 4) : Steady s₀ (s.setFlag LANE_STS n b) := by
  refine h.trans ⟨⟨rfl, rfl⟩, fun _ _ hx => hx, fun h0 => ⟨setReg_regsOk h0 _ _, fun c _ hc => reg_setReg_other h0 _ hc, fun k hk => ?_⟩⟩
  simp only [State.flag, State.setFlag, reg_setReg_same h0]
  exact bit_putBit_other b (by omega) (by omega)

theorem Steady.markClamped (h : Steady s₀ s) {a : Nat} {b : Bool} : Steady s₀ (s.markClamped a b) := h.same

theorem Steady.sts (h : Steady s₀ s) {c b : Nat} : Steady s₀ (s.sts c b) := h.setFlag (ctxAddr_off c _)

theorem Steady.setCode (h : Steady s₀ s) {c v : Nat} : Steady s₀ (s.setCode c v) := h.setFld (ctxAddr_off c _)

theorem Steady.setHeld (h : Steady s₀ s) {c : Nat} {b : Bool} : Steady s₀ (s.setHeld c b) := h.setFlag (ctxAddr_off c _)

theorem Steady.setSafe (h : Steady s₀ s) {c : Nat} {b : Bool} : Steady s₀ (s.setSafe c b) := h.setFlag (ctxAddr_off c _)

theorem Steady.start (h : Steady s₀ s) {k : Timer} : Steady s₀ (s.start k) := h.same

theorem Steady.startAt (h : Steady s₀ s) {k : Timer} {t0 : Nat} : Steady s₀ (s.startAt k t0) := h.same

theorem Steady.stop (h : Steady s₀ s) {k : Timer} : Steady s₀ (s.stop k) := h.same

theorem Steady.clearCount (h : Steady s₀ s) {k : Count} : Steady s₀ (s.clearCount k) := h.same

theorem Steady.alert (h : Steady s₀ s) {n : Nat} : Steady s₀ (s.alert n) := (h.setFlag (a := HOST_ALERT)).same

theorem Steady.setGrp (h : Steady s₀ s) {c : Nat} {f : GroupVar → GroupVar} : Steady s₀ (s.setGrp c f) := h.same

theorem Steady.setPhase (h : Steady s₀ s) {p : Nat} {f : PhaseVar → PhaseVar} : Steady s₀ (s.setPhase p f) := h.same

theorem Steady.setIface (h : Steady s₀ s) {p : Port} {f : Iface → Iface} : Steady s₀ (s.setIface p f) := by
  unfold State.setIface
  split <;> exact h.same

theorem Steady.drivePin (h : Steady s₀ s) {i : Nat} : Steady s₀ (s.drivePin i) := .ite h h.same

theorem Steady.writeMram (h : Steady s₀ s) {a : Nat} {bs : List Byte} : Steady s₀ (s.writeMram a bs) := h.same

theorem Steady.commitRec (h : Steady s₀ s) {r : Rec} : Steady s₀ (s.commitRec r) := by
  unfold State.commitRec
  extract_lets rseq s1 pos p p' rcd s2
  have h1 : Steady s₀ s1 := h.setWide (a := BB_RSEQ)
  exact .ite (h1.writeMram.setReg (a := BB_BFILL)) ((h1.same.writeMram (s := s2)).setReg (a := BB_CHEAD))

theorem Steady.stage (h : Steady s₀ s) {r : Rec} : Steady s₀ (s.stage r) := h.same

theorem Steady.stageOverflow (h : Steady s₀ s) {len : Nat} : Steady s₀ (s.stageOverflow len) := by
  dsimp only [State.stageOverflow]
  split
  · exact .ite h.same h
  · exact h

theorem Steady.loseRec (h : Steady s₀ s) {r : Rec} : Steady s₀ (s.loseRec r) := by
  have h1 := (h.inc (a := BB_MISSCNT)).setFlag (a := BB_STS) (n := 7) (b := true)
  exact .ite (h1.setFlag (a := BB_STS)).same h1.same

theorem Steady.writeLane (h : Steady s₀ s) {r : Rec} : Steady s₀ (s.writeLane r) := .ite h.stageOverflow.stage h.stageOverflow.loseRec

theorem Steady.writeRec (h : Steady s₀ s) {code c : Nat} {payload : List Byte} : Steady s₀ (s.writeRec code c payload) := .ite h.writeLane h

theorem Steady.letIn (h : Steady s₀ s) {rs : List Rec} : Steady s₀ (s.letIn rs) :=
  .ite (.foldl h.stageOverflow (fun _ _ h => h.stage)) ((h.setReg (a := BB_DROPCNT)).setFlag (a := BB_STS))

theorem Steady.offerAll (h : Steady s₀ s) {code : Nat} {rs : List Rec} : Steady s₀ (s.offerAll code rs) := by
  unfold State.offerAll
  refine .ite h (.ite ((h.setFlag (a := BB_STS)).setReg (a := BB_MISSCNT)).same ?_)
  dsimp only
  split
  · exact h
  · exact .ite ((h.setReg (a := BB_DROPCNT)).setFlag (a := BB_STS)).same (.letIn (.ite h.same h.same.writeRec))

theorem Steady.offerRec (h : Steady s₀ s) {code c : Nat} {payload : List Byte} : Steady s₀ (s.offerRec code c payload) := h.offerAll

theorem Steady.gOffer (h : Steady s₀ s) {r b : Nat} (ha : (globalStatus r).1 ∉ chargeWords := by decide) : Steady s₀ (s.gOffer r b) := (h.setFlag ha).offerRec

theorem Steady.note (h : Steady s₀ s) {site c : Nat} : Steady s₀ (s.note site c) := h.writeRec

theorem Steady.coreRec (h : Steady s₀ s) {code : Nat} {payload : List Byte} : Steady s₀ (s.coreRec code payload) := .ite h.commitRec h.stage

theorem Steady.setChan (h : Steady s₀ s) {g : Nat} {f : ChanVar → ChanVar} : Steady s₀ (s.setChan g f) := h.same

theorem Steady.holdsEnd (h : Steady s₀ s) {g : Nat} : Steady s₀ (s.holdsEnd g) := by
  unfold State.holdsEnd
  split
  · exact h.stop.stop
  · exact h

theorem Steady.gateDown (h : Steady s₀ s) {g : Nat} : Steady s₀ (s.gateDown g) :=
  .ite h (h.setFld (add_off _ g)).setChan.start.stop.stop.clearCount.clearCount.holdsEnd

theorem Steady.gateDownOf (h : Steady s₀ s) {c : Nat} : Steady s₀ (s.gateDownOf c) := by
  unfold State.gateDownOf
  split
  · exact h.gateDown
  · exact h

theorem Steady.keepOutputs (h : Steady s₀ s) : Steady s₀ (s.keepOutputs) := .ite h h.same

theorem Steady.holdChannels (h : Steady s₀ s) : Steady s₀ (s.holdChannels) :=
  .forEach (.keepOutputs (.forEach h (fun r _ h => (h.setFlag (add_off _ r.a0)).setHeld))) (fun _ _ h => h.setHeld)

theorem Steady.clearLive (h : Steady s₀ s) {c : Nat} : Steady s₀ (s.clearLive c) := by
  unfold State.clearLive
  split
  · exact h.setFlag (ctxAddr_off c _)
  · exact h.setFld (ctxAddr_off c _)
  · exact h

theorem Steady.phaseStop (h : Steady s₀ s) {lv : Level} {p : Nat} : Steady s₀ (s.phaseStop lv p) := (h.setFld (add_off _ p)).setPhase

theorem Steady.newBlock (h : Steady s₀ s) {c : Nat} : Steady s₀ (s.newBlock c) := h.setGrp

theorem Steady.groupStop (h : Steady s₀ s) {r : CtxRec} {lv : Level} : Steady s₀ (s.groupStop r lv) := .clearCount (.clearCount (.stop (.stop (.stop (.stop (.stop (.setC (.setC (.newBlock (.setGrp (.forEach h (fun _ _ h => h.phaseStop))))))))))))

theorem Steady.followMode (h : Steady s₀ s) {c : Nat} : Steady s₀ (s.followMode c) := .ite h.setCode h

theorem Steady.setMode (h : Steady s₀ s) {c mode : Nat} {dir : Bool} : Steady s₀ (s.setMode c mode dir) := .ite h.followMode h.setC.markClamped.followMode

theorem Steady.coreMode (h : Steady s₀ s) {c mode : Nat} {dir : Bool} : Steady s₀ (s.coreMode c mode dir) := h.setMode.setGrp

theorem Steady.allPhases (h : Steady s₀ s) {r : CtxRec} : Steady s₀ (s.allPhases r) := .newBlock (.setGrp (.forEach h (fun p _ h => h.setFlag (add_off _ p))))

theorem Steady.throttle (h : Steady s₀ s) {k : Nat} : Steady s₀ (s.throttle k) :=
  .ite h (.ite h.stop (((h.stop.drivePin.setFlag (a := THR_LIVE)).setFlag (a := THR_STS)).inc (add_off _ k)).start)

theorem Steady.setTable (h : Steady s₀ s) {p : Nat} {l : List DsCmd} : Steady s₀ (s.setTable p l) := h.same

theorem Steady.queueCmd (h : Steady s₀ s) {c code data : Nat} {safe : Bool} : Steady s₀ (s.queueCmd c code data safe) := by
  unfold State.queueCmd
  split
  · exact h.setTable
  · exact h

theorem Steady.railFall (h : Steady s₀ s) {c : Nat} : Steady s₀ (s.railFall c) := h.setCode.stop.stop.start

theorem Steady.dischargeOn (h : Steady s₀ s) {c : Nat} : Steady s₀ (s.dischargeOn c) := .ite h.start.sts h

theorem Steady.enterSafe (h : Steady s₀ s) {r : CtxRec} : Steady s₀ (s.enterSafe r) := by
  dsimp only [State.enterSafe]
  have h0 : Steady s₀ (s.setSafe r.ctx true) := h.setSafe
  split
  · exact .ite h0.gateDownOf.setCode.sts h0
  · have h1 := h0.setFlag (n := 0) (b := false) (ctxAddr_off r.ctx RECT_CTL)
    exact .ite h1.same.drivePin h1
  · exact .ite h0.gateDownOf.clearLive.setCode.sts.stop (.ite h0.setC.setC h0.setC)
  · have h1 {lv : Level} : Steady s₀ (((((s.setSafe r.ctx true).groupStop r lv).setCode r.ctx 7).sts r.ctx stsGroupLatch).setHeld r.ctx false) := h0.groupStop.setCode.sts.setHeld
    exact .ite h0 (.ite h1.start h1)
  · exact .ite h0.gateDownOf.clearLive.setCode.stop.setC.sts.throttle h0.gateDownOf.clearLive.setCode.stop.setC.sts
  · exact .ite h0.queueCmd h0.queueCmd
  · split
    · exact .same (.onlyIf (.ite h0.railFall (.ite h0.setCode.stop h0)) (fun _ h => h.dischargeOn))
    · exact .onlyIf (.ite h0.railFall (.ite h0.setCode.stop h0)) (fun _ h => h.dischargeOn)
  · exact h0
  · exact h0

theorem Steady.safeOne (h : Steady s₀ s) {r : CtxRec} : Steady s₀ (s.safeOne r) := by
  dsimp only [State.safeOne]
  split
  · exact .ite (.forEach h.setSafe (fun _ _ h => .ite h h.enterSafe)) h.setSafe
  · exact h
  · exact .ite h h.enterSafe

theorem Steady.applySafe (h : Steady s₀ s) {c : Nat} : Steady s₀ (s.applySafe c) := by
  dsimp only [State.applySafe]
  split
  · exact h
  · exact .ite (.forEach (.ite (.forEach h.setSafe (fun _ _ h => h.throttle)) h.setSafe) (fun _ _ h => h.safeOne)) h.safeOne

theorem Steady.applyDue (h : Steady s₀ s) : Steady s₀ (s.applyDue) := .forEach h.same (fun _ _ h => h.applySafe)

theorem Steady.recordEntry (h : Steady s₀ s) {e : LogEntry} : Steady s₀ (s.recordEntry e).1 := by
  dsimp only [State.recordEntry]
  split
  · exact h.writeLane
  · exact h

theorem Steady.capture (h : Steady s₀ s) {r : Raise} {c e : Nat} {esc : Bool} : Steady s₀ (s.capture r c e esc) :=
  .ite h ((((h.setReg (a := FE_INFO)).setReg (a := FE_SRC)).setReg (a := FE_ADDR)).setWide (a := FE_TIME))

theorem Steady.unconfirm (h : Steady s₀ s) : Steady s₀ (s.unconfirm) := by
  unfold State.unconfirm
  split
  · refine .ite ?_ h
    exact ((((h.setFlag (a := UPD_STS)).setFlag (a := UPD_STS)).setFlag (a := LRN_STS)).setReg (a := UPD_ARB)).same.startAt
  · exact h

theorem Steady.breakTrial (h : Steady s₀ s) : Steady s₀ (s.breakTrial) := h.same

/-- A raise keeps every fault that stands: its own level replaces one of the same class and context, or joins them. -/
theorem faulted_setLevel {l : List Pending} {x p : Pending} (hp : p ∈ l) : ∃ q ∈ setLevel l x, q.ctx = p.ctx ∧ q.cls = p.cls := by
  unfold setLevel
  split
  · by_cases he : p.ctx = x.ctx ∧ p.cls = x.cls
    · exact ⟨x, List.mem_map.mpr ⟨p, hp, if_pos he⟩, he.1.symm, he.2.symm⟩
    · exact ⟨p, List.mem_map.mpr ⟨p, hp, if_neg he⟩, rfl, rfl⟩
  · exact ⟨p, List.mem_append_left _ hp, rfl, rfl⟩

theorem Steady.setPending (h : Steady s₀ s) {x : Pending} : Steady s₀ { s with flt := { s.flt with pending := setLevel s.flt.pending x } } := by
  refine h.trans ⟨⟨rfl, rfl⟩, fun c cls hf => ?_, fun h0 => ⟨h0, fun _ _ _ => rfl, fun _ _ => rfl⟩⟩
  obtain ⟨p, hp, rfl, rfl⟩ := hf
  exact faulted_setLevel hp

theorem Steady.raiseCount (h : Steady s₀ s) {r : Raise} {c e sev : Nat} : Steady s₀ (s.raiseCount r c e sev) := by
  unfold State.raiseCount
  extract_lets pend s1 flt s2
  have h1 : Steady s₀ s1 := (h.inc (a := FLT_CNT)).onlyIf (fun _ h => h.inc (a := FLT_ESCCNT))
  have hp : s1.flt.pending = s.flt.pending := by
    dsimp only [s1, State.onlyIf]
    split <;> rfl
  have h2 : Steady s₀ s2 := by
    have := h1.setPending (x := { ctx := c, cls := r.cls, level := e, sev := sev, time := s.now })
    rw [hp] at this
    exact this
  exact h2.sts.setC.capture

theorem Steady.raiseLog (h : Steady s₀ s) {x : LogEntry} : Steady s₀ (s.raiseLog x) := .ite h.recordEntry.same (h.inc (a := FLT_LOGOVF))

theorem Steady.raiseBook (h : Steady s₀ s) {r : Raise} {c : Nat} : Steady s₀ (s.raiseBook r c) := .ite (.breakTrial (.unconfirm (.ite h.same h))) (.ite h.same h)

theorem Steady.raisePins (h : Steady s₀ s) {react : Nat} : Steady s₀ (s.raisePins react) := .ite (.alert (.ite h.same.start h)) (.ite h.same.start h)

theorem Steady.raiseAct (h : Steady s₀ s) {c : Nat} {force due : Bool} : Steady s₀ (s.raiseAct c force due) := .ite h.applySafe (.ite h.same h)

theorem Steady.raiseSnap (h : Steady s₀ s) {cls c : Nat} : Steady s₀ (s.raiseSnap cls c) := .ite h.same h

theorem Steady.raise (h : Steady s₀ s) {r : Raise} : Steady s₀ (s.raise r) := .ite h.same h.raiseCount.raiseLog.raiseBook.raiseSnap.raisePins.raiseAct

theorem Steady.coreRaise (h : Steady s₀ s) {cls c : Nat} {sev : Option Nat} {site : Nat} : Steady s₀ (s.coreRaise cls c sev site) := h.raise

theorem Steady.commitBytes (h : Steady s₀ s) {a : Nat} {bs : List Byte} : Steady s₀ (s.commitBytes a bs) := .ite h.writeMram h.same

theorem Steady.toFallback (h : Steady s₀ s) : Steady s₀ (s.toFallback) := .forEach h (fun _ _ h => .ite h.allPhases.setGrp.setHeld.sts h)

theorem Steady.toStandby (h : Steady s₀ s) {charging : Bool} : Steady s₀ (s.toStandby charging) := .forEach h (fun _ _ h => .ite h.coreMode h)

theorem Steady.refuseSwap (h : Steady s₀ s) : Steady s₀ (s.refuseSwap) := (h.setLaneSts (by decide)).note

theorem Steady.writeBoot (h : Steady s₀ s) {states : List Nat} : Steady s₀ (s.writeBoot states) := h.commitBytes

theorem Steady.setSlots (h : Steady s₀ s) {l : List (Nat × Nat)} : Steady s₀ (s.setSlots l) := .ite h.same (.ite h h.writeBoot)

theorem Steady.setSlotState (h : Steady s₀ s) {image : Bool} {slot v : Nat} : Steady s₀ (s.setSlotState image slot v) := h.setSlots

theorem Steady.fallbackWaits (h : Steady s₀ s) : Steady s₀ (s.fallbackWaits) := .ite (h.setFlag (a := UPD_STS)) h

theorem Steady.setImgValid (h : Steady s₀ s) {slot : Nat} {b : Bool} : Steady s₀ (s.setImgValid slot b) := h.setFlag (a := IMG_ACTIVE)

theorem Steady.keepFalling (h : Steady s₀ s) : Steady s₀ (s.keepFalling) := .ite (h.setFlag (a := UPD_STS)).start h

theorem Steady.abandonSwitch (h : Steady s₀ s) : Steady s₀ (s.abandonSwitch) := by
  unfold State.abandonSwitch
  split
  · extract_lets arb upd s1
    have h1 : Steady s₀ s1 := h.same
    exact ((h1.setFlag (a := IMG_LDSTAT)).setImgValid.gOffer (r := 4)).alert.coreRaise.keepFalling
  · exact h

theorem Steady.fwFail (h : Steady s₀ s) : Steady s₀ (s.fwFail) := (h.setFlag (a := UPD_STS)).same

theorem Steady.countViolation (h : Steady s₀ s) {p : Port} {code : Nat} : Steady s₀ (s.countViolation p code) := .ite h (.ite h.setIface.raise h.setIface)

theorem Steady.violation (h : Steady s₀ s) {p : Port} {code cmd idx : Nat} {read : Bool} : Steady s₀ (s.violation p code cmd idx read) :=
  (((h.inc (a := HOST_VIOLCNT)).setReg (a := HOST_LASTVIOL)).setFlag (a := HOST_STS)).alert.offerRec.countViolation.setIface

theorem Steady.refuseOp (h : Steady s₀ s) {p : Port} {op : HostOp} : Steady s₀ (s.refuseOp p op) := h.violation

theorem Steady.refuseWaiting (h : Steady s₀ s) {p : Port} : Steady s₀ (s.refuseWaiting p) := by
  unfold State.refuseWaiting
  split
  · exact h.setIface.refuseOp
  · exact h

theorem Steady.swapLost (h : Steady s₀ s) : Steady s₀ (s.swapLost) := by
  unfold State.swapLost
  split
  · exact h.setSlotState.fwFail
  · exact h.fallbackWaits

theorem Steady.dropSwap (h : Steady s₀ s) : Steady s₀ (s.dropSwap) := h.same.refuseSwap.swapLost

theorem Steady.failedChange (h : Steady s₀ s) {k : ColKind} {returns : Bool} : Steady s₀ (s.failedChange k returns) :=
  .ite h.abandonSwitch (.swapLost (.onlyIf h (fun _ h => h.setLaneSts (by decide))))

theorem Steady.displace (h : Steady s₀ s) : Steady s₀ (s.displace) := by
  unfold State.displace
  extract_lets s0 s1
  have h0 : Steady s₀ s0 := by
    unfold s0
    split
    · exact h.failedChange
    · exact h.failedChange
    · exact h
  have h1 : Steady s₀ s1 := .ite h0.abandonSwitch h0
  exact .ite h1.dropSwap h1

end Steady

end Sys2Proof
end
-- ==== Sys2Proof/Proofs/Shelf/Charge.lean ====
section
/-! SUPPORT. The token, the lanes' states and the entry of Plain hold. -/

namespace Sys2Proof

open Machine

section Fields

variable {s : State} (h : RegsOk s)

include h

theorem fld_setFld_same (a : Nat) {hi lo v : Nat} (hl : lo ≤ hi + 1) (hh : hi < 18) : (s.setFld a hi lo v).fld a hi lo = v % 2 ^ (hi + 1 - lo) := by
  simp only [State.fld, State.setFld, reg_setReg_same h, bits_putBits_same hl hh]

theorem fld_setFld_apart (a : Nat) {hi lo v x y : Nat} (hl : lo ≤ hi + 1) (hh : hi < 18) (hd : x < lo ∨ hi < y) : (s.setFld a hi lo v).fld a x y = s.fld a x y := by
  simp only [State.fld, State.setFld, reg_setReg_same h, bits_putBits_other hl hh hd]

theorem flag_setFld_apart (a : Nat) {hi lo v m : Nat} (hl : lo ≤ hi + 1) (hh : hi < 18) (hd : m < lo ∨ hi < m) : (s.setFld a hi lo v).flag a m = s.flag a m := by
  simp only [State.flag, State.setFld, reg_setReg_same h]
  exact bit_putBits_other hl hh hd

theorem fld_setFlag_apart (a : Nat) {n hi lo : Nat} (b : Bool) (hn : n < 18) (hd : hi < n ∨ n < lo) : (s.setFlag a n b).fld a hi lo = s.fld a hi lo := by
  simp only [State.fld, State.setFlag, reg_setReg_same h, bits_putBit_other b hn hd]

theorem flag_setFlag_apart (a : Nat) {n m : Nat} (b : Bool) (hn : n < 18) (hd : m ≠ n) : (s.setFlag a n b).flag a m = s.flag a m := by
  simp only [State.flag, State.setFlag, reg_setReg_same h]
  exact bit_putBit_other b hn hd

theorem fld_setReg_other {a c : Nat} (w : Word) (hi lo : Nat) (hc : c ≠ a) : (s.setReg a w).fld c hi lo = s.fld c hi lo := by
  simp only [State.fld, reg_setReg_other h w hc]

theorem flag_setReg_other {a c : Nat} (w : Word) (n : Nat) (hc : c ≠ a) : (s.setReg a w).flag c n = s.flag c n := by
  simp only [State.flag, reg_setReg_other h w hc]

theorem holder_setReg_other {a : Nat} (w : Word) (ha : LANE_AUTH ≠ a) : (s.setReg a w).holder = s.holder := by
  simp only [State.holder, fld_setReg_other h w _ _ ha]

/-- A flag of LANE.AUTH above its holder bits leaves the holder. -/
theorem holder_setFlag (n : Nat) (b : Bool) (hn : 2 ≤ n) (hn' : n < 18) : (s.setFlag LANE_AUTH n b).holder = s.holder := by
  simp only [State.holder, fld_setFlag_apart h LANE_AUTH (hi := 1) (lo := 0) b hn' (.inl (by omega))]

theorem laneState_setLane_same (l : LaneId) (v : Nat) : (s.setLane l v).laneState l = v % 4 := by
  cases l
  · exact fld_setFld_same h LANE_HEALTH (by decide) (by decide)
  · exact fld_setFld_same h LANE_HEALTH (by decide) (by decide)

theorem laneState_setLane_other (l : LaneId) (v : Nat) : (s.setLane l v).laneState l.other = s.laneState l.other := by
  cases l
  · exact fld_setFld_apart h LANE_HEALTH (by decide) (by decide) (.inr (by decide))
  · exact fld_setFld_apart h LANE_HEALTH (by decide) (by decide) (.inl (by decide))

theorem isBad_setLane (l k : LaneId) (v : Nat) : (s.setLane l v).isBad k = s.isBad k := by
  cases l <;> cases k <;> exact flag_setFld_apart h LANE_HEALTH (by decide) (by decide) (.inl (by decide))

theorem isBad_setReg_other {a : Nat} (w : Word) (l : LaneId) (ha : LANE_HEALTH ≠ a) : (s.setReg a w).isBad l = s.isBad l :=
  flag_setReg_other h w _ ha

theorem laneState_setReg_other {a : Nat} (w : Word) (l : LaneId) (ha : LANE_HEALTH ≠ a) : (s.setReg a w).laneState l = s.laneState l :=
  fld_setReg_other h w _ _ ha

end Fields

/-! ### What a steady change keeps -/

section Kept

variable {s n : State}

theorem Steady.clk (h : Steady s n) : n.clk = s.clk := h.1.1

theorem Steady.col (h : Steady s n) : n.arb.col = s.arb.col := h.1.2

theorem Steady.faulted (h : Steady s n) {c cls : Nat} (hf : Faulted s c cls) : Faulted n c cls := h.2.1 c cls hf

theorem Steady.regsOk (h : Steady s n) (hs : RegsOk s) : RegsOk n := (h.2.2 hs).1

theorem Steady.word (h : Steady s n) (hs : RegsOk s) {a : Nat} (ha : a ∈ chargeWords) (hn : a ≠ LANE_STS) : n.reg a = s.reg a := (h.2.2 hs).2.1 a ha hn

theorem Steady.laneSts (h : Steady s n) (hs : RegsOk s) {k : Nat} (hk : 4 ≤ k) : n.flag LANE_STS k = s.flag LANE_STS k := (h.2.2 hs).2.2 k hk

theorem Steady.sys (h : Steady s n) (hs : RegsOk s) : n.sys = s.sys := by
  simp only [State.sys, State.fld, h.word hs (a := SYS_STATE) (by decide) (by decide)]

theorem Steady.holder (h : Steady s n) (hs : RegsOk s) : n.holder = s.holder := by
  simp only [State.holder, State.fld, h.word hs (a := LANE_AUTH) (by decide) (by decide)]

theorem Steady.laneState (h : Steady s n) (hs : RegsOk s) (l : LaneId) : n.laneState l = s.laneState l := by
  simp only [State.laneState, State.fld, h.word hs (a := LANE_HEALTH) (by decide) (by decide)]

theorem Steady.isBad (h : Steady s n) (hs : RegsOk s) (l : LaneId) : n.isBad l = s.isBad l := by
  simp only [State.isBad, State.flag, h.word hs (a := LANE_HEALTH) (by decide) (by decide)]

theorem holder_of_word (h : n.reg LANE_AUTH = s.reg LANE_AUTH) : n.holder = s.holder := by simp only [State.holder, State.fld, h]

theorem laneState_of_word (h : n.reg LANE_HEALTH = s.reg LANE_HEALTH) (l : LaneId) : n.laneState l = s.laneState l := by simp only [State.laneState, State.fld, h]

theorem isBad_of_word (h : n.reg LANE_HEALTH = s.reg LANE_HEALTH) (l : LaneId) : n.isBad l = s.isBad l := by simp only [State.isBad, State.flag, h]

end Kept

/-- A raise against the shelf stands unacknowledged, whatever the image. -/
theorem coreRaise_shelf_faulted (s : State) (cls : Nat) (sev : Option Nat) (site : Nat) : Faulted (s.coreRaise cls 0 sev site) 0 cls := by
  have := raise_faulted s { cls := cls, ctx := 0, sev := sev, site := site } (by simp)
  have h0 : s.raiseCtx { cls := cls, ctx := 0, sev := sev, site := site } = 0 := by simp [State.raiseCtx]
  rw [h0] at this
  exact this

/-! ### Plain hold -/

/-- A state that another one entered Plain hold to: both lanes cold, no Col, the token and the bad marks as they were, and no fault ended. -/
structure PlainAfter (s n : State) : Prop where
  regsOk : RegsOk n
  sys : n.sys = sysPlain
  holder : n.holder = s.holder
  cold : ∀ l, n.laneState l = laneCold
  bad : ∀ l, n.isBad l = s.isBad l
  plain : n.flag LANE_STS 5 = true
  status : ∀ k, 6 ≤ k → n.flag LANE_STS k = s.flag LANE_STS k
  col : n.arb.col = none
  clk : n.clk = { s.clk with pll := true }
  faulted : ∀ {c cls}, Faulted s c cls → Faulted n c cls

/-- A change of the device state touches its word and the alert causes. -/
theorem setSys_regsOk {s : State} (h : RegsOk s) (v : Nat) : RegsOk (s.setSys v) := by
  unfold State.setSys
  split
  · exact h
  · exact setReg_regsOk (setReg_regsOk h _ _) _ _

theorem reg_setSys_other {s : State} (h : RegsOk s) (v : Nat) {a : Nat} (ha : a ≠ SYS_STATE) (hb : a ≠ HOST_ALERT) : (s.setSys v).reg a = s.reg a := by
  unfold State.setSys
  split
  · rfl
  · exact (reg_setReg_other (setReg_regsOk h _ _) _ hb).trans (reg_setReg_other h _ ha)

theorem sys_setSys {s : State} (h : RegsOk s) {v : Nat} (hv : v < 8) : (s.setSys v).sys = v := by
  unfold State.setSys
  split
  · assumption
  · have hw : bits (Word.ofNat v) 2 0 = v := by
      simp only [bits, Word.ofNat, BitVec.toNat_ofNat]
      omega
    have hs : (s.setReg SYS_STATE (Word.ofNat v)).sys = v := by
      simp only [State.sys, State.fld, reg_setReg_same h, hw]
    exact ((Steady.refl _).alert.sys (setReg_regsOk h _ _)).trans hs

theorem setSys_same (s : State) (v : Nat) : (s.setSys v).flt = s.flt ∧ (s.setSys v).clk = s.clk ∧ (s.setSys v).arb = s.arb := by
  unfold State.setSys
  split <;> exact ⟨rfl, rfl, rfl⟩

/-- The lanes as Plain hold finds them: both cold, the token as it was. -/
theorem lanesOff {s : State} (h : RegsOk s) : let n := ((s.setLane .a laneCold).setLane .b laneCold).setFlag LANE_AUTH 13 false
    RegsOk n ∧ n.holder = s.holder ∧ (∀ l, n.laneState l = laneCold) ∧ (∀ l, n.isBad l = s.isBad l) ∧ ∀ k, n.flag LANE_STS k = s.flag LANE_STS k := by
  have h1 : RegsOk (s.setLane .a laneCold) := setReg_regsOk h _ _
  have h2 : RegsOk ((s.setLane .a laneCold).setLane .b laneCold) := setReg_regsOk h1 _ _
  refine ⟨setReg_regsOk h2 _ _, ?_, fun l => ?_, fun l => ?_, fun k => ?_⟩
  · exact (holder_setFlag h2 13 false (by decide) (by decide)).trans ((holder_setReg_other h1 _ (by decide)).trans (holder_setReg_other h _ (by decide)))
  · refine (laneState_setReg_other h2 _ l (by decide)).trans ?_
    cases l
    · exact (laneState_setLane_other h1 .b laneCold).trans (laneState_setLane_same h .a laneCold)
    · exact laneState_setLane_same h1 .b laneCold
  · exact (isBad_setReg_other h2 _ l (by decide)).trans ((isBad_setLane h1 .b l _).trans (isBad_setLane h .a l _))
  · exact (flag_setReg_other h2 _ k (by decide)).trans ((flag_setReg_other h1 _ k (by decide)).trans (flag_setReg_other h _ k (by decide)))

theorem enterPlain_after {s : State} (h : RegsOk s) (cause : Nat) : PlainAfter s (s.enterPlain cause) := by
  unfold State.enterPlain
  extract_lets s0 s1 arb s2 s3 s4 s5 core clk s6
  have h0 : Steady s s0 := (Steady.refl s).applyDue.displace
  obtain ⟨r1, hh1, hl1, hb1, hs1⟩ := lanesOff (h0.regsOk h)
  have r2 : RegsOk s2 := r1
  have h3 : Steady s2 (s2.toFallback.toStandby true).holdChannels := (Steady.refl s2).toFallback.toStandby.holdChannels
  have r3 : RegsOk s3 := setReg_regsOk (setReg_regsOk (h3.regsOk r2) _ _) _ _
  have r4 : RegsOk (s3.setSys sysPlain) := setSys_regsOk r3 _
  have h4 : Steady (s3.setSys sysPlain) s5 := (Steady.refl _).start.coreRec
  have h5 : Steady (s3.setSys sysPlain) core := .ite h4 h4.coreRaise
  have r6 : RegsOk s6 := h5.regsOk r4
  have h6 : Steady s6 ((s6.refuseWaiting .twoWire).refuseWaiting .spi) := (Steady.refl s6).refuseWaiting.refuseWaiting
  -- the token's and the lanes' words from the cold lanes on
  have hw : ∀ a ∈ [LANE_AUTH, LANE_HEALTH], ((s6.refuseWaiting .twoWire).refuseWaiting .spi).reg a = s1.reg a := by
    intro a ha
    have hc : a ∈ chargeWords ∧ a ≠ LANE_STS ∧ a ≠ LANE_ARCNT ∧ a ≠ SYS_STATE ∧ a ≠ HOST_ALERT := by
      revert a
      decide
    obtain ⟨hm, hn, hc1, hc2, hc3⟩ := hc
    calc ((s6.refuseWaiting .twoWire).refuseWaiting .spi).reg a = core.reg a := h6.word r6 hm hn
      _ = (s3.setSys sysPlain).reg a := h5.word r4 hm hn
      _ = s3.reg a := reg_setSys_other r3 _ hc2 hc3
      _ = ((s2.toFallback.toStandby true).holdChannels.setFlag LANE_STS 5 true).reg a := reg_setReg_other (setReg_regsOk (h3.regsOk r2) _ _) _ hc1
      _ = (s2.toFallback.toStandby true).holdChannels.reg a := reg_setReg_other (h3.regsOk r2) _ hn
      _ = s1.reg a := h3.word r2 hm hn
  have hf : ∀ k, 4 ≤ k → ((s6.refuseWaiting .twoWire).refuseWaiting .spi).flag LANE_STS k = ((s2.toFallback.toStandby true).holdChannels.setFlag LANE_STS 5 true).flag LANE_STS k := by
    intro k hk
    calc ((s6.refuseWaiting .twoWire).refuseWaiting .spi).flag LANE_STS k = core.flag LANE_STS k := h6.laneSts r6 hk
      _ = (s3.setSys sysPlain).flag LANE_STS k := h5.laneSts r4 hk
      _ = s3.flag LANE_STS k := by simp only [State.flag, reg_setSys_other r3 sysPlain (a := LANE_STS) (by decide) (by decide)]
      _ = _ := flag_setReg_other (setReg_regsOk (h3.regsOk r2) _ _) _ k (by decide)
  refine ⟨h6.regsOk r6, ?_, ?_, fun l => ?_, fun l => ?_, ?_, fun k hk => ?_, ?_, ?_, fun hx => ?_⟩
  · exact (h6.sys r6).trans ((h5.sys r4).trans (sys_setSys r3 (by decide)))
  · exact (holder_of_word (hw LANE_AUTH (by decide))).trans (hh1.trans (h0.holder h))
  · exact (laneState_of_word (hw LANE_HEALTH (by decide)) l).trans (hl1 l)
  · exact (isBad_of_word (hw LANE_HEALTH (by decide)) l).trans ((hb1 l).trans (h0.isBad h l))
  · exact (hf 5 (by decide)).trans (flag_setFlag_same (h3.regsOk r2) LANE_STS true (by decide))
  · refine (hf k (by omega)).trans ((flag_setFlag_apart (h3.regsOk r2) LANE_STS true (by decide) (by omega)).trans ?_)
    exact (h3.laneSts r2 (by omega)).trans ((hs1 k).trans (h0.laneSts h (by omega)))
  · have hc : (s3.setSys sysPlain).arb.col = none := by
      rw [(setSys_same s3 sysPlain).2.2]
      exact h3.col
    exact h6.col.trans (h5.col.trans hc)
  · have hc : s5.clk = s.clk := by
      rw [h4.clk, (setSys_same s3 sysPlain).2.1]
      exact h3.clk.trans h0.clk
    rw [h6.clk, ← hc]
  · refine h6.faulted (h5.faulted ?_)
    have h3f := h3.faulted (h0.faulted hx)
    unfold Faulted at h3f ⊢
    rw [(setSys_same s3 sysPlain).1]
    exact h3f

/-! ### The token -/

/-- The token moves in its own word, which it leaves with the new holder. -/
structure TokenMoved (s n : State) (l : Option LaneId) : Prop where
  regsOk : RegsOk n
  holder : n.holder = l
  word : ∀ a, a ≠ LANE_AUTH → n.reg a = s.reg a
  withdraws : n.flag LANE_AUTH 13 = s.flag LANE_AUTH 13

theorem tokenTo_moved {s : State} (h : RegsOk s) (l : Option LaneId) (cause : Option Nat) (w : Bool) : TokenMoved s (s.tokenTo l cause w) l := by
  unfold State.tokenTo
  extract_lets s1 s2 s3 arb
  have r0 : RegsOk (s.setFld LANE_AUTH 1 0 (holderCode l)) := setReg_regsOk h _ _
  have r1 : RegsOk s1 := setReg_regsOk r0 _ _
  have h1 : s1.fld LANE_AUTH 1 0 = holderCode l := by
    refine (fld_setFld_apart r0 LANE_AUTH (by decide) (by decide) (.inl (by decide))).trans ((fld_setFld_same h LANE_AUTH (by decide) (by decide)).trans ?_)
    rcases l with _ | _ | _ <;> rfl
  have w1 : ∀ a, a ≠ LANE_AUTH → s1.reg a = s.reg a := fun a ha => (reg_setReg_other r0 _ ha).trans (reg_setReg_other h _ ha)
  have f1 : s1.flag LANE_AUTH 13 = s.flag LANE_AUTH 13 :=
    (flag_setFld_apart r0 LANE_AUTH (by decide) (by decide) (.inr (by decide))).trans (flag_setFld_apart h LANE_AUTH (by decide) (by decide) (.inr (by decide)))
  obtain ⟨r2, h2, w2, f2⟩ : RegsOk s2 ∧ s2.fld LANE_AUTH 1 0 = holderCode l ∧ (∀ a, a ≠ LANE_AUTH → s2.reg a = s.reg a) ∧ s2.flag LANE_AUTH 13 = s.flag LANE_AUTH 13 := by
    unfold s2
    split
    · exact ⟨setReg_regsOk r1 _ _, (fld_setFld_apart r1 LANE_AUTH (by decide) (by decide) (.inl (by decide))).trans h1, fun a ha => (reg_setReg_other r1 _ ha).trans (w1 a ha),
        (flag_setFld_apart r1 LANE_AUTH (by decide) (by decide) (.inr (by decide))).trans f1⟩
    · exact ⟨r1, h1, w1, f1⟩
  have h3 : s3.fld LANE_AUTH 1 0 = holderCode l := (fld_setFlag_apart r2 LANE_AUTH w (by decide) (.inl (by decide))).trans h2
  refine ⟨setReg_regsOk r2 _ _, ?_, fun a ha => (reg_setReg_other r2 _ ha).trans (w2 a ha), (flag_setFlag_apart r2 LANE_AUTH w (by decide) (by decide)).trans f2⟩
  have hh : s3.holder = l := by
    unfold State.holder
    rw [h3]
    rcases l with _ | _ | _ <;> rfl
  exact hh

/-- Beside its word the token changes only who held it last, and that the new holder has sent nothing yet. -/
theorem tokenTo_rest (s : State) (l : Option LaneId) (cause : Option Nat) (w : Bool) : let n := s.tokenTo l cause w
    n = { s with regs := n.regs, arb := { s.arb with lastHolder := if l.isSome then l else s.arb.lastHolder, stamped := false, silent := false } } := by
  unfold State.tokenTo
  cases cause <;> rfl

/-- A die level or a lost supply leaves Plain hold, with no token and both lanes cold. -/
structure PlainLeft (s n : State) : Prop where
  regsOk : RegsOk n
  sys : n.sys = sysPlain
  holder : n.holder = none
  cold : ∀ l, n.laneState l = laneCold
  lost : n.clk.lost = s.clk.lost
  vreg5 : n.clk.vreg5 = s.clk.vreg5
  faulted : ∀ {c cls}, Faulted s c cls → Faulted n c cls

theorem plainByLevel_left {s : State} (h : RegsOk s) (cause : Nat) : PlainLeft s (s.plainByLevel cause) := by
  unfold State.plainByLevel
  extract_lets s1 s2 arb
  have hn : s.holder.isSome = false → s.holder = none := fun e => by simpa using e
  obtain ⟨r1, h1, w1, e1⟩ : RegsOk s1 ∧ s1.holder = none ∧ (∀ a, a ≠ LANE_AUTH → s1.reg a = s.reg a) ∧ (s1.clk = s.clk ∧ s1.flt = s.flt) := by
    unfold s1
    split
    · have hm := tokenTo_moved h none none true
      refine ⟨hm.regsOk, hm.holder, hm.word, ?_⟩
      rw [tokenTo_rest s none none true]
      exact ⟨rfl, rfl⟩
    · rename_i hh
      exact ⟨h, hn (by simpa using hh), fun _ _ => rfl, rfl, rfl⟩
  split
  · rename_i hp
    have r1' : RegsOk (s1.setLane .a laneCold) := setReg_regsOk r1 _ _
    refine ⟨setReg_regsOk r1' _ _, ?_, ?_, fun l => ?_, ?_, ?_, fun hf => ?_⟩
    · have : s2.sys = s.sys := (fld_setReg_other r1' _ _ _ (by decide)).trans ((fld_setReg_other r1 _ _ _ (by decide)).trans (by simp only [State.sys, State.fld, w1 SYS_STATE (by decide)]))
      exact this.trans hp
    · exact (holder_setReg_other r1' _ (by decide)).trans ((holder_setReg_other r1 _ (by decide)).trans h1)
    · cases l
      · exact (laneState_setLane_other r1' .b laneCold).trans (laneState_setLane_same r1 .a laneCold)
      · exact laneState_setLane_same r1' .b laneCold
    · exact congrArg Clk.lost e1.1
    · exact congrArg Clk.vreg5 e1.1
    · have e : s1.flt = s.flt := e1.2
      unfold Faulted at hf ⊢
      rw [← e] at hf
      exact hf
  · have hp := enterPlain_after r1 cause
    refine ⟨hp.regsOk, hp.sys, hp.holder.trans h1, hp.cold, ?_, ?_, fun hf => hp.faulted ?_⟩
    · rw [hp.clk, e1.1]
    · rw [hp.clk, e1.1]
    · unfold Faulted at hf ⊢
      rw [e1.2]
      exact hf

end Sys2Proof
end
-- ==== Sys2Proof/Proofs/Shelf/Supply.lean ====
section
/-! O58: the supplies fail and return. -/

namespace Sys2Proof

open Machine

/-- A write of the commits that waited, in their order. -/
theorem flushCommits_eq (s : State) : s.flushCommits = { s with commits := [], mram := s.settled } := by
  have step (l : List (Nat × List Byte)) : ∀ m : State, (l.foldl (fun s c => s.writeMram c.1 c.2) m) = { m with mram := l.foldl (fun m c => assignAll freshByte m c.1 c.2) m.mram } := by
    induction l with
    | nil => exact fun _ => rfl
    | cons c l ih => exact fun m => ih (m.writeMram c.1 c.2)
  exact step s.commits { s with commits := [] }

/-- With no record staged a commit of the recorder changes nothing. -/
theorem commitStaged_nil {s : State} (h : s.rcd.staging = []) (e : Nat) : s.commitStaged e = s := by
  have : { s with rcd := { s.rcd with staging := s.rcd.staging.filter (fun r => !r.ripe e) } } = s := by
    have hs : { s.rcd with staging := s.rcd.staging.filter (fun r => !r.ripe e) } = s.rcd := by
      rw [h, List.filter_nil, ← h]
    rw [hs]
  unfold State.commitStaged State.commitRipe
  split
  · dsimp only
    rw [this, h]
    rfl
  · rfl

/-- A learned-data commit that starts changes its own queue alone. -/
theorem lrnStart_rest (s : State) : s.lrnStart = { s with learned := s.lrnStart.learned } := by
  unfold State.lrnStart
  split <;> rfl

/-! ### The supplies -/

/-- The core's raise after a change of its own: the outcome is that raise, it stands, and the rest of the state is as the change left it. -/
theorem coreRaise_shelf (s0 m : State) (cls site : Nat) (sev : Option Nat) : ∃ n, finish s0 (m.coreRaise cls 0 sev site) = .next n ∧ AfterCoreRaise m n cls 0 sev ∧ Faulted n 0 cls ∧ n.mram = m.mram ∧ n.vresOk = m.vresOk := by
  have hf : OnlyFault m (m.coreRaise cls 0 sev site) := coreRaise_fault (onlyFault_refl m) cls 0 sev site
  have hv : (m.coreRaise cls 0 sev site).vresOk = m.vresOk := by rw [hf.1]
  exact ⟨_, rfl, ⟨site, rfl⟩, coreRaise_shelf_faulted m cls sev site, hf.mram, hv⟩

theorem vreg5OutOfRegulation_raises (t : Nat) (s : State) (h : s.clk.vreg5 = true) :
    ∃ n m, exec (.vreg5OutOfRegulation t) s = .next n ∧ AfterCoreRaise m n 0 0 none ∧ Faulted n 0 0 ∧ m.clk = { s.clk with vreg5 := false } ∧ m.regs = s.regs ∧ n.mram = s.mram := by
  obtain ⟨n, hn, ha, hf, hm, -⟩ := coreRaise_shelf (s.at t) { s.at t with clk := { s.clk with vreg5 := false } } 0 1 none
  refine ⟨n, _, ?_, ha, hf, rfl, rfl, hm⟩
  rw [← hn]
  exact congrArg (finish (s.at t)) (if_pos h)

theorem vresReserveLow_raises (t : Nat) (s : State) (h : s.vresOk = true) :
    ∃ n m, exec (.vresReserveLow t) s = .next n ∧ AfterCoreRaise m n 0 0 none ∧ Faulted n 0 0 ∧ n.vresOk = false ∧ m.regs = s.regs ∧ n.mram = s.mram := by
  obtain ⟨n, hn, ha, hf, hm, hv⟩ := coreRaise_shelf (s.at t) { s.at t with vresOk := false } 0 2 none
  refine ⟨n, _, ?_, ha, hf, hv, rfl, hm⟩
  rw [← hn]
  exact congrArg (finish (s.at t)) (if_pos h)

theorem vdd08RegulatorFault_raises (t : Nat) (s : State) :
    ∃ n, exec (.vdd08RegulatorFault t) s = .next n ∧ AfterCoreRaise (s.at t) n 0 0 none ∧ Faulted n 0 0 ∧ n.mram = s.mram := by
  obtain ⟨n, hn, ha, hf, hm, -⟩ := coreRaise_shelf (s.at t) (s.at t) 0 3 none
  exact ⟨n, hn, ha, hf, hm⟩

theorem vreg5Lost_plain (t : Nat) (s : State) (hs : RegsOk s) (hl : s.clk.lost = false) (hc : s.clocks = true) :
    ∃ n, exec (.vreg5Lost t) s = .next n ∧ n.clk.lost = true ∧ n.clk.vreg5 = false ∧ n.sys = sysPlain ∧ n.holder = none ∧ n.laneState .a = laneCold ∧ n.laneState .b = laneCold ∧
      (s.clk.vreg5 = true → Faulted n 0 0) := by
  -- the state with VREG5 gone, whether or not it was out of regulation before
  obtain ⟨m, he, hm, hm1, hm2, hmf⟩ : ∃ m, exec (.vreg5Lost t) s = finish (s.at t) (m.plainByLevel 3) ∧ RegsOk m ∧ m.clk.lost = true ∧ m.clk.vreg5 = false ∧ (s.clk.vreg5 = true → Faulted m 0 0) := by
    dsimp only [exec, execVreg5Lost]
    rw [if_neg (by simp [hl])]
    by_cases hv : s.clk.vreg5 = true
    · have hv' : (s.at t).clk.vreg5 = true := hv
      have hf : OnlyFault { s.at t with clk := { (s.at t).clk with vreg5 := false } } (State.coreRaise { s.at t with clk := { (s.at t).clk with vreg5 := false } } 0 0 none 1) := coreRaise_fault (onlyFault_refl _) _ _ _ _
      rw [if_pos hv']
      refine ⟨_, congrArg (finish (s.at t)) (if_pos ?_), hf.regsOk (by exact hs), rfl, ?_, fun _ => coreRaise_shelf_faulted _ 0 none 1⟩
      · exact (congrArg State.clocks hf.1).trans hc
      · exact congrArg Clk.vreg5 hf.clk
    · have hv' : ¬ (s.at t).clk.vreg5 = true := hv
      rw [if_neg hv']
      exact ⟨_, congrArg (finish (s.at t)) (if_pos hc), hs, rfl, by simpa using hv, fun h => absurd h hv⟩
  have hp := plainByLevel_left hm 3
  refine ⟨_, he, hp.lost.trans hm1, hp.vreg5.trans hm2, hp.sys, hp.holder, hp.cold .a, hp.cold .b, fun h => hp.faulted (hmf h)⟩

theorem vresCharged_commits (t : Nat) (s : State) (hv : s.vresOk = false) (hr : s.rcd.staging = []) :
    ∃ n, exec (.vresCharged t) s = .next n ∧ n.vresOk = true ∧ n.commits = [] ∧ n.mram = s.settled ∧ n.regs = s.regs := by
  have e : exec (.vresCharged t) s = finish (s.at t) { s.at t with vresOk := true, commits := [], mram := s.settled }.lrnStart := by
    dsimp only [exec, execVresCharged]
    rw [if_neg (by simp [hv]), flushCommits_eq, commitStaged_nil (by exact hr)]
    rfl
  rw [e, lrnStart_rest]
  exact ⟨_, rfl, rfl, rfl, rfl, rfl⟩

/-- Settles O58: the raises stand in the shelf's context, and a lost VREG5 enters Plain hold as a die level does. -/
theorem suppliesFailAndReturn : Obligations.SuppliesFailAndReturn :=
  ⟨vreg5OutOfRegulation_raises, vreg5Lost_plain, fun _ _ => ⟨_, rfl, rfl, rfl, rfl, rfl, rfl, rfl, rfl, rfl⟩, fun _ _ => ⟨_, rfl, rfl, rfl, rfl, rfl⟩,
    vresReserveLow_raises, fun t s _ => vresCharged_commits t s, vdd08RegulatorFault_raises, fun _ _ => ⟨_, rfl, rfl, rfl, rfl⟩⟩

end Sys2Proof
end
-- ==== Sys2Proof/Proofs/Shelf/HostWrites.lean ====
section
/-! SUPPORT. A register write that a serving target accepts. -/

namespace Sys2Proof

open Machine

/-! ### A register write that a target accepts -/

/-- What an accepted write leaves at its target: an acknowledge, the result of the frame before, and no held part of a wide value (R38, R398). -/
def acceptedIface (p : Port) (i : Iface) : Iface := match p with
  | .twoWire => { i with resp := [], acked := true, holding := [] }
  | .spi => { i with resp := [i.result], result := 0x5A, acked := true, holding := [] }

theorem done_setHolding (m : State) (p : Port) : (m.done p).setHolding p.code [] = m.setIface p (acceptedIface p) := by
  cases p <;> rfl

theorem acked_acceptedIface (p : Port) (i : Iface) : (acceptedIface p i).acked = true := by cases p <;> rfl

/-- A target that serves every command carries a write of a register out at once. -/
theorem hostOp_regWrite {p : Port} {m : State} (h : ServesAll p m) (a : Nat) (w : Word) : m.hostOp p (.regWrite a w) = (m.done p).hostWrite p a w := by
  obtain ⟨hw, he, hv, hj, hf⟩ := h
  have hwake : m.hostWake p = m := by simp [State.hostWake, he]
  have hjl : ¬ 128 < m.journal.length + (HostOp.regWrite a w).entries (m.iface p) := by
    simp only [HostOp.entries, b2n]
    split <;> omega
  have hmust : m.mustWait p (.regWrite a w) = false := by
    simp [State.mustWait, hjl]
  unfold State.hostOp State.hostRun
  rw [hwake]
  simp [hw, hv, Service.serves, HostOp.legal, hmust, State.serve]

/-- A write of a word that is there and that no block in reset isolates, by the page it stands in. -/
theorem applyWrite_there (m : State) (via : Nat) {a : Nat} (w : Word) (hg : ¬ (a = FCNT_GATE ∨ a = FCNT_GATE + 1)) (hi : (m.setHolding via []).implemented a = true)
    (hb : (m.setHolding via []).isolatedWord a = false) (hp : a < 0x480) :
    m.applyWrite via a w = if a < 0x40 then (m.setHolding via []).writeCore via a w else (m.setHolding via []).writePage via a w := by
  have hn : ¬ (!(m.setHolding via []).implemented a) = true := by simp [hi]
  have hk : ¬ (m.setHolding via []).isolatedWord a = true := by simp [hb]
  unfold State.applyWrite
  rw [if_neg hg, if_neg hn, if_neg hk]
  split
  · rfl
  · rfl

/-- The state in which an accepted write acts: its target has answered, and a word of the lane or of the images stands in the journal (R329, R398). -/
def accepted (m : State) (p : Port) (a : Nat) (w : Word) : State :=
  if journalled a then
    { m.setIface p (acceptedIface p) with journal := m.journal ++ [{ addr := a, word := w, via := p.code, applied := m.now, commits := 0 }] }
  else m.setIface p (acceptedIface p)

/-- Beside the target and the journal an accepted write has changed nothing yet. -/
theorem accepted_eq (m : State) (p : Port) (a : Nat) (w : Word) : accepted m p a w = { m.setIface p (acceptedIface p) with journal := (accepted m p a w).journal } := by
  unfold accepted
  split <;> rfl

/-- A write of a word of the core or of a global page. -/
theorem hostOp_global {p : Port} {m : State} (h : ServesAll p m) {a : Nat} (w : Word) (hp : a < 0x480) (hg : ¬ (a = FCNT_GATE ∨ a = FCNT_GATE + 1))
    (hi : (accepted m p a w).implemented a = true) (hb : (accepted m p a w).isolatedWord a = false) :
    m.hostOp p (.regWrite a w) = if a < 0x40 then (accepted m p a w).writeCore p.code a w else (accepted m p a w).writePage p.code a w := by
  have hv : ((m.done p).service p == .full) = true := by
    have : (m.done p).service p = m.service p := by cases p <;> rfl
    rw [this, h.2.2.1]
    rfl
  have hs : State.setHolding (if journalled a && (m.done p).service p == .full then { m.done p with journal := (m.done p).journal ++ [{ addr := a, word := w, via := p.code, applied := (m.done p).now, commits := 0 }] } else m.done p) p.code [] =
      accepted m p a w := by
    unfold accepted
    rw [hv, Bool.and_true]
    split
    · cases p <;> rfl
    · exact done_setHolding m p
  rw [hostOp_regWrite h, State.hostWrite]
  rw [applyWrite_there _ _ w hg (by rw [hs]; exact hi) (by rw [hs]; exact hb) hp, hs]

/-- No block in reset isolates a word outside the downstream ports and the frequency counter. -/
theorem isolatedWord_outside (s : State) {a : Nat} (hf : a < FCNT_CTL ∨ FCNT_STS < a ∨ s.flag RST_BLKSTS 8 = false) (hd : a < DSP_CFG ∨ DS_POLL ≤ a) : s.isolatedWord a = false := by
  have h1 : (decide (FCNT_CTL ≤ a) && decide (a ≤ FCNT_STS) && s.flag RST_BLKSTS 8) = false := by
    rcases hf with h | h | h
    · have : ¬ FCNT_CTL ≤ a := Nat.not_le.mpr h
      simp [this]
    · have : ¬ a ≤ FCNT_STS := Nat.not_le.mpr h
      simp [this]
    · simp [h]
  have h2 : (decide (DSP_CFG ≤ a) && decide (a < DS_POLL)) = false := by
    rcases hd with h | h
    · have : ¬ DSP_CFG ≤ a := Nat.not_le.mpr h
      simp [this]
    · have : ¬ a < DS_POLL := Nat.not_lt.mpr h
      simp [this]
  unfold State.isolatedWord
  rw [h1, Bool.false_or]
  refine List.any_eq_false.mpr fun x _ => ?_
  rw [Bool.and_assoc (s.flag _ _), h2]
  simp

end Sys2Proof
end
-- ==== Sys2Proof/Proofs/Shelf/Dormant.lean ====
section
/-! O15: Dormant, its request, refusal, abort and wake. -/

namespace Sys2Proof

open Machine

/-! ### SYS.DORMANT -/

/-- A value put at a key leaves what is read at a smaller one, in any list: reading stops at the first greater key. -/
theorem lookup_assign_below {α : Type} [DecidableEq α] {d v : α} {a c : Nat} (hc : c < a) (hv : v ≠ d) (l : List (Nat × α)) : lookup d (assign d l a v) c = lookup d l c := by
  induction l with
  | nil => simp [assign, lookup, hv, hc]
  | cons x r ih =>
    obtain ⟨k, w⟩ := x
    unfold assign
    rw [if_neg hv, if_neg hv]
    split
    · have h1 : c < k := by omega
      simp [lookup, hc, h1]
    · split
      · rename_i hk
        subst hk
        simp [lookup, hc]
      · simp only [lookup, ih]

theorem reg_setFlag_below (s : State) {a c : Nat} (n : Nat) (hc : c < a) (hn : n < 18) : (s.setFlag a n true).reg c = s.reg c := by
  refine lookup_assign_below hc (fun e => ?_) s.regs
  have h := bit_putBit_same (w := s.reg a) true hn
  rw [e] at h
  simp [bit] at h

/-- The learned data asked for: its request flag, its content and the counts of the strings. -/
theorem lrnRequest_rest (s : State) : let n := s.lrnRequest
    n = { s with regs := (s.setFlag LRN_STS 4 true).regs, lane := n.lane, learned := n.learned } := by
  have hn : s.noteCommitted = { s with lane := s.noteCommitted.lane } := by
    have step (l : List CtxRec) : ∀ m : State, m.forEach l (fun r s => s.setStr r.ctx (fun v => { v with committed := v.soc })) =
        { m with lane := (m.forEach l (fun r s => s.setStr r.ctx (fun v => { v with committed := v.soc }))).lane } := by
      induction l with
      | nil => exact fun _ => rfl
      | cons x l ih => exact fun m => ih (m.setStr x.ctx (fun v => { v with committed := v.soc }))
    exact step _ s
  unfold State.lrnRequest
  rw [hn]
  dsimp only
  split <;> rfl

theorem sysDormantRequest_accepted {p : Port} {m : State} (h : ServesAll p m) (w : Word) :
    m.hostOp p (.regWrite SYS_DORMANT w) = (m.setIface p (acceptedIface p)).dormantRequest w := by
  have e : accepted m p SYS_DORMANT w = m.setIface p (acceptedIface p) := if_neg (by decide)
  rw [hostOp_global h w (by decide) (by decide) rfl (isolatedWord_outside _ (.inl (by decide)) (.inl (by decide))), if_pos (by decide), e]
  rfl

theorem dormantOk_setIface (m : State) (p : Port) (f : Iface → Iface) : (m.setIface p f).dormantOk = m.dormantOk := by cases p <;> rfl

/-- A noted wake source stands in the Dormant status (R27, R30). -/
theorem noteWake_noted {s : State} (h : RegsOk s) {src : Nat} (hs : src < 8) :
    RegsOk (s.noteWake src) ∧ (s.noteWake src).flag SYS_DSTAT 1 = true ∧ (s.noteWake src).fld SYS_DSTAT 5 2 = src ∧ Kept s (s.noteWake src) [SYS_DSTAT] := by
  have h1 : RegsOk (s.setFlag SYS_DSTAT 1 true) := setReg_regsOk h _ _
  refine ⟨setReg_regsOk h1 _ _, ?_, ?_, ?_⟩
  · exact (flag_setFld_apart h1 SYS_DSTAT (by decide) (by decide) (.inl (by decide))).trans (flag_setFlag_same h SYS_DSTAT true (by decide))
  · refine (fld_setFld_same h1 SYS_DSTAT (by decide) (by decide)).trans ?_
    rw [Nat.mod_eq_of_lt (by omega)]
  · exact kept_trans (kept_setReg h _ (by simp)) (kept_setReg h1 _ (by simp))

/-- A wake source that is enabled ends a wait for the entry boundary (R27). -/
theorem abortEntry_waiting {s : State} (hw : s.arb.entryWait = true) {src : Nat} (he : s.wakeEnabled src = true) :
    s.abortEntry src = { s with arb := { s.arb with entryWait := false } }.noteWake src := by
  unfold State.abortEntry
  rw [if_neg (by simp [he]), if_pos hw]

theorem wakeEnabled_source (s : State) (p : Port) : s.wakeEnabled p.wakeSource = true := by cases p <;> rfl

theorem wakeSource_lt (p : Port) : p.wakeSource < 8 := by cases p <;> decide

/-- SYS.DORMANT with its key, every condition holding, waits for its boundary (R25, R26). -/
theorem dormantRequest_waits (p : Port) (w : Word) (t : Nat) (s : State) (h : ServesAll p (s.at t)) (hk : bits w 15 0 = 0x5A5A) (ho : s.dormantOk = true) :
    ∃ n, exec (.sysDormantRequest p w t) s = .next n ∧ n.arb.entryWait = true ∧ n.arb.askedAt = n.now ∧ n.sys = s.sys ∧ n.holder = s.holder ∧ (n.iface p).acked = true ∧ n.mram = s.mram := by
  have ho' : ((s.at t).setIface p (acceptedIface p)).dormantOk = true := (dormantOk_setIface _ p _).trans ho
  have e : exec (.sysDormantRequest p w t) s = finish (s.at t) (((s.at t).setIface p (acceptedIface p)).dormantRequest w) :=
    congrArg (finish (s.at t)) (sysDormantRequest_accepted h w)
  unfold State.dormantRequest at e
  rw [if_neg (by simp [hk]), if_pos ho', lrnRequest_rest] at e
  have hreg (a : Nat) (ha : a < LRN_STS) : (((s.at t).setIface p (acceptedIface p)).setFlag LRN_STS 4 true).reg a = s.reg a :=
    (reg_setFlag_below _ 4 ha (by decide)).trans (reg_of_regs (State.setIface_regs _ p _) a)
  refine ⟨_, e, rfl, rfl, ?_, ?_, ?_, ?_⟩
  · exact congrArg (fun x => bits x 2 0) (hreg SYS_STATE (by decide))
  · exact holder_of_word (hreg LANE_AUTH (by decide))
  · cases p <;> rfl
  · cases p <;> rfl

/-- SYS.DORMANT with its key is refused while a condition does not hold (R26). -/
theorem dormantRequest_refused (p : Port) (w : Word) (t : Nat) (s : State) (hr : RegsOk s) (h : ServesAll p (s.at t)) (hk : bits w 15 0 = 0x5A5A) (ho : s.dormantOk = false) :
    ∃ n, exec (.sysDormantRequest p w t) s = .next n ∧ n.flag SYS_DSTAT 0 = true ∧ n.arb = s.arb ∧ (n.iface p).acked = true ∧ Kept s n (SYS_DSTAT :: recordWords) ∧ n.mram = s.mram := by
  have ho' : ¬ ((s.at t).setIface p (acceptedIface p)).dormantOk = true := by
    rw [dormantOk_setIface, show (s.at t).dormantOk = s.dormantOk from rfl, ho]
    decide
  have e : exec (.sysDormantRequest p w t) s = finish (s.at t) (((s.at t).setIface p (acceptedIface p)).dormantRequest w) :=
    congrArg (finish (s.at t)) (sysDormantRequest_accepted h w)
  unfold State.dormantRequest at e
  rw [if_neg (by simp [hk]), if_neg ho'] at e
  obtain ⟨m, hm⟩ : ∃ m, m = (s.at t).setIface p (acceptedIface p) := ⟨_, rfl⟩
  rw [← hm] at e
  have hmr : m.regs = s.regs := by rw [hm]; exact State.setIface_regs _ p _
  have rm : RegsOk m := (regsOk_of_regs hmr).mpr hr
  have hx : OnlyRecorder (m.setFlag SYS_DSTAT 0 true) ((m.setFlag SYS_DSTAT 0 true).note 4 0) := writeRec_only _ _ _ _
  have r1 : RegsOk (m.setFlag SYS_DSTAT 0 true) := setReg_regsOk rm _ _
  refine ⟨_, e, ?_, ?_, ?_, ?_, ?_⟩
  · have hw : ((m.setFlag SYS_DSTAT 0 true).note 4 0).reg SYS_DSTAT = (m.setFlag SYS_DSTAT 0 true).reg SYS_DSTAT := hx.reg r1 (by decide)
    exact (congrArg (fun x => bit x 0) hw).trans (flag_setFlag_same rm SYS_DSTAT true (by decide))
  · refine (hx.field State.arb (fun _ _ _ => rfl)).trans ?_
    rw [show (m.setFlag SYS_DSTAT 0 true).arb = m.arb from rfl, hm]
    exact State.setIface_arb _ p _
  · refine (congrArg Iface.acked (hx.field (fun s => s.iface p) (fun _ _ _ => by cases p <;> rfl))).trans ?_
    rw [hm]
    cases p <;> rfl
  · refine kept_trans (kept_of_regs hmr) (kept_trans (kept_setReg rm _ (List.mem_cons_self ..)) (kept_mono (hx.2 r1).2 (fun _ => List.mem_cons_of_mem _)))
  · refine (hx.field State.mram (fun _ _ _ => rfl)).trans ?_
    rw [show (m.setFlag SYS_DSTAT 0 true).mram = m.mram from rfl, hm]
    exact State.setIface_mram _ p _

/-- A host transaction ends the wait for the boundary and is noted (R27, R30). -/
theorem summary_aborts (p : Port) (t : Nat) (s : State) (hr : RegsOk s) (hw : s.arb.entryWait = true) (hi : (s.iface p).waiting = none) (hv : s.service p = .full) :
    ∃ n, exec (.summary p t) s = .next n ∧ n.arb.entryWait = false ∧ n.flag SYS_DSTAT 1 = true ∧ n.fld SYS_DSTAT 5 2 = p.wakeSource ∧ (n.iface p).acked = true ∧ Kept s n [SYS_DSTAT] ∧ n.mram = s.mram := by
  have hv' : (s.at t).service p = .full := by rw [service_at, hv]
  have hi' : ((s.at t).iface p).waiting.isSome = false := by
    rw [show (s.at t).iface p = s.iface p by cases p <;> rfl, hi]
    rfl
  have e : exec (.summary p t) s = finish (s.at t) ((({ s.at t with arb := { s.arb with entryWait := false } } : State).noteWake p.wakeSource).reply p [0xE5]
      (0x18 :: (({ s.at t with arb := { s.arb with entryWait := false } } : State).noteWake p.wakeSource).summaryBytes)) := by
    have hh : (s.at t).hostWake p = ({ s.at t with arb := { s.arb with entryWait := false } } : State).noteWake p.wakeSource := by
      unfold State.hostWake
      rw [if_pos (by rw [hv']; simp only [Bool.and_eq_true]; exact ⟨hw, rfl⟩)]
      exact abortEntry_waiting (s := s.at t) hw (wakeEnabled_source _ p)
    dsimp only [exec, execSummary, State.control]
    rw [if_neg (by rw [hi']; decide), if_neg (by rw [hv']; decide), if_neg (by rw [hv']; decide), hh]
    rfl
  obtain ⟨hr1, hf, hs, hkept⟩ := noteWake_noted (s := { s.at t with arb := { s.arb with entryWait := false } }) hr (wakeSource_lt p)
  refine ⟨_, e, ?_, ?_, ?_, ?_, ?_, ?_⟩
  · cases p <;> rfl
  · exact (congrArg (fun x => bit x 1) (reg_of_regs (State.setIface_regs _ p _) SYS_DSTAT)).trans hf
  · exact (congrArg (fun x => bits x 5 2) (reg_of_regs (State.setIface_regs _ p _) SYS_DSTAT)).trans hs
  · cases p <;> rfl
  · exact kept_trans hkept (kept_of_regs (State.setIface_regs _ p _))
  · exact State.setIface_mram _ p _

/-- Every other enabled source ends the wait too (R27). -/
theorem dormantEntryAbort_aborts (src t : Nat) (s : State) (hr : RegsOk s) (hs : src < 8) (he : s.wakeEnabled src = true) (hw : s.arb.entryWait = true) :
    ∃ n, exec (.dormantEntryAbort src t) s = .next n ∧ n.arb.entryWait = false ∧ n.flag SYS_DSTAT 1 = true ∧ n.fld SYS_DSTAT 5 2 = src ∧ Kept s n [SYS_DSTAT] ∧ n.mram = s.mram := by
  obtain ⟨-, hf, hs', hkept⟩ := noteWake_noted (s := { s.at t with arb := { s.arb with entryWait := false } }) hr hs
  have he' : (s.at t).wakeEnabled src = true := he
  exact ⟨_, congrArg (finish (s.at t)) (abortEntry_waiting (s := s.at t) hw he'), rfl, hf, hs', hkept, rfl⟩

/-- Cut runs of the downstream ports touch the ports alone. -/
theorem endRuns_rest (s : State) : s.endRuns = { s with dsPorts := s.endRuns.dsPorts } := by
  have step (l : List Nat) (f : DsPort → DsPort) : ∀ m : State, m.forEach l (fun p s => s.setPort p f) = { m with dsPorts := (m.forEach l (fun p s => s.setPort p f)).dsPorts } := by
    induction l with
    | nil => exact fun _ => rfl
    | cons x l ih => exact fun m => ih (m.setPort x f)
  exact step _ _ s

/-- A lane that takes over from power-up on: the token is its own, it is powering, and no other lane's words move. -/
structure Woken (s n : State) (l : LaneId) : Prop where
  regsOk : RegsOk n
  holder : n.holder = some l
  powering : n.laneState l = lanePowering
  pll : n.clk.pll = true
  kept : Kept s n [LANE_AUTH, LANE_HEALTH]
  mram : n.mram = s.mram

theorem wakeLane_woken {s : State} (h : RegsOk s) : Woken s s.wakeLane (s.arb.lastHolder.getD .a) := by
  unfold State.wakeLane
  extract_lets l arb s1 clk
  have e0 : (s.takeOver .wake).regs = s.regs ∧ (s.takeOver .wake).mram = s.mram := by
    unfold State.takeOver
    rw [endRuns_rest]
    exact ⟨rfl, rfl⟩
  obtain ⟨er, em⟩ := e0
  have r0 : RegsOk (s.takeOver .wake) := (regsOk_of_regs er).mpr h
  have hm := tokenTo_moved r0 (some l) (some 7) false
  refine ⟨setReg_regsOk hm.regsOk _ _, ?_, laneState_setLane_same hm.regsOk l lanePowering, rfl, fun a ha => ?_, ?_⟩
  · exact (holder_setReg_other hm.regsOk _ (by decide)).trans hm.holder
  · have h1 : a ≠ LANE_AUTH ∧ a ≠ LANE_HEALTH := by simpa using ha
    exact (reg_setReg_other hm.regsOk _ h1.2).trans ((hm.word a h1.1).trans (reg_of_regs er a))
  · have e1 : ((s.takeOver .wake).tokenTo (some l) (some 7) false).mram = (s.takeOver .wake).mram := by
      rw [tokenTo_rest]
    exact e1.trans em

/-- What an enabled wake source leaves in Dormant before the lane is powered: the noted source and the alert, and of a transaction on the two-wire target its flag (R30). -/
def noted (s : State) (src : Nat) : State :=
  let s1 := ({ s with clk := { s.clk with exactAt := some ((s.now / 1000 + 1) * 1000) } }.noteWake src).alert 5
  if src = 1 then s1.setFlag HOST_STS 6 true else s1

theorem noted_facts {s : State} (h : RegsOk s) {src : Nat} (hs : src < 8) : RegsOk (noted s src) ∧ (noted s src).flag SYS_DSTAT 1 = true ∧ (noted s src).fld SYS_DSTAT 5 2 = src ∧
    (noted s src).flag HOST_ALERT 5 = true ∧ Kept s (noted s src) [SYS_DSTAT, HOST_ALERT, HOST_STS] := by
  obtain ⟨r1, hf, hn, hk⟩ := noteWake_noted (s := { s with clk := { s.clk with exactAt := some ((s.now / 1000 + 1) * 1000) } }) h hs
  unfold noted
  extract_lets clk s1
  have r2 : RegsOk s1 := setReg_regsOk r1 _ _
  have k2 : Kept s s1 [SYS_DSTAT, HOST_ALERT, HOST_STS] := kept_trans (kept_mono hk (by simp)) (kept_setReg r1 _ (by simp))
  have f2 : s1.flag SYS_DSTAT 1 = true := (flag_setReg_other r1 _ 1 (by decide)).trans hf
  have n2 : s1.fld SYS_DSTAT 5 2 = src := (fld_setReg_other r1 _ 5 2 (by decide)).trans hn
  have a2 : s1.flag HOST_ALERT 5 = true := flag_setFlag_same r1 HOST_ALERT true (by decide)
  split
  · exact ⟨setReg_regsOk r2 _ _, (flag_setReg_other r2 _ 1 (by decide)).trans f2, (fld_setReg_other r2 _ 5 2 (by decide)).trans n2, (flag_setReg_other r2 _ 5 (by decide)).trans a2,
      kept_trans k2 (kept_setReg r2 _ (by simp))⟩
  · exact ⟨r2, f2, n2, a2, k2⟩

theorem noted_rest (s : State) (src : Nat) : (noted s src).clk.vreg5 = s.clk.vreg5 ∧ (noted s src).arb = s.arb ∧ (noted s src).mram = s.mram := by
  unfold noted
  split <;> exact ⟨rfl, rfl, rfl⟩

/-- An enabled wake source in Dormant notes itself and powers the lane that last held the token. -/
theorem wakeBy_eq {s : State} (h : RegsOk s) {src : Nat} (hs : src < 8) (he : s.wakeEnabled src = true) (hd : s.sys = sysDormant) (hh : s.holder = none) (hl : s.dieLevel < 2)
    (hv : s.clk.vreg5 = true) : s.wakeBy src = (noted s src).wakeLane := by
  have hk := (noted_facts h hs).2.2.2.2
  have hl' : ¬ 2 ≤ (noted s src).dieLevel := by
    have : (noted s src).dieLevel = s.dieLevel := congrArg (fun x => bits x 1 0) (hk TDIE_STS (by decide))
    omega
  have hv' : ¬ (!(noted s src).clk.vreg5) = true := by
    rw [(noted_rest s src).1, hv]
    decide
  have hc : s.sys = sysDormant ∧ s.holder.isNone ∧ s.wakeEnabled src = true := ⟨hd, by rw [hh]; rfl, he⟩
  unfold State.wakeBy
  rw [if_pos hc]
  exact (if_neg hl').trans (if_neg hv')

/-- In Dormant it starts a lane (R29, R30). -/
theorem wake_powers (src t : Nat) (s : State) (hr : RegsOk s) (hs : src < 8) (he : s.wakeEnabled src = true) (hd : s.sys = sysDormant) (hh : s.holder = none) (hl : s.dieLevel < 2)
    (hv : s.clk.vreg5 = true) :
    ∃ n, exec (.wake src t) s = .next n ∧ n.holder = some (s.arb.lastHolder.getD .a) ∧ n.laneState (s.arb.lastHolder.getD .a) = lanePowering ∧ n.clk.pll = true ∧ n.sys = sysDormant ∧
      n.flag SYS_DSTAT 1 = true ∧ n.fld SYS_DSTAT 5 2 = src ∧ n.flag HOST_ALERT 5 = true ∧ Kept s n [SYS_DSTAT, HOST_ALERT, HOST_STS, LANE_AUTH, LANE_HEALTH] ∧ n.mram = s.mram := by
  have e : (s.at t).wakeBy src = (noted (s.at t) src).wakeLane := wakeBy_eq (s := s.at t) hr hs he hd hh hl hv
  obtain ⟨r1, hf, hn, ha, hk⟩ := noted_facts (s := s.at t) hr hs
  obtain ⟨-, harb, hmram⟩ := noted_rest (s.at t) src
  have hw := wakeLane_woken r1
  rw [harb] at hw
  have hword (a : Nat) (h1 : a ∉ [LANE_AUTH, LANE_HEALTH]) : (noted (s.at t) src).wakeLane.reg a = (noted (s.at t) src).reg a := hw.kept a h1
  refine ⟨_, congrArg (finish (s.at t)) e, hw.holder, hw.powering, hw.pll, ?_, ?_, ?_, ?_, ?_, hw.mram.trans hmram⟩
  · exact (congrArg (fun x => bits x 2 0) ((hword SYS_STATE (by decide)).trans (hk SYS_STATE (by decide)))).trans hd
  · exact (congrArg (fun x => bit x 1) (hword SYS_DSTAT (by decide))).trans hf
  · exact (congrArg (fun x => bits x 5 2) (hword SYS_DSTAT (by decide))).trans hn
  · exact (congrArg (fun x => bit x 5) (hword HOST_ALERT (by decide))).trans ha
  · exact kept_trans (m := noted (s.at t) src) (kept_mono hk (by simp)) (kept_mono hw.kept (by simp))

/-- Settles O15: a request, its refusal, an abort by each kind of source, and a wake. -/
theorem dormantRequestAbortAndWake : Obligations.DormantRequestAbortAndWake :=
  ⟨dormantRequest_waits, dormantRequest_refused, summary_aborts, dormantEntryAbort_aborts, wake_powers⟩

end Sys2Proof
end
-- ==== Sys2Proof/Proofs/Shelf/Resets.lean ====
section
/-! O56: resets of the device and of blocks. -/

namespace Sys2Proof

open Machine

section Reset

set_option Elab.async false

/-! ### Device resets -/

/-- A device reset's words over a state of reset values. -/
def resetOver (r : State) (cause ph hs : Word) : State := ((r.setReg RST_CAUSE cause).setReg TDIE_PHLIFE ph).setReg TDIE_HSLIFE hs

theorem resetOver_rest (r : State) (cause ph hs : Word) : resetOver r cause ph hs = { r with regs := (resetOver r cause ph hs).regs } := rfl

theorem resetOver_words {r : State} (h : RegsOk r) (cause ph hs : Word) : RegsOk (resetOver r cause ph hs) ∧ (resetOver r cause ph hs).reg RST_CAUSE = cause ∧
    ∀ a, a ∉ [RST_CAUSE, TDIE_PHLIFE, TDIE_HSLIFE] → (resetOver r cause ph hs).reg a = r.reg a := by
  have h1 : RegsOk (r.setReg RST_CAUSE cause) := setReg_regsOk h _ _
  have h2 : RegsOk ((r.setReg RST_CAUSE cause).setReg TDIE_PHLIFE ph) := setReg_regsOk h1 _ _
  refine ⟨setReg_regsOk h2 _ _, ?_, fun a ha => ?_⟩
  · exact (reg_setReg_other h2 _ (by decide)).trans ((reg_setReg_other h1 _ (by decide)).trans (reg_setReg_same h _ _))
  · simp only [List.mem_cons, List.not_mem_nil, or_false, not_or] at ha
    obtain ⟨ha1, ha2, ha3⟩ := ha
    exact (reg_setReg_other h2 _ ha3).trans ((reg_setReg_other h1 _ ha2).trans (reg_setReg_other h _ ha1))

/-- The state right after reset with an MRAM kept. -/
@[irreducible] def freshOver (m : Memory) : State := { State.reset with mram := m }

theorem freshOver_regs (m : Memory) : (freshOver m).regs = State.reset.regs := by
  unfold freshOver
  dsimp only

theorem freshOver_regsOk (m : Memory) : RegsOk (freshOver m) := regsOk_of_reset (by unfold freshOver; dsimp only [State.reset])

theorem resetWords_eq (s : State) (code : Nat) : ∃ ph hs, s.resetWords code =
    if code ≤ 2 then resetOver (freshOver s.mram) (Word.ofNat code) ph hs
    else (resetOver (freshOver s.mram) (Word.ofNat code) ph hs).setReg LANE_HEALTH (Word.ofNat (s.fld LANE_HEALTH 7 0)) := by
  unfold freshOver
  exact ⟨_, _, rfl⟩

/-- The words a device reset leaves: the cause, the lifetime counters and, while VIN stays, the bad marks; every other one has its reset value (R452, R454). -/
structure ResetWords (s n : State) (code : Nat) : Prop where
  cause : n.reg RST_CAUSE = Word.ofNat code
  others : ∀ a, a ∉ [RST_CAUSE, TDIE_PHLIFE, TDIE_HSLIFE, LANE_HEALTH] → n.reg a = State.reset.reg a
  cold : code ≤ 2 → n.reg LANE_HEALTH = State.reset.reg LANE_HEALTH
  marks : 3 ≤ code → n.fld LANE_HEALTH 7 0 = s.fld LANE_HEALTH 7 0

/-- A field of eight bits written as a word reads back. -/
theorem bits_ofNat_byte {v : Nat} (h : v < 256) : bits (Word.ofNat v) 7 0 = v := by
  simp only [bits, Word.ofNat, BitVec.toNat_ofNat]
  omega

theorem resetWords_words (s : State) (code : Nat) : ResetWords s (s.resetWords code) code := by
  obtain ⟨ph, hs, e⟩ := resetWords_eq s code
  obtain ⟨h1, hc, ho⟩ := resetOver_words (freshOver_regsOk s.mram) (Word.ofNat code) ph hs
  have hf : ∀ a, (freshOver s.mram).reg a = State.reset.reg a := reg_of_regs (freshOver_regs s.mram)
  have hsub {a : Nat} (ha : a ∉ [RST_CAUSE, TDIE_PHLIFE, TDIE_HSLIFE, LANE_HEALTH]) : a ∉ [RST_CAUSE, TDIE_PHLIFE, TDIE_HSLIFE] ∧ a ≠ LANE_HEALTH := by
    simp only [List.mem_cons, List.not_mem_nil, or_false, not_or] at ha ⊢
    tauto
  rw [e]
  split
  · rename_i hle
    exact ⟨hc, fun a ha => (ho a (hsub ha).1).trans (hf a), fun _ => (ho _ (by decide)).trans (hf _), fun h => by omega⟩
  · rename_i hle
    refine ⟨(reg_setReg_other h1 _ (by decide)).trans hc, fun a ha => ?_, fun h => absurd h hle, fun _ => ?_⟩
    · exact (reg_setReg_other h1 _ (hsub ha).2).trans ((ho a (hsub ha).1).trans (hf a))
    · have hb : s.fld LANE_HEALTH 7 0 < 256 := Nat.mod_lt _ (by decide)
      exact (congrArg (fun x => bits x 7 0) (reg_setReg_same h1 LANE_HEALTH _)).trans (bits_ofNat_byte hb)

theorem setReg_over (r : State) (l : List (Nat × Word)) (a : Nat) (w : Word) : ∃ k, State.setReg { r with regs := l } a w = { r with regs := k } := ⟨_, rfl⟩

theorem resetWords_rest (s : State) (code : Nat) : ∃ l, s.resetWords code = { freshOver s.mram with regs := l } := by
  obtain ⟨ph, hs, e⟩ := resetWords_eq s code
  rw [e]
  split
  · exact ⟨_, resetOver_rest _ _ _ _⟩
  · rw [resetOver_rest]
    exact setReg_over _ _ _ _

/-! ### A learned-data commit that has started (R23, R271) -/

theorem lrnDurable_rest (s : State) : s.lrnDurable = { s with mram := s.lrnDurable.mram } := by
  unfold State.lrnDurable
  split <;> rfl

/-- What it leaves in the MRAM rests on the MRAM and the learned data alone. -/
theorem lrnDurable_mram {s n : State} (hm : n.mram = s.mram) (hl : n.learned = s.learned) : n.lrnDurable.mram = s.lrnDurable.mram := by
  have ht : n.lrnTarget = s.lrnTarget := by
    unfold State.lrnTarget State.lrnBytes State.readMram
    rw [hm, hl]
  unfold State.lrnDurable
  rw [hl]
  split
  · exact hm
  · dsimp only [State.writeMram]
    rw [ht, hm]

/-! ### What a device reset leaves -/

/-- A device reset under a code: its words, the lane and the image gone, what is nonvolatile or a supply's as it was (R452, R454). -/
structure DeviceReset (s n : State) (code : Nat) : Prop where
  words : ResetWords s n code
  image : n.image = none
  lane : n.lane = State.reset.lane
  timers : n.timers = []
  clocks : n.clocks = false
  held : n.clk.held = false
  vin : n.clk.vin = s.clk.vin
  otp : n.otp = s.otp
  mram : n.mram = s.lrnDurable.mram

theorem deviceReset_resets (s : State) (code : Nat) : DeviceReset s (s.deviceReset code) code := by
  have hw : ResetWords s ((s.lrnDurable).resetWords code) code := by
    have h := resetWords_words s.lrnDurable code
    have hf : s.lrnDurable.fld LANE_HEALTH 7 0 = s.fld LANE_HEALTH 7 0 := by
      rw [lrnDurable_rest]
      rfl
    exact ⟨h.cause, h.others, h.cold, fun hc => (h.marks hc).trans hf⟩
  obtain ⟨l, e⟩ := resetWords_rest s.lrnDurable code
  unfold freshOver at e
  unfold State.deviceReset
  rw [e] at hw ⊢
  exact ⟨⟨hw.cause, hw.others, hw.cold, hw.marks⟩, rfl, rfl, rfl, rfl, rfl, rfl, rfl, rfl⟩

/-- The words of a state are those of any other with the same table. -/
theorem ResetWords.over {s n m : State} {code : Nat} (h : ResetWords s n code) (e : m.regs = n.regs) : ResetWords s m code := by
  have hr := reg_of_regs e
  refine ⟨(hr _).trans h.cause, fun a ha => (hr a).trans (h.others a ha), fun hc => (hr _).trans (h.cold hc), fun hc => ?_⟩
  exact (congrArg (fun x => bits x 7 0) (hr LANE_HEALTH)).trans (h.marks hc)

theorem ResetWords.reg_cold {s n : State} {code : Nat} (h : ResetWords s n code) (hc : code ≤ 2) {a : Nat} (ha : a ∉ [RST_CAUSE, TDIE_PHLIFE, TDIE_HSLIFE]) : n.reg a = State.reset.reg a := by
  by_cases he : a = LANE_HEALTH
  · rw [he]
    exact h.cold hc
  · refine h.others a ?_
    simp only [List.mem_cons, List.not_mem_nil, or_false, not_or] at ha ⊢
    tauto

theorem reset_holder : State.reset.holder = none := by decide +kernel

/-- A rise of VIN (R452). -/
theorem powerOn_resets (s : State) (h : s.clk.vin = false) :
    ∃ n, exec .powerOn s = .next n ∧ n.clk.vin = true ∧ n.reg RST_CAUSE = 1 ∧ n.image = none ∧ n.lane = State.reset.lane ∧ n.timers = [] ∧ n.clocks = false ∧ n.holder = none ∧
      (∀ a, a ∉ [RST_CAUSE, TDIE_PHLIFE, TDIE_HSLIFE] → n.reg a = State.reset.reg a) ∧ n.otp = s.otp ∧ n.mram = s.lrnDurable.mram := by
  have d : DeviceReset { s with tap := {} } (State.deviceReset { s with tap := {} } 1) 1 := deviceReset_resets _ 1
  have e : exec .powerOn s = finish s { State.deviceReset { s with tap := {} } 1 with clk := { (State.deviceReset { s with tap := {} } 1).clk with vin := true } } :=
    congrArg (finish s) (if_neg (by rw [h]; decide))
  generalize State.deviceReset { s with tap := {} } 1 = r at d e
  refine ⟨_, e, rfl, (d.words.over (by rfl)).cause, d.image, d.lane, d.timers, d.clocks, ?_, fun a ha => (d.words.over (by rfl)).reg_cold (by decide) ha, d.otp, d.mram.trans (lrnDurable_mram rfl rfl)⟩
  exact (holder_of_word ((d.words.over (by rfl)).reg_cold (by decide) (a := LANE_AUTH) (by decide))).trans reset_holder

/-- A brown-out of VIN (R452). -/
theorem vinBrownOut_resets (t : Nat) (s : State) (h : s.clk.vin = true) :
    ∃ n, exec (.vinBrownOut t) s = .next n ∧ n.clk.vin = false ∧ n.reg RST_CAUSE = 2 ∧ n.image = none ∧ n.lane = State.reset.lane ∧ n.timers = [] ∧ n.clocks = false ∧
      (∀ a, a ∉ [RST_CAUSE, TDIE_PHLIFE, TDIE_HSLIFE] → n.reg a = State.reset.reg a) ∧ n.otp = s.otp ∧ n.mram = s.lrnDurable.mram := by
  have d : DeviceReset (s.at t) ((s.at t).deviceReset 2) 2 := deviceReset_resets _ 2
  have e : exec (.vinBrownOut t) s = finish (s.at t) { (s.at t).deviceReset 2 with clk := { ((s.at t).deviceReset 2).clk with vin := false } } := congrArg (finish (s.at t)) (if_pos h)
  generalize (s.at t).deviceReset 2 = r at d e
  exact ⟨_, e, rfl, (d.words.over (by rfl)).cause, d.image, d.lane, d.timers, d.clocks, fun a ha => (d.words.over (by rfl)).reg_cold (by decide) ha, d.otp, d.mram.trans (lrnDurable_mram rfl rfl)⟩

/-- A low of RST_N as the model carries it out: a reset for a low of 20 us or more, and for a shorter one of 5 us or more that the chip takes for one (R453). -/
theorem rstNLow_eq (ticks t : Nat) (s : State) (hv : s.clk.vin = true) (hi : s.clk.vio = true) (h5 : us 5 ≤ ticks) : let m := if us 20 ≤ ticks then s.at t else { s.at t with freeCtr := s.freeCtr + 1 }
    exec (.rstNLow ticks t) s = finish (s.at t) (if us 20 ≤ ticks ∨ Config.freeBit s.freeCtr = true then { m.deviceReset 3 with clk := { (m.deviceReset 3).clk with held := true } } else m) := by
  have hc : ¬ (!(s.at t).clk.vin || !(s.at t).clk.vio || decide (ticks < us 5)) = true := by
    have hn : ¬ ticks < us 5 := Nat.not_lt.mpr h5
    rw [show (s.at t).clk = s.clk from rfl, hv, hi]
    simp [hn]
  exact congrArg (finish (s.at t)) (if_neg hc)

theorem rstNLow_resets (ticks t : Nat) (s : State) (hv : s.clk.vin = true) (hi : s.clk.vio = true) (h20 : us 20 ≤ ticks) :
    ∃ n, exec (.rstNLow ticks t) s = .next n ∧ n.clk.held = true ∧ n.clk.vin = true ∧ n.reg RST_CAUSE = 3 ∧ n.fld LANE_HEALTH 7 0 = s.fld LANE_HEALTH 7 0 ∧ n.image = none ∧ n.lane = State.reset.lane ∧
      (∀ a, a ∉ [RST_CAUSE, TDIE_PHLIFE, TDIE_HSLIFE, LANE_HEALTH] → n.reg a = State.reset.reg a) ∧ n.otp = s.otp ∧ n.mram = s.lrnDurable.mram := by
  have h5 : us 5 ≤ ticks := by
    simp only [us] at h20 ⊢
    omega
  have d : DeviceReset (s.at t) ((s.at t).deviceReset 3) 3 := deviceReset_resets _ 3
  have e := rstNLow_eq ticks t s hv hi h5
  dsimp only at e
  rw [if_pos h20, if_pos (.inl h20)] at e
  generalize (s.at t).deviceReset 3 = r at d e
  exact ⟨_, e, rfl, d.vin.trans hv, (d.words.over (by rfl)).cause, (d.words.over (by rfl)).marks (by decide), d.image, d.lane, (d.words.over (by rfl)).others, d.otp, d.mram.trans (lrnDurable_mram rfl rfl)⟩

theorem rstNLow_short (ticks t : Nat) (s : State) (h : ticks < us 5) : ∃ n, exec (.rstNLow ticks t) s = .next n ∧ n.regs = s.regs ∧ n.clk = s.clk ∧ n.lane = s.lane ∧ n.mram = s.mram := by
  have hc : (!(s.at t).clk.vin || !(s.at t).clk.vio || decide (ticks < us 5)) = true := by simp [h]
  exact ⟨_, congrArg (finish (s.at t)) (if_pos hc), rfl, rfl, rfl, rfl⟩

theorem rstNLow_between (ticks t : Nat) (s : State) (hv : s.clk.vin = true) (hi : s.clk.vio = true) (h5 : us 5 ≤ ticks) (h20 : ticks < us 20) :
    ∃ n, exec (.rstNLow ticks t) s = .next n ∧ ((n.regs = s.regs ∧ n.clk = s.clk ∧ n.lane = s.lane ∧ n.mram = s.mram) ∨
      (n.reg RST_CAUSE = 3 ∧ n.mram = s.lrnDurable.mram ∧ n.clk.held = true ∧ n.image = none ∧ n.lane = State.reset.lane)) := by
  have d : DeviceReset { s.at t with freeCtr := s.freeCtr + 1 } (State.deviceReset { s.at t with freeCtr := s.freeCtr + 1 } 3) 3 := deviceReset_resets _ 3
  have e := rstNLow_eq ticks t s hv hi h5
  dsimp only at e
  rw [if_neg (Nat.not_le.mpr h20)] at e
  by_cases hb : us 20 ≤ ticks ∨ Config.freeBit s.freeCtr = true
  · rw [if_pos hb] at e
    generalize State.deviceReset { s.at t with freeCtr := s.freeCtr + 1 } 3 = r at d e
    exact ⟨_, e, .inr ⟨(d.words.over (by rfl)).cause, d.mram.trans (lrnDurable_mram rfl rfl), rfl, d.image, d.lane⟩⟩
  · rw [if_neg hb] at e
    exact ⟨_, e, .inl ⟨rfl, rfl, rfl, rfl⟩⟩

/-- While RST_N is held no fuse read, supply or PLL starts (R453). -/
theorem held_startsNothing (straps t : Nat) (s : State) (h : s.clk.held = true) :
    (∃ n, exec (.fuseMapRead t) s = .next n ∧ n.regs = s.regs ∧ n.clk = s.clk) ∧ (∃ n, exec (.vreg5InRegulation straps t) s = .next n ∧ n.regs = s.regs ∧ n.clk = s.clk) ∧
    (∃ n, exec (.pllEnable t) s = .next n ∧ n.regs = s.regs ∧ n.clk = s.clk) := by
  have h1 : ¬ ((s.at t).clk.vin && !(s.at t).clk.held && !(s.at t).clk.fuses) = true := by simp [h]
  have h2 : (!(s.at t).clk.vin || (s.at t).clk.held || (s.at t).clk.vreg5) = true := by simp [h]
  have h3 : ¬ ((s.at t).clk.fuses && (s.at t).clk.vreg5 && !(s.at t).clk.held && !(s.at t).clk.pll && !(s.at t).clocks) = true := by simp [h]
  exact ⟨⟨_, congrArg (finish (s.at t)) (if_neg h1), rfl, rfl⟩, ⟨_, congrArg (finish (s.at t)) (if_pos h2), rfl, rfl⟩, ⟨_, congrArg (finish (s.at t)) (if_neg h3), rfl, rfl⟩⟩

/-! ### RST.SW -/

theorem rstSw_accepted {p : Port} {m : State} (h : ServesAll p m) (w : Word) :
    m.hostOp p (.regWrite RST_SW w) = if resetKey w then (accepted m p RST_SW w).deviceReset 5 else accepted m p RST_SW w := by
  rw [hostOp_global h w (by decide) (by decide) rfl (isolatedWord_outside _ (.inl (by decide)) (.inl (by decide))), if_neg (by decide)]
  rfl

theorem accepted_fields (m : State) (p : Port) (a : Nat) (w : Word) : (accepted m p a w).regs = m.regs ∧ (accepted m p a w).lane = m.lane ∧ (accepted m p a w).mram = m.mram ∧
    (accepted m p a w).learned = m.learned ∧ (accepted m p a w).clk = m.clk ∧ (accepted m p a w).otp = m.otp ∧ ((accepted m p a w).iface p).acked = true := by
  rw [accepted_eq]
  cases p <;> exact ⟨rfl, rfl, rfl, rfl, rfl, rfl, rfl⟩

theorem rstSw_resets (p : Port) (w : Word) (t : Nat) (s : State) (h : ServesAll p (s.at t)) (hk : bits w 15 0 = 0xA55A) :
    ∃ n, exec (.rstSw p w t) s = .next n ∧ n.clk.vin = s.clk.vin ∧ n.clk.held = false ∧ n.reg RST_CAUSE = 5 ∧ n.fld LANE_HEALTH 7 0 = s.fld LANE_HEALTH 7 0 ∧ n.image = none ∧ n.lane = State.reset.lane ∧
      (∀ a, a ∉ [RST_CAUSE, TDIE_PHLIFE, TDIE_HSLIFE, LANE_HEALTH] → n.reg a = State.reset.reg a) ∧ n.otp = s.otp ∧ n.mram = s.lrnDurable.mram := by
  have hk' : resetKey w = true := by simp [resetKey, hk]
  have d : DeviceReset (accepted (s.at t) p RST_SW w) ((accepted (s.at t) p RST_SW w).deviceReset 5) 5 := deviceReset_resets _ 5
  obtain ⟨hr, -, hm, hl, hc, ho, -⟩ := accepted_fields (s.at t) p RST_SW w
  have hf : (accepted (s.at t) p RST_SW w).fld LANE_HEALTH 7 0 = s.fld LANE_HEALTH 7 0 := congrArg (fun x => bits x 7 0) (reg_of_regs hr LANE_HEALTH)
  have e : exec (.rstSw p w t) s = finish (s.at t) ((accepted (s.at t) p RST_SW w).deviceReset 5) := congrArg (finish (s.at t)) ((rstSw_accepted h w).trans (if_pos hk'))
  generalize (accepted (s.at t) p RST_SW w).deviceReset 5 = r at d e
  refine ⟨_, e, d.vin.trans (congrArg Clk.vin hc), d.held, (d.words.over (by rfl)).cause, ((d.words.over (by rfl)).marks (by decide)).trans hf, d.image, d.lane, (d.words.over (by rfl)).others,
    d.otp.trans ho, d.mram.trans (lrnDurable_mram hm hl)⟩

theorem rstSw_otherKey (p : Port) (w : Word) (t : Nat) (s : State) (h : ServesAll p (s.at t)) (hk : bits w 15 0 ≠ 0xA55A) :
    ∃ n, exec (.rstSw p w t) s = .next n ∧ n.regs = s.regs ∧ n.lane = s.lane ∧ (n.iface p).acked = true ∧ n.mram = s.mram := by
  have hk' : ¬ resetKey w = true := by simp [resetKey, hk]
  obtain ⟨hr, hl, hm, -, -, -, ha⟩ := accepted_fields (s.at t) p RST_SW w
  refine ⟨_, congrArg (finish (s.at t)) ((rstSw_accepted h w).trans (if_neg hk')), hr, hl, ?_, hm⟩
  cases p <;> exact ha

/-! ### RST.BLK -/

theorem port_setPort_same (s : State) (p : Nat) (f : DsPort → DsPort) : (s.setPort p f).port p = f (s.port p) := by
  simp only [State.port, State.setPort, find_putKey_same, Option.getD_some]

theorem port_setPort_other (s : State) {p q : Nat} (f : DsPort → DsPort) (h : q ≠ p) : (s.setPort p f).port q = s.port q := by
  simp only [State.port, State.setPort, find_putKey_other _ _ h]

/-- What a reset of blocks leaves alone: the shown resets of other blocks, the ports of others, and the counter unless it is one of them. -/
structure BlocksStep (s n : State) (l : List Nat) : Prop where
  regsOk : RegsOk s → RegsOk n
  mram : n.mram = s.mram
  shown : RegsOk s → ∀ k, k ∉ l → n.flag RST_BLKSTS k = s.flag RST_BLKSTS k
  ports : ∀ q, q + 2 ∉ l ∨ 4 ≤ q → n.port q = s.port q
  counter : RegsOk s → 8 ∉ l → n.flag FCNT_STS 0 = s.flag FCNT_STS 0

/-- What a reset leaves of its own block: the reset shows, unless a transaction on the wire of a downstream port defers it (R457). -/
structure BlockDone (s n : State) (b : Nat) : Prop where
  shows : b < 2 ∨ 5 < b ∨ (s.port (b - 2)).cur = none → n.flag RST_BLKSTS b = true
  waits : 2 ≤ b → b ≤ 5 → (s.port (b - 2)).cur.isSome = true → s.flag RST_BLKSTS b = false → n.flag RST_BLKSTS b = false ∧ (n.port (b - 2)).resetDue = true
  stops : b = 8 → s.flag RST_BLKSTS 8 = false → n.flag FCNT_STS 0 = false

theorem blocksStep_refl (s : State) (l : List Nat) : BlocksStep s s l := ⟨id, rfl, fun _ _ _ => rfl, fun _ _ => rfl, fun _ _ => rfl⟩

/-- A change of other words and fields is none of these. -/
theorem blocksStep_same {s m n : State} {l : List Nat} (h : BlocksStep s m l) (hr : n.regs = m.regs) (hm : n.mram = m.mram) (hp : n.dsPorts = m.dsPorts) : BlocksStep s n l := by
  have hf (a k : Nat) : n.flag a k = m.flag a k := congrArg (fun x => bit x k) (reg_of_regs hr a)
  refine ⟨fun h0 => (regsOk_of_regs hr).mpr (h.regsOk h0), hm.trans h.mram, fun h0 k hk => (hf _ k).trans (h.shown h0 k hk), fun q hq => ?_, fun h0 h8 => (hf _ 0).trans (h.counter h0 h8)⟩
  refine Eq.trans ?_ (h.ports q hq)
  simp only [State.port, hp]

theorem blocksStep_setFlag {s : State} {b : Nat} (hb : b < 9) : BlocksStep s (s.setFlag RST_BLKSTS b true) [b] :=
  ⟨fun h => setReg_regsOk h _ _, rfl, fun h k hk => flag_setFlag_apart h RST_BLKSTS true (by omega) (by simpa using hk), fun _ _ => rfl,
    fun h _ => flag_setReg_other h _ 0 (by decide)⟩

/-- A write of a word that shows no reset, beside the counter's status. -/
theorem blocksStep_setReg {s m : State} {l : List Nat} (h : BlocksStep s m l) {a : Nat} (w : Word) (ha : a ≠ RST_BLKSTS) (hc : a ≠ FCNT_STS ∨ 8 ∈ l) : BlocksStep s (m.setReg a w) l := by
  refine ⟨fun h0 => setReg_regsOk (h.regsOk h0) _ _, h.mram, fun h0 k hk => (flag_setReg_other (h.regsOk h0) w k ha.symm).trans (h.shown h0 k hk), h.ports, fun h0 h8 => ?_⟩
  rcases hc with hc | hc
  · exact (flag_setReg_other (h.regsOk h0) w 0 hc.symm).trans (h.counter h0 h8)
  · exact absurd hc h8

/-- Training starts: a state word of the cascade, the port and its timer. -/
theorem train_eq (m : State) (down : Bool) : ∃ w, (m.train down).regs = (m.setReg CASC_STATE w).regs ∧ (m.train down).mram = m.mram ∧ (m.train down).dsPorts = m.dsPorts := by
  cases down <;> exact ⟨_, rfl, rfl, rfl⟩

/-- A change of other words after the flag of a block's reset. -/
theorem blockDone_of {s n : State} {b : Nat} (hb : b < 2 ∨ 5 < b) (hf : n.flag RST_BLKSTS b = true) (hc : b = 8 → n.flag FCNT_STS 0 = false) : BlockDone s n b :=
  ⟨fun _ => hf, fun h1 h2 => by omega, fun h8 _ => hc h8⟩

theorem resetBlock_step {s : State} (h : RegsOk s) {b : Nat} (hb : b < 9) : BlocksStep s (s.resetBlock b) [b] ∧ BlockDone s (s.resetBlock b) b := by
  have h1 : BlocksStep s (s.setFlag RST_BLKSTS b true) [b] := blocksStep_setFlag hb
  have r1 : RegsOk (s.setFlag RST_BLKSTS b true) := setReg_regsOk h _ _
  have f1 : (s.setFlag RST_BLKSTS b true).flag RST_BLKSTS b = true := flag_setFlag_same h RST_BLKSTS true (by omega)
  have other {n : State} {a : Nat} (w : Word) (ha : RST_BLKSTS ≠ a) (hr : n.regs = ((s.setFlag RST_BLKSTS b true).setReg a w).regs) : n.flag RST_BLKSTS b = true :=
    (congrArg (fun x => bit x b) (reg_of_regs hr RST_BLKSTS)).trans ((flag_setReg_other r1 w b ha).trans f1)
  have trains (hx : b < 2 ∨ 5 < b) (h8 : b ≠ 8) (down : Bool) :
      BlocksStep s (if (s.setFlag RST_BLKSTS b true).linkEnabled down then (s.setFlag RST_BLKSTS b true).train down else s.setFlag RST_BLKSTS b true) [b] ∧
        BlockDone s (if (s.setFlag RST_BLKSTS b true).linkEnabled down then (s.setFlag RST_BLKSTS b true).train down else s.setFlag RST_BLKSTS b true) b := by
    obtain ⟨w, hr, hm, hp⟩ := train_eq (s.setFlag RST_BLKSTS b true) down
    split
    · exact ⟨blocksStep_same (blocksStep_setReg h1 w (by decide) (.inl (by decide))) hr hm hp, blockDone_of hx (other w (by decide) hr) (fun e => absurd e h8)⟩
    · exact ⟨h1, blockDone_of hx f1 (fun e => absurd e h8)⟩
  have iface (hx : b < 2 ∨ 5 < b) (h8 : b ≠ 8) (p : Port) (f : Iface → Iface) :
      BlocksStep s ((s.setFlag RST_BLKSTS b true).setIface p f) [b] ∧ BlockDone s ((s.setFlag RST_BLKSTS b true).setIface p f) b :=
    ⟨blocksStep_same h1 (State.setIface_regs _ p f) (State.setIface_mram _ p f) (State.setIface_dsPorts _ p f),
      blockDone_of hx ((congrArg (fun x => bit x b) (reg_of_regs (State.setIface_regs _ p f) RST_BLKSTS)).trans f1) (fun e => absurd e h8)⟩
  unfold State.resetBlock
  split
  · rename_i hf
    refine ⟨blocksStep_refl s _, fun _ => hf, fun _ _ _ h0 => ?_, fun e h0 => ?_⟩
    · rw [hf] at h0
      exact absurd h0 (by decide)
    · subst e
      rw [hf] at h0
      exact absurd h0 (by decide)
  · rename_i hf
    split
    · rename_i hp
      obtain ⟨hp2, hp5⟩ := hp
      have hq : 2 + (b - 2) = b := by omega
      have ports (m : State) (f : DsPort → DsPort) (q : Nat) (hq' : q + 2 ∉ [b] ∨ 4 ≤ q) : (m.setPort (b - 2) f).port q = m.port q := by
        refine port_setPort_other m f (fun e => ?_)
        rw [List.mem_singleton] at hq'
        omega
      split
      · -- a transaction is on the wire: the reset waits for its end
        rename_i hc
        refine ⟨⟨id, rfl, fun _ _ _ => rfl, fun q hq' => ports s _ q hq', fun _ _ => rfl⟩, fun hx => ?_, fun _ _ _ h0 => ⟨h0, ?_⟩, fun e => by omega⟩
        · rcases hx with hx | hx | hx
          · omega
          · omega
          · rw [hx] at hc
            exact absurd hc (by decide)
        · rw [port_setPort_same]
      · rename_i hc
        unfold State.portReset
        rw [hq]
        refine ⟨⟨h1.regsOk, h1.mram, h1.shown, fun q hq' => ports _ _ q hq', h1.counter⟩, fun _ => f1, fun _ _ hc' => absurd hc' hc, fun e => by omega⟩
    · rename_i hp
      have hx : b < 2 ∨ 5 < b := by omega
      obtain rfl | rfl | rfl | rfl | rfl : b = 0 ∨ b = 1 ∨ b = 6 ∨ b = 7 ∨ b = 8 := by omega
      · exact iface hx (by decide) .twoWire _
      · exact iface hx (by decide) .spi _
      · exact trains hx (by decide) false
      · exact trains hx (by decide) true
      · refine ⟨blocksStep_same (blocksStep_setReg h1 (putBit ((s.setFlag RST_BLKSTS 8 true).reg FCNT_STS) 0 false) (a := FCNT_STS) (by decide) (.inr (by decide))) rfl rfl rfl, blockDone_of hx (other _ (by decide) rfl) (fun _ => ?_)⟩
        exact flag_setFlag_same r1 FCNT_STS false (by decide)

theorem blocksStep_cons {s m n : State} {b : Nat} {l : List Nat} (h1 : BlocksStep s m [b]) (h2 : BlocksStep m n l) : BlocksStep s n (b :: l) := by
  refine ⟨fun h => h2.regsOk (h1.regsOk h), h2.mram.trans h1.mram, fun h k hk => ?_, fun q hq => ?_, fun h h8 => ?_⟩
  · rw [List.mem_cons, not_or] at hk
    exact (h2.shown (h1.regsOk h) k hk.2).trans (h1.shown h k (by simpa using hk.1))
  · refine (h2.ports q (hq.imp_left fun hn hm => hn (List.mem_cons_of_mem _ hm))).trans (h1.ports q (hq.imp_left fun hn hm => hn ?_))
    rw [List.mem_singleton.mp hm]
    exact List.mem_cons_self ..
  · rw [List.mem_cons, not_or] at h8
    exact (h2.counter (h1.regsOk h) h8.2).trans (h1.counter h (by simpa using h8.1))

/-- A block that is done stays so under resets of others. -/
theorem BlockDone.after {s m n : State} {b : Nat} {l : List Nat} (hs : RegsOk m) (h : BlockDone s m b) (hn : BlocksStep m n l) (hl : b ∉ l) : BlockDone s n b := by
  have hf := hn.shown hs b hl
  refine ⟨fun hx => hf.trans (h.shows hx), fun h2 h5 hc h0 => ?_, fun h8 h0 => ?_⟩
  · obtain ⟨w1, w2⟩ := h.waits h2 h5 hc h0
    have hq : b - 2 + 2 ∉ l := by
      rw [Nat.sub_add_cancel h2]
      exact hl
    exact ⟨hf.trans w1, by rw [hn.ports _ (.inl hq), w2]⟩
  · exact (hn.counter hs (h8 ▸ hl)).trans (h.stops h8 h0)

/-- Before a block's turn resets of others have changed nothing that its own one looks at. -/
theorem BlockDone.before {s m n : State} {b : Nat} {l : List Nat} (hs : RegsOk s) (h : BlockDone m n b) (hm : BlocksStep s m l) (hl : b ∉ l) : BlockDone s n b := by
  have hf := hm.shown hs b hl
  have hp (h2 : 2 ≤ b) : m.port (b - 2) = s.port (b - 2) := by
    refine hm.ports _ (.inl ?_)
    rw [Nat.sub_add_cancel h2]
    exact hl
  refine ⟨fun hx => h.shows ?_, fun h2 h5 hc h0 => h.waits h2 h5 (by rw [hp h2]; exact hc) (hf.trans h0), fun h8 h0 => h.stops h8 ?_⟩
  · by_cases h2 : 2 ≤ b
    · rw [hp h2]
      exact hx
    · exact .inl (by omega)
  · rw [h8] at hf
    exact hf.trans h0

theorem resetBlocks_step (l : List Nat) : ∀ {s : State}, RegsOk s → l.Nodup → (∀ b ∈ l, b < 9) →
    BlocksStep s (s.forEach l (fun b s => s.resetBlock b)) l ∧ ∀ b ∈ l, BlockDone s (s.forEach l (fun b s => s.resetBlock b)) b := by
  induction l with
  | nil => exact fun _ _ _ => ⟨blocksStep_refl _ _, fun _ hb => absurd hb (List.not_mem_nil)⟩
  | cons x l ih =>
    intro s h hn hl
    obtain ⟨hx, hn'⟩ := List.nodup_cons.mp hn
    obtain ⟨h1, hd⟩ := resetBlock_step h (hl x (List.mem_cons_self ..))
    obtain ⟨h2, hr⟩ := ih (s := s.resetBlock x) (h1.regsOk h) hn' (fun b hb => hl b (List.mem_cons_of_mem _ hb))
    refine ⟨blocksStep_cons h1 h2, fun b hb => ?_⟩
    rcases List.mem_cons.mp hb with rfl | hb
    · exact hd.after (h1.regsOk h) h2 hx
    · exact (hr b hb).before h h1 (fun hm => hx ((List.mem_singleton.mp hm) ▸ hb))

theorem rstBlk_accepted {p : Port} {m : State} (h : ServesAll p m) (w : Word) : m.hostOp p (.regWrite RST_BLK w) = (accepted m p RST_BLK w).writeBlk w := by
  rw [hostOp_global h w (by decide) (by decide) rfl (isolatedWord_outside _ (.inl (by decide)) (.inl (by decide))), if_neg (by decide)]
  rfl

/-- RST.BLK resets every block it names (R457). -/
theorem rstBlk_resets (p : Port) (w : Word) (b t : Nat) (s : State) (hr : RegsOk s) (h : ServesAll p (s.at t)) (hb : b < 9) (hw : bit w b = true) :
    ∃ n, exec (.rstBlk p w t) s = .next n ∧ (b < 2 ∨ 5 < b ∨ (s.port (b - 2)).cur = none → n.flag RST_BLKSTS b = true) ∧
      (2 ≤ b → b ≤ 5 → (s.port (b - 2)).cur.isSome = true → s.flag RST_BLKSTS b = false → n.flag RST_BLKSTS b = false ∧ (n.port (b - 2)).resetDue = true) ∧
      (∀ k, k < 9 → bit w k = false → n.flag RST_BLKSTS k = s.flag RST_BLKSTS k) ∧ (bit w 8 = true → s.flag RST_BLKSTS 8 = false → n.flag FCNT_STS 0 = false) ∧ n.mram = s.mram := by
  obtain ⟨er, -, em, -⟩ := accepted_fields (s.at t) p RST_BLK w
  have ep (q : Nat) : (accepted (s.at t) p RST_BLK w).port q = s.port q := by
    rw [accepted_eq]
    cases p <;> rfl
  have ef (a k : Nat) : (accepted (s.at t) p RST_BLK w).flag a k = s.flag a k := congrArg (fun x => bit x k) (reg_of_regs er a)
  have hm {k : Nat} (hk : k < 9) : k ∈ (List.range 9).filter (fun b => bit w b) ↔ bit w k = true := by simp [hk]
  obtain ⟨hs, hd⟩ := resetBlocks_step ((List.range 9).filter (fun b => bit w b)) ((regsOk_of_regs er).mpr hr) (List.nodup_range.filter _) (fun k hk => by simpa using (List.mem_filter.mp hk).1)
  have ra : RegsOk (accepted (s.at t) p RST_BLK w) := (regsOk_of_regs er).mpr hr
  have d := hd b ((hm hb).mpr hw)
  refine ⟨_, congrArg (finish (s.at t)) (rstBlk_accepted h w), fun hx => d.shows (by rw [ep]; exact hx), fun h2 h5 hc h0 => d.waits h2 h5 (by rw [ep]; exact hc) ((ef _ _).trans h0),
    fun k hk h0 => (hs.shown ra k (fun hx => ?_)).trans (ef _ k), fun h8 h0 => (hd 8 ((hm (by decide)).mpr h8)).stops rfl ((ef _ _).trans h0), hs.mram.trans em⟩
  rw [(hm hk).mp hx] at h0
  exact absurd h0 (by decide)

/-! ### The end of a block's reset -/

/-- Nothing has changed but the downstream ports, their tables and their targets. -/
def OnlyBus (s n : State) : Prop := n = { s with dsTable := n.dsTable, dsPorts := n.dsPorts, dsTargets := n.dsTargets }

theorem OnlyBus.refl (s : State) : OnlyBus s s := rfl

theorem OnlyBus.trans {s m n : State} (h : OnlyBus s m) (h' : OnlyBus m n) : OnlyBus s n := by
  unfold OnlyBus at h h' ⊢
  rw [h', h]

theorem OnlyBus.ite {s a b : State} {c : Prop} {d : Decidable c} (ha : OnlyBus s a) (hb : OnlyBus s b) : OnlyBus s (if c then a else b) := by
  split <;> assumption

theorem setPort_bus {s m : State} (h : OnlyBus s m) (p : Nat) (f : DsPort → DsPort) : OnlyBus s (m.setPort p f) := h.trans rfl

theorem takeTx_bus {s m : State} (h : OnlyBus s m) (p : Nat) (x : DsTx) (d : Option DsCmd) : OnlyBus s (m.takeTx p x d) := by
  unfold State.takeTx
  refine setPort_bus ?_ p _
  split
  · unfold State.onlyIf
    exact .ite (h.trans rfl) (h.trans rfl)
  · exact h

/-- A port that starts a transaction touches the buses alone. -/
theorem pump_bus (s : State) (p : Nat) : OnlyBus s (s.pump p) := by
  unfold State.pump
  extract_lets e s0
  have hp : OnlyBus s (s.startPolls p) := by
    unfold State.startPolls
    exact setPort_bus (.refl s) p _
  have h0 : OnlyBus s s0 := .ite hp (.refl s)
  refine .ite (.refl s) ?_
  split
  · exact h0
  · split
    · exact .ite (setPort_bus h0 p _) (setPort_bus (takeTx_bus h0 p _ _) p _)
    · exact takeTx_bus h0 p _ _

/-- A block's reset ends by its own flag, and a port then starts what waited (R457). -/
theorem blockResetEnd_ends (b t : Nat) (s : State) (hr : RegsOk s) (hb : b < 9) (hf : s.flag RST_BLKSTS b = true) :
    ∃ n, exec (.blockResetEnd b t) s = .next n ∧ n.flag RST_BLKSTS b = false ∧ (∀ k, k < 18 → k ≠ b → n.flag RST_BLKSTS k = s.flag RST_BLKSTS k) ∧ Kept s n [RST_BLKSTS] ∧ n.mram = s.mram := by
  have hc : (b < 9 && (s.at t).flag RST_BLKSTS b) = true := by
    rw [flag_at, hf]
    simp [hb]
  have hn : OnlyBus ((s.at t).setFlag RST_BLKSTS b false) (if 2 ≤ b ∧ b ≤ 5 then ((s.at t).setFlag RST_BLKSTS b false).pump (b - 2) else (s.at t).setFlag RST_BLKSTS b false) :=
    .ite (pump_bus _ _) (.refl _)
  have e : exec (.blockResetEnd b t) s = finish (s.at t) (if 2 ≤ b ∧ b ≤ 5 then ((s.at t).setFlag RST_BLKSTS b false).pump (b - 2) else (s.at t).setFlag RST_BLKSTS b false) :=
    congrArg (finish (s.at t)) (if_pos hc)
  unfold OnlyBus at hn
  rw [hn] at e
  exact ⟨_, e, flag_setFlag_same hr RST_BLKSTS false (by omega), fun k _ hk => flag_setFlag_apart hr RST_BLKSTS false (by omega) hk, kept_setReg hr _ (by simp), rfl⟩

/-- Settles O56: the four device resets leave the words of reset but those named, and each block's reset its own flag. -/
theorem deviceAndBlockResets : Obligations.DeviceAndBlockResets :=
  ⟨powerOn_resets, vinBrownOut_resets, rstNLow_resets, rstNLow_short, rstNLow_between, held_startsNothing, fun _ _ => ⟨_, rfl, rfl, rfl, rfl⟩, rstSw_resets, rstSw_otherKey, rstBlk_resets,
    blockResetEnd_ends⟩

end Reset

end Sys2Proof
end
-- ==== Sys2Proof/Proofs/Shelf/Staging.lean ====
section
/-! O13: a staging session. -/

namespace Sys2Proof

open Machine

/-! ### Staging codes at a target -/

/-- What an accepted frame leaves at its target before its effect (R408). -/
def doneIface (p : Port) (i : Iface) : Iface := match p with
  | .twoWire => { i with resp := [], acked := true }
  | .spi => { i with resp := [i.result], result := 0x5A, acked := true }

theorem done_eq (m : State) (p : Port) : m.done p = m.setIface p (doneIface p) := by cases p <;> rfl

/-- A staging code with parameters in range and a correct check acts at once, with no frame waiting. -/
theorem hostOp_stageWrite {p : Port} {m : State} (h : ServesAll p m) {code : Nat} {data : List Byte} {pec : Option Byte} (hl : stageLegal code data = true)
    (hc : m.checkBad p ([BitVec.ofNat 8 code, BitVec.ofNat 8 data.length] ++ data) pec = none) : m.hostOp p (.stageWrite code data pec) = (m.setIface p (doneIface p)).stageRun p code data := by
  obtain ⟨hw, he, hv, hj, hf⟩ := h
  have hwake : m.hostWake p = m := by simp [State.hostWake, he]
  have hmust : m.mustWait p (.stageWrite code data pec) = false := by simp [State.mustWait, HostOp.entries, hf]
  unfold State.hostOp State.hostRun
  rw [hwake]
  simp only [hw, hv, Service.serves, HostOp.legal, hl, hmust, Option.isSome_none, Bool.false_eq_true, Bool.not_true, if_false, reduceCtorEq, false_and]
  unfold State.serve State.framed
  dsimp only
  rw [hc, done_eq]

theorem hostOp_stageRead {p : Port} {m : State} (h : ServesAll p m) : m.hostOp p .stageRead = m.reply p [0xF3, 12] (12 :: m.statusBytes) := by
  obtain ⟨hw, he, hv, hj, hf⟩ := h
  have hwake : m.hostWake p = m := by simp [State.hostWake, he]
  have hmust : m.mustWait p .stageRead = false := by simp [State.mustWait, HostOp.entries]
  unfold State.hostOp State.hostRun
  rw [hwake]
  simp only [hw, hv, Service.serves, HostOp.legal, hmust, Option.isSome_none, Bool.false_eq_true, Bool.not_true, if_false, reduceCtorEq, false_and]
  rfl

/-- A target's own state beside: nothing that staging looks at or changes. -/
structure Beside (s n : State) : Prop where
  regs : n.regs = s.regs
  upd : n.upd = s.upd
  mram : n.mram = s.mram
  commits : n.commits = s.commits
  vresOk : n.vresOk = s.vresOk
  laneRuns : n.laneRuns = s.laneRuns

theorem setIface_beside (m : State) (p : Port) (f : Iface → Iface) : Beside m (m.setIface p f) := by
  cases p <;> exact ⟨rfl, rfl, rfl, rfl, rfl, rfl⟩

theorem at_beside (s : State) (t : Nat) : Beside s (s.at t) := ⟨rfl, rfl, rfl, rfl, rfl, rfl⟩

theorem Beside.trans {s m n : State} (h : Beside s m) (h' : Beside m n) : Beside s n :=
  ⟨h'.regs.trans h.regs, h'.upd.trans h.upd, h'.mram.trans h.mram, h'.commits.trans h.commits, h'.vresOk.trans h.vresOk, h'.laneRuns.trans h.laneRuns⟩

section Beside

variable {s n : State} (h : Beside s n)

include h

theorem Beside.flag (a k : Nat) : n.flag a k = s.flag a k := congrArg (fun x => bit x k) (reg_of_regs h.regs a)

theorem Beside.fld (a hi lo : Nat) : n.fld a hi lo = s.fld a hi lo := congrArg (fun x => bits x hi lo) (reg_of_regs h.regs a)

theorem Beside.settled : n.settled = s.settled := by simp only [State.settled, h.mram, h.commits]

theorem Beside.slotState (im : Bool) (k : Nat) : n.slotState im k = s.slotState im k := by
  simp only [State.slotState, State.slotStates, State.bootRec, State.readBack, h.settled]

theorem Beside.slotLocked (t k : Nat) : n.slotLocked t k = s.slotLocked t k := by
  simp only [State.slotLocked, State.imgBusy, h.flag, h.upd]

theorem Beside.stageMine (p : Port) : n.stageMine p = s.stageMine p := by
  simp only [State.stageMine, State.stageOpen, h.flag]

end Beside

/-! ### What is committed -/

/-- Two states that hold the same bytes, commit in the same way, and both may write the boot record or neither. -/
structure SameStore (s n : State) : Prop where
  mram : n.mram = s.mram
  commits : n.commits = s.commits
  vresOk : n.vresOk = s.vresOk
  mayWrite : n.mayWrite = s.mayWrite

section SameStore

variable {s n : State} (h : SameStore s n)

include h

theorem SameStore.settled : n.settled = s.settled := by simp only [State.settled, h.mram, h.commits]

theorem SameStore.commitBytes (a : Nat) (bs : List Byte) : SameStore (s.commitBytes a bs) (n.commitBytes a bs) := by
  have hif : (n.vresOk && n.commits.isEmpty) = (s.vresOk && s.commits.isEmpty) := by rw [h.vresOk, h.commits]
  unfold State.commitBytes
  rw [hif]
  split
  · exact ⟨congrArg (fun m => assignAll freshByte m a bs) h.mram, h.commits, h.vresOk, h.mayWrite⟩
  · exact ⟨h.mram, congrArg (· ++ [(a, bs)]) h.commits, h.vresOk, h.mayWrite⟩

theorem SameStore.setSlots (l : List (Nat × Nat)) : SameStore (s.setSlots l) (n.setSlots l) := by
  have hb : n.bootRec = s.bootRec := by simp only [State.bootRec, State.readBack, h.settled]
  have hs : n.slotStates = s.slotStates := by simp only [State.slotStates, hb]
  have hw (x : List Nat) : SameStore (s.writeBoot x) (n.writeBoot x) := by
    unfold State.writeBoot
    rw [hb]
    exact h.commitBytes _ _
  have hm := h.mayWrite
  unfold State.setSlots
  rw [hs, hb, hm]
  split
  · exact ⟨h.mram, h.commits, h.vresOk, hm⟩
  · dsimp only
    split
    · exact h
    · exact hw _

theorem SameStore.setSlotState (im : Bool) (k v : Nat) : SameStore (s.setSlotState im k v) (n.setSlotState im k v) := h.setSlots _

end SameStore

theorem commitBytes_rest (s : State) (a : Nat) (bs : List Byte) : s.commitBytes a bs = { s with mram := (s.commitBytes a bs).mram, commits := (s.commitBytes a bs).commits } := by
  unfold State.commitBytes
  split <;> rfl

/-- A change of slot states touches the store and what it owes. -/
theorem setSlots_rest (s : State) (l : List (Nat × Nat)) : let n := s.setSlots l
    n = { s with mram := n.mram, commits := n.commits, upd := { s.upd with bootDue := n.upd.bootDue } } := by
  have hw (x : List Nat) : s.writeBoot x = { s with mram := (s.writeBoot x).mram, commits := (s.writeBoot x).commits } := commitBytes_rest s _ _
  unfold State.setSlots
  split
  · rfl
  · dsimp only
    split
    · rfl
    · rw [hw]

theorem Beside.sameStore {s n : State} (h : Beside s n) : SameStore s n :=
  ⟨h.mram, h.commits, h.vresOk, by simp only [State.mayWrite, h.laneRuns, State.sys, h.fld]⟩

/-- A write of a word that says nothing of the lanes leaves whether the boot record may be written. -/
theorem mayWrite_setReg {s : State} (h : RegsOk s) {a : Nat} (w : Word) (ha : a ∉ chargeWords) : (s.setReg a w).mayWrite = s.mayWrite := by
  have hs := (Steady.refl s).setReg (w := w) ha
  have hr : (s.setReg a w).laneRuns = s.laneRuns := by
    simp only [State.laneRuns, State.laneHeld, hs.holder h]
    rfl
  simp only [State.mayWrite, hr, hs.sys h]

theorem sameStore_setReg {s : State} (h : RegsOk s) {a : Nat} (w : Word) (ha : a ∉ chargeWords) : SameStore s (s.setReg a w) := ⟨rfl, rfl, rfl, mayWrite_setReg h w ha⟩

/-! ### A session opens -/

theorem acked_doneIface (p : Port) (i : Iface) : (doneIface p i).acked = true := by cases p <;> rfl

/-- The target and the slot stand in the six low bits of the stage word. -/
theorem bits_target (w : Word) : bits w 3 1 = bits w 5 0 / 2 % 8 := by
  unfold bits
  omega

theorem bits_slot (w : Word) : bits w 4 4 = bits w 5 0 / 16 % 2 := by
  unfold bits
  omega

theorem bit_of_bits (w : Word) {n : Nat} (h : n ≤ 5) : bit w n = (bits w 5 0).testBit n := by
  unfold bit bits
  rw [BitVec.getLsbD, pow_zero, Nat.div_one, Nat.testBit_mod_two_pow]
  simp [Nat.lt_succ_of_le h]

/-- What the stage word says of a session just opened. -/
theorem opened_stage {s : State} (h : RegsOk s) (p : Port) {target slot : Nat} (ht : target = 1 ∨ target = 2) (hs : slot ≤ 1) :
    let n := s.setFld UPD_STAGE 5 0 (1 + 2 * target + 16 * slot + 32 * b2n (p == .spi))
    n.stageOpen = true ∧ n.stageTarget = target ∧ n.stageSlot = slot ∧ n.flag UPD_STAGE 5 = (p == .spi) := by
  intro n
  have hw : bits (n.reg UPD_STAGE) 5 0 = 1 + 2 * target + 16 * slot + 32 * b2n (p == .spi) := by
    have hlt : 1 + 2 * target + 16 * slot + 32 * b2n (p == .spi) < 64 := by cases p <;> simp [b2n] <;> omega
    exact (fld_setFld_same h UPD_STAGE (by decide) (by decide)).trans (Nat.mod_eq_of_lt hlt)
  have hs' : slot = 0 ∨ slot = 1 := by omega
  refine ⟨(bit_of_bits _ (by decide)).trans ?_, (bits_target _).trans ?_, (bits_slot _).trans ?_, (bit_of_bits _ (by decide)).trans ?_⟩
  all_goals rw [hw]; rcases ht with rfl | rfl <;> rcases hs' with rfl | rfl <;> cases p <;> decide

theorem stageBegin_opens {s n : State} (h : Beside s n) (p : Port) {target slot : Nat} (ht : target = 1 ∨ target = 2) (ha : s.slotState (target == 2) slot ≠ slotActive)
    (htr : s.slotState (target == 2) slot ≠ slotTrial) (hl : s.slotLocked target slot = false) (ho : s.stageOpen = false) :
    n.stageBegin p target slot =
      let s2 := ((n.setFld UPD_STAGE 5 0 (1 + 2 * target + 16 * slot + 32 * b2n (p == .spi))).commitBytes (stageBase target slot) (List.replicate 16 0xFF)).setSlotState (target == 2) slot slotEmpty
      if target = 2 then s2.setImgValid slot false else s2 := by
  have h1 : ¬ (target ≤ 2 ∧ (n.slotState (target == 2) slot = slotActive ∨ n.slotState (target == 2) slot = slotTrial ∨ n.slotLocked target slot)) := by
    rw [h.slotState, h.slotLocked]
    simp [ha, htr, hl]
  have h2 : ¬ n.stageOpen = true := by simp only [State.stageOpen, h.flag]; simpa [State.stageOpen] using ho
  have h3 : ¬ 3 ≤ target := by omega
  exact (if_neg h1).trans ((if_neg h2).trans ((if_neg fun h => h3 h.1).trans (if_neg h3)))

/-- What an opened session leaves, whatever the target's own state. -/
theorem stageBegin_effect {s n : State} (h : Beside s n) (hr : RegsOk s) (p : Port) {target slot : Nat} (ht : target = 1 ∨ target = 2) (hs : slot ≤ 1) (ha : s.slotState (target == 2) slot ≠ slotActive)
    (htr : s.slotState (target == 2) slot ≠ slotTrial) (hl : s.slotLocked target slot = false) (ho : s.stageOpen = false) :
    let m := n.stageBegin p target slot
    (m.stageOpen = true ∧ m.stageTarget = target ∧ m.stageSlot = slot ∧ m.flag UPD_STAGE 5 = (p == .spi)) ∧
      m.settled = ((s.commitBytes (stageBase target slot) (List.replicate 16 0xFF)).setSlotState (target == 2) slot slotEmpty).settled ∧ m.iface p = n.iface p ∧ Kept s m [UPD_STAGE, IMG_ACTIVE] := by
  have hrn : RegsOk n := (regsOk_of_regs h.regs).mpr hr
  rw [stageBegin_opens h p ht ha htr hl ho]
  generalize hm1 : n.setFld UPD_STAGE 5 0 (1 + 2 * target + 16 * slot + 32 * b2n (p == .spi)) = m1
  have hst : m1.stageOpen = true ∧ m1.stageTarget = target ∧ m1.stageSlot = slot ∧ m1.flag UPD_STAGE 5 = (p == .spi) := hm1 ▸ opened_stage hrn p ht hs
  have hkept : Kept s m1 [UPD_STAGE, IMG_ACTIVE] := hm1 ▸ kept_trans (kept_of_regs h.regs) (kept_setReg hrn _ (by simp))
  have hr1 : RegsOk m1 := hm1 ▸ setReg_regsOk hrn _ _
  have hi : m1.iface p = n.iface p := hm1 ▸ by cases p <;> rfl
  have hstore : SameStore s m1 := by
    have := sameStore_setReg hrn (putBits (n.reg UPD_STAGE) 5 0 (1 + 2 * target + 16 * slot + 32 * b2n (p == .spi))) (a := UPD_STAGE) (by decide)
    have h0 := h.sameStore
    subst hm1
    exact ⟨this.mram.trans h0.mram, this.commits.trans h0.commits, this.vresOk.trans h0.vresOk, this.mayWrite.trans h0.mayWrite⟩
  clear hm1
  have hset := ((hstore.commitBytes (stageBase target slot) (List.replicate 16 0xFF)).setSlotState (target == 2) slot slotEmpty).settled
  have hregs : ((m1.commitBytes (stageBase target slot) (List.replicate 16 0xFF)).setSlotState (target == 2) slot slotEmpty).regs = m1.regs := by
    unfold State.setSlotState
    rw [setSlots_rest, commitBytes_rest]
  have hif : ((m1.commitBytes (stageBase target slot) (List.replicate 16 0xFF)).setSlotState (target == 2) slot slotEmpty).iface p = m1.iface p := by
    unfold State.setSlotState
    rw [setSlots_rest, commitBytes_rest]
    cases p <;> rfl
  generalize (m1.commitBytes (stageBase target slot) (List.replicate 16 0xFF)).setSlotState (target == 2) slot slotEmpty = m2 at hset hregs hif ⊢
  have hr2 : RegsOk m2 := (regsOk_of_regs hregs).mpr hr1
  have hst2 : m2.stageOpen = true ∧ m2.stageTarget = target ∧ m2.stageSlot = slot ∧ m2.flag UPD_STAGE 5 = (p == .spi) := by
    simpa only [State.stageOpen, State.stageTarget, State.stageSlot, State.flag, State.fld, reg_of_regs hregs] using hst
  dsimp only
  split
  · refine ⟨?_, hset, ?_, ?_⟩
    · simpa only [State.stageOpen, State.stageTarget, State.stageSlot, State.flag, State.fld, State.setImgValid, State.setFlag, reg_setReg_other hr2 _ (show UPD_STAGE ≠ IMG_ACTIVE by decide)] using hst2
    · exact (show _ = m2.iface p by cases p <;> rfl).trans (hif.trans hi)
    · exact kept_trans hkept (kept_trans (kept_of_regs hregs) (kept_setReg hr2 _ (by simp)))
  · exact ⟨hst2, hset, hif.trans hi, kept_trans hkept (kept_of_regs hregs)⟩

theorem openSession_opens (p : Port) (target slot : Byte) (pec : Option Byte) (t : Nat) (s : State) (hr : RegsOk s) (hv : ServesAll p (s.at t)) (ht : target = 1 ∨ target = 2) (hs : slot.toNat ≤ 1)
    (hc : (s.at t).checkBad p [0xF0, 2, target, slot] pec = none) (ha : s.slotState (target == 2) slot.toNat ≠ slotActive) (htr : s.slotState (target == 2) slot.toNat ≠ slotTrial)
    (hl : s.slotLocked target.toNat slot.toNat = false) (ho : s.stageOpen = false) :
    ∃ n, exec (.openSession p [target, slot] pec t) s = .next n ∧ n.stageOpen = true ∧ n.stageTarget = target.toNat ∧ n.stageSlot = slot.toNat ∧ n.flag UPD_STAGE 5 = (p == .spi) ∧
      n.settled = ((s.commitBytes (stageBase target.toNat slot.toNat) (List.replicate 16 0xFF)).setSlotState (target == 2) slot.toNat slotEmpty).settled ∧
      (n.iface p).acked = true ∧ Kept s n [UPD_STAGE, IMG_ACTIVE] := by
  have htn : target.toNat = 1 ∨ target.toNat = 2 := by rcases ht with rfl | rfl <;> simp
  have hte : (target == 2) = (target.toNat == 2) := by rcases ht with rfl | rfl <;> rfl
  have hleg : stageLegal 0xF0 [target, slot] = true := by
    have : slot.toNat ≤ 1 := hs
    rcases ht with rfl | rfl <;> simp [stageLegal, this]
  have e : (s.at t).hostOp p (.stageWrite 0xF0 [target, slot] pec) = ((s.at t).setIface p (doneIface p)).stageBegin p target.toNat slot.toNat := hostOp_stageWrite hv hleg hc
  rw [hte] at ha htr ⊢
  have hb : Beside s ((s.at t).setIface p (doneIface p)) := (at_beside s t).trans (setIface_beside _ p _)
  obtain ⟨⟨h1, h2, h3, h4⟩, h5, h6, h7⟩ := stageBegin_effect hb hr p htn hs ha htr hl ho
  refine ⟨_, congrArg (finish s) e, h1, h2, h3, h4, h5, ?_, h7⟩
  have : (((s.at t).setIface p (doneIface p)).iface p).acked = true := by rw [iface_setIface]; exact acked_doneIface p _
  exact (congrArg Iface.acked h6).trans this

/-! ### Its frames -/

theorem dataFrame_kept (p : Port) (bs : List Byte) (pec : Option Byte) (t : Nat) (s : State) (hv : ServesAll p (s.at t)) (h5 : 5 ≤ bs.length) (h255 : bs.length ≤ 255)
    (hc : (s.at t).checkBad p ([0xF1, BitVec.ofNat 8 bs.length] ++ bs) pec = none) (hm : s.stageMine p = true) (ht : s.stageTarget = 1 ∨ s.stageTarget = 2) (ha : ofLe (bs.take 4) % 4 = 0)
    (hlo : (stageRange s.stageTarget).1 ≤ ofLe (bs.take 4)) (hhi : ofLe (bs.take 4) + (bs.drop 4).length ≤ (stageRange s.stageTarget).2) (hl : s.slotLocked s.stageTarget s.stageSlot = false) :
    ∃ n, exec (.dataFrame p bs pec t) s = .next n ∧ n.upd.frame = some { target := s.stageTarget, slot := s.stageSlot, off := ofLe (bs.take 4), data := bs.drop 4 } ∧ (n.iface p).acked = true ∧
      n.regs = s.regs ∧ n.mram = s.mram := by
  have hb : Beside s ((s.at t).setIface p (doneIface p)) := (at_beside s t).trans (setIface_beside _ p _)
  have hleg : stageLegal 0xF1 bs = true := by simp [stageLegal, h5, h255]
  have e : (s.at t).hostOp p (.stageWrite 0xF1 bs pec) = ((s.at t).setIface p (doneIface p)).stageData p (ofLe (bs.take 4)) (bs.drop 4) := hostOp_stageWrite hv hleg hc
  have hi : (((s.at t).setIface p (doneIface p)).iface p).acked = true := by rw [iface_setIface]; exact acked_doneIface p _
  generalize (s.at t).setIface p (doneIface p) = m at hb e hi
  have htm : m.stageTarget = s.stageTarget := hb.fld _ _ _
  have hsm : m.stageSlot = s.stageSlot := hb.fld _ _ _
  have hgood : m.dataBad p (ofLe (bs.take 4)) (bs.drop 4) = none := by
    have h1 : ¬ (!m.stageMine p) = true := by rw [hb.stageMine, hm]; decide
    have h2 : ¬ (ofLe (bs.take 4) % 4 ≠ 0 ∨ ofLe (bs.take 4) < (stageRange s.stageTarget).1 ∨ (stageRange s.stageTarget).2 < ofLe (bs.take 4) + (bs.drop 4).length) := by omega
    have h3 : ¬ (s.stageTarget ≤ 2 ∧ m.slotLocked s.stageTarget m.stageSlot = true) := by
      rw [hsm, hb.slotLocked, hl]
      simp
    unfold State.dataBad
    rw [htm]
    exact (if_neg h1).trans ((if_neg h2).trans ((if_neg h3).trans (if_pos (by omega))))
  have e2 : m.stageData p (ofLe (bs.take 4)) (bs.drop 4) = { m with upd := { m.upd with frame := some { target := m.stageTarget, slot := m.stageSlot, off := ofLe (bs.take 4), data := bs.drop 4 } } } := by
    unfold State.stageData
    rw [hgood]
  refine ⟨_, congrArg (finish s) (e.trans e2), ?_, ?_, hb.regs, hb.mram⟩
  · rw [htm, hsm]
  · cases p <;> exact hi

/-- A frame whose commit is done reaches its place (R474). -/
theorem stagingCommitDone_writes (t : Nat) (f : StageFrame) (s : State) (hwf : s.mram.wf = true) (hl : s.laneRuns = true) (hf : s.upd.frame = some f) (ht : f.target = 1 ∨ f.target = 2)
    (hv : s.vresOk = true) (hc : s.commits = []) (hw : s.tw.waiting = none) (hw' : s.spi.waiting = none) :
    ∃ n, exec (.stagingCommitDone t) s = .next n ∧ n.upd.frame = none ∧ (∀ (k : Nat) (h : k < f.data.length), n.byte (stageBase f.target f.slot + f.off + k) = f.data[k]) ∧
      (∀ a, a < stageBase f.target f.slot + f.off ∨ stageBase f.target f.slot + f.off + f.data.length ≤ a → n.byte a = s.byte a) ∧ n.regs = s.regs := by
  have hruns : (s.at t).laneRuns = true := hl
  have hcommit : ((s.at t).vresOk && (s.at t).commits.isEmpty) = true := by
    have h1 : (s.at t).vresOk = true := hv
    have h2 : (s.at t).commits = [] := hc
    rw [h1, h2]
    rfl
  have e1 : (s.at t).stageApply f = { s.at t with upd := { s.upd with frame := none }, mram := assignAll freshByte s.mram (stageBase f.target f.slot + f.off) f.data } :=
    (if_pos (show f.target ≤ 2 by omega)).trans (if_pos hcommit)
  have e2 : ((s.at t).stageApply f).resumeAll = (s.at t).stageApply f := by
    have h1 : (((s.at t).stageApply f).iface .twoWire).waiting = none := by rw [e1]; exact hw
    have h2 : (((s.at t).stageApply f).iface .spi).waiting = none := by rw [e1]; exact hw'
    unfold State.resumeAll
    simp only [State.resume, h1, h2]
  have e : exec (.stagingCommitDone t) s = finish (s.at t) ((s.at t).stageApply f) := by
    dsimp only [exec, execStagingCommitDone]
    rw [show (s.at t).upd.frame = some f from hf]
    dsimp only
    rw [if_pos (by rw [hruns, hcommit]; simp), e2]
  refine ⟨_, e.trans (congrArg (finish (s.at t)) e1), rfl, fun k hk => ?_, fun a ha => ?_, rfl⟩
  · exact lookup_assignAll_inside hwf hk
  · exact lookup_assignAll_outside hwf ha

/-! ### Its end and the slot's check -/

theorem closeCheck_ends (p : Port) (pec : Option Byte) (t : Nat) (s : State) (hr : RegsOk s) (hv : ServesAll p (s.at t)) (hc : (s.at t).checkBad p [0xF2, 1, 0x01] pec = none) (hm : s.stageMine p = true)
    (ht : s.stageTarget = 1 ∨ s.stageTarget = 2) :
    ∃ n, exec (.closeCheck p pec t) s = .next n ∧ n.stageOpen = false ∧ n.upd.closing = some (s.stageTarget, s.stageSlot) ∧ (s.stageTarget = 2 → n.flag IMG_LDSTAT 0 = true) ∧ (n.iface p).acked = true ∧
      Kept s n [UPD_STAGE, IMG_LDSTAT] ∧ n.mram = s.mram := by
  have hb : Beside s ((s.at t).setIface p (doneIface p)) := (at_beside s t).trans (setIface_beside _ p _)
  have e : (s.at t).hostOp p (.stageWrite 0xF2 [0x01] pec) = ((s.at t).setIface p (doneIface p)).stageClose p true := hostOp_stageWrite hv (by decide) hc
  have hi : (((s.at t).setIface p (doneIface p)).iface p).acked = true := by rw [iface_setIface]; exact acked_doneIface p _
  generalize (s.at t).setIface p (doneIface p) = m at hb e hi
  have hrm : RegsOk m := (regsOk_of_regs hb.regs).mpr hr
  have htm : m.stageTarget = s.stageTarget := hb.fld _ _ _
  have hk1 : Kept s (m.setFlag UPD_STAGE 0 false) [UPD_STAGE, IMG_LDSTAT] := kept_trans (kept_of_regs hb.regs) (kept_setReg hrm _ (by simp))
  have ho1 : (m.setFlag UPD_STAGE 0 false).flag UPD_STAGE 0 = false := flag_setFlag_same hrm UPD_STAGE false (by decide)
  have hs1 : (m.setFlag UPD_STAGE 0 false).stageSlot = s.stageSlot := (fld_setFlag_apart hrm UPD_STAGE false (by decide) (by decide)).trans (hb.fld _ _ _)
  have hr1 : RegsOk (m.setFlag UPD_STAGE 0 false) := setReg_regsOk hrm _ _
  have e2 : m.stageClose p true = let s2 := if s.stageTarget = 2 then (m.setFlag UPD_STAGE 0 false).setFlag IMG_LDSTAT 0 true else m.setFlag UPD_STAGE 0 false
      { s2 with upd := { s2.upd with closing := some (s.stageTarget, m.stageSlot) } } := by
    unfold State.stageClose
    rw [htm]
    exact (if_neg (by rw [hb.stageMine, hm]; decide)).trans (if_neg (by rcases ht with h | h <;> rw [h] <;> decide))
  have ht2 : m.stageSlot = s.stageSlot := hb.fld _ _ _
  rw [ht2] at e2
  refine ⟨_, congrArg (finish s) (e.trans e2), ?_, rfl, ?_, ?_, ?_, ?_⟩
  · dsimp only
    split
    · exact (flag_setReg_other hr1 _ 0 (by decide)).trans ho1
    · exact ho1
  · intro h2
    dsimp only
    rw [if_pos h2]
    exact flag_setFlag_same hr1 IMG_LDSTAT true (by decide)
  · cases p <;> dsimp only <;> split <;> exact hi
  · dsimp only
    split
    · exact kept_trans hk1 (kept_setReg hr1 _ (by simp))
    · exact hk1
  · dsimp only
    split <;> exact hb.mram

theorem closeAbandon_ends (p : Port) (pec : Option Byte) (t : Nat) (s : State) (hr : RegsOk s) (hv : ServesAll p (s.at t)) (hc : (s.at t).checkBad p [0xF2, 1, 0x00] pec = none) (hm : s.stageMine p = true) :
    ∃ n, exec (.closeAbandon p pec t) s = .next n ∧ n.stageOpen = false ∧ n.upd = s.upd ∧ (n.iface p).acked = true ∧ Kept s n [UPD_STAGE] ∧ n.mram = s.mram := by
  have hb : Beside s ((s.at t).setIface p (doneIface p)) := (at_beside s t).trans (setIface_beside _ p _)
  have e : (s.at t).hostOp p (.stageWrite 0xF2 [0x00] pec) = ((s.at t).setIface p (doneIface p)).stageClose p false := hostOp_stageWrite hv (by decide) hc
  have hi : (((s.at t).setIface p (doneIface p)).iface p).acked = true := by rw [iface_setIface]; exact acked_doneIface p _
  generalize (s.at t).setIface p (doneIface p) = m at hb e hi
  have hrm : RegsOk m := (regsOk_of_regs hb.regs).mpr hr
  have e2 : m.stageClose p false = m.setFlag UPD_STAGE 0 false := (if_neg (by rw [hb.stageMine, hm]; decide)).trans (if_pos (by simp))
  refine ⟨_, congrArg (finish s) (e.trans e2), flag_setFlag_same hrm UPD_STAGE false (by decide), hb.upd, ?_, kept_trans (kept_of_regs hb.regs) (kept_setReg hrm _ (by simp)), hb.mram⟩
  cases p <;> exact hi

/-- What a read leaves at its target. -/
def repliedIface (p : Port) (r : List Byte) (i : Iface) : Iface := match p with
  | .twoWire => { i with resp := r, acked := true }
  | .spi => { i with resp := i.result :: 0x5A :: r, result := 0x5A, acked := true }

theorem reply_eq (m : State) (p : Port) (head data : List Byte) : m.reply p head data = m.setIface p (repliedIface p (data ++ [m.readSum p head data])) := by cases p <;> rfl

theorem resp_repliedIface (m : State) (p : Port) (head data : List Byte) : (repliedIface p (data ++ [m.readSum p head data]) (m.iface p)).resp = replyBytes m p head data := by
  cases p <;> simp [repliedIface, replyBytes, State.iface]

theorem status_reads (p : Port) (t : Nat) (s : State) (hv : ServesAll p (s.at t)) :
    ∃ n, exec (.status p t) s = .next n ∧
      (n.iface p).resp = replyBytes (s.at t) p [0xF3, 12] (12 :: (s.at t).w3r UPD_STS ++ (s.at t).w3r UPD_STAGE ++ (s.at t).w3r IMG_LDERR ++ (s.at t).w3r UPD_TREM) ∧ OnlyTarget p (s.at t) n := by
  have e := (hostOp_stageRead hv).trans (reply_eq _ p _ _)
  obtain ⟨n, hn, hi, ho⟩ := onlyTarget_finish (s0 := s) (s := s.at t) p (repliedIface p ((12 :: (s.at t).statusBytes) ++ [(s.at t).readSum p [0xF3, 12] (12 :: (s.at t).statusBytes)])) rfl
  refine ⟨n, (congrArg (finish s) e).trans hn, (congrArg Iface.resp hi).trans ((resp_repliedIface _ p _ _).trans ?_), ho⟩
  simp [State.statusBytes]

/-! ### The check of the slot -/

/-- What a staging check of a firmware slot starts with: the check is over, and IMG.LDSTAT says what is left of its work. -/
def closed (s : State) : State := { s with upd := { s.upd with closing := none } }.showBusy

theorem stagingCheckDone_eq (t slot : Nat) (s : State) (hl : s.laneRuns = true) (hc : s.upd.closing = some (1, slot)) :
    exec (.stagingCheckDone t) s = finish (s.at t) (match s.checkFirmware slot false with
      | some x => ((closed (s.at t)).showBad x slot (closed (s.at t)).laneRuns).setFlag UPD_STAGE 7 true
      | none => ((closed (s.at t)).setSlotState false slot slotStaged).setFlag UPD_STAGE 6 true) := by
  have hl' : (s.at t).laneRuns = true := hl
  have hf : (closed (s.at t)).checkFirmware slot false = s.checkFirmware slot false := rfl
  dsimp only [exec, execStagingCheckDone]
  rw [show (s.at t).upd.closing = some (1, slot) from hc]
  dsimp only
  rw [if_neg (by rw [hl']; exact Bool.false_ne_true), if_neg (by decide)]
  change finish (s.at t) (match (closed (s.at t)).checkFirmware slot false with | some _ => _ | none => _) = _
  rw [hf]
  rfl

/-- The end of the check's work touches the busy mark. -/
theorem closed_facts {s : State} (h : RegsOk s) : RegsOk (closed s) ∧ SameStore s (closed s) ∧ (closed s).upd.closing = none ∧ Kept s (closed s) [IMG_LDSTAT] := by
  have hm : RegsOk { s with upd := { s.upd with closing := none } } := h
  have hst := sameStore_setReg hm (putBit (s.reg IMG_LDSTAT) 0 (s.upd.check.isSome || false)) (a := IMG_LDSTAT) (by decide)
  exact ⟨setReg_regsOk hm _ _, ⟨hst.mram, hst.commits, hst.vresOk, hst.mayWrite⟩, rfl, kept_setReg hm _ (by simp)⟩

/-- A change of slot states says nothing of a check. -/
theorem setSlotState_rest (s : State) (im : Bool) (k v : Nat) : (s.setSlotState im k v).regs = s.regs ∧ (s.setSlotState im k v).upd.closing = s.upd.closing := by
  unfold State.setSlotState
  rw [setSlots_rest]
  exact ⟨rfl, rfl⟩

theorem stagingCheck_passes (t slot : Nat) (s : State) (hr : RegsOk s) (hl : s.laneRuns = true) (hc : s.upd.closing = some (1, slot)) (_ : slot < 2) (hx : s.checkFirmware slot false = none) :
    ∃ n, exec (.stagingCheckDone t) s = .next n ∧ n.upd.closing = none ∧ n.settled = (s.setSlotState false slot slotStaged).settled ∧ n.flag UPD_STAGE 6 = true ∧ Kept s n [UPD_STAGE, IMG_LDSTAT] := by
  have e := stagingCheckDone_eq t slot s hl hc
  rw [hx] at e
  obtain ⟨hr1, hst, hcl, hk⟩ := closed_facts (s := s.at t) hr
  have hst' : SameStore s (closed (s.at t)) := ⟨hst.mram, hst.commits, hst.vresOk, hst.mayWrite⟩
  have hset := (hst'.setSlotState false slot slotStaged).settled
  dsimp only at e
  obtain ⟨hregs, hcl2⟩ := setSlotState_rest (closed (s.at t)) false slot slotStaged
  have hr2 : RegsOk ((closed (s.at t)).setSlotState false slot slotStaged) := (regsOk_of_regs hregs).mpr hr1
  have hk2 : Kept s ((closed (s.at t)).setSlotState false slot slotStaged) [UPD_STAGE, IMG_LDSTAT] := kept_trans (m := closed (s.at t)) (kept_mono (s := s.at t) hk (by simp)) (kept_of_regs hregs)
  generalize (closed (s.at t)).setSlotState false slot slotStaged = m at *
  exact ⟨_, e, hcl2.trans hcl, hset, flag_setFlag_same hr2 UPD_STAGE true (by decide), kept_trans hk2 (kept_setReg hr2 _ (by simp))⟩

theorem stagingCheck_fails (t slot : Nat) (x : Bad) (s : State) (hr : RegsOk s) (hl : s.laneRuns = true) (hc : s.upd.closing = some (1, slot)) (_ : slot < 2) (hx' : x.code < 256)
    (hx : s.checkFirmware slot false = some x) :
    ∃ n, exec (.stagingCheckDone t) s = .next n ∧ n.upd.closing = none ∧ n.flag UPD_STAGE 7 = true ∧ n.fld IMG_LDERR 7 0 = x.code ∧
      Kept s n [UPD_STAGE, IMG_LDSTAT, IMG_LDERR, IMG_LDREC] ∧ n.mram = s.mram := by
  have e := stagingCheckDone_eq t slot s hl hc
  rw [hx] at e
  dsimp only at e
  obtain ⟨hr1, hst, hcl, hk⟩ := closed_facts (s := s.at t) hr
  have hmram : (closed (s.at t)).mram = s.mram := hst.mram
  have hk1 : Kept s (closed (s.at t)) [UPD_STAGE, IMG_LDSTAT, IMG_LDERR, IMG_LDREC] := kept_mono (s := s.at t) hk (by simp)
  generalize closed (s.at t) = m at *
  unfold State.showBad at e
  generalize hw : Word.ofNat (x.code + 256 * x.sect + 65536 * (slot % 2) + 131072 * b2n m.laneRuns) = w at e
  have hcode : bits w 7 0 = x.code := by
    rw [← hw]
    simp only [bits, Word.ofNat, BitVec.toNat_ofNat]
    omega
  have hr2 : RegsOk (m.setReg IMG_LDERR w) := setReg_regsOk hr1 _ _
  have hr3 : RegsOk ((m.setReg IMG_LDERR w).setReg IMG_LDREC (Word.ofNat x.idx)) := setReg_regsOk hr2 _ _
  refine ⟨_, e, hcl, flag_setFlag_same hr3 UPD_STAGE true (by decide), ?_, ?_, hmram⟩
  · refine (fld_setReg_other hr3 _ 7 0 (by decide)).trans ((fld_setReg_other hr2 _ 7 0 (by decide)).trans ?_)
    exact (congrArg (fun x => bits x 7 0) (reg_setReg_same hr1 IMG_LDERR w)).trans hcode
  · exact kept_trans hk1 (kept_trans (kept_setReg hr1 _ (by simp)) (kept_trans (kept_setReg hr2 _ (by simp)) (kept_setReg hr3 _ (by simp))))

/-- Settles O13: a session's opening, its frames, its two endings, its status, and the commit and the check that follow. -/
theorem stagingSessionsAndCommits : Obligations.StagingSessionsAndCommits :=
  ⟨openSession_opens, dataFrame_kept, closeCheck_ends, closeAbandon_ends, status_reads, stagingCommitDone_writes, stagingCheck_passes, stagingCheck_fails⟩

end Sys2Proof
end
-- ==== Sys2Proof/Proofs/Shelf/BusResults.lean ====
section
/-! O50, first part: what a downstream transaction that ends well, or fails, leaves at its port and its target. -/

namespace Sys2Proof

open Machine

section Wire

set_option Elab.async false

/-! ### A target's own state and the next transaction -/

theorem target_setTarget_same (s : State) (c : Nat) (f : DsTarget → DsTarget) : (s.setTarget c f).target c = f (s.target c) := by
  simp only [State.target, State.setTarget, find_putKey_same, Option.getD_some]

theorem target_setTarget_other (s : State) {c d : Nat} (f : DsTarget → DsTarget) (h : d ≠ c) : (s.setTarget c f).target d = s.target d := by
  simp only [State.target, State.setTarget, find_putKey_other _ _ h]

/-- Nothing has changed but the downstream ports, their tables and when a target was last trimmed: what the start of a transaction may do. -/
structure NextTaken (s n : State) : Prop where
  bus : OnlyBus s n
  mode : ∀ c, (n.target c).mode = (s.target c).mode
  fails : ∀ c, (n.target c).fails = (s.target c).fails

section NextTaken

variable {s n : State}

theorem NextTaken.refl (s : State) : NextTaken s s := ⟨.refl s, fun _ => rfl, fun _ => rfl⟩

theorem NextTaken.trans {m : State} (h : NextTaken s m) (h' : NextTaken m n) : NextTaken s n :=
  ⟨h.bus.trans h'.bus, fun c => (h'.mode c).trans (h.mode c), fun c => (h'.fails c).trans (h.fails c)⟩

theorem NextTaken.ite {a b : State} {c : Prop} {d : Decidable c} (ha : NextTaken s a) (hb : NextTaken s b) : NextTaken s (if c then a else b) := by
  split <;> assumption

theorem NextTaken.setPort (h : NextTaken s n) {p : Nat} {f : DsPort → DsPort} : NextTaken s (n.setPort p f) := h.trans ⟨rfl, fun _ => rfl, fun _ => rfl⟩

theorem NextTaken.setTable (h : NextTaken s n) {p : Nat} {l : List DsCmd} : NextTaken s (n.setTable p l) := h.trans ⟨rfl, fun _ => rfl, fun _ => rfl⟩

theorem NextTaken.trimmed (h : NextTaken s n) {c : Nat} {t : Option Nat} : NextTaken s (n.setTarget c (fun v => { v with trimAt := t })) := by
  refine h.trans ⟨rfl, fun d => ?_, fun d => ?_⟩
  all_goals
    rcases eq_or_ne d c with rfl | hd
    · rw [target_setTarget_same]
    · rw [target_setTarget_other _ _ hd]

theorem NextTaken.takeTx (h : NextTaken s n) {p : Nat} {x : DsTx} {d : Option DsCmd} : NextTaken s (n.takeTx p x d) := by
  unfold State.takeTx
  refine .setPort ?_
  split
  · exact .ite h.setTable.trimmed h.setTable
  · exact h

theorem pump_taken (s : State) (p : Nat) : NextTaken s (s.pump p) := by
  unfold State.pump
  extract_lets e s0
  have hp : NextTaken s (s.startPolls p) := by
    unfold State.startPolls
    exact .setPort (.refl s)
  have h0 : NextTaken s s0 := .ite hp (.refl s)
  refine .ite (.refl s) ?_
  split
  · exact h0
  · split
    · exact .ite h0.setPort h0.takeTx.setPort
    · exact h0.takeTx

/-- A field of the state beside the buses. -/
theorem OnlyBus.field (h : OnlyBus s n) {α : Type} (f : State → α) (hf : ∀ (s : State) a b c, f { s with dsTable := a, dsPorts := b, dsTargets := c } = f s) : f n = f s := by
  rw [h]
  exact hf s _ _ _

variable (h : NextTaken s n)

include h

theorem NextTaken.regs : n.regs = s.regs := h.bus.field State.regs fun _ _ _ _ => rfl

theorem NextTaken.mram : n.mram = s.mram := h.bus.field State.mram fun _ _ _ _ => rfl

theorem NextTaken.flt : n.flt = s.flt := h.bus.field State.flt fun _ _ _ _ => rfl

theorem NextTaken.updated : n.updated = s.updated := h.bus.field State.updated fun _ _ _ _ => rfl

theorem NextTaken.now : n.now = s.now := h.bus.field State.now fun _ _ _ _ => rfl

theorem NextTaken.reg (a : Nat) : n.reg a = s.reg a := reg_of_regs h.regs a

theorem NextTaken.flag (a k : Nat) : n.flag a k = s.flag a k := congrArg (fun w => bit w k) (h.reg a)

theorem NextTaken.code (c : Nat) : n.code c = s.code c := congrArg (fun w => bits w 7 0) (h.reg _)

theorem NextTaken.offline (c : Nat) : n.offline c = s.offline c := congrArg (fun w => bit w 8) (h.reg _)

end NextTaken

/-! ### A transaction leaves the wire -/

theorem laneRuns_setReg {s : State} (h : RegsOk s) {a : Nat} (w : Word) (ha : a ∉ chargeWords) : (s.setReg a w).laneRuns = s.laneRuns := by
  have hs := (Steady.refl s).setReg (w := w) ha
  simp only [State.laneRuns, State.laneHeld, hs.holder h]
  rfl

theorem clearTx_eq {s : State} {p : Nat} (h : (s.port p).resetDue = false) : s.clearTx p = s.setPort p (fun e => { e with cur := none }) :=
  if_neg (by rw [h]; exact Bool.false_ne_true)

/-- A transaction that ended well, counted. -/
def ended (s : State) (p : Nat) : State := (s.setPort p (fun e => { e with cur := none })).inc (DSP_TXCNT + p)

section Ended

variable {s : State} (h : RegsOk s) (p : Nat)

include h

theorem ended_regsOk : RegsOk (ended s p) := setReg_regsOk (s := s.setPort p _) h _ _

theorem ended_count : (ended s p).reg (DSP_TXCNT + p) = satInc (s.reg (DSP_TXCNT + p)) := reg_setReg_same (s := s.setPort p _) h _ _

theorem ended_kept : Kept s (ended s p) [DSP_TXCNT + p] := kept_setReg (s := s.setPort p _) h _ (by simp)

theorem ended_runs : (ended s p).laneRuns = s.laneRuns := laneRuns_setReg (s := s.setPort p _) h _ (add_off DSP_TXCNT p)

end Ended

/-- A transaction that ends well while a lane runs acts at once, and the port takes its next one. -/
theorem complete_acts {port t : Nat} {data : List Byte} {x : DsTx} {s : State} (hr : RegsOk s) (hl : s.laneRuns = true) (hc : (s.port port).cur = some x) (hd : (s.port port).resetDue = false) :
    exec (.dsTransactionComplete port data t) s = finish (s.at t) ((((ended (s.at t) port).complete port x data).ackValue x).pump port) := by
  have hc' : ((s.at t).port port).cur = some x := hc
  have hd' : ((s.at t).port port).resetDue = false := hd
  have hl' : (ended (s.at t) port).laneRuns = true := (ended_runs (s := s.at t) hr port).trans hl
  dsimp only [exec, execDsTransactionComplete]
  rw [hc', clearTx_eq hd']
  exact congrArg (finish (s.at t)) (if_pos hl')

/-- Without a lane its result is held (R14). -/
theorem complete_holds (port t : Nat) (data : List Byte) (x : DsTx) (s : State) (hr : RegsOk s) (hl : s.laneRuns = false) (hc : (s.port port).cur = some x) (hd : (s.port port).resetDue = false) :
    ∃ n, exec (.dsTransactionComplete port data t) s = .next n ∧ (n.port port).held = some (x, data) ∧ (n.port port).cur = none ∧ n.reg (DSP_TXCNT + port) = satInc (s.reg (DSP_TXCNT + port)) ∧
      Kept s n [DSP_TXCNT + port] ∧ n.mram = s.mram := by
  have hc' : ((s.at t).port port).cur = some x := hc
  have hd' : ((s.at t).port port).resetDue = false := hd
  have hl' : ¬ (ended (s.at t) port).laneRuns = true := by
    rw [ended_runs (s := s.at t) hr port]
    exact Bool.eq_false_iff.mp hl
  have e : exec (.dsTransactionComplete port data t) s = finish (s.at t) ((ended (s.at t) port).setPort port (fun e => { e with held := some (x, data) })) := by
    dsimp only [exec, execDsTransactionComplete]
    rw [hc', clearTx_eq hd']
    exact congrArg (finish (s.at t)) (if_neg hl')
  have h1 := port_setPort_same (s.at t) port (fun e => { e with cur := none })
  have h2 := port_setPort_same (ended (s.at t) port) port (fun e => { e with held := some (x, data) })
  exact ⟨_, e, congrArg DsPort.held h2, (congrArg DsPort.cur h2).trans (congrArg DsPort.cur h1), ended_count (s := s.at t) hr port, ended_kept (s := s.at t) hr port, rfl⟩

/-! ### What a result does -/

section Ended

variable {s : State} (h : RegsOk s) {p : Nat} (hp : p < 4)

include h hp

/-- The count of a port says nothing of a context. -/
theorem ended_cw (c k : Nat) : (ended s p).cw c k = s.cw c k := by
  have := ctxAddr_ge c k
  exact ended_kept h p _ (by simp only [List.mem_singleton, DSP_TXCNT]; omega)

theorem ended_code (c : Nat) : (ended s p).code c = s.code c := congrArg (fun w => bits w 7 0) (ended_cw h hp c _)

/-- After a change of one word of a context the count stands, and nothing but the two has changed. -/
theorem setC_ended {m : State} (hm : RegsOk m) (e : m.regs = (ended s p).regs) (c k : Nat) (w : Word) :
    (m.setC c k w).reg (DSP_TXCNT + p) = satInc (s.reg (DSP_TXCNT + p)) ∧ Kept s (m.setC c k w) [DSP_TXCNT + p, ctxAddr c k] := by
  have hne : DSP_TXCNT + p ≠ ctxAddr c k := global_ne_ctxAddr c k (by simp only [DSP_TXCNT]; omega)
  refine ⟨(reg_setReg_other hm w hne).trans ((reg_of_regs e _).trans (ended_count h p)), ?_⟩
  exact kept_trans (kept_mono (ended_kept h p) (by simp)) (kept_trans (kept_of_regs e) (kept_setReg hm w (by simp)))

end Ended

/-- A counted transaction of a target, whose failures are over with it (R423). -/
def answered (s : State) (p c : Nat) : State := (ended s p).setTarget c (fun v => { v with fails := 0 })

theorem answered_fails (s : State) (p c : Nat) : ((answered s p c).target c).fails = 0 := congrArg DsTarget.fails (target_setTarget_same (ended s p) c (fun v => { v with fails := 0 }))

theorem answered_regsOk {s : State} (h : RegsOk s) (p c : Nat) : RegsOk (answered s p c) := ended_regsOk h p

/-- A POL's state follows an OPERATION it has acknowledged (R418). -/
theorem complete_operation (port c t : Nat) (data : List Byte) (x : DsTx) (s : State) (hr : RegsOk s) (hp : port < 4) (hl : s.laneRuns = true) (hc : (s.port port).cur = some x)
    (hd : (s.port port).resetDue = false) (hk : x.kind = .command) (hx : x.ctx = some c) (hcode : x.code = 0x01) (hsafe : x.safe = false) (h2 : s.code c ≠ 2) :
    ∃ n, exec (.dsTransactionComplete port data t) s = .next n ∧ n.code c = (if x.data = 0x80 then 1 else 0) ∧ (n.target c).fails = 0 ∧ n.reg (DSP_TXCNT + port) = satInc (s.reg (DSP_TXCNT + port)) ∧
      Kept s n [DSP_TXCNT + port, ctxAddr c CTX_STATE] ∧ n.mram = s.mram := by
  have e := complete_acts (t := t) (data := data) hr hl hc hd
  have hr' : RegsOk (s.at t) := hr
  have hm : (((ended (s.at t) port).complete port x data).ackValue x) = (answered (s.at t) port c).setCode c (if x.data = 0x80 then 1 else 0) := by
    have h2' : (answered (s.at t) port c).code c ≠ 2 := fun h => h2 ((ended_code hr' hp c).symm.trans h)
    have ha : (answered (s.at t) port c).acknowledge x c =
        (answered (s.at t) port c).setCode c (if x.data = 0x80 then 1 else 0) := by
      unfold State.acknowledge
      rw [if_pos ⟨hcode, by rw [hsafe]; decide⟩, if_neg h2']
      split <;> rfl
    have hcmp : (ended (s.at t) port).complete port x data = (answered (s.at t) port c).acknowledge x c := by
      unfold State.complete
      rw [hk, hx, hcode]
      rfl
    rw [hcmp, ha]
    unfold State.ackValue
    rw [hk, hx, hcode]
    rfl
  rw [hm] at e
  have hr1 := answered_regsOk hr' port c
  obtain ⟨hcnt, hkept⟩ := setC_ended hr' hp hr1 rfl c CTX_STATE (putBits ((answered (s.at t) port c).cw c CTX_STATE) 7 0 (if x.data = 0x80 then 1 else 0))
  have hset : ((answered (s.at t) port c).setCode c (if x.data = 0x80 then 1 else 0)).code c = (if x.data = 0x80 then 1 else 0) := code_setCode hr1 c (by split <;> decide)
  have hf : (((answered (s.at t) port c).setCode c (if x.data = 0x80 then 1 else 0)).target c).fails = 0 := answered_fails (s.at t) port c
  have hn := pump_taken ((answered (s.at t) port c).setCode c (if x.data = 0x80 then 1 else 0)) port
  exact ⟨_, e, (hn.code c).trans hset, (hn.fails c).trans hf, (hn.reg _).trans hcnt, kept_trans (m := (answered (s.at t) port c).setCode c (if x.data = 0x80 then 1 else 0)) hkept (kept_of_regs hn.regs), hn.mram⟩

/-- A poll of STATUS_WORD is taken in. -/
theorem complete_status {s : State} {port c : Nat} {data : List Byte} {x : DsTx} (hk : x.kind = .poll) (hx : x.ctx = some c) (hcode : x.code = 0x79) :
    ((ended s port).complete port x data).ackValue x = (answered s port c).takeStatus port x c (ofLe (data.take 2)) := by
  have hcmp : (ended s port).complete port x data = (answered s port c).takeStatus port x c (ofLe (data.take 2)) := by
    unfold State.complete
    rw [hk, hx, hcode]
    rfl
  rw [hcmp]
  unfold State.ackValue
  rw [hk]

/-- STATUS_WORD of a target that has just answered. -/
def statusRead (s : State) (p c w : Nat) : State := (answered s p c).measure (ctxAddr c POL_STSWORD) (Word.ofNat (w % 65536))

section StatusRead

variable {s : State} (h : RegsOk s) {p : Nat} (hp : p < 4) (c w : Nat)

include h hp

theorem statusRead_word : RegsOk (statusRead s p c w) ∧ (statusRead s p c w).cw c POL_STSWORD = Word.ofNat (w % 65536) ∧
    (statusRead s p c w).reg (DSP_TXCNT + p) = satInc (s.reg (DSP_TXCNT + p)) ∧ Kept s (statusRead s p c w) [DSP_TXCNT + p, ctxAddr c POL_STSWORD] := by
  have hr1 := answered_regsOk h p c
  obtain ⟨hcnt, hkept⟩ := setC_ended h hp hr1 rfl c POL_STSWORD (Word.ofNat (w % 65536))
  exact ⟨setReg_regsOk hr1 _ _, cw_setC_same hr1 c POL_STSWORD _, hcnt, hkept⟩

/-- The other words of the context. -/
theorem statusRead_cw {k : Nat} (hk : k ≠ POL_STSWORD) : (statusRead s p c w).cw c k = s.cw c k := by
  have := ctxAddr_ge c k
  obtain ⟨-, -, -, hkept⟩ := statusRead_word h hp c w
  refine hkept _ ?_
  simp only [List.mem_cons, List.not_mem_nil, or_false, DSP_TXCNT, ctxAddr]
  omega

end StatusRead

theorem complete_statusGood (port c t : Nat) (data : List Byte) (x : DsTx) (s : State) (hr : RegsOk s) (hp : port < 4) (hl : s.laneRuns = true) (hc : (s.port port).cur = some x)
    (hd : (s.port port).resetDue = false) (hk : x.kind = .poll) (hx : x.ctx = some c) (ht : s.isType c .pol = true) (hcode : x.code = 0x79) (hb : s.statusBad c (ofLe (data.take 2)) = false) :
    ∃ n, exec (.dsTransactionComplete port data t) s = .next n ∧ n.code c = (if s.code c = 2 then 1 else s.code c) ∧ n.cw c POL_STSWORD = Word.ofNat (ofLe (data.take 2) % 65536) ∧
      Kept s n [DSP_TXCNT + port, ctxAddr c CTX_STATE, ctxAddr c POL_STSWORD] ∧ n.mram = s.mram := by
  have e := complete_acts (t := t) (data := data) hr hl hc hd
  have hr' : RegsOk (s.at t) := hr
  rw [complete_status hk hx hcode] at e
  generalize ofLe (data.take 2) = w at e hb ⊢
  obtain ⟨hr1, hw, -, hkept⟩ := statusRead_word hr' hp c w
  have hcw {k : Nat} (hk : k ≠ POL_STSWORD) : (statusRead (s.at t) port c w).cw c k = s.cw c k := statusRead_cw hr' hp c w hk
  have hcode1 : (statusRead (s.at t) port c w).code c = s.code c := congrArg (fun w => bits w 7 0) (hcw (by decide))
  have hb1 : (statusRead (s.at t) port c w).statusBad c w = false := by
    unfold State.statusBad
    rw [hcw (by decide)]
    exact hb
  have hm : (answered (s.at t) port c).takeStatus port x c w = if s.code c = 2 then (statusRead (s.at t) port c w).setCode c 1 else statusRead (s.at t) port c w := by
    have ht' : ¬ (!(answered (s.at t) port c).isType c .pol) = true := by
      have : (answered (s.at t) port c).isType c .pol = true := ht
      rw [this]
      decide
    have hb2 : ¬ (statusRead (s.at t) port c w).statusBad c w = true := by rw [hb1]; decide
    rw [← hcode1]
    exact (if_neg ht').trans (if_neg hb2)
  have hmram : (statusRead (s.at t) port c w).mram = s.mram := rfl
  rw [hm] at e
  generalize statusRead (s.at t) port c w = m at *
  have hn := pump_taken (if s.code c = 2 then m.setCode c 1 else m) port
  refine ⟨_, e, (hn.code c).trans ?_, (hn.reg _).trans ?_, kept_trans (m := if s.code c = 2 then m.setCode c 1 else m) ?_ (kept_of_regs hn.regs), hn.mram.trans ?_⟩
  all_goals split
  · exact code_setCode hr1 c (by decide)
  · exact hcode1
  · exact (cw_setC_other hr1 c _ (by decide)).trans hw
  · exact hw
  · exact kept_trans (kept_mono (s := s.at t) hkept (by simp)) (kept_setReg hr1 _ (by simp))
  · exact kept_mono (s := s.at t) hkept (by simp)
  · exact hmram
  · exact hmram

/-- A reading of the output voltage is converted to its word (R419). -/
theorem complete_reading (port c t : Nat) (data : List Byte) (x : DsTx) (s : State) (hr : RegsOk s) (hu : canonical 0 s.updated = true) (hp : port < 4) (hl : s.laneRuns = true)
    (hc : (s.port port).cur = some x) (hd : (s.port port).resetDue = false) (hk : x.kind = .poll) (hx : x.ctx = some c) (hcode : x.code = 0x8B) :
    ∃ n, exec (.dsTransactionComplete port data t) s = .next n ∧ n.cw c CTX_VMEAS = toPU (s.puV c (s.voutVolts c (ofLe (data.take 2)))) ∧ n.updatedAt (ctxAddr c CTX_VMEAS) = n.now ∧
      Kept s n [DSP_TXCNT + port, ctxAddr c CTX_VMEAS, ctxAddr c CTX_STS] ∧ n.mram = s.mram := by
  have e := complete_acts (t := t) (data := data) hr hl hc hd
  have hr' : RegsOk (s.at t) := hr
  have hm : ((ended (s.at t) port).complete port x data).ackValue x = (answered (s.at t) port c).takeReading c 0x8B (ofLe (data.take 2)) := by
    have hcmp : (ended (s.at t) port).complete port x data = (answered (s.at t) port c).takeReading c 0x8B (ofLe (data.take 2)) := by
      unfold State.complete
      rw [hk, hx, hcode]
      rfl
    rw [hcmp]
    unfold State.ackValue
    rw [hk]
  generalize ofLe (data.take 2) = w at hm ⊢
  have hr1 := answered_regsOk hr' port c
  have hq : (answered (s.at t) port c).puV c ((answered (s.at t) port c).voutVolts c w) = s.puV c (s.voutVolts c w) := by
    have h1 : (answered (s.at t) port c).cw c CTX_VBASE = s.cw c CTX_VBASE := ended_cw hr' hp c _
    have h2 : ((answered (s.at t) port c).target c).mode = (s.target c).mode := by
      rw [answered, target_setTarget_same]
      rfl
    simp only [State.puV, State.voutVolts, State.voutExp, h1, h2]
  have hread : (answered (s.at t) port c).takeReading c 0x8B w = (answered (s.at t) port c).measurePU c CTX_VMEAS (s.puV c (s.voutVolts c w)) := (if_pos rfl).trans (by rw [hq])
  rw [hm, hread] at e
  generalize s.puV c (s.voutVolts c w) = q at e ⊢
  obtain ⟨-, hkept⟩ := setC_ended hr' hp hr1 rfl c CTX_VMEAS (toPU q)
  have hr2 : RegsOk ((answered (s.at t) port c).measure (ctxAddr c CTX_VMEAS) (toPU q)) := setReg_regsOk hr1 _ _
  have hw : ((answered (s.at t) port c).measure (ctxAddr c CTX_VMEAS) (toPU q)).cw c CTX_VMEAS = toPU q := cw_setC_same hr1 c CTX_VMEAS _
  have hk2 : Kept s ((answered (s.at t) port c).measure (ctxAddr c CTX_VMEAS) (toPU q)) [DSP_TXCNT + port, ctxAddr c CTX_VMEAS, ctxAddr c CTX_STS] :=
    kept_trans (kept_mono (s := s.at t) hkept (by simp)) (kept_of_regs rfl)
  have hupd : ((answered (s.at t) port c).measure (ctxAddr c CTX_VMEAS) (toPU q)).updatedAt (ctxAddr c CTX_VMEAS) = (s.at t).now := lookup_assign_same hu
  have hnow : ((answered (s.at t) port c).measure (ctxAddr c CTX_VMEAS) (toPU q)).now = (s.at t).now := rfl
  have hmram : ((answered (s.at t) port c).measure (ctxAddr c CTX_VMEAS) (toPU q)).mram = s.mram := rfl
  unfold State.measurePU State.measureAt State.onlyIf at e
  generalize (answered (s.at t) port c).measure (ctxAddr c CTX_VMEAS) (toPU q) = m at *
  have hn := pump_taken (if puOver q then m.sts c 2 else m) port
  refine ⟨_, e, (hn.reg _).trans ?_, (congrArg (fun u => lookup 0 u _) hn.updated).trans (Eq.trans ?_ hn.now.symm), kept_trans (m := if puOver q then m.sts c 2 else m) ?_ (kept_of_regs hn.regs), hn.mram.trans ?_⟩
  all_goals split
  · exact (cw_setC_other hr2 c _ (by decide)).trans hw
  · exact hw
  · exact hupd.trans hnow.symm
  · exact hupd.trans hnow.symm
  · exact kept_trans hk2 (kept_setReg hr2 _ (by simp))
  · exact hk2
  · exact hmram
  · exact hmram

/-! ### A target comes back online -/

theorem setTarget_regs (s : State) (c : Nat) (f : DsTarget → DsTarget) : (s.setTarget c f).regs = s.regs := rfl

theorem queueCmd_rest (s : State) (c code data : Nat) (safe : Bool) : s.queueCmd c code data safe = { s with dsTable := (s.queueCmd c code data safe).dsTable } := by
  unfold State.queueCmd
  split <;> rfl

/-- A rectifier's requalification reads VOUT_MODE first and forgets what was acknowledged (R427). -/
theorem qualifyTarget_other {s : State} {c : Nat} (h : s.isType c .pol = false) :
    s.qualifyTarget c = (s.setTarget c (fun v => { v with mode := none, ackV := none, ackTrim := none })).queueCmd c 0x20 0 false := by
  have h' : ¬ ((s.setTarget c (fun v => { v with mode := none, ackV := none, ackTrim := none })).queueCmd c 0x20 0 false).isType c .pol = true := by
    rw [queueCmd_rest]
    exact Bool.eq_false_iff.mp h
  exact if_neg h'

theorem dsEvent_only (s : State) (p addr code ev status : Nat) (c : Option Nat) : OnlyRecorder s (s.dsEvent p addr code ev status c) := offerRec_only s _ _ _

/-- A context is of one type. -/
theorem isType_other {s : State} {c : Nat} {a b : CtxType} (h : s.isType c a = true) (hab : a ≠ b) : s.isType c b = false := by
  unfold State.isType at h ⊢
  cases hc : s.ctx? c with
  | none => rfl
  | some r =>
    rw [hc] at h
    have ha : r.typ = a := by simpa using h
    simpa [ha] using hab

/-- What a rectifier's return leaves. -/
structure BackOnline (s n : State) (c : Nat) : Prop where
  regsOk : RegsOk n
  offline : n.offline c = false
  mode : (n.target c).mode = none
  fails : (n.target c).fails = 0
  kept : Kept s n (ctxAddr c CTX_STATE :: recordWords)
  mram : n.mram = s.mram

theorem goOnline_back {s : State} (h : RegsOk s) {p c : Nat} (ho : s.offline c = true) (ht : s.isType c .pol = false) : BackOnline s (s.goOnline p c) c := by
  have hno : ¬ (!s.offline c) = true := by rw [ho]; decide
  unfold State.goOnline
  rw [if_neg hno]
  have hr0 : RegsOk (s.setFlag (ctxAddr c CTX_STATE) 8 false) := setReg_regsOk h _ _
  have ho0 : (s.setFlag (ctxAddr c CTX_STATE) 8 false).offline c = false := flag_setFlag_same h (ctxAddr c CTX_STATE) false (by decide)
  have hk0 : Kept s (s.setFlag (ctxAddr c CTX_STATE) 8 false) (ctxAddr c CTX_STATE :: recordWords) := kept_setReg h _ (by simp)
  have hm0 : (s.setFlag (ctxAddr c CTX_STATE) 8 false).mram = s.mram := rfl
  have ht0 : (s.setFlag (ctxAddr c CTX_STATE) 8 false).isType c .pol = false := ht
  generalize s.setFlag (ctxAddr c CTX_STATE) 8 false = m0 at *
  extract_lets a s1 s2
  have hf0 : ((m0.setTarget c (fun v => { v with fails := 0 })).target c).fails = 0 := congrArg DsTarget.fails (target_setTarget_same m0 c (fun v => { v with fails := 0 }))
  have hrec : OnlyRecorder (m0.setTarget c (fun v => { v with fails := 0 })) s1 := dsEvent_only _ _ _ _ _ _ _
  obtain ⟨hr1, hk1⟩ := hrec.2 hr0
  have hd1 : s1.dsTargets = (m0.setTarget c (fun v => { v with fails := 0 })).dsTargets := hrec.field State.dsTargets fun _ _ _ => rfl
  have hi1 : s1.image = m0.image := hrec.field State.image fun _ _ _ => rfl
  have hm1 : s1.mram = m0.mram := hrec.field State.mram fun _ _ _ => rfl
  have hs2 : s2 = { s1 with timers := s2.timers } := by
    unfold s2
    split <;> rfl
  clear_value s1 s2
  have ht2 : s2.isType c .pol = false := by
    rw [hs2]
    simpa only [State.isType, State.ctx?, hi1] using ht0
  rw [qualifyTarget_other ht2, queueCmd_rest]
  have hv : (s2.setTarget c (fun v => { v with mode := none, ackV := none, ackTrim := none })).target c = { s2.target c with mode := none, ackV := none, ackTrim := none } := target_setTarget_same s2 c _
  have hd2 : s2.target c = s1.target c := by
    rw [hs2]
    rfl
  refine ⟨?_, ?_, congrArg DsTarget.mode hv, (congrArg DsTarget.fails hv).trans ((congrArg DsTarget.fails hd2).trans ((congrArg (fun l => ((find l c).getD {}).fails) hd1).trans hf0)), ?_, ?_⟩
  · rw [hs2]
    exact hr1
  · rw [hs2]
    exact (congrArg (fun w => bit w 8) (hk1 (ctxAddr c CTX_STATE) (ctxAddr_not_recordWord c _))).trans ho0
  · rw [hs2]
    exact kept_trans hk0 (kept_mono hk1 fun a ha => List.mem_cons_of_mem _ ha)
  · rw [hs2]
    exact hm1.trans hm0

theorem complete_probe (port c t : Nat) (data : List Byte) (x : DsTx) (s : State) (hr : RegsOk s) (hp : port < 4) (hl : s.laneRuns = true) (hc : (s.port port).cur = some x)
    (hd : (s.port port).resetDue = false) (hk : x.kind = .probe) (hx : x.ctx = some c) (hcode : x.code = 0x79) (ht : s.isType c .rectifier = true) (ho : s.offline c = true) :
    ∃ n, exec (.dsTransactionComplete port data t) s = .next n ∧ n.offline c = false ∧ (n.target c).mode = none ∧ (n.target c).fails = 0 ∧
      Kept s n ([DSP_TXCNT + port, ctxAddr c CTX_STATE] ++ recordWords) ∧ n.mram = s.mram := by
  have e := complete_acts (t := t) (data := data) hr hl hc hd
  have hr' : RegsOk (s.at t) := hr
  have hnot : (answered (s.at t) port c).isType c .pol = false := isType_other (s := s) ht (by decide)
  have hm : ((ended (s.at t) port).complete port x data).ackValue x = (answered (s.at t) port c).goOnline port c := by
    have htake : (answered (s.at t) port c).takeStatus port x c (ofLe (data.take 2)) = answered (s.at t) port c := if_pos (by rw [hnot]; rfl)
    have hcmp : (ended (s.at t) port).complete port x data = ((answered (s.at t) port c).takeStatus port x c (ofLe (data.take 2))).goOnline port c := by
      unfold State.complete
      rw [hk, hx, hcode]
      rfl
    rw [hcmp, htake]
    unfold State.ackValue
    rw [hk]
  rw [hm] at e
  have ho' : (answered (s.at t) port c).offline c = true := (congrArg (fun w => bit w 8) (ended_cw hr' hp c CTX_STATE)).trans ho
  have hb := goOnline_back (p := port) (answered_regsOk hr' port c) ho' hnot
  have hkept : Kept s (answered (s.at t) port c) ([DSP_TXCNT + port, ctxAddr c CTX_STATE] ++ recordWords) := kept_mono (ended_kept hr' port) (by simp)
  have hmram : (answered (s.at t) port c).mram = s.mram := rfl
  generalize answered (s.at t) port c = m at *
  have hn := pump_taken (m.goOnline port c) port
  exact ⟨_, e, (hn.offline c).trans hb.offline, (hn.mode c).trans hb.mode, (hn.fails c).trans hb.fails,
    kept_trans hkept (kept_trans (m := m.goOnline port c) (kept_mono hb.kept fun a ha => List.mem_cons_of_mem _ ha) (kept_of_regs hn.regs)), hn.mram.trans (hb.mram.trans hmram)⟩

/-- A reset that waited for the transaction begins with its end (R457). -/
theorem complete_resets (port t : Nat) (data : List Byte) (x : DsTx) (s : State) (hr : RegsOk s) (hp : port < 4) (hl : s.laneRuns = false) (hc : (s.port port).cur = some x)
    (hd : (s.port port).resetDue = true) :
    ∃ n, exec (.dsTransactionComplete port data t) s = .next n ∧ n.flag RST_BLKSTS (2 + port) = true ∧ (n.port port).resetDue = false ∧ (n.port port).polls = [] ∧ (n.port port).cur = none ∧
      (n.port port).held = some (x, data) ∧ n.table port = s.table port ∧ Kept s n [DSP_TXCNT + port, RST_BLKSTS] ∧ n.mram = s.mram := by
  have hc' : ((s.at t).port port).cur = some x := hc
  have hr' : RegsOk (s.at t) := hr
  have hclear : (s.at t).clearTx port = ((s.at t).setPort port (fun e => { e with cur := none })).portReset port := if_pos (show ((s.at t).port port).resetDue = true from hd)
  unfold State.portReset at hclear
  have hp1 := port_setPort_same (s.at t) port (fun e => { e with cur := none })
  have hr1 : RegsOk (((s.at t).setPort port (fun e => { e with cur := none })).setFlag RST_BLKSTS (2 + port) true) := setReg_regsOk hr' _ _
  have hf1 : (((s.at t).setPort port (fun e => { e with cur := none })).setFlag RST_BLKSTS (2 + port) true).flag RST_BLKSTS (2 + port) = true :=
    flag_setFlag_same (s := (s.at t).setPort port _) hr' RST_BLKSTS true (by omega)
  have hk1 : Kept s (((s.at t).setPort port (fun e => { e with cur := none })).setFlag RST_BLKSTS (2 + port) true) [DSP_TXCNT + port, RST_BLKSTS] := kept_setReg (s := (s.at t).setPort port _) hr' _ (by simp)
  have hl1 : (((s.at t).setPort port (fun e => { e with cur := none })).setFlag RST_BLKSTS (2 + port) true).laneRuns = false :=
    (laneRuns_setReg (s := (s.at t).setPort port _) hr' _ (above_off (by decide))).trans hl
  have hcur : ((((s.at t).setPort port (fun e => { e with cur := none })).setFlag RST_BLKSTS (2 + port) true).port port).cur = none := congrArg DsPort.cur hp1
  have htab : (((s.at t).setPort port (fun e => { e with cur := none })).setFlag RST_BLKSTS (2 + port) true).table port = s.table port := rfl
  have hmram : (((s.at t).setPort port (fun e => { e with cur := none })).setFlag RST_BLKSTS (2 + port) true).mram = s.mram := rfl
  generalize ((s.at t).setPort port (fun e => { e with cur := none })).setFlag RST_BLKSTS (2 + port) true = m at *
  generalize hg : (fun e : DsPort => { e with resetDue := false, polls := [], pollDue := e.pollDue || !e.polls.isEmpty }) = g at hclear
  have hl2 : ¬ ((m.setPort port g).inc (DSP_TXCNT + port)).laneRuns = true := by
    rw [State.inc, laneRuns_setReg (s := m.setPort port g) hr1 _ (add_off DSP_TXCNT port)]
    exact Bool.eq_false_iff.mp hl1
  have e : exec (.dsTransactionComplete port data t) s = finish (s.at t) (((m.setPort port g).inc (DSP_TXCNT + port)).setPort port (fun e => { e with held := some (x, data) })) := by
    dsimp only [exec, execDsTransactionComplete]
    rw [hc', hclear]
    exact congrArg (finish (s.at t)) (if_neg hl2)
  have hq1 := port_setPort_same m port g
  have hq2 := port_setPort_same ((m.setPort port g).inc (DSP_TXCNT + port)) port (fun e => { e with held := some (x, data) })
  have hq3 : ((((m.setPort port g).inc (DSP_TXCNT + port)).setPort port (fun e => { e with held := some (x, data) })).port port) = { g (m.port port) with held := some (x, data) } := hq2.trans (by rw [← hq1]; rfl)
  subst hg
  refine ⟨_, e, ?_, congrArg DsPort.resetDue hq3, congrArg DsPort.polls hq3, (congrArg DsPort.cur hq3).trans hcur, congrArg DsPort.held hq3, htab, kept_trans hk1 (kept_setReg (s := m.setPort port _) hr1 _ (by simp)), hmram⟩
  exact (flag_setReg_other (s := m.setPort port _) hr1 _ _ (by simp only [RST_BLKSTS, DSP_TXCNT]; omega)).trans hf1

/-! ### A transaction fails -/

/-- What a failed transaction leaves at its port: the count, the bit of its kind, and the offered record (R423). -/
def portFailed (s : State) (p kind : Nat) (x : DsTx) : State :=
  (((s.setPort p (fun e => { e with cur := none })).inc (DSP_ERRCNT + p)).setFlag (DSP_STS + p) (3 + kind) true).dsEvent p x.addr x.code kind 0 x.ctx

/-- And at its target, before the third in a row takes it offline. -/
def targetFailed (s : State) (p kind : Nat) (x : DsTx) (c : Nat) : State :=
  let s1 := portFailed s p kind x
  let s2 := if s1.isType c .pol then s1.inc (ctxAddr c POL_ERRCNT) else s1
  let s3 := if kind = 1 then s2.polSts c 6 else if kind = 2 then s2.polSts c 7 else s2
  (s3.setPort p (fun e => { e with runFor := none })).setTarget c (fun v => { v with fails := v.fails + 1 })

theorem failTx_poll {s : State} {p kind c : Nat} {x : DsTx} (hc : (s.port p).cur = some x) (hd : (s.port p).resetDue = false) (hk : x.kind = .poll) (hx : x.ctx = some c) :
    s.failTx p kind = let m := targetFailed s p kind x c
      if 3 ≤ (m.target c).fails ∧ !m.offline c then ((m.goOffline p c).dsEvent p x.addr x.code 0x04 0 (some c)).portRaise p c (some x) 1102 false else m := by
  unfold State.failTx
  rw [hc]
  dsimp only
  rw [clearTx_eq hd, hk]
  unfold targetFailed portFailed
  rw [hx]
  rfl

theorem portFailed_only (s : State) (p kind : Nat) (x : DsTx) : OnlyRecorder (((s.setPort p (fun e => { e with cur := none })).inc (DSP_ERRCNT + p)).setFlag (DSP_STS + p) (3 + kind) true) (portFailed s p kind x) :=
  dsEvent_only _ _ _ _ _ _ _

section PortFailed

variable {s : State} (h : RegsOk s) {p : Nat} (hp : p < 4) (kind : Nat) (x : DsTx)

include h

include hp

theorem portFailed_words (hk : kind ≤ 3) : RegsOk (portFailed s p kind x) ∧ (portFailed s p kind x).reg (DSP_ERRCNT + p) = satInc (s.reg (DSP_ERRCNT + p)) ∧
    (portFailed s p kind x).flag (DSP_STS + p) (3 + kind) = true ∧ Kept s (portFailed s p kind x) ([DSP_ERRCNT + p, DSP_STS + p] ++ recordWords) := by
  have hrec := portFailed_only s p kind x
  have h1 : RegsOk ((s.setPort p (fun e => { e with cur := none })).inc (DSP_ERRCNT + p)) := setReg_regsOk (s := s.setPort p _) h _ _
  have hc1 : ((s.setPort p (fun e => { e with cur := none })).inc (DSP_ERRCNT + p)).reg (DSP_ERRCNT + p) = satInc (s.reg (DSP_ERRCNT + p)) := reg_setReg_same (s := s.setPort p _) h _ _
  have hk1 : Kept s ((s.setPort p (fun e => { e with cur := none })).inc (DSP_ERRCNT + p)) ([DSP_ERRCNT + p, DSP_STS + p] ++ recordWords) := kept_setReg (s := s.setPort p _) h _ (by simp)
  generalize (s.setPort p (fun e => { e with cur := none })).inc (DSP_ERRCNT + p) = m at *
  obtain ⟨h2, hk2⟩ := hrec.2 (setReg_regsOk h1 _ _)
  have hoff (a : Nat) (ha : 0x400 ≤ a) : a ∉ recordWords := by
    simp only [recordWords, BB_STS, BB_MISSCNT, BB_DROPCNT, List.mem_cons, List.not_mem_nil, or_false, not_or]
    omega
  refine ⟨h2, ?_, ?_, ?_⟩
  · exact (hk2 _ (hoff _ (by simp only [DSP_ERRCNT]; omega))).trans ((reg_setReg_other h1 _ (by simp only [DSP_ERRCNT, DSP_STS]; omega)).trans hc1)
  · exact (congrArg (fun w => bit w (3 + kind)) (hk2 _ (hoff _ (by simp only [DSP_STS]; omega)))).trans (flag_setFlag_same h1 _ true (by omega))
  · exact kept_trans hk1 (kept_trans (kept_setReg h1 _ (by simp)) (kept_mono hk2 fun a ha => List.mem_append_right _ ha))

end PortFailed

/-- What a failed transaction leaves of its port beside words and the recorder. -/
theorem portFailed_rest (s : State) (p kind : Nat) (x : DsTx) :
    (portFailed s p kind x).dsTargets = s.dsTargets ∧ (portFailed s p kind x).mram = s.mram ∧ (portFailed s p kind x).flt = s.flt ∧ (portFailed s p kind x).image = s.image ∧
      (portFailed s p kind x).nextImage = s.nextImage := by
  have h := portFailed_only s p kind x
  exact ⟨h.field State.dsTargets fun _ _ _ => rfl, h.field State.mram fun _ _ _ => rfl, h.field State.flt fun _ _ _ => rfl, h.field State.image fun _ _ _ => rfl, h.field State.nextImage fun _ _ _ => rfl⟩

theorem isType_of_image {s n : State} (h : n.image = s.image) (c : Nat) (ty : CtxType) : n.isType c ty = s.isType c ty := by
  simp only [State.isType, State.ctx?, h]

/-- A failure at a POL: its count and the bit of the cause (R423). -/
theorem targetFailed_pol {s : State} {p c : Nat} (ht : s.isType c .pol = true) (pec : Bool) (x : DsTx) :
    targetFailed s p (if pec then 2 else 1) x c =
      ((((portFailed s p (if pec then 2 else 1) x).inc (ctxAddr c POL_ERRCNT)).sts c (if pec then 7 else 6)).setPort p (fun e => { e with runFor := none })).setTarget c (fun v => { v with fails := v.fails + 1 }) := by
  have hi := (portFailed_rest s p (if pec then 2 else 1) x).2.2.2.1
  have ht1 : (portFailed s p (if pec then 2 else 1) x).isType c .pol = true := (isType_of_image hi c .pol).trans ht
  have hsts (m : State) (hm : m.isType c .pol = true) (b : Nat) : m.polSts c b = m.sts c b := if_pos hm
  unfold targetFailed
  dsimp only
  have ht2 : ((portFailed s p (if pec then 2 else 1) x).inc (ctxAddr c POL_ERRCNT)).isType c .pol = true := ht1
  rw [if_pos ht1, hsts _ ht2, hsts _ ht2]
  cases pec <;> rfl

/-- At a rectifier nothing is shown but at its port (R423). -/
theorem targetFailed_other {s : State} {p c : Nat} (ht : s.isType c .pol = false) (kind : Nat) (x : DsTx) :
    targetFailed s p kind x c = ((portFailed s p kind x).setPort p (fun e => { e with runFor := none })).setTarget c (fun v => { v with fails := v.fails + 1 }) := by
  have hi := (portFailed_rest s p kind x).2.2.2.1
  have ht1 : ¬ (portFailed s p kind x).isType c .pol = true := Bool.eq_false_iff.mp ((isType_of_image hi c .pol).trans ht)
  have hsts (b : Nat) : (portFailed s p kind x).polSts c b = portFailed s p kind x := if_neg ht1
  unfold targetFailed
  dsimp only
  rw [if_neg ht1, hsts, hsts, ite_self, ite_self]

/-- Words of a POL after a failure. -/
theorem polFailed_words {s : State} (h : RegsOk s) {p c : Nat} (hp : p < 4) (ht : s.isType c .pol = true) (pec : Bool) (x : DsTx) :
    let m := targetFailed s p (if pec then 2 else 1) x c
    RegsOk m ∧ m.reg (DSP_ERRCNT + p) = satInc (s.reg (DSP_ERRCNT + p)) ∧ m.flag (DSP_STS + p) (if pec then 5 else 4) = true ∧ m.cw c POL_ERRCNT = satInc (s.cw c POL_ERRCNT) ∧
      m.flag (ctxAddr c CTX_STS) (if pec then 7 else 6) = true ∧ Kept s m ([DSP_ERRCNT + p, DSP_STS + p, ctxAddr c POL_ERRCNT, ctxAddr c CTX_STS] ++ recordWords) := by
  rw [targetFailed_pol ht]
  obtain ⟨h1, hcnt, hsts, hk⟩ := portFailed_words h hp (if pec then 2 else 1) x (by split <;> decide)
  have hsts' : (portFailed s p (if pec then 2 else 1) x).flag (DSP_STS + p) (if pec then 5 else 4) = true := by cases pec <;> exact hsts
  have hcw : (portFailed s p (if pec then 2 else 1) x).cw c POL_ERRCNT = s.cw c POL_ERRCNT := by
    refine hk _ ?_
    have hrec := ctxAddr_not_recordWord c POL_ERRCNT
    have hge := ctxAddr_ge c POL_ERRCNT
    simp only [List.mem_append, hrec, or_false, List.mem_cons, List.not_mem_nil, DSP_ERRCNT, DSP_STS]
    omega
  have hk1 : Kept s (portFailed s p (if pec then 2 else 1) x) ([DSP_ERRCNT + p, DSP_STS + p, ctxAddr c POL_ERRCNT, ctxAddr c CTX_STS] ++ recordWords) := kept_mono hk (by simp +contextual)
  generalize portFailed s p (if pec then 2 else 1) x = m at *
  have h2 : RegsOk (m.inc (ctxAddr c POL_ERRCNT)) := setReg_regsOk h1 _ _
  have low {a : Nat} (ha : a < 0x1000) (k : Nat) : a ≠ ctxAddr c k := global_ne_ctxAddr c k ha
  have e1 : DSP_ERRCNT + p < 0x1000 := by simp only [DSP_ERRCNT]; omega
  have e2 : DSP_STS + p < 0x1000 := by simp only [DSP_STS]; omega
  refine ⟨setReg_regsOk h2 _ _, ?_, ?_, ?_, ?_, ?_⟩
  · exact (reg_setReg_other h2 _ (low e1 _)).trans ((reg_setReg_other h1 _ (low e1 _)).trans hcnt)
  · exact (flag_setReg_other h2 _ _ (low e2 _)).trans ((flag_setReg_other h1 _ _ (low e2 _)).trans hsts')
  · exact (reg_setReg_other h2 _ (by simp only [ctxAddr, POL_ERRCNT, CTX_STS]; omega)).trans ((reg_setReg_same h1 _ _).trans (congrArg satInc hcw))
  · exact flag_setFlag_same h2 _ true (by split <;> decide)
  · exact kept_trans hk1 (kept_trans (kept_setReg h1 _ (by simp)) (kept_setReg h2 _ (by simp)))

/-- What a failure leaves of its target beside words and the recorder: one more failure in a row. -/
structure OneMore (s n : State) (c : Nat) : Prop where
  fails : (n.target c).fails = (s.target c).fails + 1
  mram : n.mram = s.mram
  flt : n.flt = s.flt
  image : n.image = s.image
  nextImage : n.nextImage = s.nextImage

theorem targetFailed_oneMore (s : State) (p kind : Nat) (x : DsTx) (c : Nat) : OneMore s (targetFailed s p kind x c) c := by
  obtain ⟨hd, hm, hf, hi, hn⟩ := portFailed_rest s p kind x
  have hsts (m : State) (b : Nat) : m.polSts c b = { m with regs := (m.polSts c b).regs } := by
    unfold State.polSts
    split <;> rfl
  unfold targetFailed
  extract_lets s1 s2 s3
  have h2 : s2 = { s1 with regs := s2.regs } := by
    unfold s2
    split <;> rfl
  have h3 : s3 = { s2 with regs := s3.regs } := by
    unfold s3
    split
    · exact hsts _ _
    · split
      · exact hsts _ _
      · rfl
  clear_value s2 s3
  have hv (m : State) : ((m.setTarget c (fun v => { v with fails := v.fails + 1 })).target c).fails = (m.target c).fails + 1 := congrArg DsTarget.fails (target_setTarget_same m c (fun v => { v with fails := v.fails + 1 }))
  have ht : (s3.setPort p (fun e => { e with runFor := none })).dsTargets = s.dsTargets := by
    change s3.dsTargets = s.dsTargets
    rw [h3, h2]
    exact hd
  have hrest : s3.mram = s1.mram ∧ s3.flt = s1.flt ∧ s3.image = s1.image ∧ s3.nextImage = s1.nextImage := by
    rw [h3, h2]
    exact ⟨rfl, rfl, rfl, rfl⟩
  obtain ⟨em, ef, ei, en⟩ := hrest
  have hz : (s3.setPort p (fun e => { e with runFor := none })).target c = s.target c := by simp only [State.target, ht]
  exact ⟨(hv _).trans (by rw [hz]), em.trans hm, ef.trans hf, ei.trans hi, en.trans hn⟩

/-- A failure with its cause, as the bus has it. -/
theorem fail_eq {port t : Nat} {pec : Bool} {x : DsTx} {s : State} (hc : (s.port port).cur = some x) (hk : x.kind = .poll) (hpec : pec = true → x.pec = true) :
    exec (.dsTransactionFail port pec t) s = finish (s.at t) (((s.at t).failTx port (if pec then 2 else 1)).pump port) := by
  have hc' : ((s.at t).port port).cur = some x := hc
  cases pec with
  | false => rfl
  | true =>
    have hread : (x.pec && x.reads) = true := by
      rw [hpec rfl, DsTx.reads, hk]
      rfl
    dsimp only [exec, execDsTransactionFail]
    rw [hc']
    exact congrArg (finish (s.at t)) (if_pos hread)

/-- A failed poll of a POL that is not the third in a row (R423). -/
theorem fail_pol (port c t : Nat) (pec : Bool) (x : DsTx) (s : State) (hr : RegsOk s) (hp : port < 4) (_ : s.laneRuns = true) (hc : (s.port port).cur = some x) (hd : (s.port port).resetDue = false)
    (hk : x.kind = .poll) (hx : x.ctx = some c) (ht : s.isType c .pol = true) (hpec : pec = true → x.pec = true) (hf : (s.target c).fails < 2) :
    ∃ n, exec (.dsTransactionFail port pec t) s = .next n ∧ n.reg (DSP_ERRCNT + port) = satInc (s.reg (DSP_ERRCNT + port)) ∧ n.flag (DSP_STS + port) (if pec then 5 else 4) = true ∧
      n.cw c POL_ERRCNT = satInc (s.cw c POL_ERRCNT) ∧ n.flag (ctxAddr c CTX_STS) (if pec then 7 else 6) = true ∧ (n.target c).fails = (s.target c).fails + 1 ∧ n.offline c = s.offline c ∧
      Kept s n ([DSP_ERRCNT + port, DSP_STS + port, ctxAddr c POL_ERRCNT, ctxAddr c CTX_STS] ++ recordWords) ∧ n.mram = s.mram := by
  have e := fail_eq (t := t) hc hk hpec
  have hr' : RegsOk (s.at t) := hr
  rw [failTx_poll (s := s.at t) hc hd hk hx] at e
  obtain ⟨h1, hcnt, hsts, herr, hflag, hkept⟩ := polFailed_words hr' hp ht pec x
  have hmore := targetFailed_oneMore (s.at t) port (if pec then 2 else 1) x c
  generalize targetFailed (s.at t) port (if pec then 2 else 1) x c = m at *
  have hfew : ¬ (3 ≤ (m.target c).fails ∧ (!m.offline c) = true) := by
    have h3 : (m.target c).fails = (s.target c).fails + 1 := hmore.fails
    omega
  dsimp only at e
  rw [if_neg hfew] at e
  have hoff : m.offline c = s.offline c := by
    refine congrArg (fun w => bit w 8) (hkept (ctxAddr c CTX_STATE) ?_)
    rw [List.mem_append]
    rintro (h | h)
    · simp only [List.mem_cons, List.not_mem_nil, or_false, DSP_ERRCNT, DSP_STS, ctxAddr, CTX_STATE, CTX_STS, POL_ERRCNT] at h
      omega
    · exact ctxAddr_not_recordWord c _ h
  have hn := pump_taken m port
  exact ⟨_, e, (hn.reg _).trans hcnt, (hn.flag _ _).trans hsts, (hn.reg _).trans herr, (hn.flag _ _).trans hflag, (hn.fails c).trans hmore.fails, (hn.offline c).trans hoff,
    kept_trans (m := m) hkept (kept_of_regs hn.regs), hn.mram.trans hmore.mram⟩

/-- A PEC mismatch needs a read with PEC (R417). -/
theorem fail_noPec (port t : Nat) (x : DsTx) (s : State) (hc : (s.port port).cur = some x) (hn : x.pec = false ∨ x.reads = false) :
    ∃ n, exec (.dsTransactionFail port true t) s = .next n ∧ n.dsPorts = s.dsPorts ∧ n.dsTargets = s.dsTargets ∧ n.regs = s.regs ∧ n.flt = s.flt ∧ n.mram = s.mram := by
  have hc' : ((s.at t).port port).cur = some x := hc
  have hno : ¬ (x.pec && x.reads) = true := by rcases hn with h | h <;> simp [h]
  have e : exec (.dsTransactionFail port true t) s = finish (s.at t) (s.at t) := by
    dsimp only [exec, execDsTransactionFail]
    rw [hc']
    exact congrArg (finish (s.at t)) (if_neg hno)
  exact ⟨_, e, rfl, rfl, rfl, rfl, rfl⟩

theorem stretch_rectifier (port c t : Nat) (x : DsTx) (s : State) (hr : RegsOk s) (hp : port < 4) (hc : (s.port port).cur = some x) (hd : (s.port port).resetDue = false) (hk : x.kind = .poll)
    (hx : x.ctx = some c) (ht : s.isType c .rectifier = true) (hf : (s.target c).fails < 2) :
    ∃ n, exec (.dsStretchTimeout port t) s = .next n ∧ n.reg (DSP_ERRCNT + port) = satInc (s.reg (DSP_ERRCNT + port)) ∧ n.flag (DSP_STS + port) 6 = true ∧ (n.target c).fails = (s.target c).fails + 1 ∧
      Kept s n ([DSP_ERRCNT + port, DSP_STS + port] ++ recordWords) ∧ n.mram = s.mram := by
  have e : exec (.dsStretchTimeout port t) s = finish (s.at t) (((s.at t).failTx port 3).pump port) := rfl
  have hr' : RegsOk (s.at t) := hr
  rw [failTx_poll (s := s.at t) hc hd hk hx] at e
  have hnot : (s.at t).isType c .pol = false := isType_other (s := s.at t) ht (by decide)
  obtain ⟨h1, hcnt, hsts, hkept⟩ := portFailed_words hr' hp 3 x (by decide)
  have hmore := targetFailed_oneMore (s.at t) port 3 x c
  have hregs : (targetFailed (s.at t) port 3 x c).regs = (portFailed (s.at t) port 3 x).regs := by
    rw [targetFailed_other hnot]
    generalize portFailed (s.at t) port 3 x = m
    rfl
  generalize targetFailed (s.at t) port 3 x c = m at *
  have hfew : ¬ (3 ≤ (m.target c).fails ∧ (!m.offline c) = true) := by
    have h3 : (m.target c).fails = (s.target c).fails + 1 := hmore.fails
    omega
  dsimp only at e
  rw [if_neg hfew] at e
  have hn := pump_taken m port
  exact ⟨_, e, (hn.reg _).trans ((reg_of_regs hregs _).trans hcnt), (hn.flag _ _).trans ((congrArg (fun w => bit w 6) (reg_of_regs hregs _)).trans hsts), (hn.fails c).trans hmore.fails,
    kept_trans (m := m) (kept_trans (m := portFailed (s.at t) port 3 x) hkept (kept_of_regs hregs)) (kept_of_regs hn.regs), hn.mram.trans hmore.mram⟩

end Wire

end Sys2Proof
end
-- ==== Sys2Proof/Proofs/Shelf/BusFaults.lean ====
section
/-! O50, second part: raises against a POL, and a target that goes offline and stays it. -/

namespace Sys2Proof

open Machine

section Calm

set_option Elab.async false

/-! ### A raise against a POL -/

/-- The words of a context that a raise against it may touch. -/
def raisedWords (c : Nat) : List Nat := [ctxAddr c CTX_STATE, ctxAddr c CTX_STS, ctxAddr c CTX_SEV]

/-- A later state in which of the words from 0x400 on only those have changed, and a context's state code and offline bit have not. -/
def Calm (c : Nat) (s n : State) : Prop :=
  RegsOk s → RegsOk n ∧ (∀ a, 0x400 ≤ a → a ∉ raisedWords c → n.reg a = s.reg a) ∧ n.code c = s.code c ∧ n.offline c = s.offline c

variable {c : Nat} {s n : State}

theorem Calm.refl (s : State) : Calm c s s := fun h => ⟨h, fun _ _ _ => rfl, rfl, rfl⟩

theorem Calm.trans {m : State} (h : Calm c s n) (h' : Calm c n m) : Calm c s m := fun h0 => by
  obtain ⟨h1, hw, hc, ho⟩ := h h0
  obtain ⟨h2, hw', hc', ho'⟩ := h' h1
  exact ⟨h2, fun a ha hn => (hw' a ha hn).trans (hw a ha hn), hc'.trans hc, ho'.trans ho⟩

theorem Calm.ite {a b : State} {p : Prop} {d : Decidable p} (ha : Calm c s a) (hb : Calm c s b) : Calm c s (if p then a else b) := by
  split <;> assumption

theorem Calm.same {m : State} (h : Calm c s n) (e : m.regs = n.regs := by rfl) : Calm c s m :=
  h.trans fun h0 => ⟨(regsOk_of_regs e).mpr h0, fun a _ _ => reg_of_regs e a, congrArg (fun w => bits w 7 0) (reg_of_regs e _), congrArg (fun w => bit w 8) (reg_of_regs e _)⟩

/-- A write of a word below 0x400. -/
theorem Calm.low (h : Calm c s n) {a : Nat} {w : Word} (ha : a < 0x400 := by decide) : Calm c s (n.setReg a w) := by
  refine h.trans fun h0 => ?_
  have hne (k : Nat) : (n.setReg a w).cw c k = n.cw c k := reg_setReg_other h0 w (ctxAddr_ne_global c k (by omega))
  exact ⟨setReg_regsOk h0 _ _, fun b hb _ => reg_setReg_other h0 w (by omega), congrArg (fun w => bits w 7 0) (hne _), congrArg (fun w => bit w 8) (hne _)⟩

/-- A write of a word of the context beside its state. -/
theorem Calm.raised (h : Calm c s n) {k : Nat} {w : Word} (hk : ctxAddr c k ∈ raisedWords c) (hs : CTX_STATE ≠ k := by decide) : Calm c s (n.setC c k w) := by
  refine h.trans fun h0 => ?_
  have hst : (n.setC c k w).cw c CTX_STATE = n.cw c CTX_STATE := cw_setC_other h0 c w hs
  exact ⟨setReg_regsOk h0 _ _, fun b _ hb => reg_setReg_other h0 w (fun e => hb (e ▸ hk)), congrArg (fun w => bits w 7 0) hst, congrArg (fun w => bit w 8) hst⟩

theorem Calm.setSafe (h : Calm c s n) {b : Bool} : Calm c s (n.setSafe c b) := by
  refine h.trans fun h0 => ⟨setReg_regsOk h0 _ _, fun a _ ha => reg_setReg_other h0 _ (fun e => ha (by simp [raisedWords, e])), code_setSafe h0 c b, ?_⟩
  exact flag_setFlag_apart h0 (ctxAddr c CTX_STATE) b (by decide) (by decide)

theorem Calm.recorder (h : Calm c s n) {m : State} (e : OnlyRecorder n m) : Calm c s m := by
  refine h.trans fun h0 => ?_
  obtain ⟨h1, hk⟩ := e.2 h0
  have hlow : ∀ a ∈ recordWords, a < 0x400 := by decide
  have hcw : m.cw c CTX_STATE = n.cw c CTX_STATE := hk _ (ctxAddr_not_recordWord c _)
  exact ⟨h1, fun a ha _ => hk a (fun hm => by have := hlow a hm; omega), congrArg (fun w => bits w 7 0) hcw, congrArg (fun w => bit w 8) hcw⟩

theorem Calm.setWide (h : Calm c s n) {a k v : Nat} (ha : a + k ≤ 0x400) : Calm c s (n.setWide a k v) := by
  induction k generalizing n a v with
  | zero => exact h
  | succ k ih => exact ih (h.low (by omega)) (by omega)

theorem Calm.capture (h : Calm c s n) {r : Raise} {x e : Nat} {esc : Bool} : Calm c s (n.capture r x e esc) :=
  .ite h ((((h.low (a := FE_INFO)).low (a := FE_SRC)).low (a := FE_ADDR)).setWide (a := FE_TIME) (k := 4) (by decide))

theorem Calm.raiseCount (h : Calm c s n) {r : Raise} {e sev : Nat} : Calm c s (n.raiseCount r c e sev) := by
  unfold State.raiseCount
  extract_lets pend s1 flt s2
  have h1 : Calm c s s1 := .ite ((h.low (a := FLT_CNT)).low (a := FLT_ESCCNT)) (h.low (a := FLT_CNT))
  have h2 : Calm c s s2 := h1.same
  exact ((h2.raised (k := CTX_STS) (by simp [raisedWords])).raised (k := CTX_SEV) (by simp [raisedWords])).capture

theorem Calm.raiseLog (h : Calm c s n) {x : LogEntry} : Calm c s (n.raiseLog x) := by
  have h1 : Calm c s (n.recordEntry x).1 := by
    unfold State.recordEntry
    split
    · exact h.recorder (writeLane_only n _)
    · exact h
  exact .ite h1.same (h.low (a := FLT_LOGOVF))

theorem Calm.raiseBook (h : Calm c s n) {r : Raise} (hr : r.cls < 13) : Calm c s (n.raiseBook r c) := by
  have hn : ¬ 13 ≤ r.cls := by omega
  unfold State.raiseBook
  rw [if_neg hn]
  exact .ite h.same h

theorem Calm.raiseSnap (h : Calm c s n) {cls x : Nat} : Calm c s (n.raiseSnap cls x) := .ite h.same h

theorem Calm.raisePins (h : Calm c s n) {react : Nat} : Calm c s (n.raisePins react) :=
  have h1 : Calm c s (if react.testBit 1 then { n with flt := { n.flt with pulse := true } }.start .fltPulse else n) := .ite h.same h
  .ite (h1.low (a := HOST_ALERT)).same h1

/-- The safe state of a POL is a queued command (R353). -/
theorem Calm.applySafe (h : Calm c s n) (ht : n.isType c .pol = true) : Calm c s (n.applySafe c) := by
  obtain ⟨r, hc, hr⟩ : ∃ r, n.ctx? c = some r ∧ r.typ = .pol := by
    unfold State.isType at ht
    cases hc : n.ctx? c with
    | none => simp [hc] at ht
    | some r => exact ⟨r, rfl, by simpa [hc] using ht⟩
  have hx := ctx_number hc
  have hsafe : Calm c s (n.enterSafe r) := by
    unfold State.enterSafe
    rw [hr]
    dsimp only
    rw [hx]
    split
    · rw [queueCmd_rest]
      exact h.setSafe.same
    · rw [queueCmd_rest]
      exact h.setSafe.same
  unfold State.applySafe
  rw [hc]
  dsimp only
  rw [if_neg (by rw [hr]; decide), State.safeOne, hr]
  exact .ite h hsafe

/-- A raise against a POL of a class below 13 (R349 to R357). -/
theorem raise_calm {r : Raise} (hc : r.ctx = c) (ht : s.isType c .pol = true) (hcls : r.cls < 13) : Calm c s (s.raise r) := by
  have hx : s.raiseCtx r = c := by
    unfold State.raiseCtx
    rw [hc, if_pos (isType_isSome ht)]
  unfold State.raise
  rw [hx]
  refine .ite (.same (.refl s)) ?_
  extract_lets j e due force entry
  have hpins : Calm c s (((((s.raiseCount r c e j.1).raiseLog entry).raiseBook r c).raiseSnap r.cls c).raisePins j.2) := ((((Calm.refl s).raiseCount).raiseLog.raiseBook hcls).raiseSnap).raisePins
  have himg : (((((s.raiseCount r c e j.1).raiseLog entry).raiseBook r c).raiseSnap r.cls c).raisePins j.2).image = s.image :=
    OnlyFault.image (raisePins_fault (raiseSnap_fault (raiseBook_fault (raiseLog_fault (raiseCount_fault (onlyFault_refl s) _ _ _ _) _) _ _) _ _) _)
  exact .ite (hpins.applySafe ((isType_of_image himg c .pol).trans ht)) (.ite hpins.same hpins)

end Calm

section Offline

set_option Elab.async false

/-! ### A target stays offline -/

/-- A context is offline, the active image's records are bytes, and the image, the memory and the targets are those of an earlier state. -/
def StaysOff (c : Nat) (s₀ s : State) : Prop :=
  RegsOk s ∧ s.offline c = true ∧ (∀ im, s.image = some im → ByteImage im) ∧ s.image = s₀.image ∧ s.mram = s₀.mram ∧ s.dsTargets = s₀.dsTargets

variable {c : Nat} {s₀ s : State}

theorem StaysOff.same (h : StaysOff c s₀ s) {m : State} (e : (m.regs, m.image, m.mram, m.dsTargets) = (s.regs, s.image, s.mram, s.dsTargets) := by rfl) : StaysOff c s₀ m := by
  simp only [Prod.mk.injEq] at e
  obtain ⟨hr, hi, hm, ht⟩ := e
  obtain ⟨h1, h2, h3, h4, h5, h6⟩ := h
  exact ⟨(regsOk_of_regs hr).mpr h1, (congrArg (fun w => bit w 8) (reg_of_regs hr _)).trans h2, hi ▸ h3, hi.trans h4, hm.trans h5, ht.trans h6⟩

theorem StaysOff.ite {a b : State} {p : Prop} {d : Decidable p} (ha : StaysOff c s₀ a) (hb : StaysOff c s₀ b) : StaysOff c s₀ (if p then a else b) := by
  split <;> assumption

theorem StaysOff.forEach {α : Type} (h : StaysOff c s₀ s) {l : List α} {f : α → State → State} (hf : ∀ x ∈ l, ∀ m, StaysOff c s₀ m → StaysOff c s₀ (f x m)) : StaysOff c s₀ (s.forEach l f) := by
  unfold State.forEach
  induction l generalizing s with
  | nil => exact h
  | cons x l ih => exact ih (hf x (List.mem_cons_self ..) s h) (fun y hy => hf y (List.mem_cons_of_mem _ hy))

theorem StaysOff.onlyIf (h : StaysOff c s₀ s) {b : Bool} {f : State → State} (hf : ∀ m, StaysOff c s₀ m → StaysOff c s₀ (f m)) : StaysOff c s₀ (s.onlyIf b f) := .ite (hf s h) h

/-- A write that keeps bit 8 where it is the state word. -/
theorem StaysOff.setReg (h : StaysOff c s₀ s) {a : Nat} {w : Word} (hw : a = ctxAddr c CTX_STATE → bit w 8 = bit (s.reg a) 8) : StaysOff c s₀ (s.setReg a w) := by
  obtain ⟨h1, h2, h3, hkept⟩ := h
  refine ⟨setReg_regsOk h1 _ _, ?_, h3, hkept⟩
  by_cases ha : a = ctxAddr c CTX_STATE
  · subst ha
    exact (congrArg (fun w => bit w 8) (reg_setReg_same h1 _ w)).trans ((hw rfl).trans h2)
  · exact (congrArg (fun w => bit w 8) (reg_setReg_other h1 w (Ne.symm ha))).trans h2

/-- A write of a word of the core or of a global page. -/
theorem StaysOff.low (h : StaysOff c s₀ s) {a : Nat} {w : Word} (ha : a < 0x1000 := by decide) : StaysOff c s₀ (s.setReg a w) :=
  h.setReg fun e => absurd e (global_ne_ctxAddr c _ ha)

/-- A write of another word of a context block. -/
theorem StaysOff.setC (h : StaysOff c s₀ s) {d k : Nat} {w : Word} (hk : k ≠ CTX_STATE := by decide) (hk' : k < 0x40 := by decide) : StaysOff c s₀ (s.setC d k w) :=
  h.setReg fun e => by
    simp only [ctxAddr, CTX_STATE] at e hk
    omega

/-- Another flag or field of a state word. -/
theorem StaysOff.stateFlag (h : StaysOff c s₀ s) {d n : Nat} {b : Bool} (hn : 8 ≠ n := by decide) (hn' : n < 18 := by decide) : StaysOff c s₀ (s.setFlag (ctxAddr d CTX_STATE) n b) :=
  h.setReg fun _ => bit_putBit_other b hn' hn

theorem StaysOff.setCode (h : StaysOff c s₀ s) {d v : Nat} : StaysOff c s₀ (s.setCode d v) :=
  h.setReg fun _ => bit_putBits_other (by decide) (by decide) (.inr (by decide))

theorem StaysOff.setHeld (h : StaysOff c s₀ s) {d : Nat} {b : Bool} : StaysOff c s₀ (s.setHeld d b) := h.stateFlag

theorem StaysOff.setSafe (h : StaysOff c s₀ s) {d : Nat} {b : Bool} : StaysOff c s₀ (s.setSafe d b) := h.stateFlag

theorem StaysOff.sts (h : StaysOff c s₀ s) {d b : Nat} : StaysOff c s₀ (s.sts d b) := h.setC (d := d) (k := CTX_STS)

theorem StaysOff.setWide (h : StaysOff c s₀ s) {a n v : Nat} (ha : a + n ≤ 0x1000) : StaysOff c s₀ (s.setWide a n v) := by
  induction n generalizing s a v with
  | zero => exact h
  | succ n ih => exact ih (h.low (by omega)) (by omega)

theorem StaysOff.recorder (h : StaysOff c s₀ s) {m : State} (e : OnlyRecorder s m) : StaysOff c s₀ m := by
  obtain ⟨h1, h2, h3, h4, h5, h6⟩ := h
  obtain ⟨hr, hk⟩ := e.2 h1
  have hi : m.image = s.image := e.field State.image fun _ _ _ => rfl
  exact ⟨hr, (congrArg (fun w => bit w 8) (hk _ (ctxAddr_not_recordWord c _))).trans h2, hi ▸ h3, hi.trans h4, (e.field State.mram fun _ _ _ => rfl).trans h5,
    (e.field State.dsTargets fun _ _ _ => rfl).trans h6⟩

theorem StaysOff.start (h : StaysOff c s₀ s) {k : Timer} : StaysOff c s₀ (s.start k) := h.same

theorem StaysOff.stop (h : StaysOff c s₀ s) {k : Timer} : StaysOff c s₀ (s.stop k) := h.same

theorem StaysOff.clearCount (h : StaysOff c s₀ s) {k : Count} : StaysOff c s₀ (s.clearCount k) := h.same

theorem StaysOff.qualify (h : StaysOff c s₀ s) {k : Count} {b : Bool} : StaysOff c s₀ (s.qualify k b) := .ite h.same h.same

theorem StaysOff.markStale (h : StaysOff c s₀ s) {a : Nat} {b : Bool} : StaysOff c s₀ (s.markStale a b) := h.same

theorem StaysOff.setGrp (h : StaysOff c s₀ s) {d : Nat} {f : GroupVar → GroupVar} : StaysOff c s₀ (s.setGrp d f) := h.same

theorem StaysOff.setPhase (h : StaysOff c s₀ s) {p : Nat} {f : PhaseVar → PhaseVar} : StaysOff c s₀ (s.setPhase p f) := h.same

theorem StaysOff.setChan (h : StaysOff c s₀ s) {g : Nat} {f : ChanVar → ChanVar} : StaysOff c s₀ (s.setChan g f) := h.same

theorem StaysOff.offerRec (h : StaysOff c s₀ s) {code d : Nat} {p : List Byte} : StaysOff c s₀ (s.offerRec code d p) := h.recorder (offerRec_only s code d p)

theorem StaysOff.stsOffer (h : StaysOff c s₀ s) {d b : Nat} : StaysOff c s₀ (s.stsOffer d b) := h.sts.offerRec

/-! The safe states (R353). -/

theorem StaysOff.gateDown (h : StaysOff c s₀ s) {g : Nat} (hg : g < 256) : StaysOff c s₀ (s.gateDown g) := by
  have hends (m : State) (hm : StaysOff c s₀ m) : StaysOff c s₀ (m.holdsEnd g) := by
    unfold State.holdsEnd
    split
    · exact hm.stop.stop
    · exact hm
  have h1 (w : Word) : StaysOff c s₀ (s.setReg (GCH_STS + g) w) := h.low (by simp only [GCH_STS]; omega)
  exact .ite h (hends _ (h1 _).setChan.start.stop.stop.clearCount.clearCount)

/-- The channel of a context is a byte of its record. -/
theorem StaysOff.channel_lt (h : StaysOff c s₀ s) {d g : Nat} (hg : s.channelOf d = some g) : g < 256 := by
  obtain ⟨-, -, him, -⟩ := h
  unfold State.channelOf State.ctx? at hg
  cases hi : s.image with
  | none => simp [hi] at hg
  | some im =>
    cases hc : im.ctx? d with
    | none => simp [hi, hc] at hg
    | some r =>
      have hmem : r ∈ im.contexts := List.mem_of_find?_eq_some hc
      obtain ⟨-, ha, -, -⟩ := (him im hi).1 r hmem
      simp only [hi, Option.bind_some, hc] at hg
      split at hg
      · exact Option.some.inj hg ▸ ha
      · cases hg

theorem StaysOff.gateDownOf (h : StaysOff c s₀ s) {d : Nat} : StaysOff c s₀ (s.gateDownOf d) := by
  unfold State.gateDownOf
  split
  · next g hg => exact h.gateDown (h.channel_lt hg)
  · exact h

theorem StaysOff.clearLive (h : StaysOff c s₀ s) {d : Nat} : StaysOff c s₀ (s.clearLive d) := by
  unfold State.clearLive
  split
  · exact h.setC (k := BR_LIVE)
  · exact h.setC (k := BAT_PSTS)
  · exact h

theorem StaysOff.groupStop (h : StaysOff c s₀ s) {r : CtxRec} {lv : Level} : StaysOff c s₀ (s.groupStop r lv) := by
  have h1 : StaysOff c s₀ (s.forEach r.phases (fun p s => s.phaseStop lv p)) := h.forEach fun p hp m hm => by
    have := phases_lt hp
    have h1 (w : Word) : StaysOff c s₀ (m.setReg (PH_STS + p) w) := hm.low (by simp only [PH_STS]; omega)
    exact (h1 _).setPhase
  unfold State.groupStop
  extract_lets s1 s2 s3
  have h2 : StaysOff c s₀ s2 := .setGrp h1.setGrp
  have h3 : StaysOff c s₀ s3 := ((h2.setC (d := r.ctx) (k := GRP_NACT)).setC (d := r.ctx) (k := GRP_FMEAS)).stop
  exact h3.stop.stop.stop.stop.clearCount.clearCount

theorem StaysOff.drivePin (h : StaysOff c s₀ s) {i : Nat} : StaysOff c s₀ (s.drivePin i) := .ite h h.same

theorem StaysOff.throttle (h : StaysOff c s₀ s) {k : Nat} (hk : k < 16) : StaysOff c s₀ (s.throttle k) := by
  have h1 (m : State) (hm : StaysOff c s₀ m) : StaysOff c s₀ (((m.setFlag THR_LIVE k true).setFlag THR_STS k true).inc (THR_CNT + k)) :=
    ((hm.low (a := THR_LIVE)).low (a := THR_STS)).low (a := THR_CNT + k) (by simp only [THR_CNT]; omega)
  exact .ite h (.ite h.stop (h1 _ h.stop.drivePin).start)

theorem StaysOff.queueCmd (h : StaysOff c s₀ s) {d code data : Nat} {safe : Bool} : StaysOff c s₀ (s.queueCmd d code data safe) := by
  rw [queueCmd_rest]
  exact h.same

theorem StaysOff.railFall (h : StaysOff c s₀ s) {d : Nat} : StaysOff c s₀ (s.railFall d) := h.setCode.stop.stop.start

theorem StaysOff.dischargeOn (h : StaysOff c s₀ s) {d : Nat} : StaysOff c s₀ (s.dischargeOn d) := .ite h.start.sts h

theorem StaysOff.enterSafe (h : StaysOff c s₀ s) {r : CtxRec} : StaysOff c s₀ (s.enterSafe r) := by
  dsimp only [State.enterSafe]
  have h0 : StaysOff c s₀ (s.setSafe r.ctx true) := h.setSafe
  split
  · exact .ite h0.gateDownOf.setCode.sts h0
  · have h1 := h0.setC (d := r.ctx) (k := RECT_CTL) (w := putBit ((s.setSafe r.ctx true).reg (ctxAddr r.ctx RECT_CTL)) 0 false)
    exact .ite (.drivePin h1.same) h1
  · exact .ite h0.gateDownOf.clearLive.setCode.sts.stop (.ite ((h0.setC (d := r.ctx) (k := BAT_IDPERM)).setC (d := r.ctx) (k := CHG_ICREQ)) (h0.setC (d := r.ctx) (k := CHG_ICREQ)))
  · have h1 {lv : Level} : StaysOff c s₀ (((((s.setSafe r.ctx true).groupStop r lv).setCode r.ctx 7).sts r.ctx stsGroupLatch).setHeld r.ctx false) := h0.groupStop.setCode.sts.setHeld
    exact .ite h0 (.ite h1.start h1)
  · have h1 : StaysOff c s₀ (((((s.setSafe r.ctx true).gateDownOf r.ctx).clearLive r.ctx).setCode r.ctx 5).stop (.cool r.ctx)) := h0.gateDownOf.clearLive.setCode.stop
    have h2 := (h1.setC (d := r.ctx) (k := BR_COOLREM) (w := 0)).sts (d := r.ctx) (b := stsBranchLatch)
    split
    · next hk => exact h2.throttle hk.2
    · exact h2
  · exact .ite h0.queueCmd h0.queueCmd
  · split
    · exact .same (.onlyIf (.ite h0.railFall (.ite h0.setCode.stop h0)) (fun _ h => h.dischargeOn))
    · exact .onlyIf (.ite h0.railFall (.ite h0.setCode.stop h0)) (fun _ h => h.dischargeOn)
  · exact h0
  · exact h0

theorem StaysOff.safeOne (h : StaysOff c s₀ s) {r : CtxRec} : StaysOff c s₀ (s.safeOne r) := by
  dsimp only [State.safeOne]
  split
  · exact .ite (.forEach h.setSafe (fun _ _ _ h => .ite h h.enterSafe)) h.setSafe
  · exact h
  · exact .ite h h.enterSafe

theorem StaysOff.applySafe (h : StaysOff c s₀ s) {d : Nat} : StaysOff c s₀ (s.applySafe d) := by
  dsimp only [State.applySafe]
  split
  · exact h
  · exact .ite (.forEach (.ite (.forEach h.setSafe (fun k hk _ h => h.throttle (List.mem_range.mp hk))) h.setSafe) (fun _ _ _ h => h.safeOne)) h.safeOne

/-! A raise of a class that says nothing of a trial (R349 to R357). -/

theorem StaysOff.raise (h : StaysOff c s₀ s) {r : Raise} (hr : r.cls < 13) : StaysOff c s₀ (s.raise r) := by
  have hcount {d e sev : Nat} : StaysOff c s₀ (s.raiseCount r d e sev) := by
    unfold State.raiseCount
    extract_lets pend s1 flt s2
    have h1 : StaysOff c s₀ s1 := .onlyIf (h.low (a := FLT_CNT)) (fun _ h => h.low (a := FLT_ESCCNT))
    have h2 : StaysOff c s₀ s2 := h1.same
    have h3 (m : State) (hm : StaysOff c s₀ m) {esc : Bool} : StaysOff c s₀ (m.capture r d e esc) :=
      .ite hm ((((hm.low (a := FE_INFO)).low (a := FE_SRC)).low (a := FE_ADDR)).setWide (a := FE_TIME) (n := 4) (by decide))
    exact h3 _ (h2.sts.setC (d := d) (k := CTX_SEV))
  have hlog (m : State) (hm : StaysOff c s₀ m) {x : LogEntry} : StaysOff c s₀ (m.raiseLog x) := by
    have h1 : StaysOff c s₀ (m.recordEntry x).1 := by
      unfold State.recordEntry
      split
      · exact hm.recorder (writeLane_only m _)
      · exact hm
    exact .ite h1.same (hm.low (a := FLT_LOGOVF))
  have hbook (m : State) (hm : StaysOff c s₀ m) {d : Nat} : StaysOff c s₀ (m.raiseBook r d) := by
    have hn : ¬ 13 ≤ r.cls := by omega
    unfold State.raiseBook
    rw [if_neg hn]
    exact .ite hm.same hm
  have hpins (m : State) (hm : StaysOff c s₀ m) {react : Nat} : StaysOff c s₀ (m.raisePins react) :=
    have h1 : StaysOff c s₀ (if react.testBit 1 then { m with flt := { m.flt with pulse := true } }.start .fltPulse else m) := .ite hm.same hm
    .ite (.same (h1.low (a := HOST_ALERT))) h1
  have hsnap (m : State) (hm : StaysOff c s₀ m) {cls d : Nat} : StaysOff c s₀ (m.raiseSnap cls d) := .ite hm.same hm
  have hact (m : State) (hm : StaysOff c s₀ m) {d : Nat} {force due : Bool} : StaysOff c s₀ (m.raiseAct d force due) := .ite hm.applySafe (.ite hm.same hm)
  exact .ite h.same (hact _ (hpins _ (hsnap _ (hbook _ (hlog _ hcount)))))

/-! The zones that take their reading from a target (R373, R374). -/

theorem StaysOff.onServedGroup (h : StaysOff c s₀ s) {z : CtxRec} {f : State → CtxRec → State} (hf : ∀ m r, StaysOff c s₀ m → StaysOff c s₀ (f m r)) : StaysOff c s₀ (s.onServedGroup z f) := by
  unfold State.onServedGroup
  split
  · exact .ite (hf s _ h) h
  · exact h

theorem StaysOff.groupThermal (h : StaysOff c s₀ s) {r : CtxRec} : StaysOff c s₀ (s.groupThermal r) := .ite h.groupStop.setCode.setHeld.sts h

theorem StaysOff.zoneRaise (h : StaysOff c s₀ s) {z : CtxRec} {site : Nat} : StaysOff c s₀ (s.zoneRaise z site) := .ite (h.raise (show 2 < 13 by decide)) (h.raise (show 2 < 13 by decide))

theorem StaysOff.zoneWarn (h : StaysOff c s₀ s) {z : CtxRec} : StaysOff c s₀ (s.zoneWarn z) := .onServedGroup h.stsOffer (fun _ _ h => h.stsOffer)

theorem StaysOff.zoneEnter (h : StaysOff c s₀ s) {z : CtxRec} {code : Nat} : StaysOff c s₀ (s.zoneEnter z code) := by
  dsimp only [State.zoneEnter]
  split
  · exact h
  · split
    · exact h.setCode.zoneWarn
    · exact .zoneRaise (.onServedGroup (.sts (.ite h.setCode h.setCode.zoneWarn)) (fun _ _ h => h.groupThermal))
    · exact h.setCode.sts.zoneRaise
    · exact h.setCode

theorem StaysOff.measure (h : StaysOff c s₀ s) {d k : Nat} {w : Word} (hk : k ≠ CTX_STATE := by decide) (hk' : k < 0x40 := by decide) : StaysOff c s₀ (s.measure (ctxAddr d k) w) :=
  .same (h.setC (d := d) (w := w) hk hk')

theorem StaysOff.zoneSample (h : StaysOff c s₀ s) {z : CtxRec} {t : Option Rat} : StaysOff c s₀ (s.zoneSample z t) := by
  dsimp only [State.zoneSample]
  split
  · exact .ite h.markStale.qualify.clearCount.clearCount.clearCount.clearCount.clearCount.zoneEnter h.markStale.qualify.clearCount.clearCount.clearCount.clearCount.clearCount
  · next t =>
    have hmeas : StaysOff c s₀ (s.measureT z.ctx CTX_TMEAS t) := .onlyIf h.measure (fun _ h => h.sts)
    exact .ite (.onServedGroup hmeas.markStale.setC.clearCount.qualify.qualify.qualify.qualify.qualify.zoneEnter (fun _ _ h => h.groupThermal))
      hmeas.markStale.setC.clearCount.qualify.qualify.qualify.qualify.qualify.zoneEnter

theorem StaysOff.zoneUpdate (h : StaysOff c s₀ s) {z : CtxRec} {t : Option Rat} : StaysOff c s₀ (s.zoneUpdate z t) := by
  have hserved (m : State) (hm : StaysOff c s₀ m) {d : Nat} : StaysOff c s₀ (m.servedTemp d) := by
    unfold State.servedTemp
    split
    · exact hm.measure
    · exact hm
  dsimp only [State.zoneUpdate]
  split
  · exact .ite h.zoneSample (hserved _ h.zoneSample)
  · exact h.zoneSample

theorem StaysOff.reportedZones (h : StaysOff c s₀ s) {d : Nat} : StaysOff c s₀ (s.reportedZones d) := .ite h (.forEach h (fun _ _ _ h => h.zoneUpdate))

end Offline

section Outcomes

set_option Elab.async false

/-- A port's raise against a POL stands (R423, R425). -/
theorem portRaise_faulted {m : State} {p c site : Nat} {x : Option DsTx} {lane : Bool} (ht : m.isType c .pol = true) (h : lane = false ∨ m.flt.matches_ = []) :
    Faulted (m.portRaise p c x site lane) c 11 := by
  have hx (r : Raise) (hr : r.ctx = c) : m.raiseCtx r = c := by
    unfold State.raiseCtx
    rw [hr, if_pos (isType_isSome ht)]
  have hf (r : Raise) (hr : r.ctx = c) (hl : r.lane = lane) : Faulted (m.raise r) c r.cls := by
    have := raise_faulted m r (by rcases h with h | h <;> simp [hl, h])
    rwa [hx r hr] at this
  exact hf _ rfl rfl

/-- A STATUS_WORD that shows a fault gives a POL state 2 with class 11 (R425). -/
theorem complete_statusBad (port c t : Nat) (data : List Byte) (x : DsTx) (s : State) (hr : RegsOk s) (hp : port < 4) (hl : s.laneRuns = true) (hc : (s.port port).cur = some x)
    (hd : (s.port port).resetDue = false) (hk : x.kind = .poll) (hx : x.ctx = some c) (ht : s.isType c .pol = true) (hcode : x.code = 0x79) (hb : s.statusBad c (ofLe (data.take 2)) = true)
    (h2 : s.code c ≠ 2) (hmatch : s.flt.matches_ = []) :
    ∃ n, exec (.dsTransactionComplete port data t) s = .next n ∧ n.code c = 2 ∧ Faulted n c 11 ∧ n.cw c POL_STSWORD = Word.ofNat (ofLe (data.take 2) % 65536) ∧
      n.reg (DSP_TXCNT + port) = satInc (s.reg (DSP_TXCNT + port)) ∧ n.mram = s.mram := by
  have e := complete_acts (t := t) (data := data) hr hl hc hd
  have hr' : RegsOk (s.at t) := hr
  rw [complete_status hk hx hcode] at e
  generalize ofLe (data.take 2) = w at e hb ⊢
  obtain ⟨hr1, hw, hcnt, -⟩ := statusRead_word hr' hp c w
  have hcw {k : Nat} (hk : k ≠ POL_STSWORD) : (statusRead (s.at t) port c w).cw c k = s.cw c k := statusRead_cw hr' hp c w hk
  have hcode1 : (statusRead (s.at t) port c w).code c = s.code c := congrArg (fun w => bits w 7 0) (hcw (by decide))
  have hb1 : (statusRead (s.at t) port c w).statusBad c w = true := by
    unfold State.statusBad
    rw [hcw (by decide)]
    exact hb
  have hm : (answered (s.at t) port c).takeStatus port x c w = ((statusRead (s.at t) port c w).setCode c 2).portRaise port c (some x) 1101 true := by
    have ht' : ¬ (!(answered (s.at t) port c).isType c .pol) = true := by
      have : (answered (s.at t) port c).isType c .pol = true := ht
      rw [this]
      decide
    have h2' : ¬ (statusRead (s.at t) port c w).code c = 2 := fun h => h2 (hcode1.symm.trans h)
    exact (if_neg ht').trans ((if_pos hb1).trans (if_neg h2'))
  rw [hm] at e
  have ht1 : ((statusRead (s.at t) port c w).setCode c 2).isType c .pol = true := ht
  have hmatch1 : ((statusRead (s.at t) port c w).setCode c 2).flt.matches_ = [] := hmatch
  have hmram1 : ((statusRead (s.at t) port c w).setCode c 2).mram = s.mram := rfl
  have hr2 : RegsOk ((statusRead (s.at t) port c w).setCode c 2) := setReg_regsOk hr1 _ _
  have hc2 : ((statusRead (s.at t) port c w).setCode c 2).code c = 2 := code_setCode hr1 c (by decide)
  have hw2 : ((statusRead (s.at t) port c w).setCode c 2).cw c POL_STSWORD = Word.ofNat (w % 65536) := (cw_setC_other hr1 c _ (by decide)).trans hw
  have hcnt2 : ((statusRead (s.at t) port c w).setCode c 2).reg (DSP_TXCNT + port) = satInc (s.reg (DSP_TXCNT + port)) :=
    (reg_setReg_other hr1 _ (global_ne_ctxAddr c _ (by simp only [DSP_TXCNT]; omega))).trans hcnt
  generalize (statusRead (s.at t) port c w).setCode c 2 = m at *
  have hfault : Faulted (m.portRaise port c (some x) 1101 true) c 11 := portRaise_faulted ht1 (.inr hmatch1)
  have hcalm : Calm c m (m.portRaise port c (some x) 1101 true) := raise_calm rfl ht1 (by decide : (11 : Nat) < 13)
  have hmram : (m.portRaise port c (some x) 1101 true).mram = m.mram := OnlyFault.mram (raise_fault (onlyFault_refl m) _)
  obtain ⟨-, hword, hcode2, -⟩ := hcalm hr2
  generalize m.portRaise port c (some x) 1101 true = y at *
  have hn := pump_taken y port
  refine ⟨_, e, (hn.code c).trans (hcode2.trans hc2), ?_, (hn.reg _).trans ((hword _ ?_ ?_).trans hw2), (hn.reg _).trans ((hword _ ?_ ?_).trans hcnt2), hn.mram.trans (hmram.trans hmram1)⟩
  · unfold Faulted
    rw [show (y.pump port).flt = y.flt from hn.flt]
    exact hfault
  · have := ctxAddr_ge c POL_STSWORD
    omega
  · simp [raisedWords, ctxAddr]
  · simp only [DSP_TXCNT]
    omega
  · simp only [raisedWords, ctxAddr, DSP_TXCNT, List.mem_cons, List.not_mem_nil, or_false]
    omega

/-- A target that goes offline: its bit stands whatever its zones then do, its failures are over, and the memory is as it was (R423). -/
theorem goOffline_stays {m : State} {p : Nat} (h : RegsOk m) (him : ∀ im, m.image = some im → ByteImage im) (c : Nat) :
    StaysOff c (m.goOffline p c) (m.goOffline p c) ∧ ((m.goOffline p c).target c).fails = 0 ∧ (m.goOffline p c).image = m.image ∧ (m.goOffline p c).mram = m.mram := by
  have h0 : StaysOff c m (m.setFlag (ctxAddr c CTX_STATE) 8 true) := ⟨setReg_regsOk h _ _, flag_setFlag_same h (ctxAddr c CTX_STATE) true (by decide), him, rfl, rfl, rfl⟩
  have h1 : StaysOff c m ((m.setFlag (ctxAddr c CTX_STATE) 8 true).polSts c 8) := .ite h0.sts h0
  unfold State.goOffline
  extract_lets r s1 s2
  have h2 : StaysOff c m s2 := h1.same
  have hz : ((s2.setTarget c (fun v => { v with fails := 0 })).target c).fails = 0 := congrArg DsTarget.fails (target_setTarget_same s2 c (fun v => { v with fails := 0 }))
  obtain ⟨hr, ho, hi, hi', hm, -⟩ := h2
  have h3 : StaysOff c (s2.setTarget c (fun v => { v with fails := 0 })) (s2.setTarget c (fun v => { v with fails := 0 })) := ⟨hr, ho, hi, rfl, rfl, rfl⟩
  have h4 : StaysOff c (s2.setTarget c (fun v => { v with fails := 0 })) ((s2.setTarget c (fun v => { v with fails := 0 })).startOnce (.probe p ((r.map CtxRec.dsAddr).getD 0))) := .ite h3 h3.start
  obtain ⟨er, eo, ei, ei', em, ed⟩ := h4.reportedZones (d := c)
  exact ⟨⟨er, eo, ei, rfl, rfl, rfl⟩, (congrArg (fun l => ((find l c).getD {}).fails) ed).trans hz, ei'.trans hi', em.trans hm⟩

/-- The third failure in a row takes a POL offline with class 11 (R423). -/
theorem fail_offline (port c t : Nat) (pec : Bool) (x : DsTx) (s : State) (hr : RegsOk s) (him : ImagesFit s) (hp : port < 4) (_ : s.laneRuns = true) (hc : (s.port port).cur = some x)
    (hd : (s.port port).resetDue = false) (hk : x.kind = .poll) (hx : x.ctx = some c) (ht : s.isType c .pol = true) (hpec : pec = true → x.pec = true) (hf : (s.target c).fails = 2) (ho : s.offline c = false) :
    ∃ n, exec (.dsTransactionFail port pec t) s = .next n ∧ n.offline c = true ∧ (n.target c).fails = 0 ∧ Faulted n c 11 ∧ n.mram = s.mram := by
  have e := fail_eq (t := t) hc hk hpec
  have hr' : RegsOk (s.at t) := hr
  rw [failTx_poll (s := s.at t) hc hd hk hx] at e
  obtain ⟨h1, -, -, -, -, hkept⟩ := polFailed_words hr' hp ht pec x
  have hmore := targetFailed_oneMore (s.at t) port (if pec then 2 else 1) x c
  generalize targetFailed (s.at t) port (if pec then 2 else 1) x c = m at *
  have hoff : m.offline c = false := by
    refine (congrArg (fun w => bit w 8) (hkept (ctxAddr c CTX_STATE) ?_)).trans ho
    rw [List.mem_append]
    rintro (h | h)
    · simp only [List.mem_cons, List.not_mem_nil, or_false, DSP_ERRCNT, DSP_STS, ctxAddr, CTX_STATE, CTX_STS, POL_ERRCNT] at h
      omega
    · exact ctxAddr_not_recordWord c _ h
  have hthree : 3 ≤ (m.target c).fails ∧ (!m.offline c) = true := by
    have h3 : (m.target c).fails = (s.target c).fails + 1 := hmore.fails
    exact ⟨by omega, by rw [hoff]; rfl⟩
  dsimp only at e
  rw [if_pos hthree] at e
  have himg : ∀ im, m.image = some im → ByteImage im := by
    rw [hmore.image]
    exact him.1
  obtain ⟨hstays, hfails, himage, hmram1⟩ := goOffline_stays (p := port) h1 himg c
  have hmram := hmram1.trans hmore.mram
  have htype : (m.goOffline port c).isType c .pol = true := (isType_of_image (himage.trans hmore.image) c .pol).trans ht
  generalize m.goOffline port c = g at *
  have hev := hstays.recorder (dsEvent_only g port x.addr x.code 0x04 0 (some c))
  have htype' : (g.dsEvent port x.addr x.code 0x04 0 (some c)).isType c .pol = true :=
    (isType_of_image ((dsEvent_only g port x.addr x.code 0x04 0 (some c)).field State.image fun _ _ _ => rfl) c .pol).trans htype
  generalize g.dsEvent port x.addr x.code 0x04 0 (some c) = y at *
  have hfault : Faulted (y.portRaise port c (some x) 1102 false) c 11 := portRaise_faulted htype' (.inl rfl)
  obtain ⟨-, hoffn, -, -, hmramn, hdsn⟩ : StaysOff c g (y.portRaise port c (some x) 1102 false) := hev.raise (show 11 < 13 by decide)
  generalize y.portRaise port c (some x) 1102 false = z at *
  have hn := pump_taken z port
  refine ⟨_, e, (hn.offline c).trans hoffn, (hn.fails c).trans ?_, ?_, hn.mram.trans (hmramn.trans hmram)⟩
  · exact (congrArg (fun l => ((find l c).getD {}).fails) hdsn).trans hfails
  · unfold Faulted
    rw [show (z.pump port).flt = z.flt from hn.flt]
    exact hfault

/-- Settles O50: results held and acted upon, failures counted, and the third in a row. -/
theorem downstreamResultsAndFailuresAct : Obligations.DownstreamResultsAndFailuresAct :=
  ⟨complete_holds, complete_operation, complete_statusBad, complete_statusGood, complete_reading, complete_probe, complete_resets, fail_pol, fail_offline, fail_noPec, stretch_rectifier⟩

end Outcomes

end Sys2Proof
end
-- ==== Sys2Proof/Proofs/Shelf/Links.lean ====
section
/-! O53: the Utwiesk ports and their frames. -/

namespace Sys2Proof

open Machine

section Links

set_option Elab.async false

/-! ### Ports and their states -/

theorem linkState_setLinkState_same {s : State} (h : RegsOk s) (down : Bool) {v : Nat} (hv : v < 4) : (s.setLinkState down v).linkState down = v := by
  cases down
  · exact (fld_setFld_same h CASC_STATE (by decide) (by decide)).trans (Nat.mod_eq_of_lt hv)
  · exact (fld_setFld_same h CASC_STATE (by decide) (by decide)).trans (Nat.mod_eq_of_lt hv)

theorem linkState_setLinkState_other {s : State} (h : RegsOk s) (down : Bool) (v : Nat) : (s.setLinkState down v).linkState (!down) = s.linkState (!down) := by
  cases down
  · exact fld_setFld_apart h CASC_STATE (by decide) (by decide) (.inr (by decide))
  · exact fld_setFld_apart h CASC_STATE (by decide) (by decide) (.inl (by decide))

theorem setLinkState_regs (s : State) (down : Bool) (v : Nat) : ∃ w, s.setLinkState down v = s.setReg CASC_STATE w := by cases down <;> exact ⟨_, rfl⟩

theorem setLinkState_kept {s : State} (h : RegsOk s) (down : Bool) (v : Nat) : RegsOk (s.setLinkState down v) ∧ Kept s (s.setLinkState down v) [CASC_STATE] := by
  obtain ⟨w, e⟩ := setLinkState_regs s down v
  rw [e]
  exact ⟨setReg_regsOk h _ _, kept_setReg h w (by simp)⟩

/-- The port's state stands in its word. -/
theorem linkState_of_word {s n : State} (h : n.reg CASC_STATE = s.reg CASC_STATE) (down : Bool) : n.linkState down = s.linkState down := by
  cases down <;> exact congrArg (fun w => bits w _ _) h

theorem linkEvent_only (s : State) (down : Bool) (ev : Nat) : OnlyRecorder s (s.linkEvent down ev) := offerRec_only s _ _ _

/-- A receiver in no Dormant entry has nothing to wake. -/
theorem received_listens {s : State} (h : Listens s) (down : Bool) (f : State → State) : s.received down f = f s := by
  obtain ⟨hd, hw⟩ := h
  have hwake : s.wakeEvent 5 = s := by
    have h1 : s.abortEntry 5 = s := by
      unfold State.abortEntry
      rw [hw]
      simp only [Bool.false_eq_true, if_false, hd, false_and]
      split
      · rfl
      · split <;> rfl
    have h2 : s.wakeBy 5 = s := if_neg fun hx => hd hx.1
    unfold State.wakeEvent
    rw [h1, h2, ite_self]
  unfold State.received State.linkActivity
  rw [hwake, ite_self, if_neg hd]

/-- A frame that goes out on a port that is Up or, as a HELLO, in its handshake (R437). -/
theorem send_eq {s : State} {down : Bool} {typ dest : Nat} {p : List Byte} (h : s.linkState down = linkIsUp ∨ s.linkState down = linkHandshake ∧ typ = 1) :
    s.send down typ dest p = { s.setLink down (fun q => { q with sent := (q.sent + 1) % 256 }) with
      casc := { (s.setLink down (fun q => { q with sent := (q.sent + 1) % 256 })).casc with out := s.casc.out ++ [(down, frameBytes typ s.cpos dest (s.link down).sent p)] } } := by
  have hno : ¬ (s.linkState down < linkHandshake ∨ s.linkState down = linkHandshake ∧ typ ≠ 1) := by
    rcases h with h | ⟨h, ht⟩
    · rw [h]
      simp [linkIsUp, linkHandshake]
    · rw [h]
      simp [ht]
  unfold State.send
  rw [if_neg hno]
  cases down <;> rfl

/-- Nothing has changed but what is kept of the ports. -/
def OnlyCasc (s n : State) : Prop := n = { s with casc := n.casc }

theorem send_casc (s : State) (down : Bool) (typ dest : Nat) (p : List Byte) : OnlyCasc s (s.send down typ dest p) := by
  unfold State.send
  split
  · rfl
  · rfl

theorem OnlyCasc.regs {s n : State} (h : OnlyCasc s n) : n.regs = s.regs := by rw [h]

theorem OnlyCasc.mram {s n : State} (h : OnlyCasc s n) : n.mram = s.mram := by rw [h]

theorem OnlyCasc.timers {s n : State} (h : OnlyCasc s n) : n.timers = s.timers := by rw [h]

theorem running_of_timers {s n : State} (h : n.timers = s.timers) (k : Timer) : n.running k = s.running k := by simp only [State.running, h]

/-- A raise against the shelf stands (R349). -/
theorem raise_faulted_shelf {m : State} (r : Raise) (hc : r.ctx = 0) (hl : r.lane = false) : Faulted (m.raise r) 0 r.cls := by
  have hx : m.raiseCtx r = 0 := by
    unfold State.raiseCtx
    rw [hc, ite_self]
  have := raise_faulted m r (by rw [hl]; rfl)
  rwa [hx] at this

/-- Outside Dormant a port whose state allows it sends its HELLO on demand (R437). -/
theorem helloSend_sends (down : Bool) (t : Nat) (s : State) (hd : s.sys ≠ sysDormant) (hl : s.linkState down = linkHandshake) :
    ∃ n, exec (.helloSend down t) s = .next n ∧ n.casc.out = [(down, frameBytes 0x01 s.cpos (toPos (s.peer down)) (s.link down).sent
        ([BitVec.ofNat 8 s.cpos, BitVec.ofNat 8 s.casc.nchip] ++ (s.at t).w3r HOST_DEVID ++ [BitVec.ofNat 8 (b2n (s.flag HOST_ID 2))] ++ zeros 2))] ∧
      (n.link down).sent = ((s.link down).sent + 1) % 256 ∧ n.regs = s.regs ∧ n.mram = s.mram := by
  have hl' : ((s.at t).clearOut).linkState down = linkHandshake := hl
  have e : exec (.helloSend down t) s = finish ((s.at t).clearOut) (((s.at t).clearOut).helloOut down) := congrArg (finish ((s.at t).clearOut)) (if_pos ⟨hl', hd⟩)
  have hdev : ((s.at t).clearOut).w3r HOST_DEVID = (s.at t).w3r HOST_DEVID := rfl
  unfold State.helloOut at e
  rw [send_eq (.inr ⟨hl', rfl⟩), hdev] at e
  refine ⟨_, e, ?_, ?_, ?_, ?_⟩
  · cases down <;> rfl
  · cases down <;> rfl
  · cases down <;> rfl
  · cases down <;> rfl

/-- A port that trains enters its handshake with a HELLO (R437). -/
theorem linkTrained_greets (down : Bool) (t : Nat) (s : State) (hr : RegsOk s) (hs : Listens s) (hl : s.linkState down = linkTraining) (hb : s.flag RST_BLKSTS (6 + b2n down) = false) :
    ∃ n, exec (.linkTrained down t) s = .next n ∧ n.linkState down = linkHandshake ∧ n.linkState (!down) = s.linkState (!down) ∧ n.casc.out.length = 1 ∧ Kept s n (CASC_STATE :: recordWords) ∧ n.mram = s.mram := by
  have hs' : Listens ((s.at t).clearOut) := hs
  have hr' : RegsOk ((s.at t).clearOut) := hr
  have hl' : ((s.at t).clearOut).linkState down = linkTraining := hl
  have e : exec (.linkTrained down t) s = finish s ((((s.at t).clearOut.setLinkState down linkHandshake).linkChange down linkTraining).helloOut down) := by
    have := received_listens hs' down fun s => if s.linkState down = linkTraining ∧ s.flag RST_BLKSTS (6 + b2n down) = false then ((s.setLinkState down linkHandshake).linkChange down linkTraining).helloOut down else s
    exact (congrArg (finish s) this).trans (congrArg (finish s) (if_pos ⟨hl', hb⟩))
  obtain ⟨h1, hk1⟩ := setLinkState_kept hr' down linkHandshake
  have hs1 := linkState_setLinkState_same hr' down (v := linkHandshake) (by decide)
  have ho1 := linkState_setLinkState_other hr' down linkHandshake
  have hout1 : ((s.at t).clearOut.setLinkState down linkHandshake).casc.out = [] := by cases down <;> rfl
  have hm1 : ((s.at t).clearOut.setLinkState down linkHandshake).mram = s.mram := by cases down <;> rfl
  have ho : ((s.at t).clearOut).linkState (!down) = s.linkState (!down) := by cases down <;> rfl
  have hk0 : Kept s ((s.at t).clearOut) (CASC_STATE :: recordWords) := fun _ _ => rfl
  generalize (s.at t).clearOut.setLinkState down linkHandshake = m at *
  have hev : OnlyRecorder m (m.linkChange down linkTraining) := linkEvent_only m down _
  obtain ⟨h2, hk2⟩ := hev.2 h1
  have hw2 := hk2 CASC_STATE (by decide)
  have hs2 := (linkState_of_word hw2 down).trans hs1
  have hout2 : (m.linkChange down linkTraining).casc.out = [] := (hev.field (fun s => s.casc.out) fun _ _ _ => rfl).trans hout1
  have hm2 : (m.linkChange down linkTraining).mram = s.mram := (hev.field State.mram fun _ _ _ => rfl).trans hm1
  have ho2 := (linkState_of_word hw2 (!down)).trans (ho1.trans ho)
  generalize m.linkChange down linkTraining = y at *
  have hsend : OnlyCasc y (y.helloOut down) := send_casc y down _ _ _
  have hlen : (y.helloOut down).casc.out.length = 1 := by
    unfold State.helloOut
    rw [send_eq (.inr ⟨hs2, rfl⟩), hout2]
    rfl
  generalize y.helloOut down = z at *
  have hw3 : z.reg CASC_STATE = y.reg CASC_STATE := reg_of_regs hsend.regs _
  exact ⟨_, e, (linkState_of_word hw3 down).trans hs2, (linkState_of_word hw3 (!down)).trans ho2, hlen,
    kept_trans hk0 (kept_trans (kept_mono hk1 (by simp)) (kept_trans (kept_mono hk2 fun a ha => List.mem_cons_of_mem _ ha) (kept_of_regs hsend.regs))), hsend.mram.trans hm2⟩

/-- A HELLO that agrees brings the port Up while a lane is in charge (R437). -/
theorem hello_agrees (down : Bool) (p : List Byte) (t : Nat) (s : State) (hr : RegsOk s) (hs : Listens s) (hl : s.linkState down = linkHandshake) (hid : w3rThere p 2 = some 0x08127)
    (hn : (p.getD 1 0).toNat = s.casc.nchip) (hp : (p.getD 0 0).toNat = s.peer down) (hh : s.laneHeld = true) :
    ∃ n, exec (.hello down p t) s = .next n ∧ n.linkState down = linkIsUp ∧ n.running (.linkUp down) = false ∧ Kept s n (CASC_STATE :: recordWords) ∧ n.mram = s.mram := by
  have hs' : Listens ((s.at t).clearOut) := hs
  have hr' : RegsOk ((s.at t).clearOut) := hr
  have e : exec (.hello down p t) s = finish s (((s.at t).clearOut).takeHello down p) := congrArg (finish s) (received_listens hs' down fun s => s.takeHello down p)
  have hk0 : Kept s ((s.at t).clearOut) (CASC_STATE :: recordWords) := fun _ _ => rfl
  have hm0 : ((s.at t).clearOut).mram = s.mram := rfl
  have ht : ((s.at t).clearOut).takeHello down p = let m := (((s.at t).clearOut.setLinkState down linkIsUp).stop (.linkUp down)).linkEvent down 1
      if down then m.echoSend else m := by
    have hno : ¬ ((s.at t).clearOut).linkState down ≠ linkHandshake := not_not.mpr hl
    have hheld : ¬ (!((s.at t).clearOut).laneHeld) = true := by
      have : ((s.at t).clearOut).laneHeld = true := hh
      rw [this]
      decide
    exact (if_neg hno).trans ((if_pos ⟨hid, hn, hp⟩).trans (if_neg hheld))
  rw [ht] at e
  generalize (s.at t).clearOut = m0 at *
  obtain ⟨h1, hk1⟩ := setLinkState_kept hr' down linkIsUp
  have hs1 := linkState_setLinkState_same hr' down (v := linkIsUp) (by decide)
  have hm1 : (m0.setLinkState down linkIsUp).mram = m0.mram := by cases down <;> rfl
  have hrun1 : ((m0.setLinkState down linkIsUp).stop (.linkUp down)).running (.linkUp down) = false := congrArg Option.isSome (find_dropKey_same _ _)
  have h1' : RegsOk ((m0.setLinkState down linkIsUp).stop (.linkUp down)) := h1
  have hk1' : Kept m0 ((m0.setLinkState down linkIsUp).stop (.linkUp down)) [CASC_STATE] := hk1
  have hs1' : ((m0.setLinkState down linkIsUp).stop (.linkUp down)).linkState down = linkIsUp := hs1
  have hm1' : ((m0.setLinkState down linkIsUp).stop (.linkUp down)).mram = m0.mram := hm1
  generalize (m0.setLinkState down linkIsUp).stop (.linkUp down) = m at *
  have hev := linkEvent_only m down 1
  obtain ⟨h2, hk2⟩ := hev.2 h1'
  have hs2 := (linkState_of_word (hk2 CASC_STATE (by decide)) down).trans hs1'
  have hrun2 : (m.linkEvent down 1).running (.linkUp down) = false := (running_of_timers (hev.field State.timers fun _ _ _ => rfl) _).trans hrun1
  have hm2 : (m.linkEvent down 1).mram = s.mram := (hev.field State.mram fun _ _ _ => rfl).trans (hm1'.trans hm0)
  have hk2' : Kept s (m.linkEvent down 1) (CASC_STATE :: recordWords) := kept_trans hk0 (kept_trans (kept_mono hk1' (by simp)) (kept_mono hk2 fun a ha => List.mem_cons_of_mem _ ha))
  generalize m.linkEvent down 1 = y at *
  cases down with
  | false => exact ⟨_, e, hs2, hrun2, hk2', hm2⟩
  | true =>
    have hsend : OnlyCasc y (y.send true 0x02 (toPos (y.peer true)) (leBytes 7 y.now ++ zeros 1)) := send_casc y true _ _ _
    have e' : exec (.hello true p t) s = finish s ((y.send true 0x02 (toPos (y.peer true)) (leBytes 7 y.now ++ zeros 1)).start .echo) := e
    clear e
    generalize y.send true 0x02 (toPos (y.peer true)) (leBytes 7 y.now ++ zeros 1) = z at *
    have hrun : (z.start .echo).running (.linkUp true) = false := (congrArg Option.isSome (find_putKey_other _ _ (by decide))).trans ((running_of_timers hsend.timers _).trans hrun2)
    exact ⟨_, e', (linkState_of_word (reg_of_regs hsend.regs _) true).trans hs2, hrun, kept_trans (m := y) hk2' (kept_of_regs hsend.regs), hsend.mram.trans hm2⟩

/-- One that names another peer is flagged and raises class 12 (R437, R438). -/
theorem hello_differs (down : Bool) (p : List Byte) (t : Nat) (s : State) (hr : RegsOk s) (hs : Listens s) (hl : s.linkState down = linkHandshake) (hp : (p.getD 0 0).toNat ≠ s.peer down)
    (hf : s.flag CASC_STS 1 = false) :
    ∃ n m, exec (.hello down p t) s = .next n ∧ n = { m.linkRaise down 0x01 1203 with pending := n.pending, outs := n.outs } ∧ Faulted n 0 12 ∧ m.flag CASC_STS 1 = true ∧
      m.linkState down = linkHandshake ∧ Kept s m (CASC_STS :: recordWords) ∧ n.mram = s.mram := by
  have hs' : Listens ((s.at t).clearOut) := hs
  have hr' : RegsOk ((s.at t).clearOut) := hr
  have e : exec (.hello down p t) s = finish s (((s.at t).clearOut).takeHello down p) := congrArg (finish s) (received_listens hs' down fun s => s.takeHello down p)
  have ht : ((s.at t).clearOut).takeHello down p = (((s.at t).clearOut.setFlag CASC_STS 1 true).linkEvent down 3).linkRaise down 0x01 1203 := by
    have hno : ¬ ((s.at t).clearOut).linkState down ≠ linkHandshake := not_not.mpr hl
    have hwas : ¬ ((s.at t).clearOut).flag CASC_STS 1 = true := Bool.eq_false_iff.mp hf
    exact (if_neg hno).trans ((if_neg fun h => hp h.2.2).trans (if_neg hwas))
  rw [ht] at e
  have h1 : RegsOk ((s.at t).clearOut.setFlag CASC_STS 1 true) := setReg_regsOk hr' _ _
  have hf1 : ((s.at t).clearOut.setFlag CASC_STS 1 true).flag CASC_STS 1 = true := flag_setFlag_same hr' CASC_STS true (by decide)
  have hk1 : Kept s ((s.at t).clearOut.setFlag CASC_STS 1 true) (CASC_STS :: recordWords) := kept_setReg hr' _ (by simp)
  have hl1 : ((s.at t).clearOut.setFlag CASC_STS 1 true).linkState down = linkHandshake := (linkState_of_word (reg_setReg_other hr' _ (by decide)) down).trans hl
  have hm1 : ((s.at t).clearOut.setFlag CASC_STS 1 true).mram = s.mram := rfl
  generalize (s.at t).clearOut.setFlag CASC_STS 1 true = y at *
  have hev := linkEvent_only y down 3
  obtain ⟨h2, hk2⟩ := hev.2 h1
  have hf2 : (y.linkEvent down 3).flag CASC_STS 1 = true := (congrArg (fun w => bit w 1) (hk2 CASC_STS (by decide))).trans hf1
  have hl2 := (linkState_of_word (hk2 CASC_STATE (by decide)) down).trans hl1
  have hm2 : (y.linkEvent down 3).mram = s.mram := (hev.field State.mram fun _ _ _ => rfl).trans hm1
  have hk2' : Kept s (y.linkEvent down 3) (CASC_STS :: recordWords) := kept_trans hk1 (kept_mono hk2 fun a ha => List.mem_cons_of_mem _ ha)
  generalize y.linkEvent down 3 = m at *
  have hfault : Faulted (m.linkRaise down 0x01 1203) 0 12 := raise_faulted_shelf _ rfl rfl
  have hmram : (m.linkRaise down 0x01 1203).mram = m.mram := OnlyFault.mram (raise_fault (onlyFault_refl m) _)
  exact ⟨_, m, e, rfl, hfault, hf2, hl2, hk2', hmram.trans hm2⟩

theorem age_of {s n : State} (h : n.timers = s.timers) (hn : n.now = s.now) (k : Timer) : n.age k = s.age k := by simp only [State.age, h, hn]

/-- A port that begins to train (R437, R438): from here its 10 ms count. -/
theorem train_starts {s : State} (h : RegsOk s) (down : Bool) :
    RegsOk (s.train down) ∧ (s.train down).linkState down = linkTraining ∧ (s.train down).linkState (!down) = s.linkState (!down) ∧ Kept s (s.train down) [CASC_STATE] ∧ (s.train down).age (.linkUp down) = 0 ∧
      (s.train down).mram = s.mram := by
  obtain ⟨h1, hk1⟩ := setLinkState_kept h down linkTraining
  have hs1 := linkState_setLinkState_same h down (v := linkTraining) (by decide)
  have ho1 := linkState_setLinkState_other h down linkTraining
  have hm1 : (s.setLinkState down linkTraining).mram = s.mram := by cases down <;> rfl
  unfold State.train
  generalize s.setLinkState down linkTraining = m at *
  refine ⟨h1, hs1, ho1, hk1, ?_, hm1⟩
  simp [State.age, State.start, find_putKey_same]

/-- Loss of lock trains again and counts (R437, R443). -/
theorem linkLossOfLock_trains (down : Bool) (v t : Nat) (s : State) (hr : RegsOk s) (hl : s.linkState down = linkIsUp) :
    ∃ n, exec (.linkLossOfLock down v t) s = .next n ∧ n.linkState down = linkTraining ∧ n.reg CASC_CVCNT = satAdd (s.reg CASC_CVCNT) v ∧ n.flag CASC_STS 0 = true ∧ n.age (.linkUp down) = 0 ∧
      Kept s n ([CASC_CVCNT, CASC_STS, CASC_STATE] ++ recordWords) ∧ n.mram = s.mram := by
  have hr' : RegsOk ((s.at t).clearOut) := hr
  have hk0 : Kept s ((s.at t).clearOut) ([CASC_CVCNT, CASC_STS, CASC_STATE] ++ recordWords) := fun _ _ => rfl
  have hm0 : ((s.at t).clearOut).mram = s.mram := rfl
  have hcv0 : ((s.at t).clearOut).reg CASC_CVCNT = s.reg CASC_CVCNT := rfl
  have hcount : ((s.at t).clearOut).countCodes down v = ((s.at t).clearOut).setReg CASC_CVCNT (satAdd (s.reg CASC_CVCNT) v) := if_neg (by
    have : ((s.at t).clearOut).linkState down = linkIsUp := hl
    rw [this]
    decide)
  have hl1 : (((s.at t).clearOut).setReg CASC_CVCNT (satAdd (s.reg CASC_CVCNT) v)).linkState down = linkIsUp := (linkState_of_word (reg_setReg_other hr' _ (by decide)) down).trans hl
  have e : exec (.linkLossOfLock down v t) s = finish ((s.at t).clearOut) ((((((s.at t).clearOut).setReg CASC_CVCNT (satAdd (s.reg CASC_CVCNT) v)).setFlag CASC_STS 0 true).train down).linkEvent down 2) := by
    dsimp only [exec, execLinkLossOfLock]
    rw [hcount]
    exact congrArg (finish ((s.at t).clearOut)) (if_pos hl1)
  have h1 : RegsOk (((s.at t).clearOut).setReg CASC_CVCNT (satAdd (s.reg CASC_CVCNT) v)) := setReg_regsOk hr' _ _
  have hcv1 : (((s.at t).clearOut).setReg CASC_CVCNT (satAdd (s.reg CASC_CVCNT) v)).reg CASC_CVCNT = satAdd (s.reg CASC_CVCNT) v := reg_setReg_same hr' _ _
  have hk1 : Kept s (((s.at t).clearOut).setReg CASC_CVCNT (satAdd (s.reg CASC_CVCNT) v)) ([CASC_CVCNT, CASC_STS, CASC_STATE] ++ recordWords) := kept_trans hk0 (kept_setReg hr' _ (by simp))
  have hm1 : (((s.at t).clearOut).setReg CASC_CVCNT (satAdd (s.reg CASC_CVCNT) v)).mram = s.mram := rfl
  generalize ((s.at t).clearOut).setReg CASC_CVCNT (satAdd (s.reg CASC_CVCNT) v) = m at *
  have h2 : RegsOk (m.setFlag CASC_STS 0 true) := setReg_regsOk h1 _ _
  have hf2 : (m.setFlag CASC_STS 0 true).flag CASC_STS 0 = true := flag_setFlag_same h1 CASC_STS true (by decide)
  have hcv2 : (m.setFlag CASC_STS 0 true).reg CASC_CVCNT = satAdd (s.reg CASC_CVCNT) v := (reg_setReg_other h1 _ (by decide)).trans hcv1
  have hk2 : Kept s (m.setFlag CASC_STS 0 true) ([CASC_CVCNT, CASC_STS, CASC_STATE] ++ recordWords) := kept_trans hk1 (kept_setReg h1 _ (by simp))
  have hm2 : (m.setFlag CASC_STS 0 true).mram = s.mram := hm1
  generalize m.setFlag CASC_STS 0 true = y at *
  obtain ⟨h3, hl3, -, hk3, hage3, hm3⟩ := train_starts h2 down
  have hcv3 : (y.train down).reg CASC_CVCNT = satAdd (s.reg CASC_CVCNT) v := (hk3 _ (by decide)).trans hcv2
  have hf3 : (y.train down).flag CASC_STS 0 = true := (congrArg (fun w => bit w 0) (hk3 CASC_STS (by decide))).trans hf2
  have hev := linkEvent_only (y.train down) down 2
  obtain ⟨-, hk4⟩ := hev.2 h3
  refine ⟨_, e, (linkState_of_word (hk4 CASC_STATE (by decide)) down).trans hl3, (hk4 _ (by decide)).trans hcv3, (congrArg (fun w => bit w 0) (hk4 CASC_STS (by decide))).trans hf3, ?_,
    kept_trans (m := (y.train down).linkEvent down 2) (kept_trans hk2 (kept_trans (kept_mono hk3 (by simp)) (kept_mono hk4 fun a ha => List.mem_append_right _ ha))) (fun _ _ => rfl),
    (hev.field State.mram fun _ _ _ => rfl).trans (hm3.trans hm2)⟩
  have htimers : ((y.train down).linkEvent down 2).timers = (y.train down).timers := hev.field State.timers fun _ _ _ => rfl
  have hnow : ((y.train down).linkEvent down 2).now = (y.train down).now := hev.field State.now fun _ _ _ => rfl
  exact (age_of htimers hnow _).trans hage3

/-- A port not Up within 10 ms raises class 12 once (R438). -/
theorem linkUpTimeout_raises (down : Bool) (t : Nat) (s : State) (hr : RegsOk s) (hd : s.sys ≠ sysDormant) (he : s.linkEnabled down = true) (hl : s.linkState down ≠ linkIsUp)
    (hf : (s.link down).raised = false) (hx : (s.at t).expiredTicks (.linkUp down) (ms 10) = true) :
    ∃ n m, exec (.linkUpTimeout down t) s = .next n ∧ AfterCoreRaise m n 12 0 none ∧ Faulted n 0 12 ∧ (m.link down).raised = true ∧ m.linkState down = s.linkState down ∧ Kept s m recordWords ∧ n.mram = s.mram := by
  have hc : ((s.at t).linkEnabled down && (s.at t).sys != sysDormant && decide ((s.at t).linkState down ≠ linkIsUp) && !((s.at t).link down).raised && (s.at t).expiredTicks (.linkUp down) (ms 10)) = true := by
    have h1 : (s.at t).linkEnabled down = true := he
    have h3 : (s.at t).linkState down ≠ linkIsUp := hl
    have h4 : ((s.at t).link down).raised = false := hf
    simp [h1, hd, h3, h4, hx]
  have hr' : RegsOk ((s.at t).setLink down (fun p => { p with raised := true })) := hr
  have e : exec (.linkUpTimeout down t) s = finish (s.at t) ((((s.at t).setLink down (fun p => { p with raised := true })).linkEvent down 6).coreRaise 12 0 none 1205) := congrArg (finish (s.at t)) (if_pos hc)
  have hraised : (((s.at t).setLink down (fun p => { p with raised := true })).link down).raised = true := by cases down <;> rfl
  have hl1 : ((s.at t).setLink down (fun p => { p with raised := true })).linkState down = s.linkState down := rfl
  have hm1 : ((s.at t).setLink down (fun p => { p with raised := true })).mram = s.mram := rfl
  have hk1 : Kept s ((s.at t).setLink down (fun p => { p with raised := true })) recordWords := fun _ _ => rfl
  generalize (s.at t).setLink down (fun p => { p with raised := true }) = y at *
  have hev := linkEvent_only y down 6
  obtain ⟨h2, hk2⟩ := hev.2 hr'
  have hraised2 : ((y.linkEvent down 6).link down).raised = true := (hev.field (fun s => (s.link down).raised) fun _ _ _ => rfl).trans hraised
  have hl2 := (linkState_of_word (hk2 CASC_STATE (by decide)) down).trans hl1
  have hm2 : (y.linkEvent down 6).mram = s.mram := (hev.field State.mram fun _ _ _ => rfl).trans hm1
  generalize y.linkEvent down 6 = m at *
  have hfault : Faulted (m.coreRaise 12 0 none 1205) 0 12 := raise_faulted_shelf _ rfl rfl
  have hmram : (m.coreRaise 12 0 none 1205).mram = m.mram := OnlyFault.mram (raise_fault (onlyFault_refl m) _)
  exact ⟨_, m, e, ⟨1205, rfl⟩, hfault, hraised2, hl2, kept_trans hk1 hk2, hmram.trans hm2⟩

/-! ### The ports' enables -/

/-- One port follows its enable; a change of its state offers a record (R437, R438). -/
def portFollows (d : Bool) (s : State) : State :=
  if s.linkEnabled d then (if s.linkState d = linkDisabled then (s.train d).linkChange d linkDisabled else s)
  else if s.linkState d = linkDisabled then s.stop (.linkUp d)
  else ((s.setLinkState d linkDisabled).stop (.linkUp d)).linkChange d (s.linkState d)

theorem portEnables_eq (s : State) : s.portEnables = portFollows true (portFollows false s) := rfl

theorem linkEnabled_of {s n : State} (hc : n.casc.nchip = s.casc.nchip) (hp : n.cpos = s.cpos) (hf : n.reg CASC_CFG = s.reg CASC_CFG) (d : Bool) : n.linkEnabled d = s.linkEnabled d := by
  simp only [State.linkEnabled, hc, hp, State.flag, hf]

theorem cpos_setLinkState {s : State} (h : RegsOk s) (d : Bool) (v : Nat) : (s.setLinkState d v).cpos = s.cpos := by
  cases d <;> exact fld_setFld_apart h CASC_STATE (by decide) (by decide) (.inl (by decide))

/-- What a port that follows its enable leaves. -/
structure Followed (s n : State) (d : Bool) : Prop where
  regsOk : RegsOk n
  enabled : ∀ e, n.linkEnabled e = s.linkEnabled e
  state : n.linkState d = if s.linkEnabled d then (if s.linkState d = linkDisabled then linkTraining else s.linkState d) else linkDisabled
  other : n.linkState (!d) = s.linkState (!d)
  kept : Kept s n (CASC_STATE :: recordWords)
  mram : n.mram = s.mram
  acked : ∀ p, (n.iface p).acked = (s.iface p).acked

/-- A change of the port's state and its record. -/
theorem followed_change {s m : State} {d : Bool} (h : RegsOk m) (hn : m.casc.nchip = s.casc.nchip) (hp : m.cpos = s.cpos) (hs : m.linkState d = if s.linkEnabled d then (if s.linkState d = linkDisabled then linkTraining else s.linkState d) else linkDisabled)
    (ho : m.linkState (!d) = s.linkState (!d)) (hk : Kept s m [CASC_STATE]) (hm : m.mram = s.mram) (ha : ∀ p, (m.iface p).acked = (s.iface p).acked) (was : Nat) : Followed s (m.linkChange d was) d := by
  have hev : OnlyRecorder m (m.linkChange d was) := linkEvent_only m d _
  obtain ⟨h2, hk2⟩ := hev.2 h
  have hw := hk2 CASC_STATE (by decide)
  have hcfg : (m.linkChange d was).reg CASC_CFG = s.reg CASC_CFG := (hk2 _ (by decide)).trans (hk _ (by decide))
  refine ⟨h2, linkEnabled_of ((hev.field (fun s => s.casc.nchip) fun _ _ _ => rfl).trans hn) ((congrArg (fun w => bits w 2 0) hw).trans hp) hcfg, (linkState_of_word hw d).trans hs, (linkState_of_word hw (!d)).trans ho,
    kept_trans (kept_mono hk (by simp)) (kept_mono hk2 fun a ha => List.mem_cons_of_mem _ ha), (hev.field State.mram fun _ _ _ => rfl).trans hm, fun p => ?_⟩
  exact (hev.field (fun s => (s.iface p).acked) fun _ _ _ => by cases p <;> rfl).trans (ha p)

theorem portFollows_followed {s : State} (h : RegsOk s) (d : Bool) : Followed s (portFollows d s) d := by
  unfold portFollows
  by_cases he : s.linkEnabled d = true
  · rw [if_pos he]
    by_cases hl : s.linkState d = linkDisabled
    · rw [if_pos hl]
      obtain ⟨h1, hs, ho, hk, -, hm⟩ := train_starts h d
      have hp : (s.train d).cpos = s.cpos := cpos_setLinkState h d linkTraining
      have hn : (s.train d).casc.nchip = s.casc.nchip := by cases d <;> rfl
      exact followed_change h1 hn hp (by rw [if_pos he, if_pos hl]; exact hs) ho hk hm (fun p => by cases d <;> cases p <;> rfl) _
    · rw [if_neg hl]
      exact ⟨h, fun _ => rfl, by rw [if_pos he, if_neg hl], rfl, fun _ _ => rfl, rfl, fun _ => rfl⟩
  · rw [if_neg he]
    by_cases hl : s.linkState d = linkDisabled
    · rw [if_pos hl]
      exact ⟨h, fun _ => rfl, by rw [if_neg he]; exact hl, rfl, fun _ _ => rfl, rfl, fun p => by cases p <;> rfl⟩
    · rw [if_neg hl]
      obtain ⟨h1, hk⟩ := setLinkState_kept h d linkDisabled
      have hs := linkState_setLinkState_same h d (v := linkDisabled) (by decide)
      have ho := linkState_setLinkState_other h d linkDisabled
      have hp := cpos_setLinkState h d linkDisabled
      have hn : (s.setLinkState d linkDisabled).casc.nchip = s.casc.nchip := by cases d <;> rfl
      have hm : (s.setLinkState d linkDisabled).mram = s.mram := by cases d <;> rfl
      have ha (p : Port) : ((s.setLinkState d linkDisabled).iface p).acked = (s.iface p).acked := by cases d <;> cases p <;> rfl
      generalize s.setLinkState d linkDisabled = m at *
      exact followed_change (m := m.stop (.linkUp d)) h1 hn hp (by rw [if_neg he]; exact hs) ho hk hm (fun p => (by cases p <;> rfl : ((m.stop (.linkUp d)).iface p).acked = (m.iface p).acked).trans (ha p)) _

/-- Both ports after a change of enables. -/
theorem portEnables_follow {s : State} (h : RegsOk s) : (∀ d, s.portEnables.linkEnabled d = s.linkEnabled d) ∧
    (∀ d, s.portEnables.linkState d = if s.linkEnabled d then (if s.linkState d = linkDisabled then linkTraining else s.linkState d) else linkDisabled) ∧
    Kept s s.portEnables (CASC_STATE :: recordWords) ∧ s.portEnables.mram = s.mram ∧ ∀ p, (s.portEnables.iface p).acked = (s.iface p).acked := by
  rw [portEnables_eq]
  have hf := portFollows_followed h false
  have ht := portFollows_followed hf.regsOk true
  refine ⟨fun d => (ht.enabled d).trans (hf.enabled d), fun d => ?_, kept_trans hf.kept ht.kept, ht.mram.trans hf.mram, fun p => (ht.acked p).trans (hf.acked p)⟩
  cases d with
  | false => exact ht.other.trans hf.state
  | true =>
    have := ht.state
    rw [hf.enabled, show (portFollows false s).linkState true = s.linkState true from hf.other] at this
    exact this

theorem legal_cascCfg (m : State) (w : Word) : m.legal CASC_CFG w = (w, false) := rfl

theorem shape_cascCfg (m : State) : m.shape? CASC_CFG = some (.fields [⟨3, 0, .rw, .range 1 8⟩, ⟨4, 4, .rw, .any⟩, ⟨5, 5, .rw, .any⟩, ⟨6, 6, .rw, .any⟩]) := rfl

theorem clampWord_cascCfg (m : State) (w : Word) : m.clampWord CASC_CFG w = [⟨3, 0, .rw, .range 1 8⟩, ⟨4, 4, .rw, .any⟩, ⟨5, 5, .rw, .any⟩, ⟨6, 6, .rw, .any⟩].foldl (applyField w) (m.reg CASC_CFG, false) := by
  unfold State.clampWord
  rw [shape_cascCfg]

theorem put_cascCfg (m : State) (w : Word) : ∃ b, m.put CASC_CFG w = (m.setReg CASC_CFG (Written m CASC_CFG w)).markClamped CASC_CFG b := by
  have himp : ¬ (!m.implemented CASC_CFG) = true := by
    rw [show m.implemented CASC_CFG = true from rfl]
    decide
  unfold State.put State.putAs Written State.storeAs
  rw [if_neg himp, shape_cascCfg, legal_cascCfg]
  dsimp only
  rw [show isCtxAddr CASC_CFG = false from rfl, Bool.and_false]
  exact ⟨_, if_neg Bool.false_ne_true⟩

theorem written_cascCfg {s n : State} (h : n.regs = s.regs) (w : Word) : Written n CASC_CFG w = Written s CASC_CFG w := by
  unfold Written
  rw [legal_cascCfg, legal_cascCfg, clampWord_cascCfg, clampWord_cascCfg, reg_of_regs h]

/-- A write of the enables is followed by the ports (R437, R443). -/
theorem cascPortEnableWrite_follows (p : Port) (w : Word) (t : Nat) (s : State) (hr : RegsOk s) (hv : ServesAll p (s.at t)) :
    ∃ n, exec (.cascPortEnableWrite p w t) s = .next n ∧ n.reg CASC_CFG = Written s CASC_CFG w ∧ (∀ d, n.linkEnabled d = false → n.linkState d = linkDisabled) ∧
      (∀ d, n.linkEnabled d = true → n.linkState d = (if s.linkState d = linkDisabled then linkTraining else s.linkState d)) ∧ (n.iface p).acked = true ∧ Kept s n ([CASC_CFG, CASC_STATE] ++ recordWords) ∧ n.mram = s.mram := by
  have ew : (s.at t).hostOp p (.regWrite CASC_CFG w) = ((accepted (s.at t) p CASC_CFG w).put CASC_CFG w).portEnables := by
    rw [hostOp_global hv w (by decide) (by decide) rfl (isolatedWord_outside _ (.inr (.inl (by decide))) (.inr (by decide))), if_neg (by decide)]
    rfl
  have e : exec (.cascPortEnableWrite p w t) s = finish s (((accepted (s.at t) p CASC_CFG w).put CASC_CFG w).portEnables) := congrArg (finish s) ew
  obtain ⟨er, -, em, -, -, -, ea⟩ := accepted_fields (s.at t) p CASC_CFG w
  have hw := written_cascCfg (s := s) er w
  generalize accepted (s.at t) p CASC_CFG w = m at *
  obtain ⟨b, eput⟩ := put_cascCfg m w
  rw [eput, hw] at e
  have hrm : RegsOk m := (regsOk_of_regs (s := s) er).mpr hr
  have h1 : RegsOk ((m.setReg CASC_CFG (Written s CASC_CFG w)).markClamped CASC_CFG b) := setReg_regsOk hrm _ _
  have hcfg1 : ((m.setReg CASC_CFG (Written s CASC_CFG w)).markClamped CASC_CFG b).reg CASC_CFG = Written s CASC_CFG w := reg_setReg_same hrm _ _
  have hl1 (d : Bool) : ((m.setReg CASC_CFG (Written s CASC_CFG w)).markClamped CASC_CFG b).linkState d = s.linkState d :=
    linkState_of_word ((reg_setReg_other hrm (a := CASC_CFG) (c := CASC_STATE) _ (by decide)).trans (reg_of_regs (s := s) er _)) d
  have hk1 : Kept s ((m.setReg CASC_CFG (Written s CASC_CFG w)).markClamped CASC_CFG b) ([CASC_CFG, CASC_STATE] ++ recordWords) := kept_trans (m := m) (kept_of_regs er) (kept_setReg hrm _ (by simp))
  have hm1 : ((m.setReg CASC_CFG (Written s CASC_CFG w)).markClamped CASC_CFG b).mram = s.mram := em
  have ha1 : (((m.setReg CASC_CFG (Written s CASC_CFG w)).markClamped CASC_CFG b).iface p).acked = true := by cases p <;> exact ea
  generalize (m.setReg CASC_CFG (Written s CASC_CFG w)).markClamped CASC_CFG b = y at *
  obtain ⟨hen, hst, hk2, hm2, ha2⟩ := portEnables_follow h1
  generalize y.portEnables = z at *
  refine ⟨_, e, (hk2 CASC_CFG (by decide)).trans hcfg1, fun d hd => ?_, fun d hd => ?_, ?_, kept_trans (m := z) (kept_trans hk1 (kept_mono hk2 (by simp +contextual))) (fun _ _ => rfl), hm2.trans hm1⟩
  · have hd' : y.linkEnabled d = false := (hen d).symm.trans hd
    exact (hst d).trans (if_neg (by rw [hd']; decide))
  · have hd' : y.linkEnabled d = true := (hen d).symm.trans hd
    exact (hst d).trans ((if_pos hd').trans (by rw [hl1]))
  · have := (ha2 p).trans ha1
    cases p <;> exact this

/-! ### Frames -/

/-- What a frame finds on a port that is Up: the code violations counted, and nothing yet sent. -/
structure Counted (s m : State) (down : Bool) (v : Nat) : Prop where
  regsOk : RegsOk m
  count : m.reg CASC_CVCNT = satAdd (s.reg CASC_CVCNT) v
  kept : Kept s m [CASC_CVCNT]
  runs : m.laneRuns = s.laneRuns
  casc : m.casc = { s.casc with out := [] }
  mram : m.mram = s.mram
  lane : m.lane = s.lane

theorem countCodes_counted {s : State} (h : RegsOk s) {down : Bool} (hl : s.linkState down = linkIsUp) (v t : Nat) : Counted s (((s.at t).clearOut).countCodes down v) down v := by
  have h' : RegsOk ((s.at t).clearOut) := h
  have hc : ((s.at t).clearOut).countCodes down v = ((s.at t).clearOut).setReg CASC_CVCNT (satAdd (s.reg CASC_CVCNT) v) := if_neg (by
    have : ((s.at t).clearOut).linkState down = linkIsUp := hl
    rw [this]
    decide)
  rw [hc]
  exact ⟨setReg_regsOk h' _ _, reg_setReg_same h' _ _, kept_setReg (s := (s.at t).clearOut) h' _ (by simp), laneRuns_setReg h' _ (above_off (by decide)), rfl, rfl, rfl⟩

theorem linkFrameReceive_eq {s : State} (hs : Listens s) (down : Bool) (f : List Byte) (v t : Nat) :
    exec (.linkFrameReceive down f v t) s = finish s ((((s.at t).clearOut).countCodes down v).frameIn down f v) := by
  have hs' : Listens ((s.at t).clearOut) := hs
  exact congrArg (finish s) (received_listens hs' down fun s => (s.countCodes down v).frameIn down f v)

/-- A frame on a port that is Up, under a lane. -/
theorem frameIn_up {m : State} {down : Bool} (hl : m.linkState down = linkIsUp) (hr : m.laneRuns = true) (f : List Byte) (v : Nat) :
    m.frameIn down f v = if !frameOk f v then m.discardFrame down (f.getD 0 0).toNat else m.takeFrame down f := by
  have hno : ¬ m.linkState down = linkHandshake := by
    rw [hl]
    decide
  have hup : (m.linkState down = linkIsUp && m.laneRuns) = true := by simp [hl, hr]
  exact (if_neg hno).trans (if_pos hup)

/-- A frame of a wrong form is discarded, counted and flagged (R434). -/
theorem linkFrameReceive_discards (down : Bool) (f : List Byte) (v t : Nat) (s : State) (hr : RegsOk s) (hs : Listens s) (hl : s.linkState down = linkIsUp) (hrun : s.laneRuns = true) (hf : frameOk f v = false)
    (hfew : (s.casc.discards.filter (fun t0 => decide ((s.at t).now < t0 + ticksPerSecond))).length < 15) :
    ∃ n, exec (.linkFrameReceive down f v t) s = .next n ∧ n.reg CASC_CRCCNT = satInc (s.reg CASC_CRCCNT) ∧ n.reg CASC_CVCNT = satAdd (s.reg CASC_CVCNT) v ∧ n.flag CASC_STS 2 = true ∧ n.casc.out = [] ∧
      n.link down = s.link down ∧ Kept s n ([CASC_CRCCNT, CASC_CVCNT, CASC_STS] ++ recordWords) ∧ n.mram = s.mram := by
  have e := linkFrameReceive_eq hs down f v t
  obtain ⟨h1, hcv, hk, hruns, hcasc, hm, -⟩ := countCodes_counted hr hl v t
  have hnow : (((s.at t).clearOut).countCodes down v).now = (s.at t).now := by
    unfold State.countCodes
    split <;> rfl
  generalize ((s.at t).clearOut).countCodes down v = m at *
  have hl1 : m.linkState down = linkIsUp := (linkState_of_word (hk CASC_STATE (by decide)) down).trans hl
  have hcrc : m.reg CASC_CRCCNT = s.reg CASC_CRCCNT := hk _ (by decide)
  rw [frameIn_up hl1 (hruns.trans hrun), hf, Bool.not_false, if_pos rfl] at e
  unfold State.discardFrame at e
  have hcasc2 : ((m.inc CASC_CRCCNT).setFlag CASC_STS 2 true).casc = { s.casc with out := [] } := hcasc
  have hnow2 : ((m.inc CASC_CRCCNT).setFlag CASC_STS 2 true).now = (s.at t).now := hnow
  have hm2 : ((m.inc CASC_CRCCNT).setFlag CASC_STS 2 true).mram = s.mram := hm
  have h2 : RegsOk (m.inc CASC_CRCCNT) := setReg_regsOk h1 _ _
  have h3 : RegsOk ((m.inc CASC_CRCCNT).setFlag CASC_STS 2 true) := setReg_regsOk h2 _ _
  have hcrc3 : ((m.inc CASC_CRCCNT).setFlag CASC_STS 2 true).reg CASC_CRCCNT = satInc (s.reg CASC_CRCCNT) := (reg_setReg_other h2 _ (by decide)).trans ((reg_setReg_same h1 _ _).trans (congrArg satInc hcrc))
  have hcv3 : ((m.inc CASC_CRCCNT).setFlag CASC_STS 2 true).reg CASC_CVCNT = satAdd (s.reg CASC_CVCNT) v := (reg_setReg_other h2 _ (by decide)).trans ((reg_setReg_other h1 _ (by decide)).trans hcv)
  have hf3 : ((m.inc CASC_CRCCNT).setFlag CASC_STS 2 true).flag CASC_STS 2 = true := flag_setFlag_same h2 CASC_STS true (by decide)
  have hk3 : Kept s ((m.inc CASC_CRCCNT).setFlag CASC_STS 2 true) ([CASC_CRCCNT, CASC_CVCNT, CASC_STS] ++ recordWords) :=
    kept_trans (kept_mono hk (by simp)) (kept_trans (kept_setReg h1 _ (by simp)) (kept_setReg h2 _ (by simp)))
  generalize (m.inc CASC_CRCCNT).setFlag CASC_STS 2 true = y at *
  have hev := linkEvent_only y down 4
  obtain ⟨-, hk4⟩ := hev.2 h3
  have hcasc4 : (y.linkEvent down 4).casc = { s.casc with out := [] } := (hev.field State.casc fun _ _ _ => rfl).trans hcasc2
  have hnow4 : (y.linkEvent down 4).now = (s.at t).now := (hev.field State.now fun _ _ _ => rfl).trans hnow2
  have hm4 : (y.linkEvent down 4).mram = s.mram := (hev.field State.mram fun _ _ _ => rfl).trans hm2
  generalize y.linkEvent down 4 = z at *
  have hshort : ¬ 16 ≤ (z.casc.discards.filter (fun t0 => decide (z.now < t0 + ticksPerSecond)) ++ [z.now]).length := by
    rw [hcasc4, hnow4, List.length_append, List.length_singleton]
    exact Nat.not_le.mpr (Nat.succ_lt_succ hfew)
  dsimp only at e
  rw [if_neg hshort] at e
  have hlink : z.link down = s.link down := by
    simp only [State.link, hcasc4]
  refine ⟨_, e, (hk4 _ (by decide)).trans hcrc3, (hk4 _ (by decide)).trans hcv3, (congrArg (fun w => bit w 2) (hk4 CASC_STS (by decide))).trans hf3, ?_, ?_, kept_trans (m := z) (kept_trans hk3 (kept_mono hk4 fun a ha => List.mem_append_right _ ha)) (fun _ _ => rfl), hm4⟩
  · exact (congrArg Casc.out hcasc4)
  · cases down <;> exact hlink

/-- A frame count noted, and flagged where it leaves a gap (R435). -/
theorem trackSeq_tracks {m : State} (h : RegsOk m) (down : Bool) (q : Nat) : RegsOk (m.trackSeq down q) ∧ Kept m (m.trackSeq down q) (CASC_STS :: recordWords) ∧ (m.trackSeq down q).casc.out = m.casc.out ∧
    ((m.trackSeq down q).link down).seen = some q ∧ (m.trackSeq down q).casc.reports = m.casc.reports ∧ (m.trackSeq down q).lane = m.lane ∧ (m.trackSeq down q).mram = m.mram := by
  have h1 : RegsOk (m.setLink down (fun p => { p with seen := some q })) := h
  have hk1 : Kept m (m.setLink down (fun p => { p with seen := some q })) (CASC_STS :: recordWords) := fun _ _ => rfl
  have hout1 : (m.setLink down (fun p => { p with seen := some q })).casc.out = m.casc.out := by cases down <;> rfl
  have hseen1 : ((m.setLink down (fun p => { p with seen := some q })).link down).seen = some q := by cases down <;> rfl
  have hrep1 : (m.setLink down (fun p => { p with seen := some q })).casc.reports = m.casc.reports := by cases down <;> rfl
  have hlane1 : (m.setLink down (fun p => { p with seen := some q })).lane = m.lane := rfl
  have hm1 : (m.setLink down (fun p => { p with seen := some q })).mram = m.mram := rfl
  unfold State.trackSeq
  dsimp only
  generalize m.setLink down (fun p => { p with seen := some q }) = y at *
  split
  · have hev := linkEvent_only (y.setFlag CASC_STS 3 true) down 5
    obtain ⟨h3, hk3⟩ := hev.2 (setReg_regsOk h1 _ _)
    exact ⟨h3, kept_trans hk1 (kept_trans (kept_setReg h1 _ (by simp)) (kept_mono hk3 fun a ha => List.mem_cons_of_mem _ ha)), (hev.field (fun s => s.casc.out) fun _ _ _ => rfl).trans hout1,
      (hev.field (fun s => (s.link down).seen) fun _ _ _ => rfl).trans hseen1, (hev.field (fun s => s.casc.reports) fun _ _ _ => rfl).trans hrep1, (hev.field State.lane fun _ _ _ => rfl).trans hlane1,
      (hev.field State.mram fun _ _ _ => rfl).trans hm1⟩
  · exact ⟨h1, hk1, hout1, hseen1, hrep1, hlane1, hm1⟩

/-- A whole frame for another chip alone is passed on unchanged through the other port (R434, R435). -/
theorem linkFrameReceive_passesOn (down : Bool) (f : List Byte) (v t : Nat) (s : State) (hr : RegsOk s) (hs : Listens s) (hl : s.linkState down = linkIsUp) (ho : s.linkState (!down) = linkIsUp)
    (hrun : s.laneRuns = true) (hf : frameOk f v = true) (hall : (f.getD 1 0).toNat / 8 % 2 = 0) (hmine : (f.getD 1 0).toNat / 16 % 8 ≠ s.cpos) :
    ∃ n, exec (.linkFrameReceive down f v t) s = .next n ∧ n.casc.out = [(!down, f)] ∧ (n.link down).seen = some (f.getD 2 0).toNat ∧ n.casc.reports = s.casc.reports ∧ n.lane = s.lane ∧
      Kept s n ([CASC_CVCNT, CASC_STS] ++ recordWords) ∧ n.mram = s.mram := by
  have e := linkFrameReceive_eq hs down f v t
  obtain ⟨h1, -, hk, hruns, hcasc, hm, hlane⟩ := countCodes_counted hr hl v t
  generalize ((s.at t).clearOut).countCodes down v = m at *
  have hst (d : Bool) : m.linkState d = s.linkState d := linkState_of_word (hk CASC_STATE (by decide)) d
  have hpos : m.cpos = s.cpos := congrArg (fun w => bits w 2 0) (hk CASC_STATE (by decide))
  rw [frameIn_up ((hst down).trans hl) (hruns.trans hrun), hf, Bool.not_true, if_neg Bool.false_ne_true] at e
  have htake : m.takeFrame down f = (m.trackSeq down (f.getD 2 0).toNat).passOn down f := by
    have ha : ¬ (f.getD 1 0).toNat / 8 % 2 = 1 := by omega
    have hm' : ¬ (f.getD 1 0).toNat / 16 % 8 = m.cpos := by rwa [hpos]
    have h1 : (f.getD 1 0).toNat / 8 % 2 = 1 ∨ ¬ (f.getD 1 0).toNat / 16 % 8 = m.cpos := .inr hm'
    have h2 : ¬ ((f.getD 1 0).toNat / 8 % 2 = 1 ∨ (f.getD 1 0).toNat / 16 % 8 = m.cpos) := fun h => h.elim ha hm'
    unfold State.takeFrame
    dsimp only
    rw [if_neg h2, if_pos h1]
  rw [htake] at e
  obtain ⟨-, hk2, hout, hseen, hrep, hlane2, hm2⟩ := trackSeq_tracks h1 down (f.getD 2 0).toNat
  have hout' : (m.trackSeq down (f.getD 2 0).toNat).casc.out = [] := by rw [hout, hcasc]
  have hrep' : (m.trackSeq down (f.getD 2 0).toNat).casc.reports = s.casc.reports := by rw [hrep, hcasc]
  generalize m.trackSeq down (f.getD 2 0).toNat = y at *
  have hup : y.linkState (!down) = linkIsUp := (linkState_of_word (hk2 CASC_STATE (by decide)) (!down)).trans ((hst (!down)).trans ho)
  have hpass : y.passOn down f = { y with casc := { y.casc with out := y.casc.out ++ [(!down, f)] } } := if_pos hup
  rw [hpass, hout'] at e
  refine ⟨_, e, rfl, ?_, hrep', hlane2.trans hlane, kept_trans (m := y) (kept_trans (kept_mono hk (by simp)) (kept_mono hk2 (by simp +contextual))) (fun _ _ => rfl), hm2.trans hm⟩
  cases down <;> exact hseen

/-- Settles O53: ports train, greet, come up and fall; frames are checked and passed on. -/
theorem linksComeUpAndPassFrames : Obligations.LinksComeUpAndPassFrames :=
  ⟨linkTrained_greets, helloSend_sends, hello_agrees, hello_differs, linkLossOfLock_trains, linkUpTimeout_raises, cascPortEnableWrite_follows, linkFrameReceive_discards, linkFrameReceive_passesOn⟩

end Links

end Sys2Proof
end
-- ==== Sys2Proof/Proofs/Shelf/GateTrips.lean ====
section
/-! O26, refuted: a context number given twice. -/

namespace Sys2Proof

open Machine

/-! ### A context number given twice -/

/-- A record with the two bytes that matter here: its number, its type and its channel; it serves no throttle output. -/
def twinRec (c : Nat) (typ : CtxType) (channel : Nat) : CtxRec :=
  { ctx := c, typ := typ, inst := 0, enabled := true, vbase := 0x3D518, ibase := 0x005DC, prigrp := 0xFF, dormant := 0, a0 := channel, a1 := 0, a2 := 0xFF, a3 := 0 }

/-- An image of bytes in which a feed and a branch have one number, the shelf's safe state turns every branch off (R353), and class 4 against the shelf forces it. -/
def twinImage : Image where
  rollback := 0
  keySlot := 0
  imgVer := 1
  minFw := 0
  ckptVer := 1
  setVer := 1
  contexts := [twinRec 0 .shelf 0, twinRec 1 .feed 0, twinRec 1 .branch 3]
  slots := []
  groups := []
  graphs := []
  matrix := [{ typ := CtxType.code .shelf, cls := 4, sev := 2, react := 1 }]
  safe := [{ ctx := 0, menu := 1, param := 0 }]
  pins := []
  fallback := []
  overrides := []
  init := []
  migration := []

/-- The feed closed and its channel driven, in Normal under a lane. -/
def twinState : State :=
  { State.reset with
    image := some twinImage, arb := { stamped := true },
    regs := assign 0 (assign 0 (assign 0 (assign 0 [] SYS_STATE 1) LANE_AUTH 1) GCH_STS 1) GCH_OWNER 1 }

/-- The code that the feed's trip leaves. -/
def twinCode : Nat := match exec (.gateTrip 0 0 0) twinState with
  | .next n => n.code 1
  | _ => 7

theorem twinImage_bytes : ByteImage twinImage := by
  unfold ByteImage
  decide

/-- The state meets what the statement asks of a closed native feed that trips forward outside a change. -/
theorem twinState_meets : RegsOk twinState ∧ ImagesFit twinState ∧ twinState.ownerRec 0 = some (twinRec 1 .feed 0) ∧ twinState.crossing (twinRec 1 .feed 0) 0 = some false ∧ twinState.drive 0 ≠ 0 ∧
    twinState.sys ≠ sysDormant ∧ twinState.lane.change = none := by
  refine ⟨by unfold RegsOk; decide +kernel, ⟨fun im h => ?_, fun im h => ?_⟩, by decide +kernel, by decide +kernel, by decide +kernel, by decide +kernel, rfl⟩
  · have h' : some twinImage = some im := h
    exact Option.some.inj h' ▸ twinImage_bytes
  · have h' : (none : Option Image) = some im := h
    cases h'

/-- The trip latches the feed, and the uncovered feed change then raises class 4 against the shelf, whose safe state takes the branch of the same number to its state 5. -/
theorem twinCode_is : twinCode = 5 := by decide +kernel

/-- Refutes O26: the third clause asks for a latched feed (state 7) under any image of bytes; under one that gives the feed's number to a branch too, the shelf's safe state writes the branch's state over the feed's. -/
theorem not_gateChannelsTripAndEnhance : ¬ Obligations.GateChannelsTripAndEnhance := by
  rintro ⟨-, -, hlatch, -⟩
  obtain ⟨hr, him, ho, hc, hd, hs, hl⟩ := twinState_meets
  obtain ⟨n, hn, hcode, -⟩ := hlatch 0 0 0 (twinRec 1 .feed 0) twinState hr him (by decide) ho rfl hc rfl rfl hd hs hl
  have h5 := twinCode_is
  unfold twinCode at h5
  rw [hn] at h5
  exact absurd (hcode.symm.trans h5) (by decide)

end Sys2Proof
end
-- ==== Sys2Proof/Proofs/Shelf/Takeovers.lean ====
section
/-! O18, refuted: the restore of a Col with a charging string. -/

namespace Sys2Proof

open Machine

/-- An image of one string behind a group's converter. -/
def packImage : Image where
  rollback := 0
  keySlot := 0
  imgVer := 1
  minFw := 0
  ckptVer := 1
  setVer := 1
  contexts := [twinRec 1 .string 0xFF]
  slots := []
  groups := []
  graphs := []
  matrix := []
  safe := []
  pins := []
  fallback := []
  overrides := []
  init := []
  migration := []

/-- The string in a charge phase that counts elapsed charge, and lane A in charge. -/
def packWords : List (Nat × Word) :=
  assign 0 (assign 0 (assign 0 (assign 0 [] LANE_AUTH 1) (ctxAddr 1 CTX_IBASE) 0x005DC) (ctxAddr 1 CHG_STATE) 1) (ctxAddr 1 CHG_ICC) 0x1FFFF

/-- The checkpoint that holds the same words. -/
def packCkpt : Ckpt := { epoch := 0, regs := packWords, clamped := [], timers := [], lane := {} }

/-- A Col after a timeout whose string was charged since its start. -/
def packState : State :=
  { State.reset with
    image := some packImage, regs := packWords, ckptA := some packCkpt, arb := { col := some .timeout, powered := true, colCharge := [(1, { acc := 1 })] } }

/-! ### The image is kept by a restore -/

section
variable (s : State)

theorem forEach_image {α : Type} (l : List α) (f : α → State → State) (hf : ∀ x z, (f x z).image = z.image) : ∀ s : State, (s.forEach l f).image = s.image := by
  induction l with
  | nil => exact fun _ => rfl
  | cons x l ih => exact fun s => (ih (f x s)).trans (hf x s)

theorem onlyIf_image (b : Bool) (f : State → State) (hf : ∀ z, (f z).image = z.image) : (s.onlyIf b f).image = s.image := by
  cases b
  · rfl
  · exact hf s

theorem followMode_image (c : Nat) : (s.followMode c).image = s.image := by
  unfold State.followMode
  split <;> rfl

theorem setMode_image (c mode : Nat) (dir : Bool) : (s.setMode c mode dir).image = s.image := by
  unfold State.setMode
  dsimp only
  split
  · exact followMode_image _ c
  · exact followMode_image _ c

theorem keepCore_image (cur : State) : (s.keepCore cur).image = s.image := by
  unfold State.keepCore
  refine Eq.trans (forEach_image _ _ ?rails _) (Eq.trans (forEach_image _ _ ?strings _) (Eq.trans (forEach_image _ _ ?rectifiers _) (Eq.trans (forEach_image _ _ ?groups _) rfl)))
  case rails => exact fun _ _ => rfl
  case strings =>
    intro r z
    split
    · rfl
    · exact onlyIf_image _ _ _ (fun _ => rfl)
  case rectifiers =>
    intro r z
    split <;> rfl
  case groups =>
    intro r z
    refine Eq.trans (onlyIf_image _ _ _ ?stop) (onlyIf_image _ _ _ ?mode)
    case stop => exact fun _ => rfl
    case mode => exact fun z => setMode_image z _ _ _

theorem catchUp_image : s.catchUp.image = s.image :=
  forEach_image _ _ (fun r z => by dsimp only; split <;> rfl) s

theorem rebuildFabric_image (im : Image) : (s.rebuildFabric im).image = s.image := by
  unfold State.rebuildFabric
  refine Eq.trans (forEach_image _ _ ?_ _) rfl
  exact fun _ _ => rfl

end

/-! ### The string's elapsed charge -/

/-- The words after the restore's overlay. -/
def packHeld : List (Nat × Word) := overlay 0 packState.laneOwned packCkpt.regs packState.regs

/-- The same words once the core's own bit is kept. -/
def packKept : List (Nat × Word) := assign 0 packHeld SAD_STATE (putBit (lookup 0 packHeld SAD_STATE) 11 ((packState.at 0).flag SAD_STATE 11))

theorem ofType_pack {z : State} (hi : z.image = some packImage) : z.ofType .group = [] ∧ z.ofType .rectifier = [] ∧ z.ofType .rail = [] ∧ z.ofType .string = [twinRec 1 .string 0xFF] := by
  unfold State.ofType
  rw [hi]
  exact ⟨rfl, rfl, rfl, rfl⟩

theorem packKept_notSafe : bit (lookup 0 packKept (ctxAddr 1 CTX_STATE)) 10 = false := by decide +kernel

theorem packKept_phase : bits (lookup 0 packKept (ctxAddr 1 CHG_STATE)) 2 0 = 1 := by decide +kernel

theorem packKept_current : pu (lookup 0 packKept (ctxAddr 1 CHG_ICC)) * ef (lookup 0 packKept (ctxAddr 1 CTX_IBASE)) ≠ 0 := by decide +kernel

theorem forEach_nil {α : Type} (f : α → State → State) (s : State) : s.forEach [] f = s := rfl

theorem forEach_one {α : Type} (x : α) (f : α → State → State) (s : State) : s.forEach [x] f = f x s := rfl

/-- With no group, rectifier or rail, and one string outside its safe state, the core keeps the saddle's word alone. -/
theorem keepCore_of_one {m cur x : State} {r : CtxRec} (hx : m.setFlag SAD_STATE 11 (cur.flag SAD_STATE 11) = x) (hg : x.ofType .group = []) (hc : x.ofType .rectifier = []) (hl : x.ofType .rail = []) (hs : x.ofType .string = [r])
    (hsafe : x.safe r.ctx = false) : m.keepCore cur = x := by
  unfold State.keepCore
  rw [hx]
  dsimp only
  rw [hg, forEach_nil, hc, forEach_nil, hs, forEach_one, hsafe, Bool.not_false, if_pos rfl, hl, forEach_nil]

theorem keepCore_pack {m : State} (hi : m.image = some packImage) (hr : m.regs = packHeld) : (m.keepCore (packState.at 0)).regs = packKept := by
  have hx : (m.setFlag SAD_STATE 11 ((packState.at 0).flag SAD_STATE 11)).regs = packKept :=
    congrArg (fun l => assign 0 l SAD_STATE (putBit (lookup 0 l SAD_STATE) 11 ((packState.at 0).flag SAD_STATE 11))) hr
  have hsafe : (m.setFlag SAD_STATE 11 ((packState.at 0).flag SAD_STATE 11)).safe 1 = false :=
    (congrArg (fun l => bit (lookup 0 l (ctxAddr 1 CTX_STATE)) 10) hx).trans packKept_notSafe
  obtain ⟨hg, hc, hl, hs⟩ := ofType_pack (z := m.setFlag SAD_STATE 11 ((packState.at 0).flag SAD_STATE 11)) hi
  rw [keepCore_of_one rfl hg hc hl hs hsafe, hx]

/-- The phase counts and the current is not 0, so elapsed charge is written. -/
theorem catchUp_pack {z : State} (hi : z.image = some packImage) (hr : z.regs = packKept) : z.catchUp.lane.strings ≠ [] := by
  have hp : z.chgPhase 1 = 1 := (congrArg (fun l => bits (lookup 0 l (ctxAddr 1 CHG_STATE)) 2 0) hr).trans packKept_phase
  have hc : pu (z.cw 1 CHG_ICC) * ef (z.cw 1 CTX_IBASE) ≠ 0 := by
    show pu (lookup 0 z.regs _) * ef (lookup 0 z.regs _) ≠ 0
    rw [hr]
    exact packKept_current
  obtain ⟨-, -, -, hs⟩ := ofType_pack hi
  have hone : (1 ≤ z.chgPhase 1 ∧ z.chgPhase 1 ≤ 3) := by omega
  unfold State.catchUp
  rw [hs, forEach_one]
  dsimp only [twinRec]
  rw [if_pos ⟨.inl hone, hc⟩]
  intro he
  exact List.cons_ne_nil _ _ (List.append_eq_nil_iff.mp he).2

/-- The image has no slot to start again. -/
theorem rebuildFabric_pack_strings (z : State) : (z.rebuildFabric packImage).lane.strings = z.lane.strings := rfl

/-- The restore leaves no string's variables, as the checkpoint has none, and the image. -/
def packFacts : Bool := match exec (.laneRestoreComplete ⟨false, false, 0⟩) packState with
  | .next n => n.lane.strings.isEmpty && n.image == some packImage
  | _ => false

theorem packFacts_hold : packFacts = true := by decide +kernel

/-- Refutes O18: the fourth clause has the restore itself make up the charge counted since the Col began, which the model does at the first stamped command; the state with a charging string tells the two apart. -/
theorem not_takeoverRunsToItsFirstCommand : ¬ Obligations.TakeoverRunsToItsFirstCommand := by
  rintro ⟨-, -, -, hsame, -⟩
  obtain ⟨n, m, hn, -, hr, -, -, he⟩ := hsame 0 .a .timeout packCkpt packImage packState (by decide +kernel) rfl (.inl rfl) rfl rfl rfl rfl rfl
  have hf := packFacts_hold
  unfold packFacts at hf
  rw [hn] at hf
  obtain ⟨hstrings, himage⟩ := Bool.and_eq_true_iff.mp hf
  have hchain : n.image = m.image := (congrArg State.image he).trans ((rebuildFabric_image _ _).trans ((catchUp_image _).trans (keepCore_image _ _)))
  have hi : m.image = some packImage := hchain.symm.trans (eq_of_beq himage)
  have hne := catchUp_pack ((keepCore_image m _).trans hi) (keepCore_pack hi hr)
  have hlane : n.lane.strings = (m.keepCore (packState.at 0)).catchUp.lane.strings := (congrArg (fun z : State => z.lane.strings) he).trans (rebuildFabric_pack_strings _)
  exact hne (hlane.symm.trans (List.isEmpty_iff.mp hstrings))

end Sys2Proof
end
-- ==== Sys2Proof/Proofs/Units/Frames.lean ====
section
/-! O21, refuted: a branch that fails at the end of a frame. -/

namespace Sys2Proof

open Machine

/-! ### A safe state that becomes pending after the throttle outputs followed -/

/-- An image of the shelf and one branch with throttle output 0: the branch's safe state asserts the output (R353), and class 5 against a branch is of severity 2 without a reaction. -/
def lateImage : Image where
  rollback := 0
  keySlot := 0
  imgVer := 1
  minFw := 0
  ckptVer := 1
  setVer := 1
  contexts := [twinRec 0 .shelf 0, { twinRec 1 .branch 0 with a2 := 0 }]
  slots := []
  groups := []
  graphs := []
  matrix := [{ typ := CtxType.code .branch, cls := 5, sev := 2, react := 0 }]
  safe := [{ ctx := 1, menu := 1, param := 0 }]
  pins := []
  fallback := []
  overrides := []
  init := []
  migration := []

/-- Normal under a lane: the branch is enabled, in its safe state and in Inrush, with its gate pulled down and no retry left. -/
def lateState : State :=
  { State.reset with
    image := some lateImage, clocks := true, arb := { stamped := true }, staleMark := [],
    regs := assign 0 (assign 0 (assign 0 (assign 0 [] SYS_STATE 1) LANE_AUTH 1) (ctxAddr 1 CTX_STATE) 0x401) (ctxAddr 1 BR_CTL) 1 }

/-- A frame at reset's instant with nothing measured. -/
def quietFrame : FrameIn := { t := 0, vout := [], vlow := [], phase := [], gate := [], coulomb := [], ccn := [], cells := [] }

/-- After the frame, output 0 has a cause and is not asserted. -/
def lateCause : Bool := match exec (.frame quietFrame) lateState with
  | .next n => n.throttled 0 && n.throttleCause 0 && !n.flag THR_LIVE 0
  | _ => false

theorem lateImage_bytes : ByteImage lateImage := by
  unfold ByteImage
  decide

theorem lateState_formed : Formed lateState := by
  unfold Formed RegsOk
  decide +kernel

theorem lateState_fits : ImagesFit lateState := by
  refine ⟨fun im h => ?_, fun im h => ?_⟩
  · have h' : some lateImage = some im := h
    exact Option.some.inj h' ▸ lateImage_bytes
  · have h' : (none : Option Image) = some im := h
    cases h'

theorem lateCause_is : lateCause = true := by decide +kernel

/-- Refutes O21: the first clause has every throttle output with a cause asserted after a frame; the outputs follow before the branches of the frame are judged, and a branch in its safe state that then fails with a level 2 fault is a cause that only the next frame asserts. -/
theorem not_framesTicksAndSamples : ¬ Obligations.FramesTicksAndSamples := by
  rintro ⟨hframe, -⟩
  obtain ⟨n, hn, -, -, -, hfollow, -⟩ := hframe quietFrame (twinRec 0 .shelf 0) lateState lateState_formed lateState_fits rfl (by decide +kernel) (by decide +kernel) (by decide +kernel)
  have hlate := lateCause_is
  unfold lateCause at hlate
  rw [hn] at hlate
  obtain ⟨hcause, hdark⟩ := Bool.and_eq_true_iff.mp hlate
  obtain ⟨hthrottled, hcause⟩ := Bool.and_eq_true_iff.mp hcause
  rw [hfollow 0 (by decide) hthrottled hcause] at hdark
  cases hdark

end Sys2Proof
end
-- ==== Sys2Proof/Proofs/Units/Words.lean ====
section
/-! O10: words that are not there, and the rules of reads and writes of words at a target. -/

namespace Sys2Proof

open Machine

/-! ### A transaction at a target that serves every command -/

/-- A target that serves every command carries out at once what its journal has room for. -/
theorem hostOp_serve {p : Port} {m : State} (h : ServesAll p m) {op : HostOp} (hl : op.legal = true) (hn : op.entries (m.iface p) ≤ 32) : m.hostOp p op = m.serve p .full op := by
  obtain ⟨hw, he, hv, hj, hf⟩ := h
  have hwake : m.hostWake p = m := by simp [State.hostWake, he]
  have hjl : ¬ 128 < m.journal.length + op.entries (m.iface p) := by omega
  have hmust : m.mustWait p op = false := by
    cases op <;> simp [State.mustWait, hjl, hf]
  unfold State.hostOp State.hostRun
  rw [hwake]
  simp [hw, hv, Service.serves, hl, hmust]

theorem hostOp_wordRead {p : Port} {m : State} (h : ServesAll p m) (code : Nat) :
    m.hostOp p (.wordRead code) = (m.hostRead p ((m.iface p).addrOf code)).2.reply p [BitVec.ofNat 8 code] (wordBytes (m.hostRead p ((m.iface p).addrOf code)).1.1 (m.hostRead p ((m.iface p).addrOf code)).1.2) :=
  hostOp_serve h rfl (by simp [HostOp.entries])

/-- A word write with a correct check is a write of the word at its address. -/
theorem hostOp_wordWrite {p : Port} {m : State} (h : ServesAll p m) {code : Nat} {b0 b1 b2 : Byte} {pec : Option Byte} (hc : m.checkBad p [BitVec.ofNat 8 code, b0, b1, b2] pec = none) :
    m.hostOp p (.wordWrite code b0 b1 b2 pec) = (m.done p).hostWrite p ((m.iface p).addrOf code) (bytesWord b0 b1 b2) := by
  rw [hostOp_serve h rfl (by simp only [HostOp.entries, b2n]; split <;> omega)]
  simp only [State.serve, State.framed, hc]

/-! ### Reads -/

/-- A read without an effect of its own leaves the shadow copy of the interface alone. -/
theorem hostRead_eq (m : State) (p : Port) {a : Nat} (hb : a ≠ BB_PDATA) (hi : (m.implemented a && m.isolatedWord a) = false) :
    m.hostRead p a = ((m.latchRead (m.iface p).shadow a).1, m.setIface p (fun i => { i with shadow := (m.latchRead (m.iface p).shadow a).2 })) := by
  have ha : m.afterRead a = m := by simp [State.afterRead, hb, hi]
  unfold State.hostRead
  rw [ha]

/-- A word of no wide value is read as it stands, and no shadow copy changes. -/
theorem latchRead_narrow {m : State} {a : Nat} (hw : m.wideOf a = none) (sh : Option (Nat × List Word)) : m.latchRead sh a = (m.readAt a, sh) := by
  simp [State.latchRead, hw]

/-- The first word of a wide value takes the others with it (R38). -/
theorem latchRead_first {m : State} {a n : Nat} (hw : m.wideOf a = some (a, n)) (sh : Option (Nat × List Word)) :
    m.latchRead sh a = (m.readAt a, some (a, (List.range (n - 1)).map (fun k => (m.readAt (a + 1 + k)).1))) := by
  simp [State.latchRead, hw]

theorem readSum_setIface (m : State) (p : Port) (f : Iface → Iface) (head data : List Byte) : (m.setIface p f).readSum p head data = m.readSum p head data := by cases p <;> rfl

/-- An answer after a change of the interface that keeps its result is one change of the interface. -/
theorem reply_setIface (m : State) (p : Port) (f : Iface → Iface) (head data : List Byte) :
    (m.setIface p f).reply p head data = m.setIface p (fun i => repliedIface p (data ++ [m.readSum p head data]) (f i)) := by
  rw [reply_eq, readSum_setIface, setIface_setIface]

theorem acked_repliedIface (p : Port) (r : List Byte) (i : Iface) : (repliedIface p r i).acked = true := by cases p <;> rfl

theorem shadow_repliedIface (p : Port) (r : List Byte) (i : Iface) : (repliedIface p r i).shadow = i.shadow := by cases p <;> rfl

theorem violations_repliedIface (p : Port) (r : List Byte) (i : Iface) : (repliedIface p r i).violations = i.violations := by cases p <;> rfl

/-- What is answered depends on the interface through its last result alone. -/
theorem resp_repliedIface_of_result (m : State) (p : Port) (head data : List Byte) {i : Iface} (hi : i.result = (m.iface p).result) :
    (repliedIface p (data ++ [m.readSum p head data]) i).resp = replyBytes m p head data := by
  rw [← resp_repliedIface m p head data]
  cases p <;> simp [repliedIface, hi]

/-- A word read that has no effect beside the interface answers with the word, its code, and the shadow copy after it. -/
theorem wordRead_answers {p : Port} {code t : Nat} {s : State} (hv : ServesAll p (s.at t)) (hb : (s.iface p).addrOf code ≠ BB_PDATA)
    (hi : (s.implemented ((s.iface p).addrOf code) && s.isolatedWord ((s.iface p).addrOf code)) = false) {x : Word × Nat} {sh : Option (Nat × List Word)}
    (hx : (s.at t).latchRead (s.iface p).shadow ((s.iface p).addrOf code) = (x, sh)) :
    ∃ n, finish s ((s.at t).hostOp p (.wordRead code)) = .next n ∧ (n.iface p).resp = replyBytes (s.at t) p [BitVec.ofNat 8 code] (wordBytes x.1 x.2) ∧ (n.iface p).shadow = sh ∧
      (n.iface p).acked = true ∧ OnlyTarget p (s.at t) n := by
  have hr := hostRead_eq (s.at t) p (a := (s.iface p).addrOf code) hb hi
  rw [iface_at, hx] at hr
  have e := hostOp_wordRead hv code
  rw [iface_at, hr, reply_setIface] at e
  rw [e]
  obtain ⟨n, hn, hni, ho⟩ := onlyTarget_finish (s0 := s) (s := s.at t) p (fun i => repliedIface p (wordBytes x.1 x.2 ++ [(s.at t).readSum p [BitVec.ofNat 8 code] (wordBytes x.1 x.2)]) { i with shadow := sh }) rfl
  refine ⟨n, hn, ?_, ?_, ?_, ho⟩
  · rw [hni]
    exact resp_repliedIface_of_result _ p _ _ rfl
  · rw [hni, shadow_repliedIface]
  · rw [hni, acked_repliedIface]

/-! ### Words that are not there -/

section Absent

variable {s : State}

/-- No word of a context without a record is there (R53). -/
theorem implemented_undefined {c k : Nat} (hc : c < 128) (hk : k < 0x40) (hn : s.ctx? c = none) : s.implemented (ctxAddr c k) = false := by
  have hg : ¬ ctxAddr c k < 0x480 := Nat.not_lt.mpr (Nat.le_trans (by decide) (ctxAddr_ge c k))
  unfold State.implemented
  rw [if_neg hg, if_pos (isCtxAddr_ctxAddr hc hk), ctxOf_ctxAddr hk]
  dsimp only
  rw [hn]
  cases s.image <;> rfl

/-- The wide values of the global pages, by first word and length (R37). -/
def wideGlobals : List (Nat × Nat) := [(LANE_EPOCH, 4), (FE_TIME, 4), (BB_RSEQ, 2), (BB_CLRSEQ, 2), (UPD_FWVER, 2), (FCNT_GATE, 2), (FCNT_RES, 2), (CASC_TOFS, 4)]

/-- No word of a context without a record is part of a wide value. -/
theorem wideOf_undefined {c k : Nat} (hk : k < 0x40) (hn : s.ctx? c = none) : s.wideOf (ctxAddr c k) = none := by
  have hge := ctxAddr_ge c k
  have hlow : ∀ q ∈ wideGlobals, q.1 + q.2 ≤ 0x1000 := by decide
  have hglobal : wideGlobals.find? (fun q => decide (q.1 ≤ ctxAddr c k) && decide (ctxAddr c k < q.1 + q.2)) = none := by
    refine List.find?_eq_none.mpr fun q hq => ?_
    have := hlow q hq
    simp
    omega
  have ht : s.isType c .string = false := by simp [State.isType, hn]
  unfold wideGlobals at hglobal
  unfold State.wideOf
  dsimp only
  rw [hglobal, ctxOf_ctxAddr hk, ht]
  simp

theorem readAt_absent {a : Nat} (hi : s.implemented a = false) (hw : a < 0x4000 ∨ 0x4200 ≤ a) : s.readAt a = (0, 3) := by
  have h1 : ¬ (0x4000 ≤ a ∧ a < 0x4100) := by omega
  have h2 : ¬ (0x4100 ≤ a ∧ a < 0x4200) := by omega
  unfold State.readAt State.read
  rw [if_neg h1, if_neg h2, hi]
  rfl

/-- A word that is there: the recorder's page data. -/
theorem ne_pdata_of_absent {a : Nat} (hi : s.implemented a = false) : a ≠ BB_PDATA := by
  rintro rfl
  have h : s.implemented BB_PDATA = true := rfl
  rw [h] at hi
  cases hi

/-- A write of a word that is not there reaches the journal and the interface's holding copy, and nothing else (R45, R53, R508). -/
theorem hostWrite_absent {p : Port} {a : Nat} (w : Word) (hi : s.implemented a = false) :
    ∃ j l, s.hostWrite p a w = { s.setIface p (fun i => { i with holding := l }) with journal := j } := by
  have happly : ∀ j, ∃ l, { s with journal := j }.applyWrite p.code a w = { s.setIface p (fun i => { i with holding := l }) with journal := j } := by
    intro j
    have hi' : ({ s with journal := j }.setHolding p.code []).implemented a = false := by cases p <;> exact hi
    have hn : (!{ s with journal := j }.implemented a) = true := congrArg not hi
    unfold State.applyWrite
    split
    · rw [if_pos hn]
      exact ⟨(s.iface p).holding, by cases p <;> rfl⟩
    · rw [if_pos (by simp [hi'])]
      exact ⟨[], by cases p <;> rfl⟩
  unfold State.hostWrite
  dsimp only
  split
  · exact ⟨_, happly _⟩
  · exact ⟨s.journal, happly s.journal⟩

end Absent

/-! ### O10 -/

theorem addrOf_context {i : Iface} {c k : Nat} (hk : k < 0x40) (hc : i.ctx = c) : i.addrOf k = ctxAddr c k := by
  rw [Iface.addrOf, if_pos hk, hc, ctxAddr]

theorem violations_doneIface (p : Port) (i : Iface) : (doneIface p i).violations = i.violations := by cases p <;> rfl

theorem resp_doneIface (s : State) (p : Port) : (doneIface p (s.iface p)).resp = doneBytes s p := by cases p <;> rfl

/-- A word write to an address where no word is leaves an acknowledge and nothing else but the journal and the holding copy. -/
theorem wordWrite_absent {p : Port} {code t : Nat} {b0 b1 b2 : Byte} {pec : Option Byte} {s : State} (hv : ServesAll p (s.at t)) (hc : (s.at t).checkBad p [BitVec.ofNat 8 code, b0, b1, b2] pec = none)
    (hi : s.implemented ((s.iface p).addrOf code) = false) :
    ∃ n, finish s ((s.at t).hostOp p (.wordWrite code b0 b1 b2 pec)) = .next n ∧ (n.iface p).acked = true ∧ (n.iface p).resp = doneBytes s p ∧ (n.iface p).violations = (s.iface p).violations ∧
      n.regs = s.regs ∧ n.lane = s.lane ∧ n.mram = s.mram := by
  have hi' : ((s.at t).done p).implemented (((s.at t).iface p).addrOf code) = false := by
    rw [iface_at, done_eq]
    cases p <;> exact hi
  obtain ⟨j, l, e⟩ := hostWrite_absent (p := p) (bytesWord b0 b1 b2) hi'
  rw [hostOp_wordWrite hv hc, e, done_eq, setIface_setIface]
  refine ⟨_, rfl, ?_, ?_, ?_, ?_, ?_, ?_⟩
  · exact (congrArg Iface.acked (iface_setIface (s.at t) p _)).trans (acked_doneIface p _)
  · exact (congrArg Iface.resp (iface_setIface (s.at t) p _)).trans (resp_doneIface s p)
  · exact (congrArg Iface.violations (iface_setIface (s.at t) p _)).trans (violations_doneIface p _)
  · exact State.setIface_regs _ _ _
  · exact State.setIface_lane _ _ _
  · exact State.setIface_mram _ _ _

theorem undefined_reads (p : Port) (c k t : Nat) (s : State) (hv : ServesAll p (s.at t)) (hc : c < 128) (hk : k < 0x40) (hp : (s.iface p).ctx = c) (hn : s.ctx? c = none) :
    ∃ n, exec (.wordRead p k t) s = .next n ∧ (n.iface p).resp = replyBytes (s.at t) p [BitVec.ofNat 8 k] (wordBytes 0 3) ∧ (n.iface p).acked = true ∧ OnlyTarget p (s.at t) n := by
  have ha := addrOf_context hk hp
  have hi := implemented_undefined hc hk hn
  have hr : (s.at t).readAt (ctxAddr c k) = (0, 3) := readAt_absent hi (.inl (by simp only [ctxAddr]; omega))
  have hx : (s.at t).latchRead (s.iface p).shadow (ctxAddr c k) = ((0, 3), (s.iface p).shadow) :=
    (latchRead_narrow (wideOf_undefined hk ((ctx_at s t c).trans hn)) _).trans (congrArg (·, (s.iface p).shadow) hr)
  rw [← ha] at hi hx
  obtain ⟨n, hn, hresp, -, hack, ho⟩ := wordRead_answers hv (ne_pdata_of_absent hi) (by rw [hi]; rfl) hx
  exact ⟨n, (congrArg (fun k => finish s ((s.at t).hostOp p (.wordRead k))) (Nat.mod_eq_of_lt (by omega))).trans hn, hresp, hack, ho⟩

theorem undefined_writes (p : Port) (c k t : Nat) (b0 b1 b2 : Byte) (pec : Option Byte) (s : State) (hv : ServesAll p (s.at t)) (hc : c < 128) (hk : k < 0x40) (hp : (s.iface p).ctx = c) (hn : s.ctx? c = none)
    (hb : (s.at t).checkBad p [BitVec.ofNat 8 k, b0, b1, b2] pec = none) :
    ∃ n, exec (.wordWrite p k b0 b1 b2 pec t) s = .next n ∧ (n.iface p).acked = true ∧ (n.iface p).violations = (s.iface p).violations ∧ n.regs = s.regs ∧ n.lane = s.lane ∧ n.mram = s.mram := by
  obtain ⟨n, hn, hack, -, hviol, hrest⟩ := wordWrite_absent hv hb (by rw [addrOf_context hk hp]; exact implemented_undefined hc hk hn)
  exact ⟨n, (congrArg (fun k => finish s ((s.at t).hostOp p (.wordWrite k b0 b1 b2 pec))) (Nat.mod_eq_of_lt (by omega))).trans hn, hack, hviol, hrest⟩

/-- A control command at a target that answers acts at once. -/
theorem control_answers {p : Port} {m : State} (h : Answers p m) (f : State → State) : m.control p f = f m := by
  obtain ⟨hw, he, ha, ho⟩ := h
  simp [State.control, hw, ha, ho, State.hostWake, he]

theorem undefined_selected (p : Port) (c t : Nat) (v : Byte) (pec : Option Byte) (s : State) (hv : Answers p (s.at t)) (hc : v.toNat = c) (hl : c ≤ 0x7F) (hb : (s.at t).checkBad p [0xE2, v] pec = none) :
    ∃ n, exec (.cpageWrite p v pec t) s = .next n ∧ (n.iface p).ctx = c ∧ (n.iface p).acked = true ∧ OnlyTarget p (s.at t) n := by
  have hf : ¬ 0x7F < v.toNat := by omega
  have e : exec (.cpageWrite p v pec t) s = finish s ((s.at t).setIface p (fun i => { doneIface p i with ctx := v.toNat })) := by
    show finish s _ = _
    rw [control_answers hv, if_neg hf]
    simp only [State.framed, hb]
    rw [done_eq, setIface_setIface]
  obtain ⟨n, hn, hi, ho⟩ := onlyTarget_finish (s0 := s) (s := s.at t) p (fun i => { doneIface p i with ctx := v.toNat }) rfl
  exact ⟨n, e.trans hn, (congrArg Iface.ctx hi).trans hc, (congrArg Iface.acked hi).trans (acked_doneIface p _), ho⟩

/-- A block of one word has the pointer's own address. -/
theorem blockAddrs_one {i : Iface} (h : i.ptr < 65536) : i.blockAddrs 3 = [i.ptr] := by
  simp [Iface.blockAddrs, Nat.mod_eq_of_lt h]

theorem pointer_reads (p : Port) (t : Nat) (s : State) (hv : ServesAll p (s.at t)) (hi : s.implemented (s.iface p).ptr = false) (hr : (s.iface p).ptr < 0x4000 ∨ 0x4200 ≤ (s.iface p).ptr)
    (hp : (s.iface p).ptr < 65536) (hw : s.wideOf (s.iface p).ptr = none) :
    ∃ n, exec (.blockRead p 3 t) s = .next n ∧ (n.iface p).resp = replyBytes (s.at t) p [0xE1, 3] (3 :: wordBytes 0 3) ∧ (n.iface p).acked = true ∧ (n.iface p).violations = (s.iface p).violations ∧ OnlyTarget p (s.at t) n := by
  have hx : (s.at t).latchRead (s.iface p).shadow (s.iface p).ptr = ((0, 3), (s.iface p).shadow) :=
    (latchRead_narrow (m := s.at t) hw _).trans (congrArg (·, (s.iface p).shadow) (readAt_absent (s := s.at t) hi hr))
  have hread := hostRead_eq (s.at t) p (ne_pdata_of_absent hi) (by rw [show (s.at t).implemented (s.iface p).ptr = false from hi]; rfl)
  rw [iface_at, hx] at hread
  have hblock : State.hostBlockRead p .full [(s.iface p).ptr] (s.at t) = (wordBytes 0 3, (s.at t).setIface p (fun i => { i with shadow := (s.iface p).shadow })) := by
    simp only [State.hostBlockRead, Service.serves, if_true, hread, List.append_nil]
  have e : exec (.blockRead p 3 t) s = finish s ((s.at t).setIface p (fun i => repliedIface p ((3 :: wordBytes 0 3) ++ [(s.at t).readSum p [0xE1, 3] (3 :: wordBytes 0 3)]) { i with shadow := (s.iface p).shadow, ptr := (i.ptr + 1) % 65536 })) := by
    show finish s ((s.at t).hostOp p (.blockRead 3)) = _
    rw [hostOp_serve hv rfl (Nat.zero_le _), State.serve]
    rw [iface_at, blockAddrs_one hp, hblock, setIface_setIface, reply_setIface]
    rfl
  obtain ⟨n, hn, hni, ho⟩ := onlyTarget_finish (s0 := s) (s := s.at t) p (fun i => repliedIface p ((3 :: wordBytes 0 3) ++ [(s.at t).readSum p [0xE1, 3] (3 :: wordBytes 0 3)]) { i with shadow := (s.iface p).shadow, ptr := (i.ptr + 1) % 65536 }) rfl
  refine ⟨n, e.trans hn, ?_, ?_, ?_, ho⟩
  · rw [hni]
    exact resp_repliedIface_of_result _ p _ _ rfl
  · rw [hni, acked_repliedIface]
  · rw [hni, violations_repliedIface, iface_at]

theorem pointer_writes (p : Port) (t : Nat) (b0 b1 b2 : Byte) (pec : Option Byte) (s : State) (hv : ServesAll p (s.at t)) (hi : s.implemented (s.iface p).ptr = false) (hp : (s.iface p).ptr < 65536)
    (hb : (s.at t).checkBad p [0xE1, 3, b0, b1, b2] pec = none) :
    ∃ n, exec (.blockWrite p 3 [b0, b1, b2] pec t) s = .next n ∧ (n.iface p).acked = true ∧ (n.iface p).violations = (s.iface p).violations ∧ n.regs = s.regs ∧ n.lane = s.lane ∧ n.mram = s.mram := by
  have hone : ¬ 2 ≤ pec.toList.length := by cases pec <;> simp
  have hsame : pec.toList.head? = pec := by cases pec <;> rfl
  have hi' : (((s.at t).done p).setIface p (fun i => { i with ptr := (i.ptr + 1) % 65536 })).implemented (s.iface p).ptr = false := by
    cases p <;> exact hi
  obtain ⟨j, l, hw⟩ := hostWrite_absent (p := p) (bytesWord b0 b1 b2) hi'
  have hne : ¬ (s.iface p).ptr = RST_SW := by
    intro h
    rw [h] at hi
    exact Bool.noConfusion (hi.symm.trans (rfl : s.implemented RST_SW = true))
  have e : (s.at t).hostOp p (.blockWrite 3 [b0, b1, b2] pec) = (((s.at t).done p).setIface p (fun i => { i with ptr := (i.ptr + 1) % 65536 })).hostWrite p (s.iface p).ptr (bytesWord b0 b1 b2) := by
    have hn : (HostOp.blockWrite 3 [b0, b1, b2] pec).entries ((s.at t).iface p) ≤ 32 := by
      rw [HostOp.entries, iface_at, blockAddrs_one hp]
      exact (List.length_filter_le _ _).trans (by simp)
    rw [hostOp_serve hv rfl hn, State.serve]
    dsimp only
    rw [iface_at, blockAddrs_one hp, if_neg (by simp), if_neg (by simp [hone])]
    have hb' : (s.at t).checkBad p [225#8, 3#8, b0, b1, b2] pec = none := hb
    simp [State.framed, hb', hsame, wordsOf, State.hostBlock, Service.serves, hne]
  rw [done_eq, setIface_setIface] at hw e
  rw [hw, setIface_setIface] at e
  refine ⟨_, congrArg (finish s) e, ?_, ?_, ?_, ?_, ?_⟩
  · exact (congrArg Iface.acked (iface_setIface (s.at t) p _)).trans (acked_doneIface p _)
  · exact (congrArg Iface.violations (iface_setIface (s.at t) p _)).trans (violations_doneIface p _)
  · exact State.setIface_regs _ _ _
  · exact State.setIface_lane _ _ _
  · exact State.setIface_mram _ _ _

/-- Settles O10: words of an undefined context and at an unimplemented pointer read as zero, and writes to them stop at the check for a word. -/
theorem undefinedWordsReadAsZero : Obligations.UndefinedWordsReadAsZero :=
  ⟨undefined_reads, undefined_writes, fun p c t v pec s hv hc hl _ hb => undefined_selected p c t v pec s hv hc hl hb, pointer_reads, pointer_writes⟩

end Sys2Proof
end
-- ==== Sys2Proof/Proofs/Units/WordWrites.lean ====
section
/-! O8: words written and read by a target. -/

namespace Sys2Proof

open Machine

/-! ### A write of a context's word that a target accepts -/

theorem resp_acceptedIface (s : State) (p : Port) : (acceptedIface p (s.iface p)).resp = doneBytes s p := by cases p <;> rfl

section Accepted

variable (m : State) (p : Port) (a : Nat) (w : Word)

theorem accepted_regs : (accepted m p a w).regs = m.regs := by rw [accepted_eq]; exact State.setIface_regs _ _ _

theorem accepted_clamped : (accepted m p a w).clamped = m.clamped := by rw [accepted_eq]; exact State.setIface_clamped _ _ _

theorem accepted_mram : (accepted m p a w).mram = m.mram := by rw [accepted_eq]; exact State.setIface_mram _ _ _

theorem accepted_now : (accepted m p a w).now = m.now := by rw [accepted_eq]; exact State.setIface_now _ _ _

theorem accepted_iface : (accepted m p a w).iface p = acceptedIface p (m.iface p) := by rw [accepted_eq]; cases p <;> rfl

theorem accepted_ctx (c : Nat) : (accepted m p a w).ctx? c = m.ctx? c := by rw [accepted_eq]; cases p <;> rfl

theorem accepted_implemented (b : Nat) : (accepted m p a w).implemented b = m.implemented b := by rw [accepted_eq]; cases p <;> rfl

theorem accepted_shape (b : Nat) : (accepted m p a w).shape? b = m.shape? b := by rw [accepted_eq]; cases p <;> rfl

theorem accepted_legal (b : Nat) (v : Word) : (accepted m p a w).legal b v = m.legal b v := by rw [accepted_eq]; cases p <;> rfl

theorem accepted_clampWord (b : Nat) (v : Word) : (accepted m p a w).clampWord b v = m.clampWord b v := by rw [accepted_eq]; cases p <;> rfl

theorem accepted_routeRefused (r : CtxRec) (k : Nat) (v : Word) : (accepted m p a w).routeRefused r k v = m.routeRefused r k v := by rw [accepted_eq]; cases p <;> rfl

end Accepted

theorem ctxAddr_journalled {c k : Nat} (hc : c < 128) (hk : k < 0x40) : journalled (ctxAddr c k) = true := by
  have hge := ctxAddr_ge c k
  have h1 : ¬ ctxAddr c k < 0x40 := by omega
  have h2 : ¬ (0x3C0 ≤ ctxAddr c k ∧ ctxAddr c k < 0x400) := by omega
  have h3 : ¬ ctxAddr c k < 0x480 := by omega
  simp [journalled, needOf, h1, h2, h3, isCtxAddr_ctxAddr hc hk]

theorem ctxAddr_notIsolated (s : State) (c k : Nat) : s.isolatedWord (ctxAddr c k) = false :=
  isolatedWord_outside s (.inr (.inl (Nat.lt_of_lt_of_le (by decide) (ctxAddr_ge c k)))) (.inr (Nat.le_trans (by decide) (ctxAddr_ge c k)))

/-- A write of a word that is there in a context is a write of that context. -/
theorem applyWrite_context (m : State) (via : Nat) {c k : Nat} {r : CtxRec} (hc : c < 128) (hk : k < 0x40) (hr : (m.setHolding via []).ctx? c = some r) (hi : (m.setHolding via []).implemented (ctxAddr c k) = true) (w : Word) :
    m.applyWrite via (ctxAddr c k) w = (m.setHolding via []).writeCtx r k w := by
  have hge := ctxAddr_ge c k
  have hg : ¬ (ctxAddr c k = FCNT_GATE ∨ ctxAddr c k = FCNT_GATE + 1) := fun h => h.elim (ctxAddr_ne_global c k (by decide)) (ctxAddr_ne_global c k (by decide))
  have hb : ¬ (m.setHolding via []).isolatedWord (ctxAddr c k) = true := by rw [ctxAddr_notIsolated]; decide
  have h40 : ¬ ctxAddr c k < 0x40 := by omega
  have h480 : ¬ ctxAddr c k < 0x480 := by omega
  unfold State.applyWrite
  rw [if_neg hg]
  dsimp only
  rw [if_neg (by simp [hi]), if_neg hb, if_neg h40, if_neg h480, if_pos (isCtxAddr_ctxAddr hc hk), ctxOf_ctxAddr hk]
  dsimp only
  rw [hr]

/-- A target's write of such a word acts once the target has answered and the journal holds the write. -/
theorem hostWrite_context {p : Port} {m : State} {c k : Nat} {r : CtxRec} (h : ServesAll p m) (hc : c < 128) (hk : k < 0x40) (hr : m.ctx? c = some r) (hi : m.implemented (ctxAddr c k) = true) (w : Word) :
    (m.done p).hostWrite p (ctxAddr c k) w = (accepted m p (ctxAddr c k) w).writeCtx r k w := by
  obtain ⟨-, -, hv, -, -⟩ := h
  have hv' : ((m.done p).service p == .full) = true := by
    rw [show (m.done p).service p = m.service p by cases p <;> rfl, hv]
    rfl
  have hs : State.setHolding { m.done p with journal := (m.done p).journal ++ [{ addr := ctxAddr c k, word := w, via := p.code, applied := (m.done p).now, commits := 0 }] } p.code [] = accepted m p (ctxAddr c k) w := by
    rw [accepted, if_pos (ctxAddr_journalled hc hk)]
    cases p <;> rfl
  unfold State.hostWrite
  rw [hv', ctxAddr_journalled hc hk, Bool.and_self, if_pos rfl]
  dsimp only
  rw [applyWrite_context _ _ hc hk (by rw [hs, accepted_ctx]; exact hr) (by rw [hs, accepted_implemented]; exact hi), hs]

/-! ### What a stored word leaves -/

/-- What a write that stores a value with its clamped mark in a word of a context leaves (R43, R45, R59, R61). -/
structure Stores (s n : State) (c k : Nat) (x : Word × Bool) : Prop where
  word : n.cw c k = x.1
  mark : n.isClamped (ctxAddr c k) = x.2
  status : x.2 = true → n.flag (ctxAddr c CTX_STS) 1 = true
  kept : Kept s n [ctxAddr c k, ctxAddr c CTX_STS, ctxAddr c CTX_GOV]
  rest : n = { s with regs := n.regs, clamped := n.clamped }

section Store

variable {s : State} {c k : Nat}

theorem storeAs_regsOk (hr : RegsOk s) (a : Nat) (x : Word × Bool) : RegsOk (s.storeAs a x) := by
  have hro : RegsOk ((s.setReg a x.1).markClamped a x.2) := setReg_regsOk hr _ _
  unfold State.storeAs
  dsimp only
  split
  · exact setReg_regsOk hro _ _
  · exact hro

theorem storeAs_stores (hr : RegsOk s) (hcl : canonical false s.clamped = true) (hc : c < 128) (hk : k < 0x40) (hs : k ≠ CTX_STS) (x : Word × Bool) : Stores s (s.storeAs (ctxAddr c k) x) c k x := by
  have hro : RegsOk ((s.setReg (ctxAddr c k) x.1).markClamped (ctxAddr c k) x.2) := setReg_regsOk hr _ _
  have hcw : ((s.setReg (ctxAddr c k) x.1).markClamped (ctxAddr c k) x.2).cw c k = x.1 := reg_setReg_same hr _ _
  have hm : ((s.setReg (ctxAddr c k) x.1).markClamped (ctxAddr c k) x.2).isClamped (ctxAddr c k) = x.2 := lookup_assign_same hcl
  have hkept : Kept s ((s.setReg (ctxAddr c k) x.1).markClamped (ctxAddr c k) x.2) [ctxAddr c k, ctxAddr c CTX_STS, ctxAddr c CTX_GOV] := kept_setReg hr _ (by simp)
  unfold State.storeAs
  rw [isCtxAddr_ctxAddr hc hk, ctxOf_ctxAddr hk, Bool.and_true]
  dsimp only
  split
  · exact ⟨(reg_setReg_other hro _ (fun h => hs ((ctxAddr_inj c k CTX_STS).mp h))).trans hcw, hm, fun _ => flag_sts_same hro c (by decide), kept_trans hkept (kept_setReg hro _ (by simp)), rfl⟩
  · rename_i hx
    exact ⟨hcw, hm, fun h => absurd h hx, hkept, rfl⟩

/-- CTX.GOV is neither the word stored nor CTX.STS. -/
theorem Stores.setGov {n : State} {x : Word × Bool} (h : Stores s n c k x) (hn : RegsOk n) (hg : k ≠ CTX_GOV) (j : Nat) (b : Bool) : Stores s (n.setFlag (ctxAddr c CTX_GOV) j b) c k x where
  word := (reg_setReg_other hn _ (fun e => hg ((ctxAddr_inj c k CTX_GOV).mp e))).trans h.word
  mark := h.mark
  status hx := (flag_setFlag_other hn j 1 b (fun e => absurd ((ctxAddr_inj c CTX_STS CTX_GOV).mp e) (by decide))).trans (h.status hx)
  kept := kept_trans h.kept (kept_setReg hn _ (by simp))
  rest := by
    obtain ⟨-, -, -, -, hrest⟩ := h
    rw [hrest]
    rfl

/-- What a plain write of a value leaves in a word, made legal and clamped, with the word's clamped mark (R43, R45). -/
def putValue (s : State) (a : Nat) (w : Word) : Word × Bool := ((s.clampWord a (s.legal a w).1).1, (s.clampWord a (s.legal a w).1).2 || (s.legal a w).2)

/-- A plain write of a writable word stores the value made legal and clamped. -/
theorem put_writable {a : Nat} (hi : s.implemented a = true) (hn : s.shape? a ≠ none) (hs : s.shape? a ≠ some .readOnly) (w : Word) :
    s.put a w = s.storeAs a (putValue s a w) := by
  unfold State.put State.putAs
  rw [hi, Bool.not_true, if_neg Bool.false_ne_true]
  split
  · exact absurd ‹_› hn
  · exact absurd ‹_› hs
  · rfl

/-- Every word that is there in a context has a shape. -/
theorem shape_of_implemented (hc : c < 128) (hk : k < 0x40) (hi : s.implemented (ctxAddr c k) = true) : s.shape? (ctxAddr c k) ≠ none := by
  have hg : ¬ ctxAddr c k < 0x480 := Nat.not_lt.mpr (Nat.le_trans (by decide) (ctxAddr_ge c k))
  intro hn
  unfold State.implemented at hi
  rw [if_neg hg, if_pos (isCtxAddr_ctxAddr hc hk), hn] at hi
  split at hi <;> simp at hi

/-- The words of a shelf, branch, rail or zone are plain (R43). -/
theorem writeOwn_plain {r : CtxRec} (ht : r.typ = .shelf ∨ r.typ = .branch ∨ r.typ = .rail ∨ r.typ = .zone) (k : Nat) (w : Word) : s.writeOwn r k w = s.put (ctxAddr r.ctx k) w := by
  unfold State.writeOwn
  obtain h | h | h | h := ht <;> rw [h]

/-- Beside the word itself a write that is not turned away may begin CTX.GOV.VALID anew (R61). -/
theorem writeCtx_own {r : CtxRec} {w : Word} (hf : s.routeRefused r k w = false) :
    s.writeCtx r k w = s.writeOwn r k w ∨ s.writeCtx r k w = (s.writeOwn r k w).setFlag (ctxAddr r.ctx CTX_GOV) 8 false := by
  unfold State.writeCtx
  rw [hf, if_neg Bool.false_ne_true]
  dsimp only
  split
  · exact .inr rfl
  · exact .inl rfl

/-- A write of a word of such a context stores what the write leaves of its value. -/
theorem writeCtx_stores {r : CtxRec} {w : Word} (hr : RegsOk s) (hcl : canonical false s.clamped = true) (hc : c < 128) (h10 : 0x10 ≤ k) (hk : k < 0x40) (hrc : r.ctx = c)
    (ht : r.typ = .shelf ∨ r.typ = .branch ∨ r.typ = .rail ∨ r.typ = .zone) (hi : s.implemented (ctxAddr c k) = true) (hs : s.shape? (ctxAddr c k) ≠ some .readOnly) (hf : s.routeRefused r k w = false) :
    Stores s (s.writeCtx r k w) c k (putValue s (ctxAddr c k) w) := by
  subst hrc
  have hput : s.writeOwn r k w = s.storeAs (ctxAddr r.ctx k) (putValue s (ctxAddr r.ctx k) w) := (writeOwn_plain ht k w).trans (put_writable hi (shape_of_implemented hc hk hi) hs w)
  have hst : Stores s (s.writeOwn r k w) r.ctx k (putValue s (ctxAddr r.ctx k) w) := hput ▸ storeAs_stores hr hcl hc hk (by rintro rfl; exact absurd h10 (by decide)) _
  rcases writeCtx_own hf with h | h <;> rw [h]
  · exact hst
  · exact hst.setGov (hput ▸ storeAs_regsOk hr _ _) (by rintro rfl; exact absurd h10 (by decide)) 8 false

end Store

/-! ### O8 -/

theorem absent_acknowledged (p : Port) (code t : Nat) (b0 b1 b2 : Byte) (pec : Option Byte) (s : State) (hv : ServesAll p (s.at t)) (hl : code < 128)
    (hc : (s.at t).checkBad p [BitVec.ofNat 8 code, b0, b1, b2] pec = none) (hi : s.implemented ((s.iface p).addrOf code) = false) :
    ∃ n, exec (.wordWrite p code b0 b1 b2 pec t) s = .next n ∧ (n.iface p).acked = true ∧ (n.iface p).resp = doneBytes s p ∧ n.regs = s.regs ∧ n.mram = s.mram := by
  obtain ⟨n, hn, hack, hresp, -, hregs, -, hmram⟩ := wordWrite_absent hv hc hi
  exact ⟨n, (congrArg (fun k => finish s ((s.at t).hostOp p (.wordWrite k b0 b1 b2 pec))) (Nat.mod_eq_of_lt hl)).trans hn, hack, hresp, hregs, hmram⟩

theorem own_written (p : Port) (c k t : Nat) (b0 b1 b2 : Byte) (pec : Option Byte) (r : CtxRec) (s : State) (hr : RegsOk s) (hcl : canonical false s.clamped = true) (hv : ServesAll p (s.at t)) (hc : c < 128)
    (h10 : 0x10 ≤ k) (hk : k < 0x40) (hb : (s.at t).checkBad p [BitVec.ofNat 8 k, b0, b1, b2] pec = none) (hp : (s.iface p).ctx = c) (hx : s.ctx? c = some r)
    (ht : r.typ = .shelf ∨ r.typ = .branch ∨ r.typ = .rail ∨ r.typ = .zone) (hi : s.implemented (ctxAddr c k) = true) (hs : s.shape? (ctxAddr c k) ≠ some .readOnly) (hf : s.routeRefused r k (bytesWord b0 b1 b2) = false) :
    ∃ n, exec (.wordWrite p k b0 b1 b2 pec t) s = .next n ∧ (n.iface p).acked = true ∧ (n.iface p).resp = doneBytes s p ∧
      n.cw c k = (s.clampWord (ctxAddr c k) (s.legal (ctxAddr c k) (bytesWord b0 b1 b2)).1).1 ∧
      n.isClamped (ctxAddr c k) = ((s.clampWord (ctxAddr c k) (s.legal (ctxAddr c k) (bytesWord b0 b1 b2)).1).2 || (s.legal (ctxAddr c k) (bytesWord b0 b1 b2)).2) ∧
      (n.isClamped (ctxAddr c k) = true → n.flag (ctxAddr c CTX_STS) 1 = true) ∧
      Kept s n [ctxAddr c k, ctxAddr c CTX_STS, ctxAddr c CTX_GOV] ∧ n.mram = s.mram ∧
      n.journal = s.journal ++ [{ addr := ctxAddr c k, word := bytesWord b0 b1 b2, via := p.code, applied := n.now, commits := 0 }] := by
  subst hp
  have hrc : r.ctx = (s.iface p).ctx := ctx_number hx
  generalize hw : bytesWord b0 b1 b2 = w at hf ⊢
  generalize hcc : (s.iface p).ctx = c at hc hx hi hs hrc ⊢
  have e : exec (.wordWrite p k b0 b1 b2 pec t) s = finish s ((accepted (s.at t) p (ctxAddr c k) w).writeCtx r k w) := by
    show finish s ((s.at t).hostOp p (.wordWrite (k % 128) b0 b1 b2 pec)) = _
    rw [Nat.mod_eq_of_lt (Nat.lt_trans hk (by decide)), hostOp_wordWrite hv hb, iface_at, addrOf_context hk hcc, hw, hostWrite_context hv hc hk hx hi]
  have hj : (accepted (s.at t) p (ctxAddr c k) w).journal = s.journal ++ [{ addr := ctxAddr c k, word := w, via := p.code, applied := (s.at t).now, commits := 0 }] := by
    rw [accepted, if_pos (ctxAddr_journalled hc hk)]
    rfl
  have hst : Stores (accepted (s.at t) p (ctxAddr c k) w) ((accepted (s.at t) p (ctxAddr c k) w).writeCtx r k w) c k (putValue s (ctxAddr c k) w) := by
    rw [show putValue s (ctxAddr c k) w = putValue (accepted (s.at t) p (ctxAddr c k) w) (ctxAddr c k) w by simp only [putValue, accepted_clampWord, accepted_legal]; rfl]
    refine writeCtx_stores ((regsOk_of_regs (accepted_regs _ p _ w)).mpr hr) ((accepted_clamped (s.at t) p _ w).symm ▸ hcl) hc h10 hk hrc ht ?_ ?_ ?_
    · exact (accepted_implemented _ p _ w _).trans hi
    · rw [accepted_shape]
      exact hs
    · exact (accepted_routeRefused _ p _ w r k w).trans hf
  have hregs := accepted_regs (s.at t) p (ctxAddr c k) w
  have hmram := accepted_mram (s.at t) p (ctxAddr c k) w
  have hiface := accepted_iface (s.at t) p (ctxAddr c k) w
  have hnow : (accepted (s.at t) p (ctxAddr c k) w).now = (s.at t).now := accepted_now _ p _ w
  generalize (accepted (s.at t) p (ctxAddr c k) w).writeCtx r k w = y at e hst
  generalize accepted (s.at t) p (ctxAddr c k) w = x at hst hregs hmram hiface hnow hj
  obtain ⟨hword, hmark, hsts, hkept, hrest⟩ := hst
  have hyi : y.iface p = acceptedIface p (s.iface p) := by
    rw [hrest, ← iface_at s t, ← hiface]
    cases p <;> rfl
  have hyj : y.journal = s.journal ++ [{ addr := ctxAddr c k, word := w, via := p.code, applied := y.now, commits := 0 }] := by
    rw [show y.now = (s.at t).now from (congrArg State.now hrest).trans hnow]
    exact (congrArg State.journal hrest).trans hj
  refine ⟨_, e, ?_, ?_, hword, hmark, fun h => hsts (hmark.symm.trans h), kept_trans (kept_of_regs hregs) hkept, (congrArg State.mram hrest).trans hmram, hyj⟩
  · exact (congrArg Iface.acked hyi).trans (acked_acceptedIface p _)
  · exact (congrArg Iface.resp hyi).trans (resp_acceptedIface s p)

theorem word_read (p : Port) (code t : Nat) (s : State) (hv : ServesAll p (s.at t)) (hl : code < 128) (hw : s.wideOf ((s.iface p).addrOf code) = none) (hb : (s.iface p).addrOf code ≠ BB_PDATA)
    (hi : s.isolatedWord ((s.iface p).addrOf code) = false) :
    ∃ n, exec (.wordRead p code t) s = .next n ∧
      (n.iface p).resp = replyBytes (s.at t) p [BitVec.ofNat 8 code] (wordBytes ((s.at t).readAt ((s.iface p).addrOf code)).1 ((s.at t).readAt ((s.iface p).addrOf code)).2) ∧
      (n.iface p).acked = true ∧ OnlyTarget p (s.at t) n := by
  obtain ⟨n, hn, hresp, -, hack, ho⟩ := wordRead_answers hv hb (by rw [hi, Bool.and_false]) (latchRead_narrow (m := s.at t) hw _)
  exact ⟨n, (congrArg (fun k => finish s ((s.at t).hostOp p (.wordRead k))) (Nat.mod_eq_of_lt hl)).trans hn, hresp, hack, ho⟩

/-- The recorder's page data is no wide value. -/
theorem wideOf_pdata (s : State) : s.wideOf BB_PDATA = none := rfl

theorem wide_read (p : Port) (code t m : Nat) (s : State) (hv : ServesAll p (s.at t)) (hl : code < 128) (hw : s.wideOf ((s.iface p).addrOf code) = some ((s.iface p).addrOf code, m))
    (hi : s.isolatedWord ((s.iface p).addrOf code) = false) :
    ∃ n, exec (.wideValueFirstRead p code t) s = .next n ∧
      (n.iface p).resp = replyBytes (s.at t) p [BitVec.ofNat 8 code] (wordBytes ((s.at t).readAt ((s.iface p).addrOf code)).1 ((s.at t).readAt ((s.iface p).addrOf code)).2) ∧
      (n.iface p).shadow = some ((s.iface p).addrOf code, (List.range (m - 1)).map (fun k => ((s.at t).readAt ((s.iface p).addrOf code + 1 + k)).1)) ∧
      (n.iface p).acked = true ∧ OnlyTarget p (s.at t) n := by
  have hb : (s.iface p).addrOf code ≠ BB_PDATA := by
    intro h
    rw [h, wideOf_pdata] at hw
    cases hw
  obtain ⟨n, hn, hresp, hsh, hack, ho⟩ := wordRead_answers hv hb (by rw [hi, Bool.and_false]) (latchRead_first (m := s.at t) hw _)
  exact ⟨n, (congrArg (fun k => finish s ((s.at t).hostOp p (.wordRead k))) (Nat.mod_eq_of_lt hl)).trans hn, hresp, hsh, hack, ho⟩

/-- Settles O8: a write stops at a word that is not there, and stores the value made legal in a plain word of a context; a read answers with the word and its code, and latches a wide value. -/
theorem hostWordsAreWrittenAndRead : Obligations.HostWordsAreWrittenAndRead :=
  ⟨absent_acknowledged, own_written, word_read, wide_read⟩

end Sys2Proof
end
-- ==== Sys2Proof/Proofs/Units/Graphs.lean ====
section
/-! O43: requests to graphs. -/

namespace Sys2Proof

open Machine

/-! ### What a request leaves -/

/-- The words of the global pages outside a list are left, and the accepted inputs. -/
structure Leaves (s n : State) (l : List Nat) : Prop where
  ok : RegsOk n
  word : ∀ a, a < 0x1000 → a ∉ l → n.reg a = s.reg a
  accepted : n.accepted = s.accepted

section Leaves

variable {s m : State} {l : List Nat}

theorem leaves_refl (hr : RegsOk s) : Leaves s s l := ⟨hr, fun _ _ _ => rfl, rfl⟩

variable (h : Leaves s m l)

include h

theorem Leaves.setReg {a : Nat} (ha : a ∈ l ∨ 0x1000 ≤ a) (w : Word) : Leaves s (m.setReg a w) l where
  ok := setReg_regsOk h.ok a w
  word b hb hl := by
    have hne : b ≠ a := by
      rintro rfl
      exact ha.elim hl (by omega)
    exact (reg_setReg_other h.ok w hne).trans (h.word b hb hl)
  accepted := h.accepted

/-- A word of a context is no word of the global pages. -/
theorem Leaves.setContext (c k : Nat) (w : Word) : Leaves s (m.setReg (ctxAddr c k) w) l := h.setReg (.inr (ctxAddr_ge c k)) w

/-- A change beside the words and the accepted inputs. -/
theorem Leaves.beside {n : State} (hr : n.regs = m.regs) (ha : n.accepted = m.accepted) : Leaves s n l :=
  ⟨(regsOk_of_regs hr).mpr h.ok, fun a hl hb => (reg_of_regs hr a).trans (h.word a hl hb), ha.trans h.accepted⟩

theorem Leaves.forEach {α : Type} (xs : List α) {f : α → State → State} (hf : ∀ x z, Leaves s z l → Leaves s (f x z) l) : Leaves s (m.forEach xs f) l := by
  induction xs generalizing m with
  | nil => exact h
  | cons x xs ih => exact ih (hf x m h)

theorem Leaves.graphUp {g : Nat} (hg : SEQ_GSTATE + g ∈ l) : Leaves s (m.graphUp g) l :=
  (((h.setReg (.inl hg) _).setReg (.inl hg) _).setReg (.inl hg) _).beside rfl rfl

theorem Leaves.dropCycles (g : Nat) : Leaves s (m.dropCycles g) l := by
  refine (h.forEach _ fun p z hz => ?_).beside rfl rfl
  unfold State.cycleOver State.onlyIf
  split
  · exact hz.beside rfl rfl
  · exact hz

theorem Leaves.graphDown {g : Nat} (hg : SEQ_GSTATE + g ∈ l) (fault forced : Bool) : Leaves s (m.graphDown g fault forced) l :=
  ((((h.dropCycles g).setReg (.inl hg) _).setReg (.inl hg) _).setReg (.inl hg) _).beside rfl rfl

theorem Leaves.railOffNow (c : Nat) : Leaves s (m.railOffNow c) l := (h.setContext c CTX_STATE _).beside rfl rfl

theorem Leaves.railFall (c : Nat) : Leaves s (m.railFall c) l := (h.setContext c CTX_STATE _).beside rfl rfl

theorem Leaves.dischargeOn (c : Nat) : Leaves s (m.dischargeOn c) l := by
  unfold State.dischargeOn
  split
  · exact (h.beside (n := m.start (.discharge c)) rfl rfl).setContext c CTX_STS _
  · exact h

end Leaves

/-- The enable of a rail withdrawn: one that waits for its turn is Off, one that is enabled falls. -/
def withdraw (r : GraphRec) (s : State) : State := if s.code r.rail = 1 then s.railOffNow r.rail else if s.code r.rail = 2 ∨ s.code r.rail = 3 ∨ s.code r.rail = 4 then s.railFall r.rail else s

/-- A rail of a graph forced off: its enable withdrawn, with its discharge while it has not fallen (R312). -/
def forceRail (r : GraphRec) (s : State) : State := if (withdraw r s).railFallen r.rail then withdraw r s else (withdraw r s).dischargeOn r.rail

theorem Leaves.withdraw {s m : State} {l : List Nat} (h : Leaves s m l) (r : GraphRec) : Leaves s (withdraw r m) l := by
  unfold Sys2Proof.withdraw
  split
  · exact h.railOffNow _
  · split
    · exact h.railFall _
    · exact h

theorem Leaves.forceRail {s m : State} {l : List Nat} (h : Leaves s m l) (r : GraphRec) : Leaves s (forceRail r m) l := by
  unfold Sys2Proof.forceRail
  split
  · exact h.withdraw r
  · exact (h.withdraw r).dischargeOn _

/-! ### What a request does to its graph -/

section Requests

variable {s : State} {g : Nat}

/-- A forced off of a graph that is neither Off nor in Off-wait begins a power-down and then acts on the rails. -/
theorem forceOff_eq (h0 : s.gcode g ≠ 0) (h4 : s.gcode g ≠ 4) :
    s.forceOff g = ((s.graphDown g false true).setPendOn g false).forEach (((s.graphDown g false true).setPendOn g false).railsOf g) forceRail := by
  unfold State.forceOff
  rw [if_neg (by simp [h0, h4])]
  rfl

theorem onRequest_leaves (hr : RegsOk s) : Leaves s (s.onRequest g) [SEQ_GSTATE + g, SEQ_STS] := by
  have h := leaves_refl (l := [SEQ_GSTATE + g, SEQ_STS]) hr
  unfold State.onRequest
  split
  · split
    · exact h.setReg (.inl (by simp)) _
    · exact h.graphUp (by simp)
  · exact (h.setReg (.inl (by simp)) _).setReg (.inl (by simp)) _
  · exact h.setReg (.inl (by simp)) _
  · exact h

theorem offRequest_leaves (hr : RegsOk s) : Leaves s (s.offRequest g) [SEQ_GSTATE + g] := by
  have h := leaves_refl (l := [SEQ_GSTATE + g]) hr
  unfold State.offRequest
  split
  · exact h.graphDown (by simp) _ _
  · exact h.graphDown (by simp) _ _
  · exact h.setReg (.inl (by simp)) _
  · exact h

theorem forceOff_leaves (hr : RegsOk s) : Leaves s (s.forceOff g) [SEQ_GSTATE + g] := by
  have h := leaves_refl (l := [SEQ_GSTATE + g]) hr
  by_cases hc : s.gcode g = 0 ∨ s.gcode g = 4
  · unfold State.forceOff
    rw [if_pos hc]
    exact h
  · rw [forceOff_eq (fun e => hc (.inl e)) (fun e => hc (.inr e))]
    exact ((h.graphDown (by simp) _ _).setReg (.inl (by simp)) _).forEach _ (fun r z hz => hz.forceRail r)

theorem graphUp_up (hr : RegsOk s) : (s.graphUp g).gcode g = 1 ∧ (s.graphUp g).pendOn g = false := by
  have h1 : RegsOk (s.setGcode g 1) := setReg_regsOk hr _ _
  have h2 : RegsOk ((s.setGcode g 1).setPendOn g false) := setReg_regsOk h1 _ _
  constructor
  · calc (s.graphUp g).gcode g
        _ = ((s.setGcode g 1).setPendOn g false).gcode g := fld_setFlag_apart h2 _ false (by decide) (by decide)
        _ = (s.setGcode g 1).gcode g := fld_setFlag_apart h1 _ false (by decide) (by decide)
        _ = 1 := fld_setFld_same hr _ (by decide) (by decide)
  · exact (flag_setFlag_apart h2 _ false (by decide) (by decide)).trans (flag_setFlag_same h1 _ false (by decide))

theorem graphDown_down (hr : RegsOk s) (fault forced : Bool) :
    (s.graphDown g fault forced).gcode g = 3 ∧ (s.graphDown g fault forced).flag (SEQ_GSTATE + g) 5 = fault ∧ (s.graphDown g fault forced).flag (SEQ_GSTATE + g) 6 = forced := by
  have h0 : RegsOk (s.dropCycles g) := ((leaves_refl (l := []) hr).dropCycles g).ok
  have h1 : RegsOk ((s.dropCycles g).setGcode g 3) := setReg_regsOk h0 _ _
  have h2 : RegsOk (((s.dropCycles g).setGcode g 3).setFlag (SEQ_GSTATE + g) 5 fault) := setReg_regsOk h1 _ _
  refine ⟨?_, ?_, ?_⟩
  · calc (s.graphDown g fault forced).gcode g
        _ = (((s.dropCycles g).setGcode g 3).setFlag (SEQ_GSTATE + g) 5 fault).gcode g := fld_setFlag_apart h2 _ forced (by decide) (by decide)
        _ = ((s.dropCycles g).setGcode g 3).gcode g := fld_setFlag_apart h1 _ fault (by decide) (by decide)
        _ = 3 := fld_setFld_same h0 _ (by decide) (by decide)
  · exact (flag_setFlag_apart h2 _ forced (by decide) (by decide)).trans (flag_setFlag_same h1 _ fault (by decide))
  · exact flag_setFlag_same h2 _ forced (by decide)

theorem gcode_setPendOn (hr : RegsOk s) (b : Bool) : (s.setPendOn g b).gcode g = s.gcode g := fld_setFlag_apart hr _ b (by decide) (by decide)

theorem pendOn_setPendOn (hr : RegsOk s) (b : Bool) : (s.setPendOn g b).pendOn g = b := flag_setFlag_same hr _ b (by decide)

end Requests

/-! ### Requests to several graphs -/

/-- The steps of other members keep what they all keep. -/
theorem forEach_others {l : List Nat} {g : Nat} (hg : g ∉ l) {f : Nat → State → State} {Q : State → Prop} (hpost : ∀ h, h ≠ g → ∀ z, Q z → Q (f h z)) {s : State} (hs : Q s) : Q (s.forEach l f) := by
  induction l generalizing s with
  | nil => exact hs
  | cons x l ih =>
    rw [List.mem_cons, not_or] at hg
    exact ih hg.2 (hpost x (Ne.symm hg.1) s hs)

/-- A list's steps taken in turn: what holds before the step of one member is brought to what holds after it. -/
theorem forEach_at {l : List Nat} {g : Nat} (hn : l.Nodup) (hg : g ∈ l) {f : Nat → State → State} {P Q : State → Prop} (hpre : ∀ h, h ≠ g → ∀ z, P z → P (f h z)) (hact : ∀ z, P z → Q (f g z))
    (hpost : ∀ h, h ≠ g → ∀ z, Q z → Q (f h z)) {s : State} (hs : P s) : Q (s.forEach l f) := by
  induction l generalizing s with
  | nil => cases hg
  | cons x l ih =>
    obtain ⟨hx, hn⟩ := List.nodup_cons.mp hn
    by_cases hxg : x = g
    · subst hxg
      exact forEach_others hx hpost (hact s hs)
    · exact ih hn ((List.mem_cons.mp hg).resolve_left (Ne.symm hxg)) (hpre x hxg s hs)

/-- A graph's own words and the block of its power-up are as before. -/
structure SameGraph (g : Nat) (s n : State) : Prop where
  ok : RegsOk n
  word : n.reg (SEQ_GSTATE + g) = s.reg (SEQ_GSTATE + g)
  blocked : n.upBlocked g = s.upBlocked g

section SameGraph

variable {g : Nat} {s n : State}

theorem sameGraph_refl (hr : RegsOk s) : SameGraph g s s := ⟨hr, rfl, rfl⟩

theorem Leaves.sameGraph {l : List Nat} (h : Leaves s n l) (hg : g < 8) (hw : SEQ_GSTATE + g ∉ l) (hc : SEQ_GCFG + g ∉ l) : SameGraph g s n where
  ok := h.ok
  word := h.word _ (by simp only [SEQ_GSTATE]; omega) hw
  blocked := by
    have hreg : n.reg (SEQ_GCFG + g) = s.reg (SEQ_GCFG + g) := h.word _ (by simp only [SEQ_GCFG]; omega) hc
    simp only [State.upBlocked, State.gcfg, State.flag, State.sfLow, hreg, h.accepted]

theorem SameGraph.trans {m : State} (h : SameGraph g s n) (h' : SameGraph g n m) : SameGraph g s m := ⟨h'.ok, h'.word.trans h.word, h'.blocked.trans h.blocked⟩

theorem SameGraph.gcode (h : SameGraph g s n) : n.gcode g = s.gcode g := congrArg (fun w => bits w 2 0) h.word

theorem SameGraph.flag (h : SameGraph g s n) (k : Nat) : n.flag (SEQ_GSTATE + g) k = s.flag (SEQ_GSTATE + g) k := congrArg (fun w => bit w k) h.word

theorem SameGraph.pendOn (h : SameGraph g s n) : n.pendOn g = s.pendOn g := h.flag 3

variable {h : Nat} (hr : RegsOk s) (hg : g < 8) (hh : h ≠ g)

include hr hg hh

/-- A request to another graph leaves this one. -/
theorem onRequest_other : SameGraph g s (s.onRequest h) :=
  (onRequest_leaves hr).sameGraph hg (by simp [SEQ_GSTATE, SEQ_STS]; omega) (by simp [SEQ_GSTATE, SEQ_GCFG, SEQ_STS]; omega)

theorem offRequest_other : SameGraph g s (s.offRequest h) :=
  (offRequest_leaves hr).sameGraph hg (by simp [SEQ_GSTATE]; omega) (by simp [SEQ_GSTATE, SEQ_GCFG]; omega)

theorem forceOff_other : SameGraph g s (s.forceOff h) :=
  (forceOff_leaves hr).sameGraph hg (by simp [SEQ_GSTATE]; omega) (by simp [SEQ_GSTATE, SEQ_GCFG]; omega)

end SameGraph

section Addressed

variable {s : State} {w : Word} {g : Nat}

theorem graphList_nodup (s : State) : s.graphList.Nodup := by
  unfold State.graphList
  split
  · exact List.nodup_range.filter _
  · exact List.nodup_nil

theorem lt_of_mem_graphList (hg : g ∈ s.graphList) : g < 8 := by
  unfold State.graphList at hg
  split at hg
  · exact List.mem_range.mp (List.mem_filter.mp hg).1
  · cases hg

theorem addressed_nodup (s : State) (w : Word) : (s.addressed w).Nodup := (graphList_nodup s).filter _

theorem lt_of_mem_addressed (hg : g ∈ s.addressed w) : g < 8 := lt_of_mem_graphList (List.mem_filter.mp hg).1

/-- Among several requests the graph's own decides, if the others keep what it leaves. -/
theorem requests_at {f : Nat → State → State} (hg : g ∈ s.addressed w) (hr : RegsOk s) (hok : ∀ h z, RegsOk z → RegsOk (f h z)) (hf : ∀ h, h ≠ g → ∀ z, RegsOk z → SameGraph g z (f h z)) {Q : State → Prop}
    (hact : ∀ z, SameGraph g s z → Q (f g z)) (hpost : ∀ h z, RegsOk z → SameGraph g z (f h z) → Q z → Q (f h z)) : Q (s.forEach (s.addressed w) f) :=
  (forEach_at (P := SameGraph g s) (Q := fun n => RegsOk n ∧ Q n) (addressed_nodup s w) hg (fun h hh z hz => hz.trans (hf h hh z hz.ok)) (fun z hz => ⟨hok g z hz.ok, hact z hz⟩)
    (fun h hh z hz => ⟨hok h z hz.1, hpost h z hz.1 (hf h hh z hz.1) hz.2⟩) (sameGraph_refl hr)).2

theorem seqCommand_on (h8 : bit w 8 = true) (h9 : bit w 9 = false) (h10 : bit w 10 = false) : s.seqCommand w = s.forEach (s.addressed w) (fun g s => s.onRequest g) := by
  simp [State.seqCommand, h8, h9, h10]

theorem seqCommand_off (h9 : bit w 9 = true) (h10 : bit w 10 = false) : s.seqCommand w = s.forEach (s.addressed w) (fun g s => s.offRequest g) := by
  simp [State.seqCommand, h9, h10]

theorem seqCommand_force (h10 : bit w 10 = true) (hg : g ∈ s.addressed w) (h0 : s.gcode g ≠ 0) (h4 : s.gcode g ≠ 4) : s.seqCommand w = (s.forEach (s.addressed w) (fun g s => s.forceOff g)).gOffer 1 8 := by
  have hall : ¬ (s.addressed w).all (fun g => s.gcode g == 0 || s.gcode g == 4) = true := by
    intro h
    have := List.all_eq_true.mp h g hg
    simp [h0, h4] at this
  rw [State.seqCommand, if_pos h10, State.forceAll, if_neg hall]

end Addressed

/-- No request to a graph takes HELDON away. -/
theorem onRequest_keepsHeld {s : State} {h : Nat} (hr : RegsOk s) (hf : s.flag SEQ_STS 5 = true) : (s.onRequest h).flag SEQ_STS 5 = true := by
  have hne : SEQ_STS ≠ SEQ_GSTATE + h := by simp only [SEQ_GSTATE, SEQ_STS]; omega
  have hset : ∀ b, (s.setPendOn h b).flag SEQ_STS 5 = true := fun b => (flag_setReg_other hr _ 5 hne).trans hf
  have hup : Leaves s (s.graphUp h) [SEQ_GSTATE + h] := (leaves_refl hr).graphUp (List.mem_singleton.mpr rfl)
  unfold State.onRequest
  split
  · split
    · exact hset true
    · exact (congrArg (fun w => bit w 5) (hup.word SEQ_STS (by decide) (by simpa using hne))).trans hf
  · exact flag_setFlag_same (setReg_regsOk hr _ _) _ true (by decide)
  · exact hset true
  · exact hf

/-- A forced off takes the graph down at once, and its pending power-up with it. -/
theorem forceOff_down {s : State} {g : Nat} (hr : RegsOk s) (hg : g < 8) (h0 : s.gcode g ≠ 0) (h4 : s.gcode g ≠ 4) : (s.forceOff g).gcode g = 3 ∧ (s.forceOff g).pendOn g = false ∧ (s.forceOff g).flag (SEQ_GSTATE + g) 6 = true := by
  have hd : RegsOk (s.graphDown g false true) := ((leaves_refl hr).graphDown (List.mem_singleton.mpr rfl) false true).ok
  have hp : RegsOk ((s.graphDown g false true).setPendOn g false) := setReg_regsOk hd _ _
  obtain ⟨hcode, -, hforced⟩ := graphDown_down (g := g) hr false true
  have hrails : SameGraph g ((s.graphDown g false true).setPendOn g false) (s.forceOff g) := by
    rw [forceOff_eq h0 h4]
    exact ((leaves_refl (l := []) hp).forEach _ (fun r z hz => hz.forceRail r)).sameGraph hg List.not_mem_nil List.not_mem_nil
  exact ⟨hrails.gcode.trans ((gcode_setPendOn hd false).trans hcode), hrails.pendOn.trans (pendOn_setPendOn hd false), (hrails.flag 6).trans ((flag_setFlag_apart hd _ false (by decide) (by decide)).trans hforced)⟩

/-- The flag of a forced off, with its record, leaves the graphs. -/
theorem gOffer_forced {s : State} {g : Nat} (hr : RegsOk s) (hg : g < 8) : SameGraph g s (s.gOffer 1 8) ∧ (s.gOffer 1 8).flag SEQ_STS 8 = true := by
  have h1 : RegsOk (s.setFlag SEQ_STS 8 true) := setReg_regsOk hr _ _
  have hl : Leaves s (s.gOffer 1 8) (SEQ_STS :: recordWords) := by
    have h := (leaves_refl (l := SEQ_STS :: recordWords) hr).setReg (.inl (List.mem_cons_self ..)) (putBit (s.reg SEQ_STS) 8 true)
    exact ⟨offerRec_regsOk _ _ _ _ h.ok, fun a ha hn => (offerRec_reg _ _ _ _ h.ok (fun hm => hn (List.mem_cons_of_mem _ hm))).trans (h.word a ha hn), ((offerRec_only _ _ _ _).field State.accepted (fun _ _ _ => rfl)).trans h.accepted⟩
  refine ⟨hl.sameGraph hg ?_ ?_, ?_⟩
  · simp [recordWords, SEQ_GSTATE, SEQ_STS, BB_STS, BB_MISSCNT, BB_DROPCNT]
    omega
  · simp [recordWords, SEQ_GCFG, SEQ_STS, BB_STS, BB_MISSCNT, BB_DROPCNT]
    omega
  · have hs : (s.gOffer 1 8).reg SEQ_STS = (s.setFlag SEQ_STS 8 true).reg SEQ_STS := offerRec_reg _ _ _ _ h1 (by decide)
    exact (congrArg (fun w => bit w 8) hs).trans (flag_setFlag_same hr _ true (by decide))

/-! ### O43 -/

section Requests

variable (w : Word) (g : Nat) (s : State) (hr : RegsOk s) (hg : g ∈ s.addressed w)

include hr hg

/-- What the on requests of a SEQ.CMD leave of a graph: what its own leaves. -/
theorem seqCommand_on_at (h8 : bit w 8 = true) (h9 : bit w 9 = false) (h10 : bit w 10 = false) {Q : State → Prop} (hact : ∀ z, SameGraph g s z → Q (z.onRequest g))
    (hpost : ∀ h z, RegsOk z → SameGraph g z (z.onRequest h) → Q z → Q (z.onRequest h)) : Q (s.seqCommand w) := by
  rw [seqCommand_on h8 h9 h10]
  exact requests_at hg hr (fun h z hz => (onRequest_leaves hz).ok) (fun h hh z hz => onRequest_other hz (lt_of_mem_addressed hg) hh) hact hpost

theorem on_powersUp (h8 : bit w 8 = true) (h9 : bit w 9 = false) (h10 : bit w 10 = false) (h0 : s.gcode g = 0) (hb : s.upBlocked g = false) : (s.seqCommand w).gcode g = 1 ∧ (s.seqCommand w).pendOn g = false := by
  refine seqCommand_on_at w g s hr hg h8 h9 h10 (Q := fun n => n.gcode g = 1 ∧ n.pendOn g = false) (fun z hz => ?_) (fun h z _ ho hq => ⟨ho.gcode.trans hq.1, ho.pendOn.trans hq.2⟩)
  have e : z.onRequest g = z.graphUp g := by simp [State.onRequest, hz.gcode, h0, hz.blocked, hb]
  rw [e]
  exact graphUp_up hz.ok

theorem on_pends (h8 : bit w 8 = true) (h9 : bit w 9 = false) (h10 : bit w 10 = false) (h0 : s.gcode g = 0) (hb : s.upBlocked g = true) : (s.seqCommand w).gcode g = 0 ∧ (s.seqCommand w).pendOn g = true := by
  refine seqCommand_on_at w g s hr hg h8 h9 h10 (Q := fun n => n.gcode g = 0 ∧ n.pendOn g = true) (fun z hz => ?_) (fun h z _ ho hq => ⟨ho.gcode.trans hq.1, ho.pendOn.trans hq.2⟩)
  have e : z.onRequest g = z.setPendOn g true := by simp [State.onRequest, hz.gcode, h0, hz.blocked, hb]
  rw [e]
  exact ⟨(gcode_setPendOn hz.ok true).trans (hz.gcode.trans h0), pendOn_setPendOn hz.ok true⟩

theorem on_held (h8 : bit w 8 = true) (h9 : bit w 9 = false) (h10 : bit w 10 = false) (h3 : s.gcode g = 3) :
    (s.seqCommand w).gcode g = 3 ∧ (s.seqCommand w).pendOn g = true ∧ (s.seqCommand w).flag SEQ_STS 5 = true := by
  refine seqCommand_on_at w g s hr hg h8 h9 h10 (Q := fun n => n.gcode g = 3 ∧ n.pendOn g = true ∧ n.flag SEQ_STS 5 = true) (fun z hz => ?_)
    (fun h z hz ho hq => ⟨ho.gcode.trans hq.1, ho.pendOn.trans hq.2.1, onRequest_keepsHeld hz hq.2.2⟩)
  have e : z.onRequest g = (z.setPendOn g true).setFlag SEQ_STS 5 true := by simp [State.onRequest, hz.gcode, h3]
  have hp : RegsOk (z.setPendOn g true) := setReg_regsOk hz.ok _ _
  have hother : SEQ_GSTATE + g ≠ SEQ_STS := by simp only [SEQ_GSTATE, SEQ_STS]; omega
  rw [e]
  refine ⟨(fld_setReg_other hp _ 2 0 hother).trans ((gcode_setPendOn hz.ok true).trans (hz.gcode.trans h3)), ?_, flag_setFlag_same hp _ true (by decide)⟩
  exact (flag_setReg_other hp _ 3 hother).trans (pendOn_setPendOn hz.ok true)

theorem off_powersDown (h9 : bit w 9 = true) (h10 : bit w 10 = false) (hc : s.gcode g = 1 ∨ s.gcode g = 2) :
    (s.seqCommand w).gcode g = 3 ∧ (s.seqCommand w).flag (SEQ_GSTATE + g) 5 = false ∧ (s.seqCommand w).flag (SEQ_GSTATE + g) 6 = false := by
  rw [seqCommand_off h9 h10]
  refine requests_at (Q := fun n => n.gcode g = 3 ∧ n.flag (SEQ_GSTATE + g) 5 = false ∧ n.flag (SEQ_GSTATE + g) 6 = false) hg hr (fun h z hz => (offRequest_leaves hz).ok)
    (fun h hh z hz => offRequest_other hz (lt_of_mem_addressed hg) hh) (fun z hz => ?_) (fun h z _ ho hq => ⟨ho.gcode.trans hq.1, (ho.flag 5).trans hq.2.1, (ho.flag 6).trans hq.2.2⟩)
  have e : z.offRequest g = z.graphDown g false false := by
    rcases hc with hc | hc <;> simp [State.offRequest, hz.gcode, hc]
  rw [e]
  exact graphDown_down hz.ok false false

theorem force_powersDown (h10 : bit w 10 = true) (h0 : s.gcode g ≠ 0) (h4 : s.gcode g ≠ 4) :
    (s.seqCommand w).gcode g = 3 ∧ (s.seqCommand w).pendOn g = false ∧ (s.seqCommand w).flag (SEQ_GSTATE + g) 6 = true ∧ (s.seqCommand w).flag SEQ_STS 8 = true := by
  have hlt := lt_of_mem_addressed hg
  have hok : RegsOk (s.forEach (s.addressed w) (fun g s => s.forceOff g)) := forEach_regsOk _ _ (fun h z hz => (forceOff_leaves hz).ok) hr
  have hdown : (s.forEach (s.addressed w) (fun g s => s.forceOff g)).gcode g = 3 ∧ (s.forEach (s.addressed w) (fun g s => s.forceOff g)).pendOn g = false ∧
      (s.forEach (s.addressed w) (fun g s => s.forceOff g)).flag (SEQ_GSTATE + g) 6 = true := by
    refine requests_at (Q := fun n => n.gcode g = 3 ∧ n.pendOn g = false ∧ n.flag (SEQ_GSTATE + g) 6 = true) hg hr (fun h z hz => (forceOff_leaves hz).ok)
      (fun h hh z hz => forceOff_other hz hlt hh) (fun z hz => ?_) (fun h z _ ho hq => ⟨ho.gcode.trans hq.1, ho.pendOn.trans hq.2.1, (ho.flag 6).trans hq.2.2⟩)
    exact forceOff_down hz.ok hlt (hz.gcode ▸ h0) (hz.gcode ▸ h4)
  rw [seqCommand_force h10 hg h0 h4]
  generalize s.forEach (s.addressed w) (fun g s => s.forceOff g) = n at hok hdown
  obtain ⟨hsame, hflag⟩ := gOffer_forced hok hlt
  exact ⟨hsame.gcode.trans hdown.1, hsame.pendOn.trans hdown.2.1, (hsame.flag 6).trans hdown.2.2, hflag⟩

end Requests

theorem seqCmd_waits (p : Port) (w : Word) (t : Nat) (i : Instr) (s : State) (hv : ServesAll p (s.at t)) (hi : i = .seqOn p w t ∨ i = .seqOff p w t ∨ i = .seqForce p w t) :
    ∃ n, exec i s = .next n ∧ n.lane.seq.cmd = some w ∧ (n.iface p).acked = true ∧ n.regs = s.regs ∧ n.mram = s.mram := by
  have e : exec i s = finish s ((s.at t).hostOp p (.regWrite SEQ_CMD w)) := by
    rcases hi with rfl | rfl | rfl <;> rfl
  have hop := hostOp_global hv (a := SEQ_CMD) w (by decide) (by decide) rfl (isolatedWord_outside _ (.inl (by decide)) (.inl (by decide)))
  rw [if_neg (by decide), State.writePage, if_pos rfl] at hop
  refine ⟨_, e.trans (congrArg (finish s) hop), rfl, ?_, accepted_regs (s.at t) p SEQ_CMD w, accepted_mram (s.at t) p SEQ_CMD w⟩
  have ha : ((accepted (s.at t) p SEQ_CMD w).iface p).acked = true := by rw [accepted_iface, acked_acceptedIface]
  cases p <;> exact ha

/-- Requests to a graph leave what SEQ.GCFG and the inputs say of it. -/
theorem Leaves.config {s n : State} {g : Nat} (hlt : g < 8) (h : Leaves s n [SEQ_GSTATE + g]) : (∀ k, n.gcfg g k = s.gcfg g k) ∧ n.upBlocked g = s.upBlocked g := by
  have hreg : n.reg (SEQ_GCFG + g) = s.reg (SEQ_GCFG + g) := h.word _ (by simp only [SEQ_GCFG]; omega) (by simp [SEQ_GSTATE, SEQ_GCFG])
  have hcfg : ∀ k, n.gcfg g k = s.gcfg g k := fun k => congrArg (fun w => bit w k) hreg
  exact ⟨hcfg, by simp only [State.upBlocked, State.sfLow, hcfg, h.accepted]⟩

/-- A graph in Off, before what follows from it: a due automatic restart is a pending power-up (R310). -/
def restartPends (s : State) (g : Nat) : State := s.onlyIf (s.gcfg g 5 && s.flag (SEQ_GSTATE + g) 5) (fun s => s.setPendOn g true)

theorem graphOff_eq (s : State) (g : Nat) :
    s.graphOff g = (restartPends ((s.setGcode g 0).stop (.graphOff g)) g).onlyIf ((restartPends ((s.setGcode g 0).stop (.graphOff g)) g).pendOn g && !(restartPends ((s.setGcode g 0).stop (.graphOff g)) g).upBlocked g) (fun s => s.graphUp g) := rfl

section Off

variable {s : State} {g : Nat} (hr : RegsOk s) (hlt : g < 8)

include hr

theorem restartPends_leaves : Leaves s (restartPends s g) [SEQ_GSTATE + g] := by
  unfold restartPends State.onlyIf
  split
  · exact (leaves_refl hr).setReg (.inl (List.mem_singleton.mpr rfl)) _
  · exact leaves_refl hr

theorem restartPends_gcode : (restartPends s g).gcode g = s.gcode g := by
  unfold restartPends State.onlyIf
  split
  · exact gcode_setPendOn hr true
  · rfl

theorem restartPends_pendOn : (restartPends s g).pendOn g = (s.pendOn g || (s.gcfg g 5 && s.flag (SEQ_GSTATE + g) 5)) := by
  unfold restartPends State.onlyIf
  split
  · rename_i h
    rw [h, Bool.or_true]
    exact pendOn_setPendOn hr true
  · rename_i h
    rw [Bool.eq_false_iff.mpr h, Bool.or_false]

include hlt in
/-- A graph that reaches Off powers up at once where a power-up is pending, or due, and not held (R310, R316). -/
theorem graphOff_gcode : (s.graphOff g).gcode g = (if (s.pendOn g || (s.gcfg g 5 && s.flag (SEQ_GSTATE + g) 5)) && !s.upBlocked g then 1 else 0) := by
  have hoff : Leaves s ((s.setGcode g 0).stop (.graphOff g)) [SEQ_GSTATE + g] := ((leaves_refl hr).setReg (.inl (List.mem_singleton.mpr rfl)) _).beside rfl rfl
  have hcode : ((s.setGcode g 0).stop (.graphOff g)).gcode g = 0 := fld_setFld_same hr _ (by decide) (by decide)
  have hflag : ∀ k, 2 < k → ((s.setGcode g 0).stop (.graphOff g)).flag (SEQ_GSTATE + g) k = s.flag (SEQ_GSTATE + g) k := fun k hk => flag_setFld_apart hr _ (by decide) (by decide) (.inr hk)
  obtain ⟨hcfg, hblock⟩ := hoff.config hlt
  rw [graphOff_eq]
  generalize (s.setGcode g 0).stop (.graphOff g) = m at hoff hcode hflag hcfg hblock ⊢
  have hpend : (restartPends m g).pendOn g = (s.pendOn g || (s.gcfg g 5 && s.flag (SEQ_GSTATE + g) 5)) := by
    rw [restartPends_pendOn hoff.ok, hcfg, hflag 5 (by decide)]
    exact congrArg (· || _) (hflag 3 (by decide))
  have hup := (restartPends_leaves (g := g) hoff.ok).config hlt
  rw [hpend, hup.2, hblock]
  split <;> rename_i h
  · rw [h]
    exact (graphUp_up (restartPends_leaves hoff.ok).ok).1
  · rw [Bool.eq_false_iff.mpr h]
    exact (restartPends_gcode hoff.ok).trans hcode

theorem restartPends_kept : Kept s (restartPends s g) [SEQ_GSTATE + g] := by
  unfold restartPends State.onlyIf
  split
  · exact kept_setReg hr _ (List.mem_singleton.mpr rfl)
  · exact kept_refl _ _

theorem graphUp_kept : Kept s (s.graphUp g) [SEQ_GSTATE + g] := by
  have h1 : RegsOk (s.setGcode g 1) := setReg_regsOk hr _ _
  have h2 : RegsOk ((s.setGcode g 1).setPendOn g false) := setReg_regsOk h1 _ _
  have hm : SEQ_GSTATE + g ∈ [SEQ_GSTATE + g] := List.mem_singleton.mpr rfl
  exact kept_trans (kept_setReg hr _ hm) (kept_trans (kept_setReg h1 _ hm) (kept_setReg h2 _ hm))

theorem graphOff_kept : Kept s (s.graphOff g) [SEQ_GSTATE + g] := by
  have hoff : Kept s ((s.setGcode g 0).stop (.graphOff g)) [SEQ_GSTATE + g] := kept_setReg hr _ (List.mem_singleton.mpr rfl)
  have hok : RegsOk ((s.setGcode g 0).stop (.graphOff g)) := setReg_regsOk hr _ _
  rw [graphOff_eq]
  generalize (s.setGcode g 0).stop (.graphOff g) = m at hoff hok ⊢
  have hpend : Kept s (restartPends m g) [SEQ_GSTATE + g] := kept_trans hoff (restartPends_kept hok)
  unfold State.onlyIf
  split
  · exact kept_trans hpend (graphUp_kept (restartPends_leaves hok).ok)
  · exact hpend

end Off

/-- Beside its words a graph that reaches Off has stopped its Off-wait, whatever follows. -/
theorem graphOff_beside (s : State) (g : Nat) : (s.graphOff g).timers = dropKey s.timers (.graphOff g) ∧ (s.graphOff g).mram = s.mram := by
  rw [graphOff_eq]
  unfold restartPends State.onlyIf
  split <;> split <;> exact ⟨rfl, rfl⟩

theorem offWait_ends (g t : Nat) (s : State) (hr : RegsOk s) (hw : s.works = true) (hc : s.gcode g = 4) (hg : g ∈ s.graphList) (he : (s.at t).expired (.graphOff g) (s.reg SEQ_TOFFMIN) = true) :
    ∃ n, exec (.graphOffWaitEnd g t) s = .next n ∧ n.gcode g = (if (s.pendOn g || (s.gcfg g 5 && s.flag (SEQ_GSTATE + g) 5)) && !s.upBlocked g then 1 else 0) ∧ n.running (.graphOff g) = false ∧
      Kept s n [SEQ_GSTATE + g] ∧ n.mram = s.mram := by
  have e : exec (.graphOffWaitEnd g t) s = finish s ((s.at t).graphOff g) := by
    refine congrArg (finish s) (if_pos ?_)
    rw [works_at, hw, reg_at, he, show (s.at t).gcode g = 4 from hc, show (s.at t).graphList = s.graphList from rfl, List.contains_iff_mem.mpr hg]
    rfl
  obtain ⟨htimers, hmram⟩ := graphOff_beside (s.at t) g
  have hstop : ((s.at t).graphOff g).running (.graphOff g) = false := by rw [State.running, htimers, find_dropKey_same]; rfl
  exact ⟨_, e, graphOff_gcode (s := s.at t) hr (lt_of_mem_graphList hg), hstop, graphOff_kept (s := s.at t) hr, hmram⟩

/-- Settles O43: the requests of one SEQ.CMD act on different graphs, so each graph is left as its own request leaves it. -/
theorem graphsFollowRequests : Obligations.GraphsFollowRequests :=
  ⟨seqCmd_waits, on_powersUp, on_pends, on_held, off_powersDown, force_powersDown, offWait_ends⟩

end Sys2Proof
end
-- ==== Sys2Proof/Proofs/Shelf/RaiseWords.lean ====
section
/-! SUPPORT. The words that a raise may touch under an image of bytes, a safe state that it forces included (R349 to R357). -/

namespace Sys2Proof

open Machine

/-- The words a raise may touch: its counts and the capture, the alert, the recorder's words, what a confirmation taken back had changed, the phases, the channels that a byte of a record can name, the throttle outputs, and the context blocks. -/
def raiseTouches (a : Nat) : Bool :=
  [HOST_ALERT, FLT_CNT, FLT_ESCCNT, FLT_LOGOVF, FE_INFO, FE_SRC, FE_ADDR, BB_STS, BB_MISSCNT, BB_DROPCNT, THR_LIVE, THR_STS, LRN_STS, UPD_STS, UPD_ARB].contains a ||
  decide (FE_TIME ≤ a ∧ a < FE_TIME + 4) || decide (PH_STS ≤ a ∧ a < PH_STS + 24) || decide (GCH_STS ≤ a ∧ a < GCH_STS + 256) || decide (THR_CNT ≤ a ∧ a < THR_CNT + 16) || decide (0x1000 ≤ a)

theorem touches_context (c k : Nat) : raiseTouches (ctxAddr c k) = true := by
  simp [raiseTouches, ctxAddr_ge c k]

theorem touches_time {i : Nat} (h : i < 4) : raiseTouches (FE_TIME + i) = true := by
  have : FE_TIME ≤ FE_TIME + i ∧ FE_TIME + i < FE_TIME + 4 := by omega
  simp only [raiseTouches, this, and_self, decide_true, Bool.or_true, Bool.true_or]

theorem touches_phase {p : Nat} (h : p < 24) : raiseTouches (PH_STS + p) = true := by
  have : PH_STS ≤ PH_STS + p ∧ PH_STS + p < PH_STS + 24 := by omega
  simp only [raiseTouches, this, and_self, decide_true, Bool.or_true, Bool.true_or]

theorem touches_channel {g : Nat} (h : g < 256) : raiseTouches (GCH_STS + g) = true := by
  have : GCH_STS ≤ GCH_STS + g ∧ GCH_STS + g < GCH_STS + 256 := by omega
  simp only [raiseTouches, this, and_self, decide_true, Bool.or_true, Bool.true_or]

theorem touches_throttle {k : Nat} (h : k < 16) : raiseTouches (THR_CNT + k) = true := by
  have : THR_CNT ≤ THR_CNT + k ∧ THR_CNT + k < THR_CNT + 16 := by omega
  simp only [raiseTouches, this, and_self, decide_true, Bool.or_true, Bool.true_or]

/-- A later state whose words beside those are as they were, under an image whose records are bytes. -/
structure RaiseSpares (s₀ s : State) : Prop where
  ok : RegsOk s
  bytes : ∀ im, s.image = some im → ByteImage im
  word : ∀ a, raiseTouches a = false → s.reg a = s₀.reg a

/-- The channel of a context is a byte of its record (R73). -/
theorem channelOf_lt {s : State} (h : ∀ im, s.image = some im → ByteImage im) {c g : Nat} (hg : s.channelOf c = some g) : g < 256 := by
  unfold State.channelOf at hg
  split at hg
  · next r hr =>
    unfold State.ctx? at hr
    obtain ⟨im, hi, hc⟩ := Option.bind_eq_some_iff.mp hr
    obtain ⟨-, ha, -, -⟩ := (h im hi).1 r (List.mem_of_find?_eq_some hc)
    split at hg
    · exact Option.some.inj hg ▸ ha
    · cases hg
  · cases hg

namespace RaiseSpares

variable {s₀ s : State}

theorem refl (hr : RegsOk s) (hb : ∀ im, s.image = some im → ByteImage im) : RaiseSpares s s := ⟨hr, hb, fun _ _ => rfl⟩

/-- A change beside the words and the image. -/
theorem same (h : RaiseSpares s₀ s) {m : State} (e : (m.regs, m.image) = (s.regs, s.image) := by rfl) : RaiseSpares s₀ m := by
  simp only [Prod.mk.injEq] at e
  obtain ⟨hr, hi⟩ := e
  exact ⟨(regsOk_of_regs hr).mpr h.ok, hi ▸ h.bytes, fun a ha => (reg_of_regs hr a).trans (h.word a ha)⟩

theorem ite {a b : State} {p : Prop} {d : Decidable p} (ha : RaiseSpares s₀ a) (hb : RaiseSpares s₀ b) : RaiseSpares s₀ (if p then a else b) := by
  split <;> assumption

theorem onlyIf (h : RaiseSpares s₀ s) {b : Bool} {f : State → State} (hf : ∀ m, RaiseSpares s₀ m → RaiseSpares s₀ (f m)) : RaiseSpares s₀ (s.onlyIf b f) := .ite (hf s h) h

theorem forEach {α : Type} (h : RaiseSpares s₀ s) {l : List α} {f : α → State → State} (hf : ∀ x ∈ l, ∀ m, RaiseSpares s₀ m → RaiseSpares s₀ (f x m)) : RaiseSpares s₀ (s.forEach l f) := by
  unfold State.forEach
  induction l generalizing s with
  | nil => exact h
  | cons x l ih => exact ih (hf x (List.mem_cons_self ..) s h) (fun y hy => hf y (List.mem_cons_of_mem _ hy))

theorem setReg (h : RaiseSpares s₀ s) {a : Nat} {w : Word} (ha : raiseTouches a = true := by decide) : RaiseSpares s₀ (s.setReg a w) := by
  refine ⟨setReg_regsOk h.ok a w, h.bytes, fun b hb => (reg_setReg_other h.ok w fun e => ?_).trans (h.word b hb)⟩
  rw [e, ha] at hb
  cases hb

theorem setC (h : RaiseSpares s₀ s) {c k : Nat} {w : Word} : RaiseSpares s₀ (s.setC c k w) := h.setReg (touches_context c k)

theorem recorder (h : RaiseSpares s₀ s) {m : State} (e : OnlyRecorder s m) : RaiseSpares s₀ m := by
  have hi : m.image = s.image := e.field State.image fun _ _ _ => rfl
  have hw : ∀ a ∈ recordWords, raiseTouches a = true := by decide
  refine ⟨e.regsOk h.ok, hi ▸ h.bytes, fun a ha => (e.reg h.ok fun hm => ?_).trans (h.word a ha)⟩
  rw [hw a hm] at ha
  cases ha

theorem captureTime (h : RaiseSpares s₀ s) {v : Nat} : RaiseSpares s₀ (s.setWide FE_TIME 4 v) :=
  (((h.setReg (touches_time (i := 0) (by decide))).setReg (touches_time (i := 1) (by decide))).setReg (touches_time (i := 2) (by decide))).setReg (touches_time (i := 3) (by decide))

theorem setCode (h : RaiseSpares s₀ s) {c v : Nat} : RaiseSpares s₀ (s.setCode c v) := h.setC (c := c) (k := CTX_STATE)

theorem setHeld (h : RaiseSpares s₀ s) {c : Nat} {b : Bool} : RaiseSpares s₀ (s.setHeld c b) := h.setC (c := c) (k := CTX_STATE)

theorem setSafe (h : RaiseSpares s₀ s) {c : Nat} {b : Bool} : RaiseSpares s₀ (s.setSafe c b) := h.setC (c := c) (k := CTX_STATE)

theorem sts (h : RaiseSpares s₀ s) {c b : Nat} : RaiseSpares s₀ (s.sts c b) := h.setC (c := c) (k := CTX_STS)

theorem start (h : RaiseSpares s₀ s) {k : Timer} : RaiseSpares s₀ (s.start k) := h.same

theorem stop (h : RaiseSpares s₀ s) {k : Timer} : RaiseSpares s₀ (s.stop k) := h.same

theorem clearCount (h : RaiseSpares s₀ s) {k : Count} : RaiseSpares s₀ (s.clearCount k) := h.same

theorem alert (h : RaiseSpares s₀ s) {n : Nat} : RaiseSpares s₀ (s.alert n) := (h.setReg (a := HOST_ALERT)).same

/-! ### The safe states (R353) -/

theorem gateDown (h : RaiseSpares s₀ s) {g : Nat} (hg : g < 256) : RaiseSpares s₀ (s.gateDown g) := by
  have hends (m : State) (hm : RaiseSpares s₀ m) : RaiseSpares s₀ (m.holdsEnd g) := by
    unfold State.holdsEnd
    split
    · exact hm.same
    · exact hm
  exact .ite h (hends _ (.same (h.setReg (touches_channel hg))))

theorem gateDownOf (h : RaiseSpares s₀ s) {c : Nat} : RaiseSpares s₀ (s.gateDownOf c) := by
  unfold State.gateDownOf
  split
  · next g hg => exact h.gateDown (channelOf_lt h.bytes hg)
  · exact h

theorem clearLive (h : RaiseSpares s₀ s) {c : Nat} : RaiseSpares s₀ (s.clearLive c) := by
  unfold State.clearLive
  split
  · exact h.setC (c := c) (k := BR_LIVE)
  · exact h.setC (c := c) (k := BAT_PSTS)
  · exact h

theorem groupStop (h : RaiseSpares s₀ s) {r : CtxRec} {lv : Level} : RaiseSpares s₀ (s.groupStop r lv) := by
  unfold State.groupStop
  extract_lets s1 s2 s3
  have h1 : RaiseSpares s₀ s1 := h.forEach fun p hp m hm => .same (hm.setReg (touches_phase (phases_lt hp)))
  have h2 : RaiseSpares s₀ s2 := h1.same
  have h3 : RaiseSpares s₀ s3 := ((h2.setC (c := r.ctx) (k := GRP_NACT)).setC (c := r.ctx) (k := GRP_FMEAS)).stop
  exact h3.stop.stop.stop.stop.clearCount.clearCount

theorem drivePin (h : RaiseSpares s₀ s) {i : Nat} : RaiseSpares s₀ (s.drivePin i) := .ite h h.same

theorem throttle (h : RaiseSpares s₀ s) {k : Nat} (hk : k < 16) : RaiseSpares s₀ (s.throttle k) :=
  .ite h (.ite h.stop (((h.stop.drivePin.setReg (a := THR_LIVE)).setReg (a := THR_STS)).setReg (touches_throttle hk)).start)

theorem queueCmd (h : RaiseSpares s₀ s) {c code data : Nat} {safe : Bool} : RaiseSpares s₀ (s.queueCmd c code data safe) := by
  rw [queueCmd_rest]
  exact h.same

theorem railFall (h : RaiseSpares s₀ s) {c : Nat} : RaiseSpares s₀ (s.railFall c) := h.setCode.same

theorem dischargeOn (h : RaiseSpares s₀ s) {c : Nat} : RaiseSpares s₀ (s.dischargeOn c) := .ite h.start.sts h

theorem enterSafe (h : RaiseSpares s₀ s) {r : CtxRec} : RaiseSpares s₀ (s.enterSafe r) := by
  dsimp only [State.enterSafe]
  have h0 : RaiseSpares s₀ (s.setSafe r.ctx true) := h.setSafe
  split
  · exact .ite h0.gateDownOf.setCode.sts h0
  · have h1 := h0.setC (c := r.ctx) (k := RECT_CTL) (w := putBit ((s.setSafe r.ctx true).reg (ctxAddr r.ctx RECT_CTL)) 0 false)
    exact .ite (.drivePin h1.same) h1
  · exact .ite h0.gateDownOf.clearLive.setCode.sts.stop (.ite h0.setC.setC h0.setC)
  · have h1 {lv : Level} : RaiseSpares s₀ (((((s.setSafe r.ctx true).groupStop r lv).setCode r.ctx 7).sts r.ctx stsGroupLatch).setHeld r.ctx false) := h0.groupStop.setCode.sts.setHeld
    exact .ite h0 (.ite h1.start h1)
  · have h1 : RaiseSpares s₀ (((((s.setSafe r.ctx true).gateDownOf r.ctx).clearLive r.ctx).setCode r.ctx 5).stop (.cool r.ctx)) := h0.gateDownOf.clearLive.setCode.stop
    have h2 := (h1.setC (c := r.ctx) (k := BR_COOLREM) (w := 0)).sts (c := r.ctx) (b := stsBranchLatch)
    split
    · next hk => exact h2.throttle hk.2
    · exact h2
  · exact .ite h0.queueCmd h0.queueCmd
  · split
    · exact .same (.onlyIf (.ite h0.railFall (.ite h0.setCode.stop h0)) fun _ h => h.dischargeOn)
    · exact .onlyIf (.ite h0.railFall (.ite h0.setCode.stop h0)) fun _ h => h.dischargeOn
  · exact h0
  · exact h0

theorem safeOne (h : RaiseSpares s₀ s) {r : CtxRec} : RaiseSpares s₀ (s.safeOne r) := by
  dsimp only [State.safeOne]
  split
  · exact .ite (.forEach h.setSafe (fun _ _ _ h => .ite h h.enterSafe)) h.setSafe
  · exact h
  · exact .ite h h.enterSafe

theorem applySafe (h : RaiseSpares s₀ s) {c : Nat} : RaiseSpares s₀ (s.applySafe c) := by
  dsimp only [State.applySafe]
  split
  · exact h
  · exact .ite (.forEach (.ite (.forEach h.setSafe (fun k hk _ h => h.throttle (List.mem_range.mp hk))) h.setSafe) (fun _ _ _ h => h.safeOne)) h.safeOne

/-! ### The raise -/

theorem capture (h : RaiseSpares s₀ s) {r : Raise} {c e : Nat} {esc : Bool} : RaiseSpares s₀ (s.capture r c e esc) :=
  .ite h (((h.setReg (a := FE_INFO)).setReg (a := FE_SRC)).setReg (a := FE_ADDR)).captureTime

theorem raiseCount (h : RaiseSpares s₀ s) {r : Raise} {c e sev : Nat} : RaiseSpares s₀ (s.raiseCount r c e sev) := by
  unfold State.raiseCount
  extract_lets pend s1 flt s2
  have h1 : RaiseSpares s₀ s1 := (h.setReg (a := FLT_CNT)).onlyIf fun _ h => h.setReg (a := FLT_ESCCNT)
  have h2 : RaiseSpares s₀ s2 := h1.same
  exact h2.sts.setC.capture

theorem raiseLog (h : RaiseSpares s₀ s) {x : LogEntry} : RaiseSpares s₀ (s.raiseLog x) := by
  have h1 : RaiseSpares s₀ (s.recordEntry x).1 := by
    unfold State.recordEntry
    split
    · exact h.recorder (writeLane_only s _)
    · exact h
  exact .ite h1.same (h.setReg (a := FLT_LOGOVF))

theorem unconfirm (h : RaiseSpares s₀ s) : RaiseSpares s₀ s.unconfirm := by
  unfold State.unconfirm
  split
  · exact .ite (.same ((((h.setReg (a := UPD_STS)).setReg (a := UPD_STS)).setReg (a := LRN_STS)).setReg (a := UPD_ARB))) h
  · exact h

theorem raiseBook (h : RaiseSpares s₀ s) {r : Raise} {c : Nat} : RaiseSpares s₀ (s.raiseBook r c) :=
  have h1 : RaiseSpares s₀ (if r.lane then { s with flt := { s.flt with laneRaises := s.flt.laneRaises ++ [(c, r.cls, r.site, s.epoch)] } } else s) := .ite h.same h
  .ite h1.unconfirm.same h1

theorem raiseSnap (h : RaiseSpares s₀ s) {cls c : Nat} : RaiseSpares s₀ (s.raiseSnap cls c) := .ite h.same h

theorem raisePins (h : RaiseSpares s₀ s) {react : Nat} : RaiseSpares s₀ (s.raisePins react) :=
  have h1 : RaiseSpares s₀ (if react.testBit 1 then { s with flt := { s.flt with pulse := true } }.start .fltPulse else s) := .ite h.same h
  .ite h1.alert h1

theorem raiseAct (h : RaiseSpares s₀ s) {c : Nat} {force due : Bool} : RaiseSpares s₀ (s.raiseAct c force due) := .ite h.applySafe (.ite h.same h)

/-- A raise spares every other word (R349 to R357). -/
theorem raise (h : RaiseSpares s₀ s) {r : Raise} : RaiseSpares s₀ (s.raise r) := .ite h.same h.raiseCount.raiseLog.raiseBook.raiseSnap.raisePins.raiseAct

theorem laneRaise (h : RaiseSpares s₀ s) {cls c : Nat} {sev : Option Nat} {site : Nat} : RaiseSpares s₀ (s.laneRaise cls c sev site) := h.raise

end RaiseSpares

/-- A lane's raise against the shelf that no raise of the outgoing lane matches stands unacknowledged, whatever the image. -/
theorem laneRaise_shelf_faulted (s : State) (cls : Nat) (sev : Option Nat) (site : Nat) (h : s.flt.matches_ = []) : Faulted (s.laneRaise cls 0 sev site) 0 cls := by
  have h0 : s.raiseCtx { cls := cls, ctx := 0, sev := sev, site := site, init := s.laneOrigin, lane := true } = 0 := by simp [State.raiseCtx]
  have hf := raise_faulted s { cls := cls, ctx := 0, sev := sev, site := site, init := s.laneOrigin, lane := true } (by simp [h])
  rwa [h0] at hf

end Sys2Proof
end
-- ==== Sys2Proof/Proofs/Units/LaneRequests.lean ====
section
/-! O19, first part: what LANE.SWAP and LANE.RESTART ask for, and a start from Plain hold (R340, R341, R343). -/

namespace Sys2Proof

open Machine

/-! ### A write of a core word -/

theorem serves_core {sv : Service} (ha : sv ≠ .away) (ho : sv ≠ .other) : sv.serves .core = true := by
  cases sv with
  | away => exact absurd rfl ha
  | other => exact absurd rfl ho
  | full | col | plain | loader => rfl

theorem needOf_core {a : Nat} (h : a < 0x40) : needOf a true = .core := if_pos h

theorem journalled_core {a : Nat} (h : a < 0x40) : journalled a = false := by simp [journalled, needOf_core h]

/-- A target that answers carries out a write of a word of the core page in every state (R404). -/
theorem hostOp_core {p : Port} {m : State} (h : Answers p m) {a : Nat} (w : Word) (ha : a < 0x40) (hi : (m.setIface p (acceptedIface p)).implemented a = true) :
    m.hostOp p (.regWrite a w) = (m.setIface p (acceptedIface p)).writeCore p.code a w := by
  obtain ⟨hw, he, hv, hv'⟩ := h
  have hwake : m.hostWake p = m := by simp [State.hostWake, he]
  have hmust : m.mustWait p (.regWrite a w) = false := by simp [State.mustWait, HostOp.entries, journalled_core ha, b2n]
  have hrun : m.hostOp p (.regWrite a w) = (m.done p).hostWrite p a w := by
    unfold State.hostOp State.hostRun
    rw [hwake]
    simp [hw, hv, hv', HostOp.needs, needOf_core ha, serves_core hv hv', HostOp.legal, hmust, State.serve]
  have hgate : ¬ (a = FCNT_GATE ∨ a = FCNT_GATE + 1) := by
    simp only [FCNT_GATE]
    omega
  have hdown : (m.setIface p (acceptedIface p)).isolatedWord a = false := isolatedWord_outside _ (.inl (Nat.lt_trans ha (by decide))) (.inl (Nat.lt_trans ha (by decide)))
  rw [hrun, State.hostWrite, journalled_core ha, Bool.false_and, if_neg Bool.false_ne_true]
  rw [applyWrite_there _ _ w hgate (by rw [done_setHolding]; exact hi) (by rw [done_setHolding]; exact hdown) (by omega), if_pos ha, done_setHolding]

theorem ServesAll.answers {p : Port} {s : State} (h : ServesAll p s) : Answers p s := by
  obtain ⟨hw, he, hv, -, -⟩ := h
  exact ⟨hw, he, by rw [hv]; decide, by rw [hv]; decide⟩

/-- A target serves every command in Normal under a lane alone. -/
theorem normal_of_service_full {s : State} {p : Port} (h : s.service p = .full) : s.sys = sysNormal ∧ s.laneRuns = true := by
  unfold State.service at h
  split_ifs at h with h1 h2 h3 h4
  exact ⟨h3, h4⟩

/-! ### LANE.SWAP (R341) -/

theorem laneSwap_acts {p : Port} {m : State} (h : Answers p m) (w : Word) : m.hostOp p (.regWrite LANE_SWAP w) = (m.setIface p (acceptedIface p)).swapRequest w :=
  hostOp_core h w (by decide) rfl

theorem swapRefused_setIface (m : State) (p : Port) (f : Iface → Iface) : (m.setIface p f).swapRefused = m.swapRefused := by cases p <;> rfl

theorem laneSwap_asks (p : Port) (w : Word) (t : Nat) (s : State) (h : ServesAll p (s.at t)) (hk : bits w 15 0 = 0x5A3C) (hf : s.swapRefused = false) (ht : s.upd.trial = none) :
    ∃ n, exec (.laneSwap p w t) s = .next n ∧ n.arb.swapAsked = true ∧ n.arb.askedAt = n.now ∧ (n.iface p).acked = true ∧ n.regs = s.regs ∧ n.mram = s.mram := by
  have e := laneSwap_acts h.answers w
  have hc : ¬ (((s.at t).setIface p (acceptedIface p)).swapRefused || ((s.at t).setIface p (acceptedIface p)).upd.trial.isSome) = true := by
    rw [swapRefused_setIface, show (s.at t).swapRefused = s.swapRefused from rfl, hf, State.setIface_upd, show (s.at t).upd = s.upd from rfl, ht]
    decide
  unfold State.swapRequest at e
  rw [if_neg (by simp [hk]), if_neg hc] at e
  refine ⟨_, congrArg (finish s) e, rfl, rfl, ?_, ?_, ?_⟩ <;> cases p <;> rfl

theorem laneSwap_refused (p : Port) (w : Word) (t : Nat) (s : State) (hr : RegsOk s) (h : ServesAll p (s.at t)) (hk : bits w 15 0 = 0x5A3C) (hf : s.swapRefused = true) :
    ∃ n, exec (.laneSwap p w t) s = .next n ∧ n.flag LANE_STS 3 = true ∧ n.arb = s.arb ∧ (n.iface p).acked = true ∧ Kept s n (LANE_STS :: recordWords) ∧ n.mram = s.mram := by
  have e := laneSwap_acts h.answers w
  have hc : (((s.at t).setIface p (acceptedIface p)).swapRefused || ((s.at t).setIface p (acceptedIface p)).upd.trial.isSome) = true := by
    rw [swapRefused_setIface, show (s.at t).swapRefused = s.swapRefused from rfl, hf, Bool.true_or]
  unfold State.swapRequest State.refuseSwap at e
  rw [if_neg (by simp [hk]), if_pos hc] at e
  obtain ⟨m, hm⟩ : ∃ m, m = (s.at t).setIface p (acceptedIface p) := ⟨_, rfl⟩
  rw [← hm] at e
  have hmr : m.regs = s.regs := by rw [hm]; exact State.setIface_regs _ p _
  have rm : RegsOk m := (regsOk_of_regs hmr).mpr hr
  have r1 : RegsOk (m.setFlag LANE_STS 3 true) := setReg_regsOk rm _ _
  have hx : OnlyRecorder (m.setFlag LANE_STS 3 true) ((m.setFlag LANE_STS 3 true).note 1307 0) := writeRec_only _ _ _ _
  refine ⟨_, congrArg (finish s) e, ?_, ?_, ?_, ?_, ?_⟩
  · exact (congrArg (fun x => bit x 3) (hx.reg r1 (a := LANE_STS) (by decide))).trans (flag_setFlag_same rm LANE_STS true (by decide))
  · refine (hx.field State.arb fun _ _ _ => rfl).trans ?_
    rw [State.setFlag, State.setReg_arb, hm]
    exact State.setIface_arb _ p _
  · refine (congrArg Iface.acked (hx.field (fun s => s.iface p) fun _ _ _ => by cases p <;> rfl)).trans ?_
    rw [hm]
    cases p <;> rfl
  · exact kept_trans (kept_of_regs hmr) (kept_trans (kept_setReg rm _ (List.mem_cons_self ..)) (kept_mono (hx.2 r1).2 fun _ => List.mem_cons_of_mem _))
  · refine (hx.field State.mram fun _ _ _ => rfl).trans ?_
    rw [State.setFlag, State.setReg_mram, hm]
    exact State.setIface_mram _ p _

/-! ### A start from Plain hold (R340) -/

theorem tokenTo_cause {s : State} (h : RegsOk s) (l : Option LaneId) {c : Nat} (hc : c < 8) (w : Bool) : (s.tokenTo l (some c) w).fld LANE_AUTH 12 10 = c := by
  have h1 : RegsOk ((s.setFld LANE_AUTH 1 0 (holderCode l)).setFld LANE_AUTH 9 2 (s.fld LANE_AUTH 9 2 + 1)) := setReg_regsOk (setReg_regsOk h _ _) _ _
  unfold State.tokenTo
  extract_lets s1 s2 s3 arb
  have h2 : RegsOk s2 := setReg_regsOk h1 _ _
  have hs2 : s2.fld LANE_AUTH 12 10 = c := (fld_setFld_same h1 LANE_AUTH (by decide) (by decide)).trans (Nat.mod_eq_of_lt hc)
  exact (fld_setFlag_apart h2 LANE_AUTH w (by decide) (.inl (by decide))).trans hs2

theorem chooseLane_congr {s n : State} (hw : n.reg LANE_HEALTH = s.reg LANE_HEALTH) (ha : n.arb = s.arb) : n.chooseLane = s.chooseLane := by
  simp only [State.chooseLane, isBad_of_word hw, ha]

/-- Beside a lane's own progress the start of a take-over touches the runs on the downstream ports. -/
theorem takeOver_rest (s : State) (k : ColKind) : (s.takeOver k).regs = s.regs ∧ (s.takeOver k).mram = s.mram ∧ (s.takeOver k).arb.col = some k := by
  unfold State.takeOver
  rw [endRuns_rest]
  exact ⟨rfl, rfl, rfl⟩

/-- A lane started from Plain hold: the token is its own for that cause, it is powering, and LANE.ARTIME counts anew. -/
structure Restarted (s n : State) : Prop where
  holder : n.holder = some s.chooseLane
  powering : n.laneState s.chooseLane = lanePowering
  cause : n.fld LANE_AUTH 12 10 = 5
  col : n.arb.col = some .restart
  age : n.age .autoRestart = 0
  kept : Kept s n [LANE_AUTH, LANE_HEALTH]
  mram : n.mram = s.mram

theorem startFromPlain_restarted {s : State} (h : RegsOk s) : Restarted s s.startFromPlain := by
  obtain ⟨er, em, ec⟩ := takeOver_rest s .restart
  have r0 : RegsOk (s.takeOver .restart) := (regsOk_of_regs er).mpr h
  have hm := tokenTo_moved r0 (some s.chooseLane) (some 5) false
  have hcause : ((s.takeOver .restart).tokenTo (some s.chooseLane) (some 5) false).fld LANE_AUTH 12 10 = 5 := tokenTo_cause r0 _ (by decide) false
  obtain ⟨hcol, hmram⟩ : ((s.takeOver .restart).tokenTo (some s.chooseLane) (some 5) false).arb.col = some .restart ∧ ((s.takeOver .restart).tokenTo (some s.chooseLane) (some 5) false).mram = s.mram := by
    rw [tokenTo_rest]
    exact ⟨ec, em⟩
  unfold State.startFromPlain
  dsimp only
  generalize (s.takeOver .restart).tokenTo (some s.chooseLane) (some 5) false = m at hm hcause hcol hmram ⊢
  refine ⟨?_, laneState_setLane_same hm.regsOk s.chooseLane lanePowering, ?_, hcol, ?_, fun a ha => ?_, hmram⟩
  · exact (holder_setReg_other hm.regsOk _ (by decide)).trans hm.holder
  · exact (fld_setReg_other hm.regsOk _ 12 10 (by decide)).trans hcause
  · unfold State.age State.start
    dsimp only
    rw [find_putKey_same]
    exact Nat.sub_self _
  · have ha' : a ≠ LANE_AUTH ∧ a ≠ LANE_HEALTH := by simpa using ha
    exact (reg_setReg_other hm.regsOk _ ha'.2).trans ((hm.word a ha'.1).trans (reg_of_regs er a))

theorem Restarted.sys {s n : State} (h : Restarted s n) : n.sys = s.sys := congrArg (fun x => bits x 2 0) (h.kept SYS_STATE (by decide))

/-! ### LANE.RESTART (R340, R343) -/

theorem laneRestart_acts {p : Port} {m : State} (h : Answers p m) (w : Word) : m.hostOp p (.regWrite LANE_RESTART w) = (m.setIface p (acceptedIface p)).restartRequest w :=
  hostOp_core h w (by decide) rfl

theorem tryStart_starts {s : State} (hs : s.sys = sysPlain) (hh : s.holder = none) (hm : s.mayStart = true) : s.tryStart = s.startFromPlain :=
  if_pos (by simp [hs, hh, hm])

theorem tryStart_elsewhere {s : State} (hs : s.sys ≠ sysPlain) : s.tryStart = s := if_neg (by simp [hs])

theorem laneRestart_starts (p : Port) (w : Word) (t : Nat) (s : State) (hr : RegsOk s) (hv : s.service p = .plain) (hi : (s.iface p).waiting = none) (he : s.arb.entryWait = false) (hs : s.sys = sysPlain)
    (hh : s.holder = none) (hm : s.mayStart = true) (hk : bits w 15 0 = 0x3CA5) (h16 : bit w 16 = true) (h17 : bit w 17 = false) :
    ∃ n, exec (.laneRestartStart p w t) s = .next n ∧ n.holder = some s.chooseLane ∧ n.laneState s.chooseLane = lanePowering ∧ n.fld LANE_AUTH 12 10 = 5 ∧ n.arb.col = some .restart ∧ n.sys = sysPlain ∧
      n.age .autoRestart = 0 ∧ Kept s n [LANE_AUTH, LANE_HEALTH] ∧ n.mram = s.mram := by
  have hans : Answers p (s.at t) := ⟨by rw [iface_at, hi], he, by rw [service_at, hv]; decide, by rw [service_at, hv]; decide⟩
  have e := laneRestart_acts hans w
  unfold State.restartRequest at e
  rw [if_neg (by simp [hk]), h17, if_neg Bool.false_ne_true, if_pos h16] at e
  obtain ⟨m, hmd⟩ : ∃ m, m = (s.at t).setIface p (acceptedIface p) := ⟨_, rfl⟩
  obtain ⟨hmr, hma, hmm, hstart⟩ : m.regs = s.regs ∧ m.arb = s.arb ∧ m.mram = s.mram ∧ m.mayStart = s.mayStart := by
    rw [hmd]
    cases p <;> exact ⟨rfl, rfl, rfl, rfl⟩
  have hmsys : m.sys = sysPlain := (congrArg (fun x => bits x 2 0) (reg_of_regs hmr SYS_STATE)).trans hs
  rw [← hmd, tryStart_starts hmsys ((holder_of_word (reg_of_regs hmr _)).trans hh) (hstart.trans hm)] at e
  have d := startFromPlain_restarted ((regsOk_of_regs hmr).mpr hr)
  have hl : m.chooseLane = s.chooseLane := chooseLane_congr (reg_of_regs hmr _) hma
  exact ⟨_, congrArg (finish s) e, hl ▸ d.holder, hl ▸ d.powering, d.cause, d.col, d.sys.trans hmsys, d.age, kept_trans (kept_of_regs hmr) d.kept, d.mram.trans hmm⟩

/-- A bit of a field that begins at bit 0. -/
theorem bit_of_low_field (w : Word) {k n : Nat} (h : k ≤ n) : bit w k = (bits w n 0).testBit k := by
  unfold bit bits
  rw [BitVec.getLsbD, pow_zero, Nat.div_one, Nat.testBit_mod_two_pow]
  simp [Nat.lt_succ_of_le h]

/-- Both marks and their causes cleared, and nothing else of the lanes (R343). -/
structure MarksCleared (s n : State) : Prop where
  good : ∀ l, n.isBad l = false
  causes : n.fld LANE_HEALTH 7 0 = 0
  states : ∀ l, n.laneState l = s.laneState l
  first : n.arb.firstBad = none
  kept : Kept s n [LANE_HEALTH]

theorem clearBad_cleared {s : State} (h : RegsOk s) : MarksCleared s s.clearBad := by
  have h0 : s.clearBad.fld LANE_HEALTH 7 0 = 0 := fld_setFld_same h LANE_HEALTH (by decide) (by decide)
  refine ⟨fun l => ?_, h0, fun l => ?_, rfl, kept_setReg h _ (by simp)⟩
  · have hbit (k : Nat) (hk : k ≤ 7) : s.clearBad.flag LANE_HEALTH k = false := by
      rw [State.flag, bit_of_low_field _ hk, show bits (s.clearBad.reg LANE_HEALTH) 7 0 = 0 from h0]
      exact Nat.zero_testBit k
    cases l
    · exact hbit 0 (by decide)
    · exact hbit 1 (by decide)
  · cases l
    · exact fld_setFld_apart h LANE_HEALTH (by decide) (by decide) (.inr (by decide))
    · exact fld_setFld_apart h LANE_HEALTH (by decide) (by decide) (.inr (by decide))

theorem laneClrbad_clears (p : Port) (w : Word) (t : Nat) (s : State) (hr : RegsOk s) (h : ServesAll p (s.at t)) (hk : bits w 15 0 = 0x3CA5) (h17 : bit w 17 = true) :
    ∃ n, exec (.laneClrbad p w t) s = .next n ∧ n.isBad .a = false ∧ n.isBad .b = false ∧ n.fld LANE_HEALTH 7 0 = 0 ∧ n.laneState .a = s.laneState .a ∧ n.laneState .b = s.laneState .b ∧
      n.arb.firstBad = none ∧ (n.iface p).acked = true ∧ Kept s n [LANE_HEALTH] ∧ n.mram = s.mram := by
  have hmr : ((s.at t).setIface p (acceptedIface p)).regs = s.regs := State.setIface_regs _ p _
  have rm : RegsOk ((s.at t).setIface p (acceptedIface p)) := (regsOk_of_regs hmr).mpr hr
  have d := clearBad_cleared rm
  have hplain : ((s.at t).setIface p (acceptedIface p)).clearBad.sys ≠ sysPlain := by
    have hsys : ((s.at t).setIface p (acceptedIface p)).clearBad.sys = s.sys := congrArg (fun x => bits x 2 0) ((d.kept SYS_STATE (by decide)).trans (reg_of_regs hmr _))
    obtain ⟨-, -, hv, -, -⟩ := h
    rw [hsys, (normal_of_service_full ((service_at s t p).symm.trans hv)).1]
    decide
  have e := laneRestart_acts h.answers w
  unfold State.restartRequest at e
  rw [if_neg (by simp [hk]), if_pos h17] at e
  dsimp only at e
  rw [tryStart_elsewhere hplain, ite_self] at e
  have hst (l : LaneId) : ((s.at t).setIface p (acceptedIface p)).laneState l = s.laneState l := laneState_of_word (reg_of_regs hmr _) l
  refine ⟨_, congrArg (finish s) e, d.good .a, d.good .b, d.causes, (d.states .a).trans (hst .a), (d.states .b).trans (hst .b), d.first, ?_, kept_trans (kept_of_regs hmr) d.kept, ?_⟩ <;> cases p <;> rfl

/-! ### LANE.ARTIME (R340) -/

/-- A count below another word's value has not reached its maximum. -/
theorem satInc_below {w x : Word} (h : w.toNat < x.toNat) : satInc w = w + 1 := by
  refine if_neg fun e => ?_
  have hw : w.toNat = 2 ^ 18 - 1 := by rw [e]; rfl
  have hx := x.isLt
  omega

theorem laneAutoRestart_starts (t : Nat) (s : State) (hr : RegsOk s) (hs : s.sys = sysPlain) (hh : s.holder = none) (hm : s.mayStart = true) (ha : 0 < ef (s.reg LANE_ARTIME))
    (hc : s.regN LANE_ARCNT < s.regN LANE_ARMAX) (he : (s.at t).expired .autoRestart (s.reg LANE_ARTIME) = true) :
    ∃ n, exec (.laneAutoRestart t) s = .next n ∧ n.holder = some s.chooseLane ∧ n.laneState s.chooseLane = lanePowering ∧ n.reg LANE_ARCNT = s.reg LANE_ARCNT + 1 ∧ n.fld LANE_AUTH 12 10 = 5 ∧
      n.sys = sysPlain ∧ Kept s n [LANE_AUTH, LANE_HEALTH, LANE_ARCNT] ∧ n.mram = s.mram := by
  have e : exec (.laneAutoRestart t) s = finish (s.at t) (((s.at t).inc LANE_ARCNT).startFromPlain) := by
    refine congrArg (finish (s.at t)) (if_pos ?_)
    rw [sys_at, hs, holder_at, hh, show (s.at t).mayStart = s.mayStart from rfl, hm, reg_at, he, regN_at, regN_at]
    simp [ha, hc]
  have hk : Kept s ((s.at t).inc LANE_ARCNT) [LANE_ARCNT] := kept_setReg (s := s.at t) hr _ (by simp)
  have hcnt : ((s.at t).inc LANE_ARCNT).reg LANE_ARCNT = s.reg LANE_ARCNT + 1 := (reg_setReg_same (s := s.at t) hr _ _).trans (satInc_below hc)
  have hl : ((s.at t).inc LANE_ARCNT).chooseLane = s.chooseLane := chooseLane_congr (hk LANE_HEALTH (by decide)) rfl
  have hmram : ((s.at t).inc LANE_ARCNT).mram = s.mram := rfl
  have d := startFromPlain_restarted (s := (s.at t).inc LANE_ARCNT) (setReg_regsOk hr _ _)
  generalize (s.at t).inc LANE_ARCNT = m at e hk hcnt hl hmram d
  have hsys : m.sys = sysPlain := (congrArg (fun x => bits x 2 0) (hk SYS_STATE (by decide))).trans hs
  generalize m.startFromPlain = n at e d
  exact ⟨_, e, hl ▸ d.holder, hl ▸ d.powering, (d.kept LANE_ARCNT (by decide)).trans hcnt, d.cause, d.sys.trans hsys, kept_trans (kept_mono hk (by simp)) (kept_mono d.kept (by simp)), d.mram.trans hmram⟩

end Sys2Proof
end
-- ==== Sys2Proof/Proofs/Units/ImageChecks.lean ====
section
/-! O19: the image checks that IMG.SWITCH begins, and how a dry one ends (R96 to R99). -/

namespace Sys2Proof

open Machine

/-! ### IMG.SWITCH (R98, R99) -/

theorem imgSwitch_acts {p : Port} {m : State} (h : ServesAll p m) (w : Word) :
    m.hostOp p (.regWrite IMG_SWITCH w) = (accepted m p IMG_SWITCH w).imgRequest w (if bit w 17 then .dry else .switch) := by
  rw [hostOp_global h w (by decide) (by decide) rfl (isolatedWord_outside _ (.inl (by decide)) (.inl (by decide))), if_neg (by decide)]
  rfl

/-- IMG.SWITCH with its key begins a check of the slot it names, where nothing stands against it. -/
theorem imgRequest_begins {s : State} {w : Word} (kind : CheckKind) (hl : s.laneRuns = true) (hk : bits w 15 0 = 0x3C3C) (hb : s.imgBusy = false) (hs : s.switching = false) (ht : s.upd.trial = none)
    (he : s.arb.entryWait = false) :
    s.imgRequest w kind = { s.setFlag IMG_LDSTAT 0 true with upd := { s.upd with check := some (kind, b2n (bit w 16)) } } := by
  unfold State.imgRequest
  rw [if_neg (by simp [hk, hl]), if_neg (by simp [hb, hs, ht, he])]
  rfl

/-- What stands against a switch is read from the words, the arbiter and the trial. -/
theorem accepted_requests (m : State) (p : Port) (a : Nat) (w : Word) : (accepted m p a w).laneRuns = m.laneRuns ∧ (accepted m p a w).imgBusy = m.imgBusy ∧ (accepted m p a w).switching = m.switching ∧
    (accepted m p a w).upd = m.upd ∧ (accepted m p a w).arb = m.arb := by
  rw [accepted_eq]
  cases p <;> exact ⟨rfl, rfl, rfl, rfl, rfl⟩

/-- A write of IMG.SWITCH with its key, dry or not by its bit 17. -/
theorem imgWrite_begins (p : Port) (w : Word) (t : Nat) (s : State) (hr : RegsOk s) (h : ServesAll p (s.at t)) (hk : bits w 15 0 = 0x3C3C) (hb : s.imgBusy = false) (hs : s.switching = false)
    (ht : s.upd.trial = none) (he : s.arb.entryWait = false) :
    ∃ n, finish s ((s.at t).hostOp p (.regWrite IMG_SWITCH w)) = .next n ∧ n.upd.check = some (if bit w 17 then .dry else .switch, b2n (bit w 16)) ∧ n.imgBusy = true ∧ (n.iface p).acked = true ∧
      Kept s n [IMG_LDSTAT] ∧ n.mram = s.mram := by
  obtain ⟨hl, hb', hs', hu, ha⟩ := accepted_requests (s.at t) p IMG_SWITCH w
  obtain ⟨hmr, -, hmm, -, -, -, hack⟩ := accepted_fields (s.at t) p IMG_SWITCH w
  obtain ⟨-, -, hv, -, -⟩ := id h
  have hruns : (accepted (s.at t) p IMG_SWITCH w).laneRuns = true := hl.trans (normal_of_service_full hv).2
  have e := (imgSwitch_acts h w).trans (imgRequest_begins (if bit w 17 then .dry else .switch) hruns hk (hb'.trans hb) (hs'.trans hs) ((congrArg Update.trial hu).trans ht) ((congrArg Arbiter.entryWait ha).trans he))
  have rm : RegsOk (accepted (s.at t) p IMG_SWITCH w) := (regsOk_of_regs hmr).mpr hr
  refine ⟨_, congrArg (finish s) e, rfl, flag_setFlag_same rm IMG_LDSTAT true (by decide), ?_, kept_trans (kept_of_regs hmr) (kept_setReg rm _ (by simp)), hmm⟩
  cases p <;> exact hack

theorem imgCheck_begins (p : Port) (w : Word) (t : Nat) (s : State) (hr : RegsOk s) (h : ServesAll p (s.at t)) (hk : bits w 15 0 = 0x3C3C) (h17 : bit w 17 = true) (hb : s.imgBusy = false)
    (hs : s.switching = false) (ht : s.upd.trial = none) (he : s.arb.entryWait = false) :
    ∃ n, exec (.imgCheck p w t) s = .next n ∧ n.upd.check = some (.dry, b2n (bit w 16)) ∧ n.imgBusy = true ∧ (n.iface p).acked = true ∧ Kept s n [IMG_LDSTAT] ∧ n.mram = s.mram := by
  have hn := imgWrite_begins p w t s hr h hk hb hs ht he
  rw [if_pos h17] at hn
  exact hn

theorem imgSwitch_begins (p : Port) (w : Word) (t : Nat) (s : State) (hr : RegsOk s) (h : ServesAll p (s.at t)) (hk : bits w 15 0 = 0x3C3C) (h17 : bit w 17 = false) (hb : s.imgBusy = false)
    (hs : s.switching = false) (ht : s.upd.trial = none) (he : s.arb.entryWait = false) :
    ∃ n, exec (.imgSwitch p w t) s = .next n ∧ n.upd.check = some (.switch, b2n (bit w 16)) ∧ n.imgBusy = true ∧ (n.iface p).acked = true ∧ Kept s n [IMG_LDSTAT] ∧ n.mram = s.mram := by
  have hn := imgWrite_begins p w t s hr h hk hb hs ht he
  rw [if_neg (by rw [h17]; decide)] at hn
  exact hn

/-! ### What a check reads -/

/-- The last check of a list is asked once the others have passed. -/
theorem firstOf_last (l : List (Option Bad)) (x : Option Bad) : firstOf (l ++ [x]) = (firstOf (l ++ [none])).or x := by
  simp only [firstOf, List.findSome?_append, List.findSome?_cons, List.findSome?_nil, id_eq, Option.or_none]
  cases x <;> rfl

/-- The live checks come last: before them a slot is checked as while no image runs. -/
theorem checkImage_eq (s : State) (slot : Nat) (live : Bool) :
    s.checkImage slot live = (s.checkImage slot false).or (if live then s.checkLive (s.imageSlot slot).image else none) := by
  unfold State.checkImage
  dsimp only
  split
  · rfl
  · split
    · rfl
    · exact firstOf_last [_, _, _, _, _, _, _, _, _, _, _, _, _] _

/-- A context that owns a live resource owns it in any state with its word, in which its channel is no less driven. -/
theorem liveCtx_mono {s n : State} {im : Image} {r : CtxRec} (hw : n.cw r.ctx GRP_CTL = s.cw r.ctx GRP_CTL) (hg : n.fld (GCH_STS + r.a0) 1 0 ≠ 0 → s.fld (GCH_STS + r.a0) 1 0 ≠ 0)
    (h : n.liveCtx im r = true) : s.liveCtx im r = true := by
  unfold State.liveCtx at h ⊢
  rw [hw] at h
  have hdrive : decide (n.fld (GCH_STS + r.a0) 1 0 ≠ 0) = true → decide (s.fld (GCH_STS + r.a0) 1 0 ≠ 0) = true := by simpa using hg
  split at h
  · exact (Bool.or_eq_true _ _).mpr (((Bool.or_eq_true _ _).mp h).imp_left hdrive)
  · exact (Bool.or_eq_true _ _).mpr (((Bool.or_eq_true _ _).mp h).imp_left hdrive)
  · exact (Bool.and_eq_true _ _).mpr (((Bool.and_eq_true _ _).mp h).imp_right hdrive)
  · exact h
  · exact h
  · exact h

theorem liveCtx_congr {s n : State} {im : Image} {r : CtxRec} (hw : n.cw r.ctx GRP_CTL = s.cw r.ctx GRP_CTL) (hg : n.fld (GCH_STS + r.a0) 1 0 = s.fld (GCH_STS + r.a0) 1 0) :
    n.liveCtx im r = s.liveCtx im r :=
  Bool.eq_iff_iff.mpr ⟨liveCtx_mono hw (by rw [hg]; exact id), liveCtx_mono hw.symm (by rw [hg]; exact id)⟩

/-- The live checks of a new image rest on the running image and on which of its contexts own a live resource. -/
theorem checkLive_congr {s n : State} (hi : n.image = s.image) (hl : ∀ im, s.image = some im → ∀ r ∈ im.contexts, n.liveCtx im r = s.liveCtx im r) (new : Image) : n.checkLive new = s.checkLive new := by
  unfold State.checkLive
  rw [hi]
  split
  · rfl
  · next old ho =>
    have hall (f : CtxRec → Bool) : old.contexts.all (fun r => !n.liveCtx old r || f r) = old.contexts.all (fun r => !s.liveCtx old r || f r) := by
      rw [Bool.eq_iff_iff, List.all_eq_true, List.all_eq_true]
      exact forall₂_congr fun r hr => by rw [hl old ho r hr]
    dsimp only
    rw [hall]

theorem need_eq_none {ok : Bool} {code sect : Nat} : need ok code sect = none ↔ ok = true := by cases ok <;> simp [need]

/-- They pass where fewer contexts own one. -/
theorem checkLive_mono {s n : State} (hi : n.image = s.image) (hl : ∀ im, s.image = some im → ∀ r, n.liveCtx im r = true → s.liveCtx im r = true) {new : Image} (h : s.checkLive new = none) :
    n.checkLive new = none := by
  unfold State.checkLive at h ⊢
  rw [hi]
  split at h
  · rfl
  · next old ho =>
    dsimp only at h ⊢
    simp only [firstOf, List.findSome?_eq_none_iff, List.mem_cons, List.not_mem_nil, or_false, forall_eq_or_imp, forall_eq, id_eq, need_eq_none, List.all_eq_true, Bool.or_eq_true, Bool.not_eq_true'] at h ⊢
    obtain ⟨hcarry, hmig, hplace⟩ := h
    refine ⟨hcarry, hmig, fun r hr => (hplace r hr).imp_left fun hs => ?_⟩
    exact Bool.eq_false_iff.mpr fun hn => Bool.eq_false_iff.mp hs (hl old ho r hn)

/-! ### The end of a check -/

/-- The end of a check's work: no check runs, and BUSY follows (R97). -/
def checkOver (s : State) : State := { s with upd := { s.upd with check := none } }.showBusy

theorem checkOver_kept {s : State} (h : RegsOk s) : RegsOk (checkOver s) ∧ Kept s (checkOver s) [IMG_LDSTAT] := ⟨setReg_regsOk (s := s) h _ _, kept_setReg (s := s) h _ (by simp)⟩

theorem checkOver_imgBusy {s : State} (h : RegsOk s) (hc : s.upd.closing = none) : (checkOver s).imgBusy = false := by
  refine (flag_setFlag_same (s := s) h IMG_LDSTAT _ (by decide)).trans ?_
  rw [hc]
  rfl

/-- Without the live checks a check reads no word that the end of its work touches. -/
theorem checkOver_static {s : State} (h : RegsOk s) (slot : Nat) : (checkOver s).checkImage slot false = s.checkImage slot false := by
  have hk := (checkOver_kept h).2
  have hv : (checkOver s).fwver = s.fwver := by simp only [State.fwver, State.wide, State.regN, hk UPD_FWVER (by decide), hk (UPD_FWVER + 1) (by decide)]
  unfold State.checkImage
  rw [hv]
  rfl

/-- No word reads as a driven channel that did not before: of the one word that changes BUSY falls. -/
theorem checkOver_drive {s : State} (h : RegsOk s) (hc : s.upd.closing = none) (a : Nat) (hn : (checkOver s).fld a 1 0 ≠ 0) : s.fld a 1 0 ≠ 0 := by
  refine fun h0 => hn ?_
  by_cases ha : a = IMG_LDSTAT
  · subst ha
    have hbusy : bit (s.reg IMG_LDSTAT) 0 = false := by
      rw [bit_of_low_field _ (show 0 ≤ 1 by decide), show bits (s.reg IMG_LDSTAT) 1 0 = 0 from h0]
      rfl
    refine (bits_congr fun i _ hi => ?_).trans h0
    obtain rfl | rfl : i = 0 ∨ i = 1 := by omega
    · exact (checkOver_imgBusy h hc).trans hbusy.symm
    · exact flag_setFlag_apart (s := s) h IMG_LDSTAT _ (by decide) (by decide)
  · exact (congrArg (fun w => bits w 1 0) ((checkOver_kept h).2 a (by simp [ha]))).trans h0

theorem checkOver_cw {s : State} (h : RegsOk s) (c k : Nat) : (checkOver s).cw c k = s.cw c k := (checkOver_kept h).2 _ (by simp [ctxAddr_ne_global c k (show IMG_LDSTAT < 0x1000 by decide)])

/-- A slot that passes while the check runs passes at its end. -/
theorem checkOver_passes {s : State} (h : RegsOk s) (hc : s.upd.closing = none) {slot : Nat} (hx : s.check slot = none) : (checkOver s).check slot = none := by
  have hlive {new : Image} (hp : s.checkLive new = none) : (checkOver s).checkLive new = none :=
    checkLive_mono (s := s) (n := checkOver s) rfl (fun im _ r => liveCtx_mono (checkOver_cw h r.ctx GRP_CTL) (checkOver_drive h hc (GCH_STS + r.a0))) hp
  unfold State.check at hx ⊢
  rw [checkImage_eq, Option.or_eq_none_iff] at hx ⊢
  obtain ⟨hstatic, hl⟩ := hx
  refine ⟨(checkOver_static h slot).trans hstatic, ?_⟩
  change (if s.image.isSome = true then (checkOver s).checkLive (s.imageSlot slot).image else none) = none
  split
  · next hi => exact hlive (by rwa [if_pos hi] at hl)
  · rfl

/-- With channels that are bytes the check reads the same at its end. -/
theorem checkOver_check {s : State} (h : RegsOk s) (hf : ImagesFit s) (slot : Nat) : (checkOver s).check slot = s.check slot := by
  have hchan {im : Image} (hi : s.image = some im) {r : CtxRec} (hr : r ∈ im.contexts) : (checkOver s).fld (GCH_STS + r.a0) 1 0 = s.fld (GCH_STS + r.a0) 1 0 := by
    obtain ⟨-, ha, -, -⟩ := (hf.1 im hi).1 r hr
    have hne : GCH_STS + r.a0 ≠ IMG_LDSTAT := by
      simp only [GCH_STS, IMG_LDSTAT]
      omega
    exact congrArg (fun w => bits w 1 0) ((checkOver_kept h).2 _ (by simpa using hne))
  have hlive (new : Image) : (checkOver s).checkLive new = s.checkLive new :=
    checkLive_congr (s := s) (n := checkOver s) rfl (fun im hi r hr => liveCtx_congr (checkOver_cw h r.ctx GRP_CTL) (hchan hi hr)) new
  unfold State.check
  rw [checkImage_eq, checkImage_eq s, checkOver_static h, hlive]
  rfl

/-! ### What the loader shows (R96, R97) -/

theorem flag_setImgValid {s : State} (h : RegsOk s) {slot : Nat} (hs : slot < 2) (b : Bool) : (s.setImgValid slot b).flag IMG_ACTIVE (1 + slot) = b := by
  unfold State.setImgValid
  rw [Nat.mod_eq_of_lt hs]
  exact flag_setFlag_same h IMG_ACTIVE b (by omega)

/-- The code of a failed check in IMG.LDERR, and its record in IMG.LDREC. -/
theorem showBad_shown {s : State} (h : RegsOk s) {x : Bad} (slot : Nat) (live : Bool) (hc : x.code < 256) :
    RegsOk (s.showBad x slot live) ∧ (s.showBad x slot live).fld IMG_LDERR 7 0 = x.code ∧ Kept s (s.showBad x slot live) [IMG_LDERR, IMG_LDREC] := by
  unfold State.showBad
  generalize hw : Word.ofNat (x.code + 256 * x.sect + 65536 * (slot % 2) + 131072 * b2n live) = w
  have hcode : bits w 7 0 = x.code := by
    rw [← hw]
    simp only [bits, Word.ofNat, BitVec.toNat_ofNat]
    omega
  have r1 : RegsOk (s.setReg IMG_LDERR w) := setReg_regsOk h _ _
  refine ⟨setReg_regsOk r1 _ _, ?_, kept_trans (kept_setReg h _ (by simp)) (kept_setReg r1 _ (by simp))⟩
  exact (fld_setReg_other r1 _ 7 0 (by decide)).trans ((congrArg (fun w => bits w 7 0) (reg_setReg_same h IMG_LDERR w)).trans hcode)

/-- A result of the loader set in IMG.LDSTAT, with its record and its alert. -/
def resultShown (s : State) (b : Nat) : State := (s.gOffer 4 b).alert 3

/-- What a result leaves: its flag and the alert, and beside their words and the recorder's nothing. -/
structure Shown (s n : State) (b : Nat) : Prop where
  ok : RegsOk n
  result : n.flag IMG_LDSTAT b = true
  others : ∀ k, k ≠ b → n.flag IMG_LDSTAT k = s.flag IMG_LDSTAT k
  alert : n.flag HOST_ALERT 3 = true
  kept : Kept s n ([IMG_LDSTAT, HOST_ALERT] ++ recordWords)

theorem resultShown_shown {s : State} (h : RegsOk s) {b : Nat} (hb : b < 18) : Shown s (resultShown s b) b := by
  have r1 : RegsOk (s.setFlag IMG_LDSTAT b true) := setReg_regsOk h _ _
  have hx : OnlyRecorder (s.setFlag IMG_LDSTAT b true) (s.gOffer 4 b) := offerRec_only _ _ _ _
  have r2 : RegsOk (s.gOffer 4 b) := hx.regsOk r1
  have hword : (resultShown s b).reg IMG_LDSTAT = (s.setFlag IMG_LDSTAT b true).reg IMG_LDSTAT := (reg_setReg_other r2 _ (by decide)).trans (hx.reg r1 (by decide))
  refine ⟨setReg_regsOk r2 _ _, ?_, fun k hk => ?_, flag_setFlag_same r2 HOST_ALERT true (by decide), ?_⟩
  · exact (congrArg (fun w => bit w b) hword).trans (flag_setFlag_same h IMG_LDSTAT true hb)
  · exact (congrArg (fun w => bit w k) hword).trans (flag_setFlag_apart h IMG_LDSTAT true hb hk)
  · exact kept_trans (m := s.setFlag IMG_LDSTAT b true) (kept_setReg h _ (by simp)) (kept_trans (m := s.gOffer 4 b) (kept_mono (hx.2 r1).2 fun _ ha => List.mem_append_right _ ha) (kept_setReg r2 _ (by simp)))

theorem resultShown_rest (s : State) (b : Nat) : (resultShown s b).upd = s.upd ∧ (resultShown s b).image = s.image ∧ (resultShown s b).mram = s.mram ∧ (resultShown s b).flt = s.flt := by
  have hx : OnlyRecorder (s.setFlag IMG_LDSTAT b true) (s.gOffer 4 b) := offerRec_only _ _ _ _
  exact ⟨hx.field State.upd fun _ _ _ => rfl, hx.field State.image fun _ _ _ => rfl, hx.field State.mram fun _ _ _ => rfl, hx.field State.flt fun _ _ _ => rfl⟩

/-- How a dry check of a slot ends: it passes, or fails while an image runs at severity 0. -/
def dryResult (s : State) (slot : Nat) : State := match s.check slot with
  | none => s.loaderPass slot
  | some x => s.loaderFail x slot true 0

theorem loaderCheckDone_dry {t slot : Nat} {s : State} (hc : s.upd.check = some (.dry, slot)) (ha : s.arb.imgAsked = false) :
    exec (.loaderCheckDone t) s = finish (s.at t) (dryResult (checkOver (s.at t)) slot) := by
  dsimp only [exec, execLoaderCheckDone]
  rw [show (s.at t).upd.check = some (.dry, slot) from hc]
  dsimp only
  rw [if_neg (by rw [show (s.at t).arb = s.arb from rfl, ha]; decide)]
  rfl

theorem dryCheck_passes (t slot : Nat) (s : State) (hr : RegsOk s) (hs : slot < 2) (hc : s.upd.check = some (.dry, slot)) (ha : s.arb.imgAsked = false) (hcl : s.upd.closing = none)
    (hx : s.check slot = none) :
    ∃ n, exec (.loaderCheckDone t) s = .next n ∧ n.upd.check = none ∧ n.imgBusy = false ∧ n.flag IMG_ACTIVE (1 + slot) = true ∧ n.flag IMG_LDSTAT 1 = true ∧ n.flag HOST_ALERT 3 = true ∧
      n.image = s.image ∧ Kept s n ([IMG_LDSTAT, IMG_ACTIVE, HOST_ALERT] ++ recordWords) ∧ n.mram = s.mram := by
  have e := loaderCheckDone_dry (t := t) hc ha
  unfold dryResult at e
  rw [checkOver_passes (s := s.at t) hr hcl hx] at e
  obtain ⟨r1, k1⟩ := checkOver_kept (s := s.at t) hr
  have r2 : RegsOk ((checkOver (s.at t)).setImgValid slot true) := setReg_regsOk r1 _ _
  have d := resultShown_shown r2 (b := 1) (by decide)
  obtain ⟨hu, hi, hm, -⟩ := resultShown_rest ((checkOver (s.at t)).setImgValid slot true) 1
  refine ⟨_, e, congrArg Update.check hu, ?_, ?_, d.result, d.alert, hi, ?_, hm⟩
  · exact (d.others 0 (by decide)).trans ((flag_setReg_other r1 _ 0 (by decide)).trans (checkOver_imgBusy (s := s.at t) hr hcl))
  · exact (congrArg (fun w => bit w (1 + slot)) (d.kept IMG_ACTIVE (by decide))).trans (flag_setImgValid r1 hs true)
  · exact kept_trans (m := checkOver (s.at t)) (kept_mono k1 (by simp)) (kept_trans (m := (checkOver (s.at t)).setImgValid slot true) (kept_setReg r1 _ (by simp)) (kept_mono d.kept (by decide)))

theorem dryCheck_fails (t slot : Nat) (x : Bad) (s : State) (hr : RegsOk s) (hf : ImagesFit s) (hs : slot < 2) (hc : s.upd.check = some (.dry, slot)) (ha : s.arb.imgAsked = false)
    (_ : s.upd.closing = none) (hx : s.check slot = some x) (hcode : x.code < 256) (hm : s.flt.matches_ = []) :
    ∃ n, exec (.loaderCheckDone t) s = .next n ∧ n.upd.check = none ∧ n.flag IMG_ACTIVE (1 + slot) = false ∧ n.flag IMG_LDSTAT 2 = true ∧ n.fld IMG_LDERR 7 0 = x.code ∧ Faulted n 0 14 ∧
      n.image = s.image ∧ n.mram = s.mram := by
  have e := loaderCheckDone_dry (t := t) hc ha
  unfold dryResult at e
  rw [(checkOver_check (s := s.at t) hr hf slot).trans hx] at e
  obtain ⟨r1, k1⟩ := checkOver_kept (s := s.at t) hr
  have r2 : RegsOk ((checkOver (s.at t)).setImgValid slot false) := setReg_regsOk r1 _ _
  obtain ⟨r3, hcause, k3⟩ := showBad_shown r2 slot true hcode
  have d := resultShown_shown r3 (b := 2) (by decide)
  obtain ⟨hu, hi, hmram, hflt⟩ := resultShown_rest (((checkOver (s.at t)).setImgValid slot false).showBad x slot true) 2
  generalize hn : resultShown (((checkOver (s.at t)).setImgValid slot false).showBad x slot true) 2 = m at d hu hi hmram hflt
  have e' : exec (.loaderCheckDone t) s = finish (s.at t) (m.laneRaise 14 0 (some 0) 1602) := e.trans (hn ▸ rfl)
  have hx := laneRaise_fault (onlyFault_refl m) 14 0 (some 0) 1602
  have hw : RaiseSpares m (m.laneRaise 14 0 (some 0) 1602) := (RaiseSpares.refl d.ok fun im h => hf.1 im (hi.symm.trans h)).laneRaise
  refine ⟨_, e', ?_, ?_, ?_, ?_, laneRaise_shelf_faulted m 14 (some 0) 1602 ((congrArg Collector.matches_ hflt).trans hm), hx.image.trans hi, hx.mram.trans hmram⟩
  · exact (congrArg (fun n => n.upd.check) hx.1).trans (congrArg Update.check hu)
  · refine (congrArg (fun w => bit w (1 + slot)) ((hw.word IMG_ACTIVE (by decide)).trans (d.kept IMG_ACTIVE (by decide)))).trans ?_
    exact (congrArg (fun w => bit w (1 + slot)) (k3 IMG_ACTIVE (by decide))).trans (flag_setImgValid r1 hs false)
  · exact (congrArg (fun w => bit w 2) (hw.word IMG_LDSTAT (by decide))).trans d.result
  · exact (congrArg (fun w => bits w 7 0) ((hw.word IMG_LDERR (by decide)).trans (d.kept IMG_LDERR (by decide)))).trans hcause

/-- Settles O19: a swap is asked for or refused, a lane is started, the marks are cleared, a check begins; a dry check that ends shows its result, and what a failed one raises spares the loader's words. -/
theorem swapsRestartsAndImageChecks : Obligations.SwapsRestartsAndImageChecks :=
  ⟨laneSwap_asks, laneSwap_refused, laneRestart_starts, laneClrbad_clears, laneAutoRestart_starts, imgCheck_begins, imgSwitch_begins, dryCheck_passes, dryCheck_fails⟩

end Sys2Proof
end
-- ==== Sys2Proof/Proofs/Units/Slots.lean ====
section
/-! O20: the coefficient bank of a loop slot, its set-point, and its start on enable (R114 to R116, R122, R208). -/

namespace Sys2Proof

open Machine

/-! ### The coefficient bank (R114, R115) -/

/-- A coefficient that the shadow bank holds for the selected slot and index is what FAB.CDATA reads. -/
theorem cdata_pending {s : State} {sh : Shadow} {x : Word} (h : s.lane.shadow = some sh) (hn : sh.slot = s.fld FAB_SLOT 7 0) (hx : find sh.vals (s.fld FAB_SLOT 10 8) = some x) : s.cdata = x := by
  unfold State.cdata
  rw [h]
  dsimp only
  rw [if_pos hn, hx]
  rfl

/-- What a write of FAB.CDATA leaves: the coefficient, held within its law's range, in the bank of the selected slot, and nothing of the coefficients in use. -/
structure Banked (s n : State) (r : SlotRec) (w : Word) : Prop where
  bank : ∃ sh, n.lane.shadow = some sh ∧ sh.slot = s.fld FAB_SLOT 7 0 ∧ find sh.vals (s.fld FAB_SLOT 10 8) = some (coefClamp r.law (s.fld FAB_SLOT 10 8) w).1
  mark : n.isClamped FAB_CDATA = (coefClamp r.law (s.fld FAB_SLOT 10 8) w).2
  used : n.lane.coefs = s.lane.coefs
  rest : n = { s with lane := n.lane, clamped := n.clamped }

theorem writeCdata_banked {s : State} {r : SlotRec} (hc : canonical false s.clamped = true) (hr : s.image.bind (·.slot? (s.fld FAB_SLOT 7 0)) = some r) (w : Word) : Banked s (s.writeCdata w) r w := by
  have hlaw : ((s.image.bind (·.slot? (s.fld FAB_SLOT 7 0))).map SlotRec.law).getD 0 = r.law := by rw [hr]; rfl
  unfold State.writeCdata
  dsimp only
  rw [hlaw]
  refine ⟨⟨_, rfl, ?_, find_putKey_same _ _ _⟩, lookup_assign_same hc, rfl, rfl⟩
  dsimp only
  split
  · split
    · assumption
    · rfl
  · rfl

theorem Banked.cdata {s n : State} {r : SlotRec} {w : Word} (h : Banked s n r w) : n.cdata = (coefClamp r.law (s.fld FAB_SLOT 10 8) w).1 := by
  obtain ⟨⟨sh, hsh, hn, hx⟩, -, -, hrest⟩ := h
  have hf (hi lo : Nat) : n.fld FAB_SLOT hi lo = s.fld FAB_SLOT hi lo := by rw [hrest]; rfl
  exact cdata_pending hsh (hn.trans (hf 7 0).symm) (by rw [hf]; exact hx)

/-- FAB.CDATA is there where the selected slot has a coefficient of the selected index (R114). -/
theorem implemented_cdata {s : State} {r : SlotRec} (hr : s.image.bind (·.slot? (s.fld FAB_SLOT 7 0)) = some r) (hk : s.fld FAB_SLOT 10 8 < r.coef.length) : s.implemented FAB_CDATA = true := by
  show (s.image.bind (·.slot? (s.fld FAB_SLOT 7 0))).any (fun r => decide (s.fld FAB_SLOT 10 8 < r.coef.length)) = true
  rw [hr]
  exact decide_eq_true hk

/-- A write of a word of the fabric's page acts as that page's words do. -/
theorem fabric_acts {p : Port} {m : State} (h : ServesAll p m) {a : Nat} (w : Word) (ha : FAB_CTL ≤ a ∧ a < 0x100) (hi : m.implemented a = true) :
    m.hostOp p (.regWrite a w) = (accepted m p a w).writePage p.code a w := by
  obtain ⟨hlo, hhi⟩ := ha
  simp only [FAB_CTL] at hlo
  have hg : ¬ (a = FCNT_GATE ∨ a = FCNT_GATE + 1) := by
    simp only [FCNT_GATE]
    omega
  have hb : (accepted m p a w).isolatedWord a = false := isolatedWord_outside _ (.inl (Nat.lt_trans hhi (by decide))) (.inl (Nat.lt_trans hhi (by decide)))
  rw [hostOp_global h w (by omega) hg ((accepted_implemented m p a w a).trans hi) hb, if_neg (by omega)]

theorem accepted_image (m : State) (p : Port) (a : Nat) (w : Word) : (accepted m p a w).image = m.image := by rw [accepted_eq]; cases p <;> rfl

theorem cdata_written (p : Port) (w : Word) (t : Nat) (r : SlotRec) (s : State) (_ : RegsOk s) (hc : canonical false s.clamped = true) (hv : ServesAll p (s.at t))
    (hr : s.image.bind (·.slot? (s.fld FAB_SLOT 7 0)) = some r) (hk : s.fld FAB_SLOT 10 8 < r.coef.length) :
    ∃ n, exec (.fabCdataWrite p w t) s = .next n ∧ n.cdata = (coefClamp r.law (s.fld FAB_SLOT 10 8) w).1 ∧ n.isClamped FAB_CDATA = (coefClamp r.law (s.fld FAB_SLOT 10 8) w).2 ∧
      n.lane.coefs = s.lane.coefs ∧ (n.iface p).acked = true ∧ n.regs = s.regs ∧ n.mram = s.mram := by
  have e := fabric_acts hv w (a := FAB_CDATA) (by decide) (implemented_cdata (s := s.at t) hr hk)
  obtain ⟨hregs, hlane, hmram, -, -, -, hack⟩ := accepted_fields (s.at t) p FAB_CDATA w
  have hf (hi lo : Nat) : (accepted (s.at t) p FAB_CDATA w).fld FAB_SLOT hi lo = s.fld FAB_SLOT hi lo := congrArg (fun x => bits x hi lo) (reg_of_regs hregs FAB_SLOT)
  have d := writeCdata_banked (s := accepted (s.at t) p FAB_CDATA w) ((accepted_clamped (s.at t) p _ w).symm ▸ hc) (by rw [accepted_image, hf]; exact hr) w
  have hcdata := d.cdata
  obtain ⟨-, hmark, hused, hrest⟩ := d
  rw [hf] at hcdata hmark
  refine ⟨_, congrArg (finish s) e, hcdata, hmark, hused.trans (congrArg LaneVars.coefs hlane), ?_, (congrArg State.regs hrest).trans hregs, (congrArg State.mram hrest).trans hmram⟩
  cases p <;> exact hack

/-- What is stored outside the context blocks is the word and its mark. -/
theorem storeAs_outside (s : State) {a : Nat} (h : isCtxAddr a = false) (x : Word × Bool) : s.storeAs a x = (s.setReg a x.1).markClamped a x.2 := by
  unfold State.storeAs
  rw [h, Bool.and_false]
  rfl

theorem shape_global (s : State) {a : Nat} (h : a < 0x480) : s.shape? a = descAt (pageDescs (a / 0x40)) a := if_pos h

/-- What a write of FAB.SLOT leaves: the selection, and the shadow bank where the selection names the slot it named before. -/
structure Selected (s n : State) (w : Word) : Prop where
  word : n.reg FAB_SLOT = Written s FAB_SLOT w
  other : n.fld FAB_SLOT 7 0 ≠ s.fld FAB_SLOT 7 0 → n.lane = { s.lane with shadow := none }
  same : n.fld FAB_SLOT 7 0 = s.fld FAB_SLOT 7 0 → n.lane = s.lane
  kept : Kept s n [FAB_SLOT]
  rest : n = { s with regs := n.regs, clamped := n.clamped, lane := n.lane }

theorem writeFabSlot_selected {s : State} (hr : RegsOk s) (w : Word) : Selected s (s.writeFabSlot w) w := by
  have hshape : s.shape? FAB_SLOT = descAt (pageDescs (FAB_SLOT / 0x40)) FAB_SLOT := shape_global s (by decide)
  have hput : s.put FAB_SLOT w = (s.setReg FAB_SLOT (Written s FAB_SLOT w)).markClamped FAB_SLOT (putValue s FAB_SLOT w).2 :=
    (put_writable rfl (by rw [hshape]; decide) (by rw [hshape]; decide) w).trans (storeAs_outside s rfl _)
  have hword : (s.setReg FAB_SLOT (Written s FAB_SLOT w)).reg FAB_SLOT = Written s FAB_SLOT w := reg_setReg_same hr _ _
  have hkept : Kept s (s.setReg FAB_SLOT (Written s FAB_SLOT w)) [FAB_SLOT] := kept_setReg hr _ (by simp)
  unfold State.writeFabSlot
  rw [hput]
  dsimp only
  split
  · rename_i hsame
    exact ⟨hword, fun h => absurd hsame h, fun _ => rfl, hkept, rfl⟩
  · rename_i hother
    exact ⟨hword, fun _ => rfl, fun h => absurd h hother, hkept, rfl⟩

/-- What a plain write leaves depends on no host target. -/
theorem putValue_accepted (s : State) (t : Nat) (p : Port) (a b : Nat) (w v : Word) : putValue (accepted (s.at t) p a w) b v = putValue s b v := by
  simp only [putValue, accepted_clampWord, accepted_legal]
  rfl

theorem fabSlot_written (p : Port) (w : Word) (t : Nat) (s : State) (hr : RegsOk s) (hv : ServesAll p (s.at t)) :
    ∃ n, exec (.fabSlotWrite p w t) s = .next n ∧ n.reg FAB_SLOT = Written s FAB_SLOT w ∧ (n.fld FAB_SLOT 7 0 ≠ s.fld FAB_SLOT 7 0 → n.lane = { s.lane with shadow := none }) ∧
      (n.fld FAB_SLOT 7 0 = s.fld FAB_SLOT 7 0 → n.lane = s.lane) ∧ (n.iface p).acked = true ∧ Kept s n [FAB_SLOT] ∧ n.mram = s.mram := by
  have e : (s.at t).hostOp p (.regWrite FAB_SLOT w) = (accepted (s.at t) p FAB_SLOT w).writeFabSlot w := fabric_acts hv w (by decide) rfl
  obtain ⟨hregs, hlane, hmram, -, -, -, hack⟩ := accepted_fields (s.at t) p FAB_SLOT w
  have hwritten : Written (accepted (s.at t) p FAB_SLOT w) FAB_SLOT w = Written s FAB_SLOT w := congrArg Prod.fst (putValue_accepted s t p FAB_SLOT FAB_SLOT w w)
  have d := writeFabSlot_selected (s := accepted (s.at t) p FAB_SLOT w) ((regsOk_of_regs hregs).mpr hr) w
  generalize accepted (s.at t) p FAB_SLOT w = m at e hregs hlane hmram hack hwritten d
  have hf : m.fld FAB_SLOT 7 0 = s.fld FAB_SLOT 7 0 := congrArg (fun x => bits x 7 0) (reg_of_regs hregs FAB_SLOT)
  have hl : m.lane = s.lane := hlane
  obtain ⟨hword, hother, hsame, hkept, hrest⟩ := d
  rw [hf, hl] at hother hsame
  refine ⟨_, congrArg (finish s) e, hword.trans hwritten, hother, hsame, ?_, kept_trans (kept_of_regs hregs) hkept, (congrArg State.mram hrest).trans hmram⟩
  rw [hrest]
  cases p <;> exact hack

/-- FAB.CAPPLY acts on the shadow bank alone. -/
theorem capply_acts {p : Port} {w : Word} {t : Nat} {s : State} (hv : ServesAll p (s.at t)) {l : LaneVars} (hl : (accepted (s.at t) p FAB_CAPPLY w).writeCapply w = { accepted (s.at t) p FAB_CAPPLY w with lane := l }) :
    ∃ n, finish s ((s.at t).hostOp p (.regWrite FAB_CAPPLY w)) = .next n ∧ n.lane = l ∧ (n.iface p).acked = true ∧ n.regs = s.regs ∧ n.mram = s.mram := by
  have e : (s.at t).hostOp p (.regWrite FAB_CAPPLY w) = (accepted (s.at t) p FAB_CAPPLY w).writeCapply w := fabric_acts hv w (by decide) rfl
  obtain ⟨hregs, -, hmram, -, -, -, hack⟩ := accepted_fields (s.at t) p FAB_CAPPLY w
  refine ⟨_, congrArg (finish s) (e.trans hl), rfl, ?_, hregs, hmram⟩
  cases p <;> exact hack

theorem coefs_marked (p : Port) (w : Word) (t : Nat) (sh : Shadow) (s : State) (hv : ServesAll p (s.at t)) (h0 : bit w 0 = true) (h1 : bit w 1 = false) (hsh : s.lane.shadow = some sh) (hn : sh.slot = s.fld FAB_SLOT 7 0) :
    ∃ n, exec (.fabCoefApply p w t) s = .next n ∧ n.lane = { s.lane with shadow := some { sh with apply := true } } ∧ (n.iface p).acked = true ∧ n.regs = s.regs ∧ n.mram = s.mram := by
  refine capply_acts hv ?_
  obtain ⟨hregs, hlane, -⟩ := accepted_fields (s.at t) p FAB_CAPPLY w
  have hf : (accepted (s.at t) p FAB_CAPPLY w).fld FAB_SLOT 7 0 = s.fld FAB_SLOT 7 0 := congrArg (fun x => bits x 7 0) (reg_of_regs hregs FAB_SLOT)
  have hlane' : (accepted (s.at t) p FAB_CAPPLY w).lane = s.lane := hlane
  unfold State.writeCapply
  rw [h1, if_neg Bool.false_ne_true, if_pos h0, hlane', hf, hsh, Option.map_some, if_pos hn]

theorem coefs_discarded (p : Port) (w : Word) (t : Nat) (s : State) (hv : ServesAll p (s.at t)) (h1 : bit w 1 = true) :
    ∃ n, exec (.fabCoefDiscard p w t) s = .next n ∧ n.lane = { s.lane with shadow := none } ∧ (n.iface p).acked = true ∧ n.regs = s.regs ∧ n.mram = s.mram := by
  refine capply_acts hv ?_
  obtain ⟨-, hlane, -⟩ := accepted_fields (s.at t) p FAB_CAPPLY w
  have hlane' : (accepted (s.at t) p FAB_CAPPLY w).lane = s.lane := hlane
  unfold State.writeCapply
  rw [if_pos h1, hlane']

theorem coefs_taken (sh : Shadow) (s : State) (hsh : s.lane.shadow = some sh) (ha : sh.apply = true) :
    (s.takeShadow sh.slot).coefOf sh.slot = sh.vals.foldl (fun l p => l.set p.1 p.2) (s.coefOf sh.slot) ∧ (s.takeShadow sh.slot).lane.shadow = none ∧ (s.takeShadow sh.slot).regs = s.regs := by
  unfold State.takeShadow
  rw [hsh]
  dsimp only
  rw [if_pos ⟨rfl, ha⟩]
  refine ⟨?_, rfl, rfl⟩
  simp only [State.coefOf, find_putKey_same, Option.getD_some]

/-! ### Words of the loop slots -/

section SlotWords

variable {n k : Nat}

theorem isSlotAddr_slotAddr (hn : n < 256) (hk : k < 8) : isSlotAddr (slotAddr n k) = true := by
  have h1 : 0x3000 ≤ slotAddr n k := by simp only [slotAddr]; omega
  have h2 : slotAddr n k < 0x3800 := by simp only [slotAddr]; omega
  simp [isSlotAddr, h1, h2]

theorem slotOf_slotAddr (hk : k < 8) : slotOf (slotAddr n k) = (n, k) := by
  simp only [slotOf, slotAddr]
  ext <;> simp <;> omega

/-- The words of the slots lie behind the context blocks. -/
theorem slotAddr_ge (n k : Nat) : 0x3000 ≤ slotAddr n k := by
  simp only [slotAddr]
  omega

theorem slotAddr_notCtx (n k : Nat) : isCtxAddr (slotAddr n k) = false := by
  have h : ¬ slotAddr n k < 0x3000 := Nat.not_lt.mpr (slotAddr_ge n k)
  simp [isCtxAddr, h]

theorem slotAddr_notGlobal (n k : Nat) : ¬ slotAddr n k < 0x480 := Nat.not_lt.mpr (Nat.le_trans (by decide) (slotAddr_ge n k))

theorem slotAddr_notIsolated (s : State) (n k : Nat) : s.isolatedWord (slotAddr n k) = false :=
  isolatedWord_outside s (.inr (.inl (Nat.lt_of_lt_of_le (by decide) (slotAddr_ge n k)))) (.inr (Nat.le_trans (by decide) (slotAddr_ge n k)))

/-- The words of a slot are there where the image has a record of it (R104). -/
theorem implemented_slot {s : State} {r : SlotRec} (hn : n < 256) (hk : k < 8) (hr : s.image.bind (·.slot? n) = some r) : s.implemented (slotAddr n k) = true := by
  unfold State.implemented
  rw [if_neg (slotAddr_notGlobal n k), slotAddr_notCtx, if_neg Bool.false_ne_true, if_pos (isSlotAddr_slotAddr hn hk), slotOf_slotAddr hk, hr]
  rfl

theorem shape_slot (s : State) (hn : n < 256) (hk : k < 8) : s.shape? (slotAddr n k) = descAt descSlot k := by
  unfold State.shape?
  rw [if_neg (slotAddr_notGlobal n k), slotAddr_notCtx, if_neg Bool.false_ne_true, if_pos (isSlotAddr_slotAddr hn hk), slotOf_slotAddr hk]

theorem journalled_slot (hn : n < 256) (hk : k < 8) : journalled (slotAddr n k) = true := by
  have hge := slotAddr_ge n k
  have h1 : ¬ slotAddr n k < 0x40 := by omega
  have h2 : ¬ (0x3C0 ≤ slotAddr n k ∧ slotAddr n k < 0x400) := by omega
  simp [journalled, needOf, h1, h2, slotAddr_notGlobal n k, slotAddr_notCtx n k, isSlotAddr_slotAddr hn hk]

/-- A write of a word that is there in a slot is a write of that slot. -/
theorem applyWrite_slot (m : State) (via : Nat) (hk : k < 8) (hi : (m.setHolding via []).implemented (slotAddr n k) = true) (w : Word) :
    m.applyWrite via (slotAddr n k) w = (m.setHolding via []).writeSlot n k w := by
  have hge := slotAddr_ge n k
  have hg : ¬ (slotAddr n k = FCNT_GATE ∨ slotAddr n k = FCNT_GATE + 1) := by
    simp only [FCNT_GATE]
    omega
  unfold State.applyWrite
  rw [if_neg hg]
  dsimp only
  rw [if_neg (by simp [hi]), slotAddr_notIsolated, if_neg Bool.false_ne_true, if_neg (by omega), if_neg (slotAddr_notGlobal n k), slotAddr_notCtx, if_neg Bool.false_ne_true, slotOf_slotAddr hk]

/-- A target that serves every command carries it out once the journal holds it. -/
theorem hostOp_slot {p : Port} {m : State} {r : SlotRec} (h : ServesAll p m) (hn : n < 256) (hk : k < 8) (hr : m.image.bind (·.slot? n) = some r) (w : Word) :
    m.hostOp p (.regWrite (slotAddr n k) w) = (accepted m p (slotAddr n k) w).writeSlot n k w := by
  have hv : ((m.done p).service p == .full) = true := by
    obtain ⟨-, -, hv, -, -⟩ := h
    rw [show (m.done p).service p = m.service p by cases p <;> rfl, hv]
    rfl
  have hs : State.setHolding { m.done p with journal := (m.done p).journal ++ [{ addr := slotAddr n k, word := w, via := p.code, applied := (m.done p).now, commits := 0 }] } p.code [] = accepted m p (slotAddr n k) w := by
    rw [accepted, if_pos (journalled_slot hn hk)]
    cases p <;> rfl
  rw [hostOp_regWrite h, State.hostWrite, hv, journalled_slot hn hk, Bool.and_self, if_pos rfl]
  rw [applyWrite_slot _ _ hk (by rw [hs, accepted_implemented]; exact implemented_slot hn hk hr), hs]

end SlotWords

/-! ### SLOT.SET (R122, R208) -/

theorem slot_setSlot_same (s : State) (n : Nat) (f : SlotDyn → SlotDyn) : (s.setSlot n f).slot n = f (s.slot n) := by
  simp only [State.setSlot, State.slot, find_putKey_same, Option.getD_some]

theorem slot_setSlot_other (s : State) {n m : Nat} (f : SlotDyn → SlotDyn) (h : m ≠ n) : (s.setSlot n f).slot m = s.slot m := by
  simp only [State.setSlot, State.slot, find_putKey_other _ _ h]

theorem restart_restartRamp (s : State) (n : Nat) : ((s.restartRamp n).slot n).restart = true := congrArg SlotDyn.restart (slot_setSlot_same s n _)

theorem accepted_strandSlots (m : State) (p : Port) (a : Nat) (w : Word) : (accepted m p a w).strandSlots = m.strandSlots := by rw [accepted_eq]; cases p <;> rfl

/-- A write of SLOT.SET begins as any write of a slot's word. -/
theorem slotSet_acts {p : Port} {n : Nat} {w : Word} {t : Nat} {r : SlotRec} {s : State} (hv : ServesAll p (s.at t)) (hn : n < 256) (hr : s.image.bind (·.slot? n) = some r) :
    exec (.slotSetWrite p n w t) s = finish s ((accepted (s.at t) p (slotAddr n SLOT_SET) w).writeSlot n SLOT_SET w) := by
  show finish s (if n < 256 then (s.at t).hostOp p (.regWrite (slotAddr n SLOT_SET) w) else s.at t) = _
  rw [if_pos hn, hostOp_slot hv hn (by decide) hr]

/-- A set-point that the strand does not own is stored, and restarts the ramp of a slot without a reference source (R122). -/
theorem writeSlot_set {s : State} {n : Nat} {r : SlotRec} (hn : n < 256) (hr : s.image.bind (·.slot? n) = some r) (ho : s.strandSlots.contains n = false) (w : Word) :
    s.writeSlot n SLOT_SET w = (s.storeAs (slotAddr n SLOT_SET) (putValue s (slotAddr n SLOT_SET) w)).onlyIf (decide (r.ref = .none)) (·.restartRamp n) := by
  have hshape : s.shape? (slotAddr n SLOT_SET) = descAt descSlot SLOT_SET := shape_slot s hn (by decide)
  have hput : s.put (slotAddr n SLOT_SET) w = _ := put_writable (implemented_slot hn (by decide) hr) (by rw [hshape]; decide) (by rw [hshape]; decide) w
  have him : (s.storeAs (slotAddr n SLOT_SET) (putValue s (slotAddr n SLOT_SET) w)).image = s.image := by rw [storeAs_outside _ (slotAddr_notCtx _ _)]; rfl
  unfold State.writeSlot
  rw [if_neg (by decide), if_pos rfl, ho, if_neg Bool.false_ne_true, hput]
  dsimp only
  rw [him, hr]
  rfl

theorem set_written (p : Port) (n0 : Nat) (w : Word) (t : Nat) (r : SlotRec) (s : State) (hr : RegsOk s) (hv : ServesAll p (s.at t)) (hn : n0 < 256) (hs : s.image.bind (·.slot? n0) = some r)
    (ho : s.strandSlots.contains n0 = false) :
    ∃ n, exec (.slotSetWrite p n0 w t) s = .next n ∧ n.sw n0 SLOT_SET = Written s (slotAddr n0 SLOT_SET) w ∧ (r.ref = .none → (n.slot n0).restart = true) ∧ (n.iface p).acked = true ∧
      Kept s n [slotAddr n0 SLOT_SET] ∧ n.mram = s.mram := by
  have e := slotSet_acts (w := w) hv hn hs
  obtain ⟨hregs, -, hmram, -, -, -, hack⟩ := accepted_fields (s.at t) p (slotAddr n0 SLOT_SET) w
  have hset := writeSlot_set (s := accepted (s.at t) p (slotAddr n0 SLOT_SET) w) hn (by rw [accepted_image]; exact hs) (by rw [accepted_strandSlots]; exact ho) w
  rw [storeAs_outside _ (slotAddr_notCtx _ _), putValue_accepted] at hset
  rw [hset] at e
  generalize accepted (s.at t) p (slotAddr n0 SLOT_SET) w = m at e hregs hmram hack
  have rm : RegsOk m := (regsOk_of_regs hregs).mpr hr
  have hword : (m.setReg (slotAddr n0 SLOT_SET) (putValue s (slotAddr n0 SLOT_SET) w).1).reg (slotAddr n0 SLOT_SET) = Written s (slotAddr n0 SLOT_SET) w := reg_setReg_same rm _ _
  have hkept : Kept s (m.setReg (slotAddr n0 SLOT_SET) (putValue s (slotAddr n0 SLOT_SET) w).1) [slotAddr n0 SLOT_SET] := kept_trans (kept_of_regs hregs) (kept_setReg rm _ (by simp))
  unfold State.onlyIf at e
  by_cases href : r.ref = .none
  · rw [if_pos (decide_eq_true href)] at e
    refine ⟨_, e, hword, fun _ => restart_restartRamp _ n0, ?_, hkept, hmram⟩
    cases p <;> exact hack
  · rw [if_neg (by simp [href])] at e
    refine ⟨_, e, hword, fun h => absurd h href, ?_, hkept, hmram⟩
    cases p <;> exact hack

/-- A refused write outside the context blocks leaves every word as it reads. -/
theorem refuse_kept {s : State} (hr : RegsOk s) {a : Nat} (h : isCtxAddr a = false) : Kept s (s.refuse a) [] := by
  intro b _
  rw [State.refuse, storeAs_outside _ h]
  show (s.setReg a (s.reg a)).reg b = s.reg b
  rw [reg_setReg hr]
  split
  · rename_i hb
    rw [hb]
  · rfl

/-- The strand keeps a set-point that it owns (R208). -/
theorem writeSlot_owned {s : State} {n : Nat} (ho : s.strandSlots.contains n = true) (w : Word) : s.writeSlot n SLOT_SET w = s.refuse (slotAddr n SLOT_SET) := by
  unfold State.writeSlot
  rw [if_neg (by decide), if_pos rfl, ho, if_pos rfl]

theorem set_owned (p : Port) (n0 : Nat) (w : Word) (t : Nat) (r : SlotRec) (s : State) (hr : RegsOk s) (hc : canonical false s.clamped = true) (hv : ServesAll p (s.at t)) (hn : n0 < 256)
    (hs : s.image.bind (·.slot? n0) = some r) (ho : s.strandSlots.contains n0 = true) :
    ∃ n, exec (.slotSetWrite p n0 w t) s = .next n ∧ Kept s n [] ∧ n.isClamped (slotAddr n0 SLOT_SET) = true ∧ n.lane = s.lane ∧ n.mram = s.mram := by
  have e := slotSet_acts (w := w) hv hn hs
  obtain ⟨hregs, hlane, hmram, -⟩ := accepted_fields (s.at t) p (slotAddr n0 SLOT_SET) w
  have hclamped : canonical false (accepted (s.at t) p (slotAddr n0 SLOT_SET) w).clamped = true := (accepted_clamped (s.at t) p _ w).symm ▸ hc
  rw [writeSlot_owned (by rw [accepted_strandSlots]; exact ho)] at e
  generalize accepted (s.at t) p (slotAddr n0 SLOT_SET) w = m at e hregs hlane hmram hclamped
  have hkept : Kept s (m.refuse (slotAddr n0 SLOT_SET)) [] := kept_trans (kept_of_regs hregs) (refuse_kept ((regsOk_of_regs hregs).mpr hr) (slotAddr_notCtx _ _))
  have hrefuse : m.refuse (slotAddr n0 SLOT_SET) = _ := storeAs_outside m (slotAddr_notCtx n0 SLOT_SET) _
  rw [hrefuse] at e hkept
  exact ⟨_, e, hkept, lookup_assign_same hclamped, hlane, hmram⟩

/-! ### A slot's start on enable (R116, R122) -/

theorem slot_starts (n0 t : Nat) (s : State) (hw : s.works = true) (hb : bit (s.sw n0 SLOT_CTL) 0 = true) (hd : (s.slot n0).start = true) :
    ∃ n, exec (.slotEnable n0 t) s = .next n ∧ (n.slot n0).start = true ∧ (n.slot n0).restart = true ∧ (∀ m, m ≠ n0 → n.slot m = s.slot m) ∧ n.regs = s.regs ∧ n.mram = s.mram := by
  have e : exec (.slotEnable n0 t) s = finish (s.at t) ((s.at t).slotOn n0) := by
    refine congrArg (finish (s.at t)) (if_pos ?_)
    rw [works_at, hw, sw_at, hb, slot_at, hd]
    rfl
  have hown : ((s.at t).slotOn n0).slot n0 = { s.slot n0 with start := true, restart := true } := by
    rw [State.slotOn, State.restartRamp, slot_setSlot_same, slot_setSlot_same, slot_at]
  have hothers (m : Nat) (h : m ≠ n0) : ((s.at t).slotOn n0).slot m = s.slot m := by
    rw [State.slotOn, State.restartRamp, slot_setSlot_other _ _ h, slot_setSlot_other _ _ h, slot_at]
  exact ⟨_, e, congrArg SlotDyn.start hown, congrArg SlotDyn.restart hown, hothers, rfl, rfl⟩

/-- Settles O20: the bank takes a coefficient, is dropped, marked and taken into use; a set-point is stored or refused by the slot's owner; and an enabled slot starts with its ramp restarted. -/
theorem coefficientsAndSlots : Obligations.CoefficientsAndSlots :=
  ⟨cdata_written, fabSlot_written, coefs_marked, coefs_discarded, coefs_taken, set_written, set_owned, slot_starts⟩

end Sys2Proof
end
-- ==== Sys2Proof/Proofs/Groups/Operations.lean ====
section
/-! SUPPORT. What the shared operations on converter groups and phases leave (R135, R142, R151, R155). -/

namespace Sys2Proof

open Machine

/-! ### Timers, groups and phases read back -/

theorem running_start_same (s : State) (k : Timer) : (s.start k).running k = true := by
  simp only [State.running, State.start, find_putKey_same, Option.isSome_some]

theorem running_start_other (s : State) {j k : Timer} (h : j ≠ k) : (s.start k).running j = s.running j := by
  simp only [State.running, State.start, find_putKey_other _ _ h]

theorem age_start (s : State) (k : Timer) : (s.start k).age k = 0 := by
  simp only [State.age, State.start, find_putKey_same, Nat.sub_self]

theorem running_stop_same (s : State) (k : Timer) : (s.stop k).running k = false := by
  simp only [State.running, State.stop, find_dropKey_same, Option.isSome_none]

theorem running_stop_other (s : State) {j k : Timer} (h : j ≠ k) : (s.stop k).running j = s.running j := by
  simp only [State.running, State.stop, find_dropKey_other _ h]

theorem age_stop_other (s : State) {j k : Timer} (h : j ≠ k) : (s.stop k).age j = s.age j := by
  simp only [State.age, State.stop, find_dropKey_other _ h]

theorem grp_setGrp (s : State) (c : Nat) (f : GroupVar → GroupVar) : (s.setGrp c f).grp c = f (s.grp c) := by
  simp only [State.grp, State.setGrp, find_putKey_same, Option.getD_some]

theorem phase_setPhase_same (s : State) (p : Nat) (f : PhaseVar → PhaseVar) : (s.setPhase p f).phase p = f (s.phase p) := by
  simp only [State.phase, State.setPhase, find_putKey_same, Option.getD_some]

theorem phase_setPhase_other (s : State) {p q : Nat} (f : PhaseVar → PhaseVar) (h : q ≠ p) : (s.setPhase p f).phase q = s.phase q := by
  simp only [State.phase, State.setPhase, find_putKey_other _ _ h]

theorem regs_setReg (s : State) (a : Nat) (w : Word) : (s.setReg a w).regs = assign 0 s.regs a w := rfl

theorem grp_of_groups {s n : State} (h : n.groups = s.groups) (c : Nat) : n.grp c = s.grp c := by simp only [State.grp, h]

theorem phase_of_phases {s n : State} (h : n.phases = s.phases) (p : Nat) : n.phase p = s.phase p := by simp only [State.phase, h]

/-- A bit set with its record offered or written leaves every field but the registers and the recorder. -/
theorem stsOffer_field {α : Type} (s : State) (c b : Nat) (f : State → α) (hf : ∀ (s : State) (l : List (Nat × Word)) (x : Recorder), f { s with regs := l, rcd := x } = f s) : f (s.stsOffer c b) = f s :=
  ((offerRec_only (s.sts c b) _ _ _).field f hf).trans (hf s _ s.rcd)

theorem stsWrite_field {α : Type} (s : State) (c b : Nat) (f : State → α) (hf : ∀ (s : State) (l : List (Nat × Word)) (x : Recorder), f { s with regs := l, rcd := x } = f s) : f (s.stsWrite c b) = f s :=
  ((writeRec_only (s.sts c b) _ _ _).field f hf).trans (hf s _ s.rcd)

/-! ### Words that are kept -/

section Kept

variable {s n : State} {l : List Nat} (h : Kept s n l)

include h

theorem Kept.cw {c k : Nat} (hk : ctxAddr c k ∉ l) : n.cw c k = s.cw c k := h _ hk

theorem Kept.flag {a : Nat} (k : Nat) (ha : a ∉ l) : n.flag a k = s.flag a k := congrArg (fun w => bit w k) (h a ha)

theorem Kept.code {c : Nat} (hc : ctxAddr c CTX_STATE ∉ l) : n.code c = s.code c := congrArg (fun w => bits w 7 0) (h _ hc)

theorem Kept.held {c : Nat} (hc : ctxAddr c CTX_STATE ∉ l) : n.held c = s.held c := congrArg (fun w => bit w 9) (h _ hc)

theorem Kept.safe {c : Nat} (hc : ctxAddr c CTX_STATE ∉ l) : n.safe c = s.safe c := congrArg (fun w => bit w 10) (h _ hc)

end Kept

/-- A bit set with its record written: the bit stands, and of the registers only its word and the recorder's change. -/
theorem stsWrite_kept {s : State} (h : RegsOk s) (c b : Nat) : Kept s (s.stsWrite c b) (ctxAddr c CTX_STS :: recordWords) := by
  have h1 : RegsOk (s.sts c b) := setReg_regsOk h _ _
  exact kept_trans (m := s.sts c b) (kept_setReg h _ (List.mem_cons_self ..)) (kept_mono ((writeRec_only (s.sts c b) _ _ _).2 h1).2 fun a ha => List.mem_cons_of_mem _ ha)

theorem stsWrite_regsOk {s : State} (h : RegsOk s) (c b : Nat) : RegsOk (s.stsWrite c b) := writeRec_regsOk _ _ _ _ (setReg_regsOk h _ _)

theorem flag_stsWrite {s : State} (h : RegsOk s) (c : Nat) {b : Nat} (hb : b < 18) : (s.stsWrite c b).flag (ctxAddr c CTX_STS) b = true :=
  (congrArg (fun w => bit w b) (writeRec_reg (s.sts c b) _ _ _ (setReg_regsOk h _ _) (ctxAddr_not_recordWord c CTX_STS))).trans (flag_sts_same h c hb)

/-- The shape of a word of a group's own (R510). -/
theorem shape_group {s : State} {c k : Nat} {r : CtxRec} (hc : c < 128) (h10 : 0x10 ≤ k) (hk : k < 0x40) (hg : s.group? c = some r) : s.shape? (ctxAddr c k) = descAt (typeDescs .group) k := by
  obtain ⟨hr, ht⟩ := group_ctx hg
  unfold State.shape?
  rw [if_neg (Nat.not_lt.mpr (Nat.le_trans (by decide) (ctxAddr_ge c k))), if_pos (isCtxAddr_ctxAddr hc hk), ctxOf_ctxAddr hk]
  dsimp only
  rw [if_neg (Nat.not_lt.mpr h10), hr]
  dsimp only
  rw [ht]

/-! ### The words of the phases (R143) -/

theorem phaseWord_lt {p : Nat} (h : p < 24) : PH_STS + p < 0x1000 := by
  simp only [PH_STS]
  omega

theorem ctxAddr_ne_phaseWord (c k : Nat) {p : Nat} (h : p < 24) : ctxAddr c k ≠ PH_STS + p := ctxAddr_ne_global c k (phaseWord_lt h)

theorem phaseWord_ne_ctxAddr (c k : Nat) {p : Nat} (h : p < 24) : PH_STS + p ≠ ctxAddr c k := (ctxAddr_ne_phaseWord c k h).symm

theorem phaseWord_not_recordWord (p : Nat) : PH_STS + p ∉ recordWords := by
  have low : ∀ a ∈ recordWords, a < PH_STS := by decide
  exact fun h => absurd (low _ h) (by omega)

/-- No word of a context is the word of one of a group's phases. -/
theorem ctxAddr_not_phaseWord (r : CtxRec) (c k : Nat) : ctxAddr c k ∉ r.phases.map (PH_STS + ·) := by
  intro h
  obtain ⟨p, hp, e⟩ := List.mem_map.mp h
  exact ctxAddr_ne_phaseWord c k (phases_lt hp) e.symm

/-! ### Steps over a list -/

/-- What no step changes is the same after all of them. -/
theorem forEach_same {α β : Type} (g : State → β) (l : List α) (f : α → State → State) (hf : ∀ x z, g (f x z) = g z) (s : State) : g (s.forEach l f) = g s := by
  unfold State.forEach
  induction l generalizing s with
  | nil => rfl
  | cons x l ih => exact (ih (f x s)).trans (hf x s)

/-- What every step keeps holds after all of them. -/
theorem forEach_invariant {α : Type} {l : List α} {f : α → State → State} {I : State → Prop} (hI : ∀ y ∈ l, ∀ z, I z → I (f y z)) {s : State} (hs : I s) : I (s.forEach l f) := by
  unfold State.forEach
  induction l generalizing s with
  | nil => exact hs
  | cons x l ih => exact ih (fun y hy => hI y (List.mem_cons_of_mem _ hy)) (hI x (List.mem_cons_self ..) s hs)

/-- What the step of one member brings about, and no other step ends, holds after all of them. -/
theorem forEach_reaches {α : Type} {l : List α} {f : α → State → State} {I Q : State → Prop} {x : α} (hx : x ∈ l) (hI : ∀ y z, I z → I (f y z)) (hact : ∀ z, I z → Q (f x z))
    (hkeep : ∀ y z, I z → Q z → Q (f y z)) {s : State} (hs : I s) : Q (s.forEach l f) := by
  induction l generalizing s with
  | nil => cases hx
  | cons y l ih =>
    rcases List.mem_cons.mp hx with rfl | hx
    · exact (forEach_invariant (I := fun z => I z ∧ Q z) (fun w _ z hz => ⟨hI w z hz.1, hkeep w z hz.1 hz.2⟩) ⟨hI x s hs, hact s hs⟩ : I _ ∧ Q _).2
    · exact ih hx (hI y s hs)

/-! ### A phase stops (R135, R155) -/

section PhaseStop

variable {s : State} (h : RegsOk s) (lv : Level)

include h

theorem phaseStop_regsOk (p : Nat) : RegsOk (s.phaseStop lv p) := setReg_regsOk h _ _

theorem phaseStop_kept (p : Nat) : Kept s (s.phaseStop lv p) [PH_STS + p] := kept_setReg h _ (List.mem_singleton.mpr rfl)

theorem flag_phaseStop (p : Nat) : (s.phaseStop lv p).flag (PH_STS + p) 3 = false := by
  have hz : (s.phaseStop lv p).fld (PH_STS + p) 4 3 = 0 := fld_setFld_same h _ (by decide) (by decide)
  have hb := congrArg (fun n => n.testBit 0) hz
  simp only [State.fld, bits, Nat.testBit_mod_two_pow, Nat.testBit_div_two_pow, Nat.zero_testBit] at hb
  exact hb

end PhaseStop

theorem level_phaseStop (s : State) (lv : Level) (p : Nat) : ((s.phaseStop lv p).phase p).level = lv := congrArg PhaseVar.level (phase_setPhase_same _ p _)

theorem phase_phaseStop_other (s : State) (lv : Level) {p q : Nat} (hq : q ≠ p) : (s.phaseStop lv p).phase q = s.phase q := phase_setPhase_other _ _ hq

/-- Every phase of a list stopped at a level. -/
theorem phaseStops_stopped {s : State} (h : RegsOk s) (lv : Level) {l : List Nat} {p : Nat} (hp : p ∈ l) :
    (s.forEach l (fun p s => s.phaseStop lv p)).flag (PH_STS + p) 3 = false ∧ ((s.forEach l (fun p s => s.phaseStop lv p)).phase p).level = lv := by
  refine forEach_reaches (I := RegsOk) (Q := fun z => z.flag (PH_STS + p) 3 = false ∧ (z.phase p).level = lv) hp (fun y z hz => phaseStop_regsOk hz lv y)
    (fun z hz => ⟨flag_phaseStop hz lv p, level_phaseStop z lv p⟩) (fun y z hz hq => ?_) h
  by_cases hy : p = y
  · exact hy ▸ ⟨flag_phaseStop hz lv p, level_phaseStop z lv p⟩
  · exact ⟨((phaseStop_kept hz lv y).flag 3 (by simpa using hy)).trans hq.1, (congrArg PhaseVar.level (phase_phaseStop_other z lv hy)).trans hq.2⟩

/-! ### A group stops (R151) -/

/-- What a group that stops leaves: its phases at a level and not switching, none counted, and its start and its Hiccup not running. -/
structure GroupStopped (r : CtxRec) (lv : Level) (s n : State) : Prop where
  ok : RegsOk n
  live : ∀ p ∈ r.phases, n.flag (PH_STS + p) 3 = false
  level : ∀ p ∈ r.phases, (n.phase p).level = lv
  count : n.cw r.ctx GRP_NACT = 0
  start : n.running (.softStart r.ctx) = false
  hiccup : n.running (.hiccup r.ctx) = false
  kept : Kept s n ([ctxAddr r.ctx GRP_NACT, ctxAddr r.ctx GRP_FMEAS] ++ r.phases.map (PH_STS + ·))
  mram : n.mram = s.mram

theorem groupStop_running (s : State) (r : CtxRec) (lv : Level) {k : Timer} (hk : k = .softStart r.ctx ∨ k = .hiccup r.ctx) : (s.groupStop r lv).running k = false := by
  have stays (z : State) (j : Timer) (hz : z.running k = false) : (z.stop j).running k = false := by
    by_cases hj : k = j
    · exact hj ▸ running_stop_same z k
    · exact (running_stop_other z hj).trans hz
  unfold State.groupStop
  extract_lets s1 s2 s3
  have hc (z : State) (q : Count) : (z.clearCount q).running k = z.running k := rfl
  rw [hc, hc]
  refine stays _ _ (stays _ _ (stays _ _ ?_))
  rcases hk with rfl | rfl
  · exact stays _ _ (running_stop_same _ _)
  · exact running_stop_same _ _

/-- Every phase of a group stopped at a level, before what else a stop does. -/
theorem phasesOf_stopped {s : State} (h : RegsOk s) (r : CtxRec) (lv : Level) :
    RegsOk (s.forEach r.phases (fun p s => s.phaseStop lv p)) ∧ Kept s (s.forEach r.phases (fun p s => s.phaseStop lv p)) (r.phases.map (PH_STS + ·)) :=
  ⟨forEach_regsOk _ _ (fun p _ hz => phaseStop_regsOk hz lv p) h,
    forEach_kept _ _ _ (fun p _ hz => phaseStop_regsOk hz lv p) (fun p hp _ hz => kept_mono (phaseStop_kept hz lv p) (by simpa using hp)) h⟩

/-- Beside the phases a stop touches two words of the context. -/
theorem groupStop_words (s : State) (r : CtxRec) (lv : Level) :
    (s.groupStop r lv).regs = (((s.forEach r.phases (fun p s => s.phaseStop lv p)).setC r.ctx GRP_NACT 0).setC r.ctx GRP_FMEAS 0).regs ∧
      (s.groupStop r lv).phases = (s.forEach r.phases (fun p s => s.phaseStop lv p)).phases := by
  constructor <;> simp [State.groupStop, State.newBlock, State.setC, regs_setReg]

theorem groupStop_stopped {s : State} (h : RegsOk s) (r : CtxRec) (lv : Level) : GroupStopped r lv s (s.groupStop r lv) := by
  have hstart := groupStop_running s r lv (.inl rfl)
  have hhiccup := groupStop_running s r lv (.inr rfl)
  have hout := groupStop_outputs (onlyOutputs_refl s) r lv
  obtain ⟨hregs, hphases⟩ := groupStop_words s r lv
  obtain ⟨hok, hkept⟩ := phasesOf_stopped h r lv
  have hstop (p : Nat) (hp : p ∈ r.phases) := phaseStops_stopped h lv hp
  generalize s.groupStop r lv = n at *
  generalize s.forEach r.phases (fun p s => s.phaseStop lv p) = m at *
  have h1 : RegsOk (m.setC r.ctx GRP_NACT 0) := setReg_regsOk hok _ _
  have htail : Kept m n [ctxAddr r.ctx GRP_NACT, ctxAddr r.ctx GRP_FMEAS] := kept_trans (kept_setReg hok _ (by simp)) (kept_trans (kept_setReg h1 _ (by simp)) (kept_of_regs hregs))
  refine ⟨hout.2 h, fun p hp => ?_, fun p hp => ?_, ?_, hstart, hhiccup, ?_, hout.mram⟩
  · refine (htail.flag 3 ?_).trans (hstop p hp).1
    simp [phaseWord_ne_ctxAddr _ _ (phases_lt hp)]
  · exact (congrArg PhaseVar.level (phase_of_phases hphases p)).trans (hstop p hp).2
  · exact (reg_of_regs hregs _).trans ((cw_setC_other h1 r.ctx 0 (by decide)).trans (cw_setC_same hok r.ctx GRP_NACT 0))
  · exact kept_trans (kept_mono hkept fun a ha => List.mem_append_right _ ha) (kept_mono htail fun a ha => List.mem_append_left _ ha)

/-- What is kept of a group that stops. -/
theorem grp_groupStop (s : State) (r : CtxRec) (lv : Level) :
    (s.groupStop r lv).grp r.ctx = { s.grp r.ctx with fading := none, shedAt := none, starting := [], freq := 0, peak := 0, aligned := false, powerGood := false, blockTicks := 0, blockSum := [] } := by
  have hg : (s.forEach r.phases (fun p s => s.phaseStop lv p)).grp r.ctx = s.grp r.ctx := forEach_same (fun z => z.grp r.ctx) r.phases (fun p s => s.phaseStop lv p) (fun _ _ => rfl) s
  have hgroups : (s.groupStop r lv).groups = (((s.forEach r.phases (fun p s => s.phaseStop lv p)).setGrp r.ctx fun v => { v with fading := none, shedAt := none, starting := [], freq := 0, peak := 0, aligned := false, powerGood := false }).newBlock r.ctx).groups := by
    simp [State.groupStop, State.setC]
  rw [grp_of_groups hgroups, State.newBlock, grp_setGrp, grp_setGrp, hg]

/-- A step on words of contexts leaves the phases of a stopped group as they are. -/
theorem GroupStopped.after {r : CtxRec} {lv : Level} {s m n : State} (h : GroupStopped r lv s m) {l : List Nat} (hl : ∀ a ∈ l, 0x1000 ≤ a) (hk : Kept m n l) : ∀ p ∈ r.phases, n.flag (PH_STS + p) 3 = false := fun p hp =>
  (hk.flag 3 fun hm => absurd (hl _ hm) (Nat.not_le.mpr (phaseWord_lt (phases_lt hp)))).trans (h.live p hp)

/-! ### All phases brought in (R151, R163) -/

/-- What bringing in every phase leaves: no shed transition, and every phase that does not switch to start. -/
structure AllIn (r : CtxRec) (s n : State) : Prop where
  ok : RegsOk n
  group : n.grp r.ctx = { s.grp r.ctx with fading := none, shedAt := none, starting := r.phases.filter (fun p => !s.flag (PH_STS + p) 3), blockTicks := 0, blockSum := [] }
  kept : Kept s n (r.phases.map (PH_STS + ·))
  phases : n.phases = s.phases
  mram : n.mram = s.mram

theorem allPhases_allIn {s : State} (h : RegsOk s) (r : CtxRec) : AllIn r s (s.allPhases r) := by
  have hset (p : Nat) (z : State) (hz : RegsOk z) : RegsOk (z.setFlag (PH_STS + p) 4 false) := setReg_regsOk hz _ _
  have hsame {β : Type} (g : State → β) (hg : ∀ p z, g (z.setFlag (PH_STS + p) 4 false) = g z) : g (s.forEach r.phases (fun p s => s.setFlag (PH_STS + p) 4 false)) = g s := forEach_same g r.phases _ hg s
  refine ⟨forEach_regsOk (s := s) _ _ hset h, ?_, forEach_kept (s := s) _ _ _ hset (fun p hp z hz => kept_setReg hz _ (List.mem_map.mpr ⟨p, hp, rfl⟩)) h, ?_, ?_⟩
  · have hg : (s.forEach r.phases (fun p s => s.setFlag (PH_STS + p) 4 false)).grp r.ctx = s.grp r.ctx := hsame (fun z => z.grp r.ctx) fun _ _ => rfl
    simp only [State.allPhases, State.newBlock, grp_setGrp, hg]
  · exact hsame State.phases fun _ _ => rfl
  · exact hsame State.mram fun _ _ => rfl

end Sys2Proof
end
-- ==== Sys2Proof/Proofs/Groups/SoftStart.lean ====
section
/-! O22: a group's start, its power-good, its Hiccup and its latch (R150 to R152), and a written switching frequency (R158). -/

namespace Sys2Proof

open Machine

/-! ### Entry to Soft start (R151) -/

/-- The state from which a Soft start begins: the retry count is kept when it is a new try (R152). -/
def beforeStart (s : State) (r : CtxRec) (again : Bool) : State := if again then s else s.setC r.ctx GRP_RETRYCNT 0

/-- What an entry to Soft start leaves. -/
structure SoftStarted (r : CtxRec) (s n : State) : Prop where
  code : n.code r.ctx = 1
  held : n.held r.ctx = s.held r.ctx
  safe : n.safe r.ctx = s.safe r.ctx
  start : n.running (.softStart r.ctx) = true
  age : n.age (.softStart r.ctx) = 0
  hiccup : n.running (.hiccup r.ctx) = false
  good : (n.grp r.ctx).powerGood = false
  fading : (n.grp r.ctx).fading = none
  starting : (n.grp r.ctx).starting = r.phases.filter (fun p => !s.flag (PH_STS + p) 3)
  kept : Kept s n (ctxAddr r.ctx CTX_STATE :: r.phases.map (PH_STS + ·))
  mram : n.mram = s.mram

/-- A Soft start sets the state code over the phases brought in, and of the group's variables leaves those of the shed transition and of the phases to start. -/
theorem softStart_parts (s : State) (r : CtxRec) (again : Bool) :
    (s.softStart r again).regs = (((beforeStart s r again).allPhases r).setCode r.ctx 1).regs ∧ (s.softStart r again).mram = ((beforeStart s r again).allPhases r).mram ∧
      ((s.softStart r again).grp r.ctx).powerGood = false ∧ ((s.softStart r again).grp r.ctx).fading = (((beforeStart s r again).allPhases r).grp r.ctx).fading ∧
      ((s.softStart r again).grp r.ctx).starting = (((beforeStart s r again).allPhases r).grp r.ctx).starting := by
  unfold State.softStart
  extract_lets c s1 s2 s3 s4
  change _ = ((s1.allPhases r).setCode r.ctx 1).regs ∧ _ = (s1.allPhases r).mram ∧ _ ∧ _ = ((s1.allPhases r).grp r.ctx).fading ∧ _ = ((s1.allPhases r).grp r.ctx).starting
  have hregs3 : s3.regs = (s1.allPhases r).regs := forEach_same State.regs (s.voltMembers c) (fun n s => s.restartRamp n) (fun _ _ => rfl) s2
  have hmram3 : s3.mram = (s1.allPhases r).mram := forEach_same State.mram (s.voltMembers c) (fun n s => s.restartRamp n) (fun _ _ => rfl) s2
  have hgroups3 : s3.groups = s2.groups := forEach_same State.groups (s.voltMembers c) (fun n s => s.restartRamp n) (fun _ _ => rfl) s2
  have hpin : s4.regs = s3.regs ∧ s4.mram = s3.mram ∧ s4.groups = s3.groups := by
    simp only [s4, State.drivePin]
    split_ifs <;> exact ⟨rfl, rfl, rfl⟩
  obtain ⟨hregs4, hmram4, hgroups4⟩ := hpin
  have hgrp : s4.grp r.ctx = _ := (grp_of_groups (hgroups4.trans hgroups3) r.ctx).trans (grp_setGrp _ _ _)
  have hcode : (s4.setCode c 1).regs = ((s1.allPhases r).setCode r.ctx 1).regs := by
    simp only [State.setCode, State.setFld, State.setReg, State.reg, hregs4, hregs3, c]
  have hgood : (s4.grp r.ctx).powerGood = false := by rw [hgrp]
  have hfading : (s4.grp r.ctx).fading = ((s1.allPhases r).grp r.ctx).fading := by rw [hgrp]
  have hstarting : (s4.grp r.ctx).starting = ((s1.allPhases r).grp r.ctx).starting := by rw [hgrp]
  exact ⟨hcode, hmram4.trans hmram3, hgood, hfading, hstarting⟩

theorem softStart_timers (s : State) (r : CtxRec) (again : Bool) : (s.softStart r again).running (.softStart r.ctx) = true ∧ (s.softStart r again).age (.softStart r.ctx) = 0 ∧
    (s.softStart r again).running (.hiccup r.ctx) = false := by
  have hne : Timer.softStart r.ctx ≠ Timer.hiccup r.ctx := nofun
  unfold State.softStart
  extract_lets c s1 s2 s3 s4
  exact ⟨(running_stop_other _ hne).trans (running_start_same (s4.setCode c 1) _), (age_stop_other _ hne).trans (age_start (s4.setCode c 1) _), running_stop_same _ _⟩

theorem softStart_started {s : State} (h : RegsOk s) (r : CtxRec) (again : Bool) : SoftStarted r (beforeStart s r again) (s.softStart r again) := by
  have hb : RegsOk (beforeStart s r again) := by
    unfold beforeStart
    split
    · exact h
    · exact setReg_regsOk h _ _
  obtain ⟨hregs, hmram, hgood, hfading, hstarting⟩ := softStart_parts s r again
  obtain ⟨hstart, hage, hhiccup⟩ := softStart_timers s r again
  obtain ⟨hok, hgroup, hkept, -, hmram'⟩ := allPhases_allIn hb r
  generalize s.softStart r again = n at *
  generalize (beforeStart s r again).allPhases r = m at *
  have hstate : ctxAddr r.ctx CTX_STATE ∉ r.phases.map (PH_STS + ·) := ctxAddr_not_phaseWord r _ _
  have hword : n.cw r.ctx CTX_STATE = (m.setCode r.ctx 1).cw r.ctx CTX_STATE := reg_of_regs hregs _
  refine ⟨?_, ?_, ?_, hstart, hage, hhiccup, hgood, hfading.trans (congrArg GroupVar.fading hgroup), hstarting.trans (congrArg GroupVar.starting hgroup), ?_, ?_⟩
  · exact (congrArg (fun w => bits w 7 0) hword).trans (code_setCode hok r.ctx (by decide))
  · exact (congrArg (fun w => bit w 9) hword).trans ((held_setCode hok r.ctx 1).trans (hkept.held hstate))
  · exact (congrArg (fun w => bit w 10) hword).trans ((safe_setCode hok r.ctx 1).trans (hkept.safe hstate))
  · exact kept_trans (kept_mono hkept fun a ha => List.mem_cons_of_mem _ ha) (kept_trans (m := m.setCode r.ctx 1) (kept_setReg hok _ (List.mem_cons_self ..)) (kept_of_regs hregs))
  · exact hmram.trans hmram'

/-! ### GROUP_ENABLE, GROUP_DISABLE and HICCUP_END (R151, R152) -/

theorem held_setSafe {s : State} (h : RegsOk s) (c : Nat) (b : Bool) : (s.setSafe c b).held c = s.held c := flag_setFlag_apart h _ b (by decide) (by decide)

theorem group_enabled (c t : Nat) (r : CtxRec) (s : State) (hr : RegsOk s) (hw : s.works = true) (hg : s.group? c = some r) (hen : (s.grp c).en = true) (hc : s.code c = 0) :
    ∃ n, exec (.groupEnable c t) s = .next n ∧ n.code c = 1 ∧ n.safe c = false ∧ n.held c = s.held c ∧ n.cw c GRP_RETRYCNT = 0 ∧ n.running (.softStart c) = true ∧ n.age (.softStart c) = 0 ∧
      (n.grp c).powerGood = false ∧ (n.grp c).fading = none ∧ (n.grp c).starting = r.phases.filter (fun p => !s.flag (PH_STS + p) 3) ∧
      Kept s n ([ctxAddr c CTX_STATE, ctxAddr c GRP_RETRYCNT] ++ r.phases.map (PH_STS + ·)) ∧ n.mram = s.mram := by
  have e : exec (.groupEnable c t) s = finish (s.at t) ((s.at t).groupOn r) := by
    simp [exec, execGroupEnable, hw, hg, hen, hc]
  obtain rfl := group_number hg
  have h0 : RegsOk (s.at t) := (at_regsOk t).mpr hr
  have h1 : RegsOk ((s.at t).setSafe r.ctx false) := setReg_regsOk h0 _ _
  have hsafe : Kept (s.at t) ((s.at t).setSafe r.ctx false) [ctxAddr r.ctx CTX_STATE] := kept_setReg h0 _ (by simp)
  have hclear : Kept ((s.at t).setSafe r.ctx false) (beforeStart ((s.at t).setSafe r.ctx false) r false) [ctxAddr r.ctx GRP_RETRYCNT] := kept_setReg h1 _ (by simp)
  have hzero : (beforeStart ((s.at t).setSafe r.ctx false) r false).cw r.ctx GRP_RETRYCNT = 0 := cw_setC_same h1 _ _ _
  have hbefore : Kept (s.at t) (beforeStart ((s.at t).setSafe r.ctx false) r false) [ctxAddr r.ctx CTX_STATE, ctxAddr r.ctx GRP_RETRYCNT] :=
    kept_trans (kept_mono hsafe (by simp)) (kept_mono hclear (by simp))
  have hstate : ctxAddr r.ctx CTX_STATE ∉ [ctxAddr r.ctx GRP_RETRYCNT] := by simp
  obtain ⟨hcode, hheld, hsafe', hstart, hage, -, hgood, hfading, hstarting, hkept, hmram⟩ := softStart_started h1 r false
  refine ⟨_, e, hcode, ?_, ?_, ?_, hstart, hage, hgood, hfading, hstarting.trans ?_, ?_, hmram⟩
  · exact hsafe'.trans ((hclear.safe hstate).trans (safe_setSafe h0 r.ctx false))
  · exact hheld.trans ((hclear.held hstate).trans ((held_setSafe h0 r.ctx false).trans (held_at s t r.ctx)))
  · exact (hkept.cw (by simp [ctxAddr_not_phaseWord])).trans hzero
  · refine List.filter_congr fun p hp => congrArg (!·) ((hbefore.flag 3 ?_).trans (flag_at s t _ 3))
    simp [phaseWord_ne_ctxAddr _ _ (phases_lt hp)]
  · exact kept_trans (m := beforeStart ((s.at t).setSafe r.ctx false) r false) (kept_mono hbefore (by simp)) (kept_mono hkept (by simp +contextual))

/-- A group moved to a state without switching. -/
theorem groupTo_moved {s : State} (h : RegsOk s) (r : CtxRec) {v : Nat} (hv : v < 256) :
    RegsOk (s.groupTo r v) ∧ (s.groupTo r v).code r.ctx = v ∧ (s.groupTo r v).running (.softStart r.ctx) = false ∧ (s.groupTo r v).running (.hiccup r.ctx) = false ∧
      (∀ p ∈ r.phases, (s.groupTo r v).flag (PH_STS + p) 3 = false ∧ ((s.groupTo r v).phase p).level = .hiZ) ∧ (s.groupTo r v).cw r.ctx GRP_NACT = 0 ∧
      Kept s (s.groupTo r v) ([ctxAddr r.ctx CTX_STATE, ctxAddr r.ctx GRP_NACT, ctxAddr r.ctx GRP_FMEAS] ++ r.phases.map (PH_STS + ·)) ∧ (s.groupTo r v).mram = s.mram := by
  have hs := groupStop_stopped h r .hiZ
  unfold State.groupTo
  generalize s.groupStop r .hiZ = m at hs
  have h1 : RegsOk (m.setCode r.ctx v) := setReg_regsOk hs.ok _ _
  have hk : Kept m ((m.setCode r.ctx v).setHeld r.ctx false) [ctxAddr r.ctx CTX_STATE] := kept_trans (m := m.setCode r.ctx v) (kept_setReg hs.ok _ (by simp)) (kept_setReg h1 _ (by simp))
  refine ⟨setReg_regsOk h1 _ _, (code_setHeld h1 r.ctx false).trans (code_setCode hs.ok r.ctx hv), hs.start, hs.hiccup, fun p hp => ⟨hs.after (by simp [ctxAddr_ge]) hk p hp, hs.level p hp⟩, ?_, ?_, hs.mram⟩
  · exact (hk.cw (by simp)).trans hs.count
  · exact kept_trans (kept_mono hs.kept (by simp +contextual)) (kept_mono hk (by simp))

theorem group_disabled (c t : Nat) (r : CtxRec) (s : State) (hr : RegsOk s) (hw : s.works = true) (hg : s.group? c = some r) (hen : (s.grp c).en = false) (hc : s.code c ≠ 0) (hh : s.held c = false) :
    ∃ n, exec (.groupDisable c t) s = .next n ∧ n.code c = 0 ∧ (∀ p ∈ r.phases, n.flag (PH_STS + p) 3 = false ∧ (n.phase p).level = .hiZ) ∧ n.cw c GRP_NACT = 0 ∧
      n.running (.softStart c) = false ∧ n.running (.hiccup c) = false ∧
      Kept s n ([ctxAddr c CTX_STATE, ctxAddr c GRP_NACT, ctxAddr c GRP_FMEAS] ++ r.phases.map (PH_STS + ·)) ∧ n.mram = s.mram := by
  have e : exec (.groupDisable c t) s = finish (s.at t) ((s.at t).groupTo r 0) := by
    simp [exec, execGroupDisable, hw, hg, hen, hc, hh]
  obtain rfl := group_number hg
  obtain ⟨-, hcode, hstart, hhiccup, hphases, hcount, hkept, hmram⟩ := groupTo_moved (s := s.at t) ((at_regsOk t).mpr hr) r (v := 0) (by decide)
  exact ⟨_, e, hcode, hphases, hcount, hstart, hhiccup, hkept, hmram⟩

theorem hiccup_ends (c t : Nat) (r : CtxRec) (s : State) (hr : RegsOk s) (hw : s.works = true) (hg : s.group? c = some r) (hc : s.code c = 6) (hen : (s.grp c).en = true)
    (he : (s.at t).expired (.hiccup c) (s.cw c GRP_HICCUP) = true) :
    ∃ n, exec (.hiccupEnd c t) s = .next n ∧ n.code c = 1 ∧ n.cw c GRP_RETRYCNT = s.cw c GRP_RETRYCNT ∧ n.running (.softStart c) = true ∧ n.running (.hiccup c) = false ∧
      Kept s n (ctxAddr c CTX_STATE :: r.phases.map (PH_STS + ·)) ∧ n.mram = s.mram := by
  have e : exec (.hiccupEnd c t) s = finish (s.at t) ((s.at t).softStart r true) := by
    simp [exec, execHiccupEnd, hw, hg, hc, hen, he]
  obtain rfl := group_number hg
  obtain ⟨hcode, -, -, hstart, -, hhiccup, -, -, -, hkept, hmram⟩ := softStart_started (s := s.at t) ((at_regsOk t).mpr hr) r true
  refine ⟨_, e, hcode, (hkept.cw ?_).trans (cw_at s t r.ctx _), hstart, hhiccup, hkept, hmram⟩
  simp [ctxAddr_not_phaseWord]

/-! ### GRP_FSW_WRITE (R158) -/

/-- A target that serves every command writes a word that is there in a context once the journal holds it. -/
theorem hostOp_context {p : Port} {m : State} {c k : Nat} {r : CtxRec} (h : ServesAll p m) (hc : c < 128) (hk : k < 0x40) (hr : m.ctx? c = some r) (hi : m.implemented (ctxAddr c k) = true) (w : Word) :
    m.hostOp p (.regWrite (ctxAddr c k) w) = (accepted m p (ctxAddr c k) w).writeCtx r k w :=
  (hostOp_regWrite h _ w).trans (hostWrite_context h hc hk hr hi w)

/-- The frequency word of a group is there, and a write may store in it. -/
theorem fsw_there {s : State} {c : Nat} {r : CtxRec} (hc : c < 128) (hg : s.group? c = some r) : s.implemented (ctxAddr c GRP_FSW) = true ∧ s.shape? (ctxAddr c GRP_FSW) = some (.ef 0x043E8 0x067D0) := by
  obtain ⟨hr, ht⟩ := group_ctx hg
  have hlow : ¬ ctxAddr c GRP_FSW < 0x480 := Nat.not_lt.mpr (Nat.le_trans (by decide) (ctxAddr_ge c GRP_FSW))
  have hshape : s.shape? (ctxAddr c GRP_FSW) = some (.ef 0x043E8 0x067D0) := (shape_group hc (by decide) (by decide) hg).trans rfl
  obtain ⟨im, hi, -⟩ := Option.bind_eq_some_iff.mp hr
  refine ⟨?_, hshape⟩
  unfold State.implemented
  rw [if_neg hlow, if_pos (isCtxAddr_ctxAddr hc (by decide)), ctxOf_ctxAddr (by decide), hi, hr, hshape]
  simp only [wordThere, ht]
  rfl

/-- A stored value with its mark leaves the other words but CTX.STS. -/
theorem storeAs_word {s : State} (h : RegsOk s) {c k : Nat} (hc : c < 128) (hk : k < 0x40) (hs : k ≠ CTX_STS) (x : Word × Bool) :
    (s.storeAs (ctxAddr c k) x).cw c k = x.1 ∧ Kept s (s.storeAs (ctxAddr c k) x) [ctxAddr c k, ctxAddr c CTX_STS] ∧ s.storeAs (ctxAddr c k) x = { s with regs := (s.storeAs (ctxAddr c k) x).regs, clamped := (s.storeAs (ctxAddr c k) x).clamped } := by
  have h1 : RegsOk ((s.setReg (ctxAddr c k) x.1).markClamped (ctxAddr c k) x.2) := setReg_regsOk h _ _
  have hk1 : Kept s ((s.setReg (ctxAddr c k) x.1).markClamped (ctxAddr c k) x.2) [ctxAddr c k, ctxAddr c CTX_STS] := kept_setReg h _ (by simp)
  have hw1 : ((s.setReg (ctxAddr c k) x.1).markClamped (ctxAddr c k) x.2).cw c k = x.1 := reg_setReg_same h _ _
  unfold State.storeAs
  rw [isCtxAddr_ctxAddr hc hk, ctxOf_ctxAddr hk, Bool.and_true]
  dsimp only
  split
  · exact ⟨(cw_setC_other h1 c _ hs).trans hw1, kept_trans hk1 (kept_setReg h1 _ (by simp)), rfl⟩
  · exact ⟨hw1, hk1, rfl⟩

theorem fsw_written (p : Port) (c : Nat) (w : Word) (t : Nat) (r : CtxRec) (s : State) (hr : RegsOk s) (hv : ServesAll p (s.at t)) (hg : s.group? c = some r) (hc : c < 128) :
    ∃ n, exec (.grpFswWrite p c w t) s = .next n ∧ n.cw c GRP_FSW = ((s.at t).clampWord (ctxAddr c GRP_FSW) w).1 ∧ (n.iface p).acked = true ∧
      Kept s n [ctxAddr c GRP_FSW, ctxAddr c CTX_STS] ∧ n.mram = s.mram := by
  obtain ⟨hx, ht⟩ := group_ctx hg
  obtain ⟨hi, hs⟩ := fsw_there hc hg
  obtain rfl := group_number hg
  have htype : (s.at t).isType r.ctx .group = true := by simp [State.isType, hx, ht]
  have hstore : (accepted (s.at t) p (ctxAddr r.ctx GRP_FSW) w).writeCtx r GRP_FSW w =
      (accepted (s.at t) p (ctxAddr r.ctx GRP_FSW) w).storeAs (ctxAddr r.ctx GRP_FSW) ((s.at t).clampWord (ctxAddr r.ctx GRP_FSW) w) := by
    have hi' : (accepted (s.at t) p (ctxAddr r.ctx GRP_FSW) w).implemented (ctxAddr r.ctx GRP_FSW) = true := (accepted_implemented ..).trans hi
    have hs' : (accepted (s.at t) p (ctxAddr r.ctx GRP_FSW) w).shape? (ctxAddr r.ctx GRP_FSW) = some (.ef 0x043E8 0x067D0) := (accepted_shape ..).trans hs
    simp [State.writeCtx, State.routeRefused, State.writeOwn, ht, enableOf, State.writeFsw, State.store, hi', hs', accepted_clampWord]
  have e : exec (.grpFswWrite p r.ctx w t) s = finish s ((accepted (s.at t) p (ctxAddr r.ctx GRP_FSW) w).storeAs (ctxAddr r.ctx GRP_FSW) ((s.at t).clampWord (ctxAddr r.ctx GRP_FSW) w)) :=
    congrArg (finish s) ((if_pos htype).trans ((hostOp_context hv hc (by decide) ((ctx_at s t r.ctx).trans hx) hi w).trans hstore))
  obtain ⟨hregs, -, hmram, -, -, -, hack⟩ := accepted_fields (s.at t) p (ctxAddr r.ctx GRP_FSW) w
  generalize accepted (s.at t) p (ctxAddr r.ctx GRP_FSW) w = m at e hregs hmram hack
  obtain ⟨hword, hkept, hrest⟩ := storeAs_word ((regsOk_of_regs hregs).mpr ((at_regsOk t).mpr hr)) hc (k := GRP_FSW) (by decide) (by decide) ((s.at t).clampWord (ctxAddr r.ctx GRP_FSW) w)
  refine ⟨_, e, hword, ?_, kept_trans (kept_of_regs hregs) hkept, (congrArg State.mram hrest).trans hmram⟩
  rw [hrest]
  cases p <;> exact hack

/-! ### GROUP_POWER_GOOD and GROUP_POWER_GOOD_LOST (R150, R151) -/

/-- A group that moves to its running state. -/
theorem groupRuns_runs {s : State} (h : RegsOk s) (r : CtxRec) :
    (s.groupRuns r).code r.ctx = runningFor (s.grpMode r.ctx) (s.grpDir r.ctx) ∧ (s.groupRuns r).held r.ctx = s.held r.ctx ∧ (s.groupRuns r).running (.softStart r.ctx) = false ∧
      (s.groupRuns r).running (.dwell r.ctx) = true ∧ (s.groupRuns r).age (.dwell r.ctx) = 0 ∧ Kept s (s.groupRuns r) [ctxAddr r.ctx CTX_STATE] := by
  have hv : runningFor (s.grpMode r.ctx) (s.grpDir r.ctx) < 256 := by
    unfold runningFor
    split_ifs <;> decide
  exact ⟨code_setCode h r.ctx hv, held_setCode h r.ctx _, (running_start_other _ (nofun : Timer.softStart r.ctx ≠ .dwell r.ctx)).trans (running_stop_same _ _), running_start_same _ _, age_start _ _, kept_setReg h _ (by simp)⟩

/-- The state of a group in power-good, with the time since when it holds (R150, R152). -/
def markGood (s : State) (c : Nat) : State := (s.setGrp c (fun v => { v with powerGood := true })).startOnce (.pgHeld c)

theorem markGood_leaves (s : State) (c : Nat) :
    (markGood s c).regs = s.regs ∧ (markGood s c).works = s.works ∧ ((markGood s c).grp c).powerGood = true ∧ (markGood s c).mram = s.mram := by
  unfold markGood State.startOnce
  split <;> exact ⟨rfl, rfl, congrArg GroupVar.powerGood (grp_setGrp s c fun v => { v with powerGood := true }), rfl⟩

theorem group_powerGood (c t : Nat) (r : CtxRec) (s : State) (hr : RegsOk s) (hw : s.works = true) (hg : s.group? c = some r) (hc : s.code c = 1) (hh : s.held c = false) (hcut : (s.grp c).cutStop = false)
    (hup : 8 ≤ s.count (.pgUp c)) :
    ∃ n, exec (.groupPowerGood c t) s = .next n ∧ n.code c = runningFor (s.grpMode c) (s.grpDir c) ∧ (n.grp c).powerGood = true ∧ n.running (.softStart c) = false ∧ n.age (.dwell c) = 0 ∧
      n.running (.dwell c) = true ∧ n.held c = false ∧ Kept s n [ctxAddr c CTX_STATE] ∧ n.mram = s.mram := by
  obtain rfl := group_number hg
  obtain ⟨hregs, hworks, hgood, hmram⟩ := markGood_leaves (s.at t) r.ctx
  have hkeep : Kept s (markGood (s.at t) r.ctx) [] := kept_of_regs hregs
  have e : exec (.groupPowerGood r.ctx t) s = finish (s.at t) ((markGood (s.at t) r.ctx).groupRuns r) := by
    have hc' : (markGood (s.at t) r.ctx).code r.ctx = 1 := (hkeep.code List.not_mem_nil).trans hc
    have hh' : (markGood (s.at t) r.ctx).held r.ctx = false := (hkeep.held List.not_mem_nil).trans hh
    have hw' : (markGood (s.at t) r.ctx).works = true := hworks.trans hw
    rw [markGood] at hc' hh' hw'
    simp [exec, execGroupPowerGood, markGood, hg, hc, hcut, hup, switchingCode, hc', hw', hh']
  obtain ⟨hcode, hheld, hstart, hdwell, hage, hkept⟩ := groupRuns_runs (s := markGood (s.at t) r.ctx) ((regsOk_of_regs hregs).mpr ((at_regsOk t).mpr hr)) r
  have hctl : (markGood (s.at t) r.ctx).cw r.ctx GRP_CTL = s.cw r.ctx GRP_CTL := hkeep.cw List.not_mem_nil
  refine ⟨_, e, hcode.trans ?_, hgood, hstart, hage, hdwell, (hheld.trans (hkeep.held List.not_mem_nil)).trans hh, kept_trans (kept_of_regs hregs) hkept, hmram⟩
  simp only [State.grpMode, State.grpDir, hctl]

/-- A lane's raise as the last step of an instruction. -/
theorem raised_by_lane {m : State} {cls c : Nat} (site : Nat) (p : List Instr) (o : Outs) (hc : (m.ctx? c).isSome = true) (h : m.flt.matches_ = []) :
    AfterLaneRaise m { m.laneRaise cls c none site with pending := p, outs := o } cls c none ∧ Faulted { m.laneRaise cls c none site with pending := p, outs := o } c cls ∧
      State.mram { m.laneRaise cls c none site with pending := p, outs := o } = m.mram :=
  ⟨⟨site, rfl⟩, laneRaise_faulted m cls c none site hc h, (laneRaise_fault (onlyFault_refl m) cls c none site).mram⟩

theorem group_powerGood_lost (c t : Nat) (r : CtxRec) (s : State) (hr : RegsOk s) (hw : s.works = true) (hg : s.group? c = some r) (hh : s.held c = false) (hpg : (s.grp c).powerGood = true)
    (hdown : 8 ≤ s.count (.pgDown c)) (hrun : runningCode (s.code c) = true) (hf : s.flt.matches_ = []) :
    ∃ n m, exec (.groupPowerGoodLost c t) s = .next n ∧ AfterLaneRaise m n 3 c none ∧ Faulted n c 3 ∧ (m.grp c).powerGood = false ∧ m.flag (ctxAddr c CTX_STS) 5 = true ∧
      m.running (.pgHeld c) = false ∧ m.code c = s.code c ∧ Kept s m [ctxAddr c CTX_STS] ∧ n.mram = s.mram := by
  obtain ⟨hx, ht⟩ := group_ctx hg
  have h1 : RegsOk (((s.at t).stop (.pgHeld c)).setGrp c (fun v => { v with powerGood := false })) := (at_regsOk t).mpr hr
  have e : exec (.groupPowerGoodLost c t) s = finish (s.at t) (((((s.at t).stop (.pgHeld c)).setGrp c (fun v => { v with powerGood := false })).sts c 5).laneRaise 3 c none 301) := by
    have htype : (s.at t).isType c .group = true := by simp [State.isType, hx, ht]
    have hw' : ((s.at t).stop (.pgHeld c)).works = true := hw
    have hh' : ((s.at t).stop (.pgHeld c)).held c = false := hh
    have hrun' : runningCode ((((s.at t).stop (.pgHeld c)).setGrp c (fun v => { v with powerGood := false })).code c) = true := hrun
    simp [exec, execGroupPowerGoodLost, htype, hpg, hdown, hw', hh', hrun']
  have hctx : (((((s.at t).stop (.pgHeld c)).setGrp c (fun v => { v with powerGood := false })).sts c 5).ctx? c).isSome = true := Option.isSome_iff_exists.mpr ⟨r, hx⟩
  obtain ⟨hafter, hfaulted, hmram⟩ := raised_by_lane (m := (((s.at t).stop (.pgHeld c)).setGrp c (fun v => { v with powerGood := false })).sts c 5) (cls := 3) 301 _ _ hctx hf
  exact ⟨_, _, e, hafter, hfaulted, congrArg GroupVar.powerGood (grp_setGrp ((s.at t).stop (.pgHeld c)) c fun v => { v with powerGood := false }), flag_sts_same h1 c (by decide), running_stop_same _ _, code_sts h1 c c 5 (by simp), kept_setReg h1 _ (by simp), hmram⟩

/-! ### SOFT_START_TIMEOUT (R151, R152) -/

theorem softStart_retried (c t : Nat) (r : CtxRec) (s : State) (hr : RegsOk s) (hw : s.works = true) (hg : s.group? c = some r) (hc : s.code c = 1) (hh : s.held c = false)
    (he : (s.at t).expired (.softStart c) (s.cw c GRP_SSTO) = true) (hup : s.count (.pgUp c) < 8) (hlt : (s.cw c GRP_RETRYCNT).toNat < (s.cw c GRP_RETRY).toNat) :
    ∃ n, exec (.softStartTimeout c t) s = .next n ∧ n.code c = 6 ∧ n.cw c GRP_RETRYCNT = s.cw c GRP_RETRYCNT + 1 ∧ n.flag (ctxAddr c CTX_STS) 6 = true ∧ n.running (.hiccup c) = true ∧
      (∀ p ∈ r.phases, n.flag (PH_STS + p) 3 = false) ∧
      Kept s n ([ctxAddr c CTX_STATE, ctxAddr c CTX_STS, ctxAddr c GRP_NACT, ctxAddr c GRP_FMEAS, ctxAddr c GRP_RETRYCNT] ++ recordWords ++ r.phases.map (PH_STS + ·)) ∧ n.mram = s.mram := by
  obtain rfl := group_number hg
  have e : exec (.softStartTimeout r.ctx t) s = finish (s.at t) ((((((s.at t).groupStop r .hiZ).setCode r.ctx 6).inc (ctxAddr r.ctx GRP_RETRYCNT)).start (.hiccup r.ctx)).stsOffer r.ctx 6) := by
    simp [exec, execSoftStartTimeout, hw, hg, hc, hh, he, hup, hlt]
  have hstop := groupStop_stopped (s := s.at t) ((at_regsOk t).mpr hr) r .hiZ
  generalize (s.at t).groupStop r .hiZ = m at e hstop
  have h1 : RegsOk (m.setCode r.ctx 6) := setReg_regsOk hstop.ok _ _
  have h2 : RegsOk (((m.setCode r.ctx 6).inc (ctxAddr r.ctx GRP_RETRYCNT)).start (.hiccup r.ctx)) := setReg_regsOk h1 _ _
  have hcode : Kept m (m.setCode r.ctx 6) [ctxAddr r.ctx CTX_STATE] := kept_setReg hstop.ok _ (by simp)
  have hinc : Kept (m.setCode r.ctx 6) (((m.setCode r.ctx 6).inc (ctxAddr r.ctx GRP_RETRYCNT)).start (.hiccup r.ctx)) [ctxAddr r.ctx GRP_RETRYCNT] := kept_setReg h1 _ (by simp)
  have hoffer := stsOffer_kept h2 r.ctx 6
  have hrec (k : Nat) : ctxAddr r.ctx k ∉ recordWords := ctxAddr_not_recordWord _ _
  have hcount : (m.setCode r.ctx 6).cw r.ctx GRP_RETRYCNT = s.cw r.ctx GRP_RETRYCNT := (hcode.cw (by simp)).trans (hstop.kept.cw (by simp [ctxAddr_not_phaseWord]))
  have hone : (((m.setCode r.ctx 6).inc (ctxAddr r.ctx GRP_RETRYCNT)).start (.hiccup r.ctx)).cw r.ctx GRP_RETRYCNT = s.cw r.ctx GRP_RETRYCNT + 1 :=
    (reg_setReg_same h1 _ _).trans ((congrArg satInc hcount).trans (satInc_below hlt))
  have hlate := kept_trans (kept_mono hcode (l' := [ctxAddr r.ctx CTX_STATE, ctxAddr r.ctx GRP_RETRYCNT]) (by simp)) (kept_mono hinc (by simp))
  refine ⟨_, e, ?_, (hoffer.cw (by simp [hrec])).trans hone, flag_stsOffer h2 r.ctx (by decide), ?_, fun p hp => ?_, ?_, (stsOffer_field _ r.ctx 6 State.mram fun _ _ _ => rfl).trans hstop.mram⟩
  · exact (hoffer.code (by simp [hrec])).trans ((hinc.code (by simp)).trans (code_setCode hstop.ok r.ctx (by decide)))
  · exact (stsOffer_field _ r.ctx 6 (fun z => z.running (.hiccup r.ctx)) fun _ _ _ => rfl).trans (running_start_same _ _)
  · exact (hoffer.flag 3 (by simp [phaseWord_ne_ctxAddr _ _ (phases_lt hp), phaseWord_not_recordWord])).trans (hstop.after (by simp [ctxAddr_ge]) hlate p hp)
  · exact kept_trans (kept_mono hstop.kept (by simp +contextual)) (kept_trans (kept_mono hlate (by simp)) (kept_mono hoffer (by simp +contextual)))

/-- What the latch of a group at its soft-start timeout leaves. -/
structure GroupLatched (r : CtxRec) (s n : State) : Prop where
  only : OnlyOutputs s n
  code : n.code r.ctx = 7
  latch : n.flag (ctxAddr r.ctx CTX_STS) 7 = true
  start : n.running (.softStart r.ctx) = false
  live : ∀ p ∈ r.phases, n.flag (PH_STS + p) 3 = false

theorem group_latches {s : State} (h : RegsOk s) (r : CtxRec) : GroupLatched r s ((s.groupTo r 7).sts r.ctx stsGroupLatch) := by
  obtain ⟨hok, hcode, hstart, -, hphases, -, -, -⟩ := groupTo_moved h r (v := 7) (by decide)
  refine ⟨sts_outputs (groupTo_outputs (onlyOutputs_refl s) r 7) r.ctx stsGroupLatch, (code_sts hok r.ctx r.ctx stsGroupLatch (by simp)).trans hcode, flag_sts_same hok r.ctx (by decide), hstart, fun p hp => ?_⟩
  exact (flag_setFlag_other hok _ 3 true (phaseWord_ne_ctxAddr _ _ (phases_lt hp))).trans (hphases p hp).1

/-- The safe state of a group that is not latched yet (R353). -/
theorem group_enterSafe {s : State} (h : RegsOk s) {r : CtxRec} (ht : r.typ = .group) (hc : s.code r.ctx ≠ 7) : GroupLatched r s (s.enterSafe r) := by
  suffices hl : ∀ lv, GroupLatched r s ((((((s.setSafe r.ctx true).groupStop r lv).setCode r.ctx 7).sts r.ctx stsGroupLatch).setHeld r.ctx false)) by
    unfold State.enterSafe
    simp only [ht, if_neg hc]
    split
    · obtain ⟨hout, hcode, hlatch, hstart, hlive⟩ := hl .low
      exact ⟨start_outputs hout _, hcode, hlatch, (running_start_other _ (nofun : Timer.softStart r.ctx ≠ .stopLow r.ctx)).trans hstart, hlive⟩
    · exact hl _
  intro lv
  have hout := groupStop_outputs (setSafe_outputs (onlyOutputs_refl s) r.ctx true) r lv
  have hstop := groupStop_stopped (s := s.setSafe r.ctx true) (setReg_regsOk h _ _) r lv
  generalize (s.setSafe r.ctx true).groupStop r lv = m at hout hstop
  have h1 : RegsOk (m.setCode r.ctx 7) := setReg_regsOk hstop.ok _ _
  have h2 : RegsOk ((m.setCode r.ctx 7).sts r.ctx stsGroupLatch) := setReg_regsOk h1 _ _
  have hcode : Kept m (m.setCode r.ctx 7) [ctxAddr r.ctx CTX_STATE] := kept_setReg hstop.ok _ (by simp)
  have hsts : Kept (m.setCode r.ctx 7) ((m.setCode r.ctx 7).sts r.ctx stsGroupLatch) [ctxAddr r.ctx CTX_STS] := kept_setReg h1 _ (by simp)
  have hheld : Kept ((m.setCode r.ctx 7).sts r.ctx stsGroupLatch) (((m.setCode r.ctx 7).sts r.ctx stsGroupLatch).setHeld r.ctx false) [ctxAddr r.ctx CTX_STATE] := kept_setReg h2 _ (by simp)
  have hlate : Kept m (((m.setCode r.ctx 7).sts r.ctx stsGroupLatch).setHeld r.ctx false) [ctxAddr r.ctx CTX_STATE, ctxAddr r.ctx CTX_STS] :=
    kept_trans (kept_mono hcode (by simp)) (kept_trans (kept_mono hsts (by simp)) (kept_mono hheld (by simp)))
  refine ⟨setHeld_outputs (sts_outputs (setCode_outputs hout r.ctx 7) r.ctx stsGroupLatch) r.ctx false, ?_, ?_, hstop.start, fun p hp => hstop.after (by simp [ctxAddr_ge]) hlate p hp⟩
  · exact (code_setHeld h2 r.ctx false).trans ((code_sts h1 r.ctx r.ctx stsGroupLatch (by simp)).trans (code_setCode hstop.ok r.ctx (by decide)))
  · exact (hheld.flag 7 (by simp)).trans (flag_sts_same h1 r.ctx (by decide))

/-- The latch of a group at its soft-start timeout: by its safe state, or, in its safe state already, by itself. -/
theorem safe_latches {s : State} (h : RegsOk s) {r : CtxRec} (hx : s.ctx? r.ctx = some r) (ht : r.typ = .group) (hc : s.code r.ctx = 1) :
    GroupLatched r s (if (s.applySafe r.ctx).code r.ctx == 7 then s.applySafe r.ctx else ((s.applySafe r.ctx).groupTo r 7).sts r.ctx stsGroupLatch) := by
  have happ : s.applySafe r.ctx = if s.safe r.ctx then s else s.enterSafe r := by
    unfold State.applySafe State.safeOne
    simp only [hx, ht, reduceCtorEq, if_false]
  cases hsafe : s.safe r.ctx with
  | true =>
    rw [happ, hsafe, if_pos rfl, hc]
    exact group_latches h r
  | false =>
    have hl := group_enterSafe h ht (by omega : s.code r.ctx ≠ 7)
    rw [happ, hsafe, if_neg Bool.false_ne_true, hl.code]
    exact hl

theorem softStart_latched (c t : Nat) (r : CtxRec) (s : State) (hr : RegsOk s) (hw : s.works = true) (hg : s.group? c = some r) (hc : s.code c = 1) (hh : s.held c = false)
    (he : (s.at t).expired (.softStart c) (s.cw c GRP_SSTO) = true) (hup : s.count (.pgUp c) < 8) (hle : (s.cw c GRP_RETRY).toNat ≤ (s.cw c GRP_RETRYCNT).toNat) (hf : s.flt.matches_ = []) :
    ∃ n m, exec (.softStartTimeout c t) s = .next n ∧ AfterLaneRaise m n 3 c none ∧ OnlyOutputs (s.at t) m ∧ Faulted n c 3 ∧ m.code c = 7 ∧ m.flag (ctxAddr c CTX_STS) 7 = true ∧
      m.running (.softStart c) = false ∧ (∀ p ∈ r.phases, m.flag (PH_STS + p) 3 = false) ∧ n.mram = s.mram := by
  obtain ⟨hx, ht⟩ := group_ctx hg
  obtain rfl := group_number hg
  have e : exec (.softStartTimeout r.ctx t) s =
      finish (s.at t) ((if ((s.at t).applySafe r.ctx).code r.ctx == 7 then (s.at t).applySafe r.ctx else (((s.at t).applySafe r.ctx).groupTo r 7).sts r.ctx stsGroupLatch).laneRaise 3 r.ctx none 302) := by
    simp [exec, execSoftStartTimeout, hw, hg, hc, hh, he, hup, Nat.not_lt.mpr hle]
  obtain ⟨hout, hcode, hlatch, hstart, hlive⟩ := safe_latches (s := s.at t) ((at_regsOk t).mpr hr) hx ht hc
  generalize (if ((s.at t).applySafe r.ctx).code r.ctx == 7 then (s.at t).applySafe r.ctx else (((s.at t).applySafe r.ctx).groupTo r 7).sts r.ctx stsGroupLatch) = m at e hout hcode hlatch hstart hlive
  have hctx : (m.ctx? r.ctx).isSome = true := by
    have hx' : m.ctx? r.ctx = some r := (congrArg (fun im : Option Image => im.bind (·.ctx? r.ctx)) hout.image).trans hx
    exact Option.isSome_iff_exists.mpr ⟨r, hx'⟩
  obtain ⟨hafter, hfaulted, hmram⟩ := raised_by_lane (m := m) (cls := 3) 302 _ _ hctx (by rw [hout.flt]; exact hf)
  exact ⟨_, m, e, hafter, hout, hfaulted, hcode, hlatch, hstart, hlive, hmram.trans hout.mram⟩

/-! ### GROUP_RETRYCNT_CLEAR (R152) -/

theorem retryCount_cleared (c t : Nat) (s : State) (hr : RegsOk s) (hw : s.works = true) (ht : s.isType c .group = true) (hpg : (s.grp c).powerGood = true)
    (he : (s.at t).expiredTicks (.pgHeld c) ticksPerSecond = true) :
    ∃ n, exec (.groupRetrycntClear c t) s = .next n ∧ n.cw c GRP_RETRYCNT = 0 ∧ Kept s n [ctxAddr c GRP_RETRYCNT] ∧ OnlyRegs (s.at t) n := by
  have h0 : RegsOk (s.at t) := (at_regsOk t).mpr hr
  have e : exec (.groupRetrycntClear c t) s = finish (s.at t) ((s.at t).setC c GRP_RETRYCNT 0) := by
    simp [exec, execGroupRetrycntClear, hw, ht, hpg, he]
  exact ⟨_, e, cw_setC_same h0 c GRP_RETRYCNT 0, kept_setReg h0 _ (by simp), rfl⟩

/-- Settles O22, instruction by instruction: every clause is the meaning of one instruction on a group (R150 to R152, R158). -/
theorem softStartRunsAndRetries : Obligations.SoftStartRunsAndRetries :=
  ⟨group_enabled, group_disabled, fsw_written, group_powerGood, group_powerGood_lost, softStart_retried, softStart_latched, hiccup_ends, retryCount_cleared⟩

end Sys2Proof
end
-- ==== Sys2Proof/Proofs/Groups/SyncAndShed.lean ====
section
/-! O25: a group and its SYNC_IN (R156, R157), and the end of a shed transition with its frame (R162, R163, R174). -/

namespace Sys2Proof

open Machine

/-! ### SYNC_ACQUIRE, SYNC_ALIGNED and SYNC_LOSS (R156, R157) -/

theorem sync_acquired (c hz t : Nat) (s : State) (ht : s.isType c .group = true) (hon : bit (s.cw c GRP_CTL) 5 = true) (hv : s.syncValid c hz = true) :
    ∃ n, exec (.syncAcquire c hz t) s = .next n ∧ (n.grp c).sync = some (hz : Rat) ∧ (n.grp c).aligned = false ∧ (n.grp c).freq = (s.grp c).freq ∧ n.regs = s.regs ∧ n.mram = s.mram := by
  have hv' : (s.at t).syncValid c hz = true := hv
  have e : exec (.syncAcquire c hz t) s = finish (s.at t) ((s.at t).setGrp c (fun v => { v with sync := some (hz : Rat), aligned := false })) := by
    simp [exec, execSyncAcquire, ht, State.syncOn, hon, hv']
  have hgrp := grp_setGrp (s.at t) c (fun v => { v with sync := some (hz : Rat), aligned := false })
  exact ⟨_, e, congrArg GroupVar.sync hgrp, congrArg GroupVar.aligned hgrp, (congrArg GroupVar.freq hgrp).trans rfl, rfl, rfl⟩

theorem sync_aligned (c t : Nat) (s : State) (hr : RegsOk s) (ht : s.isType c .group = true) (hon : bit (s.cw c GRP_CTL) 5 = true) (hsync : (s.grp c).sync = some (s.grp c).freq) (ha : (s.grp c).aligned = false) :
    ∃ n, exec (.syncAligned c t) s = .next n ∧ (n.grp c).aligned = true ∧ n.flag (ctxAddr c CTX_STS) 10 = true ∧ Kept s n [ctxAddr c CTX_STS] ∧ n.mram = s.mram := by
  have h1 : RegsOk ((s.at t).setGrp c (fun v => { v with aligned := true, turnOn := (s.cw c GRP_SYNCPH).toNat })) := (at_regsOk t).mpr hr
  have e : exec (.syncAligned c t) s = finish (s.at t) (((s.at t).setGrp c (fun v => { v with aligned := true, turnOn := (s.cw c GRP_SYNCPH).toNat })).sts c 10) := by
    simp [exec, execSyncAligned, ht, State.syncOn, hon, hsync, ha]
  have hgrp := grp_setGrp (s.at t) c (fun v => { v with aligned := true, turnOn := (s.cw c GRP_SYNCPH).toNat })
  exact ⟨_, e, congrArg GroupVar.aligned hgrp, flag_sts_same h1 c (by decide), kept_setReg h1 _ (by simp), rfl⟩

theorem sync_lost (c t : Nat) (s : State) (hr : RegsOk s) (ht : s.isType c .group = true) (_hc : c < 128) (hsync : (s.grp c).sync.isSome = true) :
    ∃ n, exec (.syncLoss c t) s = .next n ∧ (n.grp c).sync = none ∧ n.flag (ctxAddr c CTX_STS) 9 = true ∧ Kept s n (ctxAddr c CTX_STS :: recordWords) ∧ n.mram = s.mram := by
  have h1 : RegsOk ((s.at t).setGrp c (fun v => { v with sync := none, aligned := false })) := (at_regsOk t).mpr hr
  have e : exec (.syncLoss c t) s = finish (s.at t) (((s.at t).setGrp c (fun v => { v with sync := none, aligned := false })).stsOffer c 9) := by
    simp [exec, execSyncLoss, ht, hsync]
  have hgrp := grp_setGrp (s.at t) c (fun v => { v with sync := none, aligned := false })
  refine ⟨_, e, ?_, flag_stsOffer h1 c (by decide), stsOffer_kept h1 c 9, stsOffer_field _ c 9 State.mram fun _ _ _ => rfl⟩
  exact (stsOffer_field _ c 9 (fun z => (z.grp c).sync) fun _ _ _ => rfl).trans (congrArg GroupVar.sync hgrp)

/-! ### SHED_TRANSITION_END and the frame it falls in (R162, R163, R174) -/

theorem shed_marked (c t p : Nat) (r : CtxRec) (s : State) (_hr : RegsOk s) (hw : s.works = true) (hg : s.group? c = some r) (hp : (s.grp c).fading = some p) (_hlt : p < 24) (hfade : (s.cw c GRP_FADE).toNat ≤ (s.grp c).faded) :
    ∃ n, exec (.shedTransitionEnd c t) s = .next n ∧ (n.grp c).shedAt = (s.grp c).shedAt.or (some n.now) ∧ (n.grp c).fading = some p ∧ n.phases = s.phases ∧ n.regs = s.regs ∧ n.mram = s.mram := by
  have e : exec (.shedTransitionEnd c t) s = finish (s.at t) ((s.at t).setGrp c (fun v => { v with shedAt := v.shedAt.or (some (s.at t).now) })) := by
    simp [exec, execShedTransitionEnd, hw, hg, hp, hfade]
  have hgrp := grp_setGrp (s.at t) c (fun v => { v with shedAt := v.shedAt.or (some (s.at t).now) })
  exact ⟨_, e, congrArg GroupVar.shedAt hgrp, (congrArg GroupVar.fading hgrp).trans hp, rfl, rfl, rfl⟩

theorem frame_sheds (p t0 : Nat) (current : Int) (r : CtxRec) (s : State) (hr : RegsOk s) (hw : s.works = true) (hrun : s.groupRunning r.ctx = true) (hh : s.held r.ctx = false) (hp : (s.grp r.ctx).fading = some p)
    (hat : (s.grp r.ctx).shedAt = some t0) (hlt : p < 24) (hcur : (s.active r).length < 2 ∨ (current.natAbs : Int) ≤ (s.cw r.ctx (STEPPE_ADD + ((s.active r).length - 2))).toInt) :
    let n := s.frameRecall r current
    (n.grp r.ctx).fading = none ∧ (n.phase p).level = .hiZ ∧ n.flag (PH_STS + p) 3 = false ∧ n.running (.dwell r.ctx) = true ∧ n.age (.dwell r.ctx) = 0 ∧ Kept s n [PH_STS + p, ctxAddr r.ctx GRP_NACT] ∧ n.mram = s.mram := by
  have hdone : s.frameRecall r current = s.shedDone r := by
    have hno : ¬ (2 ≤ (s.active r).length ∧ (s.cw r.ctx (STEPPE_ADD + ((s.active r).length - 2))).toInt < (current.natAbs : Int)) := by omega
    unfold State.frameRecall
    simp only [hw, hrun, hh, hp, Option.isNone_some, Bool.not_true, Bool.or_false, Bool.false_eq_true, if_false, ← Bool.decide_and, decide_eq_true_eq, hno]
  have hshed : s.shedDone r = (((s.phaseStop .hiZ p).setGrp r.ctx (fun v => { v with fading := none, shedAt := none })).countActive r).start (.dwell r.ctx) := by
    unfold State.shedDone
    rw [hp, hat]
  have h1 : RegsOk ((s.phaseStop .hiZ p).setGrp r.ctx (fun v => { v with fading := none, shedAt := none })) := phaseStop_regsOk hr .hiZ p
  have hcount : Kept ((s.phaseStop .hiZ p).setGrp r.ctx (fun v => { v with fading := none, shedAt := none })) ((((s.phaseStop .hiZ p).setGrp r.ctx (fun v => { v with fading := none, shedAt := none })).countActive r).start (.dwell r.ctx)) [ctxAddr r.ctx GRP_NACT] :=
    kept_setReg h1 _ (by simp)
  intro n
  have hn : n = _ := hdone.trans hshed
  rw [hn]
  refine ⟨congrArg GroupVar.fading (grp_setGrp (s.phaseStop .hiZ p) r.ctx fun v => { v with fading := none, shedAt := none }), level_phaseStop s .hiZ p, ?_, running_start_same _ _, age_start _ _, ?_, rfl⟩
  · exact (hcount.flag 3 (by simp [phaseWord_ne_ctxAddr _ _ hlt])).trans (flag_phaseStop hr .hiZ p)
  · exact kept_trans (kept_mono (phaseStop_kept hr .hiZ p) (by simp)) (kept_mono hcount (by simp))

/-- An all-phase recall with its effects (R163, R164). -/
theorem recall_recalls {s : State} (h : RegsOk s) (r : CtxRec) :
    ((s.recall r).grp r.ctx).fading = none ∧ ((s.recall r).grp r.ctx).shedAt = none ∧ (s.recall r).phases = s.phases ∧ (s.recall r).flag (ctxAddr r.ctx CTX_STS) 8 = true ∧
      (s.recall r).cw r.ctx GRP_RECALLCNT = satInc (s.cw r.ctx GRP_RECALLCNT) ∧ (s.recall r).running (.dwell r.ctx) = true ∧ (s.recall r).age (.dwell r.ctx) = 0 ∧ (s.recall r).mram = s.mram := by
  have hin := allPhases_allIn h r
  unfold State.recall
  generalize s.allPhases r = m at hin
  have h1 : RegsOk (m.stsWrite r.ctx 8) := stsWrite_regsOk hin.ok r.ctx 8
  have hsts := stsWrite_kept hin.ok r.ctx 8
  have hinc : Kept (m.stsWrite r.ctx 8) (((m.stsWrite r.ctx 8).inc (ctxAddr r.ctx GRP_RECALLCNT)).start (.dwell r.ctx)) [ctxAddr r.ctx GRP_RECALLCNT] := kept_setReg h1 _ (by simp)
  have hgrp : (m.stsWrite r.ctx 8).grp r.ctx = m.grp r.ctx := stsWrite_field m r.ctx 8 (fun z => z.grp r.ctx) fun _ _ _ => rfl
  have hcount : (m.stsWrite r.ctx 8).cw r.ctx GRP_RECALLCNT = s.cw r.ctx GRP_RECALLCNT := (hsts.cw (by simp [ctxAddr_not_recordWord])).trans (hin.kept.cw (ctxAddr_not_phaseWord r _ _))
  refine ⟨congrArg GroupVar.fading (hgrp.trans hin.group), congrArg GroupVar.shedAt (hgrp.trans hin.group), ?_, ?_, (reg_setReg_same h1 _ _).trans (congrArg satInc hcount), running_start_same _ _, age_start _ _, ?_⟩
  · exact (stsWrite_field m r.ctx 8 State.phases fun _ _ _ => rfl).trans hin.phases
  · exact (hinc.flag 8 (by simp)).trans (flag_stsWrite hin.ok r.ctx (by decide))
  · exact (stsWrite_field m r.ctx 8 State.mram fun _ _ _ => rfl).trans hin.mram

theorem frame_recalls (p : Nat) (current : Int) (r : CtxRec) (s : State) (hr : RegsOk s) (hw : s.works = true) (hrun : s.groupRunning r.ctx = true) (hh : s.held r.ctx = false) (hp : (s.grp r.ctx).fading = some p)
    (h2 : 2 ≤ (s.active r).length) (hcur : (s.cw r.ctx (STEPPE_ADD + ((s.active r).length - 2))).toInt < (current.natAbs : Int)) :
    let n := s.frameRecall r current
    (n.grp r.ctx).fading = none ∧ (n.grp r.ctx).shedAt = none ∧ n.phase p = s.phase p ∧ n.flag (ctxAddr r.ctx CTX_STS) 8 = true ∧ n.cw r.ctx GRP_RECALLCNT = satInc (s.cw r.ctx GRP_RECALLCNT) ∧
      n.running (.dwell r.ctx) = true ∧ n.age (.dwell r.ctx) = 0 ∧ n.mram = s.mram := by
  have hrecall : s.frameRecall r current = s.recall r := by
    unfold State.frameRecall
    simp only [hw, hrun, hh, hp, Option.isNone_some, Bool.not_true, Bool.or_false, Bool.false_eq_true, if_false, ← Bool.decide_and, decide_eq_true_eq, if_pos (And.intro h2 hcur)]
  obtain ⟨hfading, hshed, hphases, hsts, hcount, hdwell, hage, hmram⟩ := recall_recalls hr r
  dsimp only
  rw [hrecall]
  exact ⟨hfading, hshed, phase_of_phases hphases p, hsts, hcount, hdwell, hage, hmram⟩

/-- Settles O25: the three events of SYNC_IN, the end of a shed transition, and the two ways its frame can go. -/
theorem syncAndShedFollowTheirEvents : Obligations.SyncAndShedFollowTheirEvents :=
  ⟨sync_acquired, sync_aligned, sync_lost, shed_marked, frame_sheds, frame_recalls⟩

end Sys2Proof
end
-- ==== Sys2Proof/Proofs/Groups/Switching.lean ====
section
/-! O24: phase trips and their repetition (R154, R155), the imbalance block (R142), and the switching period (R137, R145, R170). -/

namespace Sys2Proof

open Machine

/-! ### PHASE_TRIP and PHASE_TRIP_REPEAT (R154, R155) -/

theorem phase_trips (ph t : Nat) (nv : Int) (reverse : Bool) (r : CtxRec) (s : State) (hr : RegsOk s) (hlt : ph < 24) (hg : s.groupOfPhase ph = some r) (hx : s.phaseCrossing r nv = some reverse)
    (hlive : s.flag (PH_STS + ph) 3 = true) (hskip : (s.phase ph).skipping = false) :
    ∃ n, exec (.phaseTrip ph nv t) s = .next n ∧ (n.phase ph).level = (if reverse then .hiZ else .low) ∧ (n.phase ph).tripped = true ∧
      n.flag (PH_STS + ph) (if reverse then 6 else 5) = true ∧ n.flag (ctxAddr r.ctx CTX_STS) 11 = true ∧ (∀ q, q ≠ ph → n.phase q = s.phase q) ∧
      Kept s n [PH_STS + ph, ctxAddr r.ctx CTX_STS] ∧ n.mram = s.mram := by
  obtain ⟨m, hm⟩ : ∃ m, m = (s.at t).setPhase ph (fun v => { v with level := if reverse then .hiZ else .low, tripped := v.tripped || !v.skipping }) := ⟨_, rfl⟩
  have e : exec (.phaseTrip ph nv t) s = finish (s.at t) ((m.setFlag (PH_STS + ph) (if reverse then 6 else 5) true).sts r.ctx 11) := by
    have hg' : (s.at t).groupOfPhase ph = some r := hg
    have hx' : (s.at t).phaseCrossing r nv = some reverse := hx
    simp [exec, execPhaseTrip, hg', hx', hlive, hskip, hm]
  have hregs : m.regs = s.regs := by rw [hm]; rfl
  have hmram : m.mram = s.mram := by rw [hm]; rfl
  have hphase : m.phase ph = { s.phase ph with level := if reverse then .hiZ else .low, tripped := (s.phase ph).tripped || !(s.phase ph).skipping } := by rw [hm, phase_setPhase_same, phase_at]
  have hother (q : Nat) (hq : q ≠ ph) : m.phase q = s.phase q := by rw [hm, phase_setPhase_other _ _ hq, phase_at]
  have h0 : RegsOk m := (regsOk_of_regs hregs).mpr hr
  have h1 : RegsOk (m.setFlag (PH_STS + ph) (if reverse then 6 else 5) true) := setReg_regsOk h0 _ _
  have hflag : (m.setFlag (PH_STS + ph) (if reverse then 6 else 5) true).flag (PH_STS + ph) (if reverse then 6 else 5) = true := flag_setFlag_same h0 _ true (by split <;> decide)
  refine ⟨_, e, congrArg PhaseVar.level hphase, (congrArg PhaseVar.tripped hphase).trans (by simp [hskip]), ?_, flag_sts_same h1 r.ctx (by decide), hother, ?_, hmram⟩
  · exact (flag_setFlag_other h1 _ _ true (phaseWord_ne_ctxAddr _ _ hlt)).trans hflag
  · exact kept_trans (kept_of_regs hregs) (kept_trans (m := m.setFlag (PH_STS + ph) (if reverse then 6 else 5) true) (kept_setReg h0 _ (by simp)) (kept_setReg h1 _ (by simp)))

theorem trips_raise (ph t : Nat) (r : CtxRec) (s : State) (_hr : RegsOk s) (hg : s.groupOfPhase ph = some r) (_hc : r.ctx < 128) (hx : (s.ctx? r.ctx).isSome = true) (htrips : 64 ≤ (s.phase ph).trips)
    (hraised : (s.phase ph).raised = false) :
    ∃ n m, exec (.phaseTripRepeat ph t) s = .next n ∧ AfterCoreRaise m n 3 r.ctx none ∧ Faulted n r.ctx 3 ∧ (m.phase ph).raised = true ∧ m.regs = s.regs ∧ n.mram = s.mram := by
  have e : exec (.phaseTripRepeat ph t) s = finish (s.at t) (((s.at t).setPhase ph (fun v => { v with raised := true })).coreRaise 3 r.ctx none 303) := by
    have hg' : (s.at t).groupOfPhase ph = some r := hg
    simp [exec, execPhaseTripRepeat, hg', htrips, hraised]
  have hphase := phase_setPhase_same (s.at t) ph (fun v => { v with raised := true })
  refine ⟨_, _, e, ⟨303, rfl⟩, coreRaise_faulted ((s.at t).setPhase ph fun v => { v with raised := true }) 3 r.ctx none 303 hx, congrArg PhaseVar.raised hphase, rfl, ?_⟩
  exact (coreRaise_fault (onlyFault_refl ((s.at t).setPhase ph fun v => { v with raised := true })) 3 r.ctx none 303).mram

/-! ### PHASE_IMBALANCE_BLOCK_END (R142) -/

/-- The phases whose mean deviation over the block is too large, with the sums of it. -/
def imbalanced (g : GroupVar) : List (Nat × Rat) := g.blockSum.filter (fun p => p.2 / ((g.blockTicks : Nat) : Rat) < -1 / 4 || 1 / 4 < p.2 / ((g.blockTicks : Nat) : Rat))

theorem mem_imbalanced {g : GroupVar} {x : Nat × Rat} (h : x ∈ g.blockSum) (hx : x.2 / (g.blockTicks : Rat) < -1 / 4 ∨ 1 / 4 < x.2 / (g.blockTicks : Rat)) : x ∈ imbalanced g :=
  List.mem_filter.mpr ⟨h, by simpa using hx⟩

/-- The mark of every phase of a list, and the group's bit with its record. -/
theorem imbalance_marks {s : State} (h : RegsOk s) (c : Nat) {l : List (Nat × Rat)} (hl : ∀ x ∈ l, x.1 < 24) :
    let n := (s.forEach l (fun p s => s.setFlag (PH_STS + p.1) 7 true)).stsOffer c 15
    n.groups = s.groups ∧ n.mram = s.mram ∧ (∀ x ∈ l, n.flag (PH_STS + x.1) 7 = true) ∧ n.flag (ctxAddr c CTX_STS) 15 = true ∧
      Kept s n (ctxAddr c CTX_STS :: recordWords ++ l.map (fun x => PH_STS + x.1)) := by
  have hset (x : Nat × Rat) (z : State) (hz : RegsOk z) : RegsOk (z.setFlag (PH_STS + x.1) 7 true) := setReg_regsOk hz _ _
  have hok : RegsOk (s.forEach l (fun p s => s.setFlag (PH_STS + p.1) 7 true)) := forEach_regsOk _ _ hset h
  have hkept : Kept s (s.forEach l (fun p s => s.setFlag (PH_STS + p.1) 7 true)) (l.map (fun x => PH_STS + x.1)) :=
    forEach_kept _ _ _ hset (fun x hx z hz => kept_setReg hz _ (List.mem_map.mpr ⟨x, hx, rfl⟩)) h
  have hgroups : (s.forEach l (fun p s => s.setFlag (PH_STS + p.1) 7 true)).groups = s.groups := forEach_same State.groups l (fun p s => s.setFlag (PH_STS + p.1) 7 true) (fun _ _ => rfl) s
  have hmram : (s.forEach l (fun p s => s.setFlag (PH_STS + p.1) 7 true)).mram = s.mram := forEach_same State.mram l (fun p s => s.setFlag (PH_STS + p.1) 7 true) (fun _ _ => rfl) s
  have hflag (x : Nat × Rat) (hx : x ∈ l) : (s.forEach l (fun p s => s.setFlag (PH_STS + p.1) 7 true)).flag (PH_STS + x.1) 7 = true := by
    refine forEach_reaches (I := RegsOk) (Q := fun z => z.flag (PH_STS + x.1) 7 = true) hx hset (fun z hz => flag_setFlag_same hz _ true (by decide)) (fun y z hz hq => ?_) h
    by_cases hy : PH_STS + x.1 = PH_STS + y.1
    · exact hy ▸ flag_setFlag_same hz _ true (by decide)
    · exact (flag_setFlag_other hz 7 7 true hy).trans hq
  dsimp only
  generalize s.forEach l (fun p s => s.setFlag (PH_STS + p.1) 7 true) = m at *
  have hsts := stsOffer_kept hok c 15
  refine ⟨(stsOffer_field m c 15 State.groups fun _ _ _ => rfl).trans hgroups, (stsOffer_field m c 15 State.mram fun _ _ _ => rfl).trans hmram, fun x hx => ?_, flag_stsOffer hok c (by decide), ?_⟩
  · refine (hsts.flag 7 ?_).trans (hflag x hx)
    simp [phaseWord_ne_ctxAddr _ _ (hl x hx), phaseWord_not_recordWord]
  · exact kept_trans (kept_mono hkept (by simp +contextual)) (kept_mono hsts (by simp +contextual))

theorem imbalance_flagged (c t : Nat) (s : State) (hr : RegsOk s) (hw : s.works = true) (ht : s.isType c .group = true) (_hc : c < 128) (hend : 100 ≤ (s.grp c).blockTicks) (hlt : ∀ x ∈ (s.grp c).blockSum, x.1 < 24) :
    ∃ n, exec (.phaseImbalanceBlockEnd c t) s = .next n ∧ (n.grp c).blockTicks = 0 ∧ (n.grp c).blockSum = [] ∧
      (∀ x ∈ (s.grp c).blockSum, x.2 / ((s.grp c).blockTicks : Rat) < -1 / 4 ∨ 1 / 4 < x.2 / ((s.grp c).blockTicks : Rat) → n.flag (PH_STS + x.1) 7 = true ∧ n.flag (ctxAddr c CTX_STS) 15 = true) ∧
      Kept s n ([ctxAddr c CTX_STS] ++ recordWords ++ ((s.grp c).blockSum.map (fun x => PH_STS + x.1))) ∧ n.mram = s.mram := by
  have e : exec (.phaseImbalanceBlockEnd c t) s = finish (s.at t) (if (imbalanced (s.grp c)).isEmpty then (s.at t).newBlock c
      else (((s.at t).newBlock c).forEach (imbalanced (s.grp c)) (fun p s => s.setFlag (PH_STS + p.1) 7 true)).stsOffer c 15) := by
    have hcond : ((s.at t).works && (s.at t).isType c .group && decide (100 ≤ ((s.at t).grp c).blockTicks)) = true := by simp [hw, ht, hend]
    exact congrArg (finish (s.at t)) (if_pos hcond)
  have hblock := grp_setGrp (s.at t) c (fun v => { v with blockTicks := 0, blockSum := [] })
  have h0 : RegsOk ((s.at t).newBlock c) := (at_regsOk t).mpr hr
  cases hbad : (imbalanced (s.grp c)).isEmpty with
  | true =>
    rw [hbad, if_pos rfl] at e
    refine ⟨_, e, congrArg GroupVar.blockTicks hblock, congrArg GroupVar.blockSum hblock, fun x hx hdev => ?_, fun _ _ => rfl, rfl⟩
    exact absurd (mem_imbalanced hx hdev) (by simp [List.isEmpty_iff.mp hbad])
  | false =>
    rw [hbad, if_neg Bool.false_ne_true] at e
    have hsub : imbalanced (s.grp c) ⊆ (s.grp c).blockSum := fun x hx => (List.mem_filter.mp hx).1
    obtain ⟨hgroups, hmram, hflag, hsts, hkept⟩ := imbalance_marks h0 c (l := imbalanced (s.grp c)) fun x hx => hlt x (hsub hx)
    have hgrp := (grp_of_groups hgroups c).trans hblock
    refine ⟨_, e, congrArg GroupVar.blockTicks hgrp, congrArg GroupVar.blockSum hgrp, fun x hx hdev => ⟨hflag x (mem_imbalanced hx hdev), hsts⟩, kept_mono hkept ?_, hmram⟩
    intro a ha
    rcases List.mem_append.mp ha with ha | ha
    · exact List.mem_append_left _ ha
    · exact List.mem_append_right _ (List.map_subset _ hsub ha)

/-! ### SWITCHING_PERIOD (R137, R145, R170) -/

theorem clampInt_bounds {lo hi : Int} (h : lo ≤ hi) (x : Int) : lo ≤ clampInt lo hi x ∧ clampInt lo hi x ≤ hi := by
  unfold clampInt
  split_ifs <;> omega

theorem placePhases_leaves (s : State) (r : CtxRec) (l : List Nat) (q : Rat) : (s.placePhases r l q).grp r.ctx = s.grp r.ctx ∧ (s.placePhases r l q).mram = s.mram := by
  unfold State.placePhases
  exact ⟨forEach_same (fun z => z.grp r.ctx) _ _ (by intros; rfl) s, forEach_same State.mram _ _ (by intros; rfl) s⟩

/-- What the stop at cut-off leaves of what a period has set: the stop drops the phases to start and the peak command, and keeps MODE and DIR. -/
theorem cutCheck_leaves (s : State) (r : CtxRec) : (s.cutCheck r).mram = s.mram ∧ ((s.cutCheck r).grp r.ctx = s.grp r.ctx ∨
    ((s.cutCheck r).grp r.ctx).starting = [] ∧ ((s.cutCheck r).grp r.ctx).peak = 0 ∧ ((s.cutCheck r).grp r.ctx).mode = (s.grp r.ctx).mode ∧ ((s.cutCheck r).grp r.ctx).dir = (s.grp r.ctx).dir) := by
  unfold State.cutCheck
  split
  · have hmram := (groupStop_outputs (onlyOutputs_refl s) r .hiZ).mram
    have hstop := grp_groupStop s r .hiZ
    unfold State.cutStop
    generalize s.groupStop r .hiZ = m at hmram hstop
    have hgrp := grp_setGrp (m.setFlag (ctxAddr r.ctx GRP_CTL) 0 false) r.ctx (fun v => { v with cutStop := true, cutDone := true, en := false })
    have hkeep : (m.setFlag (ctxAddr r.ctx GRP_CTL) 0 false).grp r.ctx = m.grp r.ctx := rfl
    rw [hkeep, hstop] at hgrp
    exact ⟨hmram, .inr ⟨congrArg GroupVar.starting hgrp, congrArg GroupVar.peak hgrp, (congrArg GroupVar.mode hgrp).trans rfl, (congrArg GroupVar.dir hgrp).trans rfl⟩⟩
  · exact ⟨rfl, .inl rfl⟩

/-- A switching period of a group that switches or starts: its variables for the period, then the phases' places and the stop at cut-off. -/
theorem period_steps {c : Nat} (av ai : Int) (t : Nat) {r : CtxRec} {s : State} (hg : s.group? c = some r) (hact : (s.grp c).starting ≠ [] ∨ s.active r ≠ []) :
    ∃ (m : State) (l : List Nat) (cmd : Int), exec (.switchingPeriod c av ai t) s = finish (s.at t) ((m.placePhases r l (cmd : Rat)).cutCheck r) ∧ (m.grp c).starting = [] ∧ (m.grp c).mode = s.modeNow c ∧
      (m.grp c).dir = s.dirNow c ∧ (m.grp c).peak = clampInt (-(s.ceiling r)) (s.ceiling r) cmd ∧ m.mram = s.mram := by
  have hsome : ((s.grp c).starting.isEmpty && (s.active r).isEmpty) = false := by
    rcases hact with h | h <;> simp [h]
  refine ⟨_, _, _, by simp only [exec, execSwitchingPeriod, group_at, hg, grp_at, active_at, hsome, Bool.false_eq_true, if_false]; rfl, ?_, ?_, ?_, ?_, ?_⟩
  · rw [grp_setGrp]
  · rw [grp_setGrp]; rfl
  · rw [grp_setGrp]; rfl
  · rw [grp_setGrp]; rfl
  · exact (forEach_same State.mram _ (fun p s => s.phaseStart p) (fun _ _ => rfl) _).trans (forEach_same State.mram _ (fun p s => s.setPhase p PhaseVar.nextPeriod) (fun _ _ => rfl) _)

theorem period_switches (c : Nat) (av ai : Int) (t : Nat) (r : CtxRec) (s : State) (hg : s.group? c = some r) (hact : (s.grp c).starting ≠ [] ∨ s.active r ≠ []) :
    ∃ n, exec (.switchingPeriod c av ai t) s = .next n ∧ (n.grp c).starting = [] ∧ (n.grp c).mode = (if s.held c then (s.grp c).mode else s.grpMode c) ∧ (n.grp c).dir = (if s.held c then (s.grp c).dir else s.grpDir c) ∧
      (0 ≤ s.ceiling r → -(s.ceiling r) ≤ (n.grp c).peak ∧ (n.grp c).peak ≤ s.ceiling r) ∧ n.mram = s.mram := by
  obtain ⟨m, l, cmd, e, hstarting, hmode, hdir, hpeak, hmram⟩ := period_steps av ai t hg hact
  obtain rfl := group_number hg
  obtain ⟨hgrp, hplace⟩ := placePhases_leaves m r l (cmd : Rat)
  obtain ⟨hcut, hleft⟩ := cutCheck_leaves (m.placePhases r l (cmd : Rat)) r
  rw [hgrp] at hleft
  have hall := hcut.trans (hplace.trans hmram)
  rcases hleft with hsame | ⟨hstarting', hpeak', hmode', hdir'⟩
  · refine ⟨_, e, (congrArg GroupVar.starting hsame).trans hstarting, (congrArg GroupVar.mode hsame).trans hmode, (congrArg GroupVar.dir hsame).trans hdir, fun htop => ?_, hall⟩
    have hp := (congrArg GroupVar.peak hsame).trans hpeak
    have hb := clampInt_bounds (lo := -(s.ceiling r)) (hi := s.ceiling r) (by omega) cmd
    rw [← hp] at hb
    exact hb
  · refine ⟨_, e, hstarting', hmode'.trans hmode, hdir'.trans hdir, fun htop => ?_, hall⟩
    have hb : -(s.ceiling r) ≤ 0 ∧ 0 ≤ s.ceiling r := by omega
    rw [← hpeak'] at hb
    exact hb

/-- Settles O24, instruction by instruction: a trip, its repetition, the end of an imbalance block, and a switching period. -/
theorem phasesTripAndSwitch : Obligations.PhasesTripAndSwitch :=
  ⟨phase_trips, trips_raise, imbalance_flagged, period_switches⟩

end Sys2Proof
end
-- ==== Sys2Proof/Proofs/Groups/Control.lean ====
section
/-! O23: the MODE that a write of GRP.CTL leaves in a group without a current group (R146). -/

namespace Sys2Proof

open Machine

/-- The state code that follows MODE and DIR touches nothing but CTX.STATE. -/
theorem followMode_leaves {s : State} (h : RegsOk s) (c : Nat) : RegsOk (s.followMode c) ∧ Kept s (s.followMode c) [ctxAddr c CTX_STATE] ∧ s.followMode c = { s with regs := (s.followMode c).regs } := by
  unfold State.followMode
  split
  · exact ⟨setReg_regsOk h _ _, kept_setReg h _ (by simp), rfl⟩
  · exact ⟨h, fun _ _ => rfl, rfl⟩

/-- What a write of GRP.CTL leaves of the value it stores, with its mark: the word, the mark, and every word but those of the context's status, state and governor. -/
structure CtlStored (s n : State) (c : Nat) (x : Word × Bool) : Prop where
  word : n.cw c GRP_CTL = x.1
  mark : n.isClamped (ctxAddr c GRP_CTL) = x.2
  status : x.2 = true → n.flag (ctxAddr c CTX_STS) 1 = true
  kept : Kept s n [ctxAddr c GRP_CTL, ctxAddr c CTX_STS, ctxAddr c CTX_STATE, ctxAddr c CTX_GOV]
  rest : n = { s with regs := n.regs, clamped := n.clamped }

theorem groupCtl_stored {s : State} (hr : RegsOk s) (hcl : canonical false s.clamped = true) {c : Nat} (hc : c < 128) {r : CtxRec} (hg : s.group? c = some r) (hi : s.implemented (ctxAddr c GRP_CTL) = true) {w : Word}
    (hf : s.routeRefused r GRP_CTL w = false) :
    CtlStored s (s.writeCtx r GRP_CTL w) c (putValue s (ctxAddr c GRP_CTL) w) := by
  obtain ⟨-, ht⟩ := group_ctx hg
  have hshape : s.shape? (ctxAddr c GRP_CTL) ≠ some .readOnly := by
    rw [shape_group hc (by decide) (by decide) hg]
    nofun
  have hput := put_writable hi (shape_of_implemented hc (by decide) hi) hshape w
  have hstores := storeAs_stores hr hcl hc (k := GRP_CTL) (by decide) (by decide) (putValue s (ctxAddr c GRP_CTL) w)
  have hok := storeAs_regsOk hr (ctxAddr c GRP_CTL) (putValue s (ctxAddr c GRP_CTL) w)
  obtain rfl := group_number hg
  have hown : s.writeOwn r GRP_CTL w = (s.storeAs (ctxAddr r.ctx GRP_CTL) (putValue s (ctxAddr r.ctx GRP_CTL) w)).followMode r.ctx := by
    simp only [State.writeOwn, ht, if_true, hput]
  obtain ⟨hword, hmark, hsts, hkept, hrest⟩ := hstores
  obtain ⟨hok', hstate, hleft⟩ := followMode_leaves hok r.ctx
  have hgov : Kept ((s.storeAs (ctxAddr r.ctx GRP_CTL) (putValue s (ctxAddr r.ctx GRP_CTL) w)).followMode r.ctx) (s.writeCtx r GRP_CTL w) [ctxAddr r.ctx CTX_GOV] ∧
      s.writeCtx r GRP_CTL w = { (s.storeAs (ctxAddr r.ctx GRP_CTL) (putValue s (ctxAddr r.ctx GRP_CTL) w)).followMode r.ctx with regs := (s.writeCtx r GRP_CTL w).regs } := by
    rcases writeCtx_own hf with h | h <;> rw [h, hown]
    · exact ⟨fun _ _ => rfl, rfl⟩
    · exact ⟨kept_setReg hok' _ (by simp), rfl⟩
  obtain ⟨hgov, hlast⟩ := hgov
  generalize s.writeCtx r GRP_CTL w = n at hgov hlast ⊢
  generalize (s.storeAs (ctxAddr r.ctx GRP_CTL) (putValue s (ctxAddr r.ctx GRP_CTL) w)).followMode r.ctx = f at hgov hlast hstate hleft
  generalize s.storeAs (ctxAddr r.ctx GRP_CTL) (putValue s (ctxAddr r.ctx GRP_CTL) w) = m at hword hmark hsts hkept hrest hstate hleft
  have hlate : Kept m n [ctxAddr r.ctx CTX_STATE, ctxAddr r.ctx CTX_GOV] := kept_trans (kept_mono hstate (by simp)) (kept_mono hgov (by simp))
  have hclamped : n.clamped = m.clamped := by rw [hlast, hleft]
  refine ⟨(hlate.cw (by simp)).trans hword, ?_, fun hx => (hlate.flag 1 (by simp)).trans (hsts hx), kept_trans (kept_mono hkept (by simp)) (kept_mono hlate (by simp)), ?_⟩
  · simpa only [State.isClamped, hclamped] using hmark
  · rw [hlast, hleft, hrest]

/-- Of a group without a current group a write may set no MODE (R146). -/
theorem mode_made_legal {s : State} {c : Nat} {r : CtxRec} (hc : c < 128) (hg : s.group? c = some r) (hserved : s.served c = []) (hmin : s.minGroup c 3 = none) (w : Word) :
    bits (s.legal (ctxAddr c GRP_CTL) w).1 2 1 = 0 ∧ (bits w 2 1 ≠ 0 → (s.legal (ctxAddr c GRP_CTL) w).2 = true) := by
  obtain ⟨hx, ht⟩ := group_ctx hg
  have hlegal : s.legal (ctxAddr c GRP_CTL) w = s.groupCtl r w := by
    have hge := ctxAddr_ge c GRP_CTL
    have h1 : ctxAddr c GRP_CTL ≠ LANE_ARTIME := by
      simp only [LANE_ARTIME]
      omega
    have h2 : ¬ (ctxAddr c GRP_CTL = THR_HARDEN ∨ ctxAddr c GRP_CTL = THR_FORCE) := by
      simp only [THR_HARDEN, THR_FORCE]
      omega
    unfold State.legal
    simp only [if_neg h1, if_neg h2, isCtxAddr_ctxAddr hc (by decide : GRP_CTL < 0x40), ctxOf_ctxAddr (by decide : GRP_CTL < 0x40), if_true, hx, ht]
    rfl
  obtain rfl := group_number hg
  rw [hlegal]
  unfold State.groupCtl
  simp only [hserved, List.isEmpty_nil, if_true, hmin, Option.isNone_none, and_true]
  split
  · exact ⟨bits_putBits_same (by decide) (by decide), fun _ => rfl⟩
  · next h => exact ⟨not_not.mp h, fun hw => absurd hw h⟩

/-- The clamping of GRP.CTL leaves MODE 0b00 as it is. -/
theorem mode_zero_clamped {s : State} {c : Nat} {r : CtxRec} (hc : c < 128) (hg : s.group? c = some r) {v : Word} (hv : bits v 2 1 = 0) : bits (s.clampWord (ctxAddr c GRP_CTL) v).1 2 1 = 0 := by
  have hshape : s.shape? (ctxAddr c GRP_CTL) = some (.fields [⟨0, 0, .rw, .any⟩, ⟨2, 1, .rw, .codes [3] 0⟩, ⟨3, 3, .rw, .any⟩, ⟨4, 4, .rw, .any⟩, ⟨5, 5, .rw, .any⟩, ⟨6, 6, .rw, .any⟩]) :=
    (shape_group hc (by decide) (by decide) hg).trans rfl
  have above {w : Word} {k x : Nat} (hk : k < 18) (h : 2 < k) : bits (putBits w k k x) 2 1 = bits w 2 1 := bits_putBits_other (Nat.le_succ k) hk (.inl h)
  unfold State.clampWord
  simp only [hshape, List.foldl_cons, List.foldl_nil, applyField]
  rw [above (by decide) (by decide), above (by decide) (by decide), above (by decide) (by decide), above (by decide) (by decide), bits_putBits_same (by decide) (by decide), hv]
  rfl

/-- Settles O23: the written word is made legal with MODE 0b00, which its clamping keeps; what replaced it marks the word. -/
theorem groupModeNeedsACurrentGroup : Obligations.GroupModeNeedsACurrentGroup := by
  intro p c t b0 b1 b2 pec r s hr hcl hv hc hp hg hserved hmin hi hf hb
  generalize hw : bytesWord b0 b1 b2 = w at hf ⊢
  obtain ⟨hx, -⟩ := group_ctx hg
  have e : exec (.wordWrite p GRP_CTL b0 b1 b2 pec t) s = finish s ((accepted (s.at t) p (ctxAddr c GRP_CTL) w).writeCtx r GRP_CTL w) := by
    show finish s ((s.at t).hostOp p (.wordWrite (GRP_CTL % 128) b0 b1 b2 pec)) = _
    rw [Nat.mod_eq_of_lt (by decide), hostOp_wordWrite hv hb, iface_at, addrOf_context (by decide) hp, hw, hostWrite_context hv hc (by decide) hx hi]
  obtain ⟨hlegal, hreplaced⟩ := mode_made_legal hc hg hserved hmin w
  have hmode : bits (putValue s (ctxAddr c GRP_CTL) w).1 2 1 = 0 := mode_zero_clamped hc hg hlegal
  have hmarked (h : bits w 2 1 ≠ 0) : (putValue s (ctxAddr c GRP_CTL) w).2 = true := by
    simp only [putValue, hreplaced h, Bool.or_true]
  have hvalue := putValue_accepted s t p (ctxAddr c GRP_CTL) (ctxAddr c GRP_CTL) w w
  obtain ⟨hregs, -, hmram, -, -, -, hack⟩ := accepted_fields (s.at t) p (ctxAddr c GRP_CTL) w
  have hgroup : (accepted (s.at t) p (ctxAddr c GRP_CTL) w).group? c = some r := (congrArg (Option.filter _) (accepted_ctx (s.at t) p _ w c)).trans hg
  have hstored := groupCtl_stored ((regsOk_of_regs hregs).mpr hr) ((accepted_clamped (s.at t) p _ w).symm ▸ hcl) hc hgroup ((accepted_implemented (s.at t) p _ w _).trans hi) ((accepted_routeRefused (s.at t) p _ w r GRP_CTL w).trans hf)
  rw [hvalue] at hstored
  obtain ⟨hword, hmark, hsts, hkept, hrest⟩ := hstored
  refine ⟨_, e, (congrArg (fun x => bits x 2 1) hword).trans hmode, fun h => ⟨hmark.trans (hmarked h), hsts (hmarked h)⟩, ?_, kept_trans (kept_of_regs hregs) hkept, (congrArg State.mram hrest).trans hmram⟩
  rw [hrest]
  cases p <;> exact hack

end Sys2Proof
end
-- ==== Sys2Proof/Proofs/Channels/Operations.lean ====
section
/-! SUPPORT. Register words followed through a chain of updates, and what the shared operations on gate channels and live bits leave (R176, R177, R181, R189). -/

namespace Sys2Proof

open Machine

/-! ### Words followed through updates -/

/-- The words f with the word at one address changed by g. -/
def altered (f : Nat → Word) (a : Nat) (g : Word → Word) : Nat → Word := fun b => if b = a then g (f b) else f b

theorem altered_same (f : Nat → Word) (a : Nat) (g : Word → Word) : altered f a g a = g (f a) := if_pos rfl

theorem altered_other (f : Nat → Word) {a b : Nat} (g : Word → Word) (h : b ≠ a) : altered f a g b = f b := if_neg h

/-- A state with canonical register words that read as the function f gives them. -/
structure Words (s : State) (f : Nat → Word) : Prop where
  ok : RegsOk s
  reg : ∀ a, s.reg a = f a

namespace Words

variable {s : State} {f : Nat → Word}

theorem refl (h : RegsOk s) : Words s s.reg := ⟨h, fun _ => rfl⟩

/-- An update beside the register words. -/
theorem same (h : Words s f) {m : State} (e : m.regs = s.regs := by rfl) : Words m f := ⟨(regsOk_of_regs e).mpr h.ok, fun a => (reg_of_regs e a).trans (h.reg a)⟩

/-- A word changed by a function of its value. -/
theorem setReg (h : Words s f) (a : Nat) (g : Word → Word) : Words (s.setReg a (g (s.reg a))) (altered f a g) := by
  refine ⟨setReg_regsOk h.ok _ _, fun b => ?_⟩
  rw [reg_setReg h.ok, altered, h.reg a, h.reg b]
  split
  · next hb => rw [hb]
  · rfl

theorem setC (h : Words s f) (c k : Nat) (w : Word) : Words (s.setC c k w) (altered f (ctxAddr c k) fun _ => w) := h.setReg _ fun _ => w

theorem setFld (h : Words s f) (a hi lo v : Nat) : Words (s.setFld a hi lo v) (altered f a (putBits · hi lo v)) := h.setReg a (putBits · hi lo v)

theorem setFlag (h : Words s f) (a n : Nat) (b : Bool) : Words (s.setFlag a n b) (altered f a (putBit · n b)) := h.setReg a (putBit · n b)

theorem inc (h : Words s f) (a : Nat) : Words (s.inc a) (altered f a satInc) := h.setReg a satInc

theorem setCode (h : Words s f) (c v : Nat) : Words (s.setCode c v) (altered f (ctxAddr c CTX_STATE) (putBits · 7 0 v)) := h.setFld _ 7 0 v

theorem setSafe (h : Words s f) (c : Nat) (b : Bool) : Words (s.setSafe c b) (altered f (ctxAddr c CTX_STATE) (putBit · 10 b)) := h.setFlag _ 10 b

theorem sts (h : Words s f) (c b : Nat) : Words (s.sts c b) (altered f (ctxAddr c CTX_STS) (putBit · b true)) := h.setFlag _ b true

theorem start (h : Words s f) (k : Timer) : Words (s.start k) f := h.same

theorem stop (h : Words s f) (k : Timer) : Words (s.stop k) f := h.same

theorem startOnce (h : Words s f) (k : Timer) : Words (s.startOnce k) f := by
  unfold State.startOnce
  split
  · exact h
  · exact h.start k

theorem clearCount (h : Words s f) (k : Count) : Words (s.clearCount k) f := h.same

/-! ### Reading -/

theorem cw (h : Words s f) (c k : Nat) : s.cw c k = f (ctxAddr c k) := h.reg _

theorem code (h : Words s f) (c : Nat) : s.code c = bits (f (ctxAddr c CTX_STATE)) 7 0 := congrArg (fun w => bits w 7 0) (h.reg _)

theorem safe (h : Words s f) (c : Nat) : s.safe c = bit (f (ctxAddr c CTX_STATE)) 10 := congrArg (fun w => bit w 10) (h.reg _)

theorem flag (h : Words s f) (a n : Nat) : s.flag a n = bit (f a) n := congrArg (fun w => bit w n) (h.reg _)

theorem fld (h : Words s f) (a hi lo : Nat) : s.fld a hi lo = bits (f a) hi lo := congrArg (fun w => bits w hi lo) (h.reg _)

theorem drive (h : Words s f) (g : Nat) : s.drive g = bits (f (GCH_STS + g)) 1 0 := h.fld _ 1 0

/-- The words outside a list are those of an earlier state where f leaves them. -/
theorem kept (h : Words s f) {s₀ : State} {l : List Nat} (hf : ∀ a, a ∉ l → f a = s₀.reg a) : Kept s₀ s l := fun a ha => (h.reg a).trans (hf a ha)

end Words

/-- A replaced field that already holds the value leaves the word. -/
theorem putBits_eq_self {w : Word} {hi lo v : Nat} (hv : v < 2 ^ (hi + 1 - lo)) (h : bits w hi lo = v) : putBits w hi lo v = w := by
  apply BitVec.eq_of_toNat_eq
  have hw := w.isLt
  have hle : v * 2 ^ lo ≤ w.toNat := by
    have : v ≤ w.toNat / 2 ^ lo := h ▸ Nat.mod_le _ _
    exact (Nat.mul_le_mul_right _ this).trans (Nat.div_mul_le_self _ _)
  simp only [putBits, h, Nat.mod_eq_of_lt hv, Word.ofNat, BitVec.toNat_ofNat, Nat.sub_add_cancel hle]
  exact Nat.mod_eq_of_lt hw

/-- The words of the gate channels are no words of a context. -/
theorem ctxAddr_ne_channel (c k : Nat) {g : Nat} (h : g < 16) : ctxAddr c k ≠ GCH_STS + g :=
  ctxAddr_ne_global c k (Nat.lt_of_lt_of_le (Nat.add_lt_add_left h GCH_STS) (by decide))

theorem channel_ne_ctxAddr (c k : Nat) {g : Nat} (h : g < 16) : GCH_STS + g ≠ ctxAddr c k := (ctxAddr_ne_channel c k h).symm

/-! ### Timers through updates -/

section Timers

variable (s : State) (k : Timer)

theorem running_startOnce_same : (s.startOnce k).running k = true := by
  unfold State.startOnce
  split
  · next h => exact h
  · exact running_start_same s k

theorem startOnce_mram : (s.startOnce k).mram = s.mram := by
  unfold State.startOnce
  split <;> rfl

end Timers

theorem chan_setChan (s : State) (g : Nat) (f : ChanVar → ChanVar) : (s.setChan g f).chan g = f (s.chan g) := by
  simp only [State.chan, State.setChan, find_putKey_same, Option.getD_some]

/-! ### A gate goes down (R176, R189) -/

section GateDown

variable (s : State) (g : Nat)

/-- A timer that no pull-down of the gate touches. -/
def gateDownSpares (g : Nat) (k : Timer) : Prop := k ≠ .gateOff g ∧ k ≠ .inrush g ∧ k ≠ .limit g ∧ (∀ c, k ≠ .brPgHeld c) ∧ ∀ c, k ≠ .dhHeld c

theorem holdsEnd_regs : (s.holdsEnd g).regs = s.regs := by
  unfold State.holdsEnd
  split <;> rfl

theorem holdsEnd_now : (s.holdsEnd g).now = s.now := by
  unfold State.holdsEnd
  split <;> rfl

theorem holdsEnd_channels : (s.holdsEnd g).channels = s.channels := by
  unfold State.holdsEnd
  split <;> rfl

theorem find_holdsEnd {k : Timer} (hb : ∀ c, k ≠ .brPgHeld c) (hd : ∀ c, k ≠ .dhHeld c) : find (s.holdsEnd g).timers k = find s.timers k := by
  unfold State.holdsEnd
  split
  · next r _ => exact (find_dropKey_other _ (hd r.ctx)).trans (find_dropKey_other _ (hb r.ctx))
  · rfl

theorem running_holdsEnd {k : Timer} (hb : ∀ c, k ≠ .brPgHeld c) (hd : ∀ c, k ≠ .dhHeld c) : (s.holdsEnd g).running k = s.running k :=
  congrArg Option.isSome (find_holdsEnd s g hb hd)

theorem age_holdsEnd {k : Timer} (hb : ∀ c, k ≠ .brPgHeld c) (hd : ∀ c, k ≠ .dhHeld c) : (s.holdsEnd g).age k = s.age k := by
  simp only [State.age, find_holdsEnd s g hb hd, holdsEnd_now]

variable {s g} in
theorem gateDown_off (h : s.drive g = 0) : s.gateDown g = s := if_pos h

variable {s g} in
/-- The pull-down clears DRIVE and touches no other word. -/
theorem Words.gateDown {f : Nat → Word} (h : Words s f) (g : Nat) : Words (s.gateDown g) (altered f (GCH_STS + g) (putBits · 1 0 0)) := by
  unfold State.gateDown
  split
  · next hz =>
    refine ⟨h.ok, fun a => ?_⟩
    rw [h.drive] at hz
    rw [h.reg, altered]
    split
    · next ha => rw [ha, putBits_eq_self (by decide) hz]
    · rfl
  · exact (h.setFld (GCH_STS + g) 1 0 0).same (holdsEnd_regs _ g)

theorem gateDown_image : (s.gateDown g).image = s.image := (gateDown_outputs (onlyOutputs_refl s) g).image
theorem gateDown_mram : (s.gateDown g).mram = s.mram := (gateDown_outputs (onlyOutputs_refl s) g).mram
/-- The timers of a gate that was driven: the time to the off threshold begins, and its attempt timers stop (R181, R189). -/
theorem gateDown_timers (h : s.drive g ≠ 0) : (s.gateDown g).running (.gateOff g) = true ∧ (s.gateDown g).age (.gateOff g) = 0 ∧ (s.gateDown g).running (.inrush g) = false := by
  unfold State.gateDown
  rw [if_neg h]
  extract_lets s1
  have hlim : Timer.gateOff g ≠ .limit g := nofun
  have hin : Timer.gateOff g ≠ .inrush g := nofun
  have hboth : Timer.inrush g ≠ .limit g := nofun
  refine ⟨?_, ?_, ?_⟩
  · rw [running_holdsEnd _ _ (k := .gateOff g) nofun nofun]
    exact (running_stop_other (s1.stop (.inrush g)) hlim).trans ((running_stop_other s1 hin).trans (running_start_same _ _))
  · rw [age_holdsEnd _ _ (k := .gateOff g) nofun nofun]
    exact (age_stop_other (s1.stop (.inrush g)) hlim).trans ((age_stop_other s1 hin).trans (age_start _ _))
  · rw [running_holdsEnd _ _ (k := .inrush g) nofun nofun]
    exact (running_stop_other (s1.stop (.inrush g)) hboth).trans (running_stop_same s1 _)

theorem running_gateDown {k : Timer} (hk : gateDownSpares g k) : (s.gateDown g).running k = s.running k := by
  obtain ⟨hoff, hin, hlim, hb, hd⟩ := hk
  unfold State.gateDown
  split
  · rfl
  · extract_lets s1
    rw [running_holdsEnd _ _ hb hd]
    exact (running_stop_other (s1.stop (.inrush g)) hlim).trans ((running_stop_other s1 hin).trans (running_start_other _ hoff))

/-- A pull-down leaves the measured gate voltages. -/
theorem vgs_gateDown (x : Nat) : ((s.gateDown g).chan x).vgs = (s.chan x).vgs := by
  unfold State.gateDown
  split
  · rfl
  · extract_lets s1
    unfold State.chan
    rw [holdsEnd_channels]
    change ((find (putKey s.channels g _) x).getD {}).vgs = _
    by_cases hx : x = g
    · rw [hx, find_putKey_same]
      rfl
    · rw [find_putKey_other _ _ hx]

end GateDown

/-! ### A gate sources (R177, R181) -/

variable {s : State} {f : Nat → Word}

/-- Sourcing sets DRIVE to Sourcing and touches no other word. -/
theorem Words.gateSource (h : Words s f) (g : Nat) (timed : Bool) : Words (s.gateSource g timed) (altered f (GCH_STS + g) (putBits · 1 0 1)) := by
  unfold State.gateSource
  dsimp only
  split <;> exact (h.setFld (GCH_STS + g) 1 0 1).same

theorem gateSource_attempt (s : State) (g : Nat) (timed : Bool) : ((s.gateSource g timed).chan g).attempt = 0 := by
  have hc := congrArg ChanVar.attempt (chan_setChan (s.setFld (GCH_STS + g) 1 0 1) g fun v => { v with attempt := 0, source := s.sourceCurrent g })
  unfold State.gateSource
  dsimp only
  split <;> exact hc

theorem gateSource_inrush (s : State) (g : Nat) : (s.gateSource g true).running (.inrush g) = true ∧ (s.gateSource g true).age (.inrush g) = 0 :=
  ⟨running_start_same _ _, age_start _ _⟩

theorem gateSource_mram (s : State) (g : Nat) (timed : Bool) : (s.gateSource g timed).mram = s.mram := (gateSource_outputs (onlyOutputs_refl s) g timed).mram

theorem gateSource_untimed_running (s : State) (g : Nat) {k : Timer} (hk : k ≠ .gateOff g) : (s.gateSource g false).running k = s.running k := running_stop_other _ hk

/-! ### The records of contexts -/

theorem ctx_of_image {n m : State} (h : n.image = m.image) (c : Nat) : n.ctx? c = m.ctx? c := by simp only [State.ctx?, h]

theorem channelOf_of_image {n m : State} (h : n.image = m.image) (c : Nat) : n.channelOf c = m.channelOf c := by simp only [State.channelOf, ctx_of_image h]

theorem branch_ctx {c : Nat} {r : CtxRec} (h : s.branch? c = some r) : s.ctx? c = some r ∧ r.typ = .branch := by
  obtain ⟨hx, ht⟩ := Option.filter_eq_some_iff.mp h
  exact ⟨hx, of_decide_eq_true ht⟩

theorem string_ctx {c : Nat} {r : CtxRec} (h : s.string? c = some r) : s.ctx? c = some r ∧ r.typ = .string := by
  obtain ⟨hx, ht⟩ := Option.filter_eq_some_iff.mp h
  exact ⟨hx, of_decide_eq_true ht⟩

theorem owner_ctx {g : Nat} {r : CtxRec} (h : s.ownerRec g = some r) : s.ctx? r.ctx = some r := by
  obtain ⟨c, -, hc⟩ := Option.bind_eq_some_iff.mp h
  exact (ctx_number hc).symm ▸ hc

theorem directHang_string {r : CtxRec} (h : r.directHang = true) : r.typ = .string := by
  simp only [CtxRec.directHang, Bool.and_eq_true, beq_iff_eq] at h
  exact h.1

/-- The limit amplifier of a branch no longer regulates. -/
theorem clearLive_branch {c : Nat} {r : CtxRec} (hx : s.ctx? c = some r) (ht : r.typ = .branch) : s.clearLive c = s.setFlag (ctxAddr c BR_LIVE) 2 false := by
  simp only [State.clearLive, hx, ht, Option.map_some]

/-- The limit amplifier of a direct-hang string no longer regulates. -/
theorem clearLive_string {c : Nat} {r : CtxRec} (hx : s.ctx? c = some r) (ht : r.typ = .string) : s.clearLive c = s.setFld (ctxAddr c BAT_PSTS) 5 4 0 := by
  simp only [State.clearLive, hx, ht, Option.map_some]

end Sys2Proof
end
-- ==== Sys2Proof/Proofs/Channels/Raises.lean ====
section
/-! SUPPORT. What a raise may do to the words that feeds, branches and strings rest on, whatever safe state it forces (R349 to R357), and a raise against a context whose safe state pulls its own gate down (R353). -/

namespace Sys2Proof

open Machine

/-! ### What a raise may do to a word -/

/-- The changes of a word that a raise may make as far as gates and their owners are concerned: a status bit of a context is set and not cleared, EN of a control word is cleared and not set, and of a gate channel only DRIVE changes, which becomes Off. -/
structure Mild (a : Nat) (w x : Word) : Prop where
  status : ∀ c b, a = ctxAddr c CTX_STS → bit w b = true → bit x b = true
  control : ∀ c, a = ctxAddr c FEED_CTL → bit w 0 = false → bit x 0 = false
  channel : ∀ g, g < 16 → a = GCH_STS + g → (∀ b, 2 ≤ b → bit x b = bit w b) ∧ (bits w 1 0 = 0 → bits x 1 0 = 0)

namespace Mild

theorem refl (a : Nat) (w : Word) : Mild a w w := ⟨fun _ _ _ h => h, fun _ _ h => h, fun _ _ _ => ⟨fun _ _ => rfl, id⟩⟩

theorem trans {a : Nat} {w x y : Word} (h : Mild a w x) (h' : Mild a x y) : Mild a w y where
  status c b ha hb := h'.status c b ha (h.status c b ha hb)
  control c ha hb := h'.control c ha (h.control c ha hb)
  channel g hg ha := ⟨fun b hb => ((h'.channel g hg ha).1 b hb).trans ((h.channel g hg ha).1 b hb), fun hz => (h'.channel g hg ha).2 ((h.channel g hg ha).2 hz)⟩

/-- Any change of a word of the global pages that is no gate channel's. -/
theorem global {a : Nat} {w x : Word} (h : a < 0x1000) (hg : a < GCH_STS ∨ GCH_STS + 16 ≤ a) : Mild a w x where
  status c _ ha := absurd ha (global_ne_ctxAddr c _ h)
  control c ha := absurd ha (global_ne_ctxAddr c _ h)
  channel g _ ha := by omega

/-- Any change of a word of a context that is neither its status nor its control word. -/
theorem context {d k : Nat} {w x : Word} (hk : k < 0x40) (hs : k ≠ CTX_STS) (hc : k ≠ FEED_CTL) : Mild (ctxAddr d k) w x where
  status c _ ha := by
    simp only [ctxAddr, CTX_STS] at ha hs
    omega
  control c ha := by
    simp only [ctxAddr, FEED_CTL] at ha hc
    omega
  channel g hg ha := absurd ha (ctxAddr_ne_channel d k hg)

/-- A status bit of a context set. -/
theorem status_set (d b : Nat) (hb : b < 18) (w : Word) : Mild (ctxAddr d CTX_STS) w (putBit w b true) where
  status c n _ hn := by
    by_cases e : n = b
    · rw [e]
      exact bit_putBit_same true hb
    · exact (bit_putBit_other true hb e).trans hn
  control c ha := by
    simp only [ctxAddr, CTX_STS, FEED_CTL] at ha
    omega
  channel g hg ha := absurd ha (ctxAddr_ne_channel d _ hg)

/-- EN of a control word cleared. -/
theorem control_clear (d : Nat) (w : Word) : Mild (ctxAddr d FEED_CTL) w (putBit w 0 false) where
  status c b ha := by
    simp only [ctxAddr, CTX_STS, FEED_CTL] at ha
    omega
  control c _ _ := bit_putBit_same false (by decide)
  channel g hg ha := absurd ha (ctxAddr_ne_channel d _ hg)

/-- DRIVE of a gate channel cleared. -/
theorem gate_off (g : Nat) (hg : g < 16) (w : Word) : Mild (GCH_STS + g) w (putBits w 1 0 0) where
  status c _ ha := absurd ha (channel_ne_ctxAddr c _ hg)
  control c ha := absurd ha (channel_ne_ctxAddr c _ hg)
  channel _ _ _ := ⟨fun _ hb => bit_putBits_other (by decide) (by decide) (.inr (by omega)), fun _ => bits_putBits_same (by decide) (by decide)⟩

end Mild

/-- A later state under the same image of bytes, in which every word has changed only so. -/
structure MildlyChanged (s₀ s : State) : Prop where
  ok : RegsOk s
  image : s.image = s₀.image
  bytes : ∀ im, s.image = some im → ByteImage im
  mild : ∀ a, Mild a (s₀.reg a) (s.reg a)

namespace MildlyChanged

section Steps

variable {s₀ s : State}

theorem refl (hr : RegsOk s) (hb : ∀ im, s.image = some im → ByteImage im) : MildlyChanged s s := ⟨hr, rfl, hb, fun a => Mild.refl a _⟩

/-- A change beside the words and the image. -/
theorem same (h : MildlyChanged s₀ s) {m : State} (e : (m.regs, m.image) = (s.regs, s.image) := by rfl) : MildlyChanged s₀ m := by
  simp only [Prod.mk.injEq] at e
  obtain ⟨hr, hi⟩ := e
  exact ⟨(regsOk_of_regs hr).mpr h.ok, hi.trans h.image, hi ▸ h.bytes, fun a => reg_of_regs hr a ▸ h.mild a⟩

theorem ite {a b : State} {p : Prop} {d : Decidable p} (ha : MildlyChanged s₀ a) (hb : MildlyChanged s₀ b) : MildlyChanged s₀ (if p then a else b) := by
  split <;> assumption

theorem onlyIf (h : MildlyChanged s₀ s) {b : Bool} {f : State → State} (hf : ∀ m, MildlyChanged s₀ m → MildlyChanged s₀ (f m)) : MildlyChanged s₀ (s.onlyIf b f) := .ite (hf s h) h

theorem forEach {α : Type} (h : MildlyChanged s₀ s) {l : List α} {f : α → State → State} (hf : ∀ x ∈ l, ∀ m, MildlyChanged s₀ m → MildlyChanged s₀ (f x m)) : MildlyChanged s₀ (s.forEach l f) :=
  forEach_invariant hf h

/-- A word replaced by one that a raise may leave of it. -/
theorem setReg (h : MildlyChanged s₀ s) {a : Nat} {w : Word} (hm : Mild a (s.reg a) w) : MildlyChanged s₀ (s.setReg a w) := by
  refine ⟨setReg_regsOk h.ok a w, h.image, h.bytes, fun b => ?_⟩
  by_cases hb : b = a
  · rw [hb, reg_setReg_same h.ok]
    exact (h.mild a).trans hm
  · rw [reg_setReg_other h.ok w hb]
    exact h.mild b

theorem low (h : MildlyChanged s₀ s) {a : Nat} {w : Word} (ha : a < 0x1000 := by decide) (hg : a < GCH_STS ∨ GCH_STS + 16 ≤ a := by decide) : MildlyChanged s₀ (s.setReg a w) := h.setReg (Mild.global ha hg)

theorem setC (h : MildlyChanged s₀ s) {c k : Nat} {w : Word} (hk : k < 0x40 := by decide) (hs : k ≠ CTX_STS := by decide) (hc : k ≠ FEED_CTL := by decide) : MildlyChanged s₀ (s.setC c k w) :=
  h.setReg (Mild.context hk hs hc)

theorem setCode (h : MildlyChanged s₀ s) {c v : Nat} : MildlyChanged s₀ (s.setCode c v) := h.setC (c := c) (k := CTX_STATE)

theorem setHeld (h : MildlyChanged s₀ s) {c : Nat} {b : Bool} : MildlyChanged s₀ (s.setHeld c b) := h.setC (c := c) (k := CTX_STATE)

theorem setSafe (h : MildlyChanged s₀ s) {c : Nat} {b : Bool} : MildlyChanged s₀ (s.setSafe c b) := h.setC (c := c) (k := CTX_STATE)

theorem sts (h : MildlyChanged s₀ s) {c b : Nat} (hb : b < 18 := by decide) : MildlyChanged s₀ (s.sts c b) := h.setReg (Mild.status_set c b hb _)

theorem recorder (h : MildlyChanged s₀ s) {m : State} (e : OnlyRecorder s m) : MildlyChanged s₀ m := by
  have hi : m.image = s.image := e.field State.image fun _ _ _ => rfl
  have hlow : ∀ a ∈ recordWords, a < GCH_STS := by decide
  refine ⟨e.regsOk h.ok, hi.trans h.image, hi ▸ h.bytes, fun a => ?_⟩
  by_cases ha : a ∈ recordWords
  · exact Mild.global (Nat.lt_trans (hlow a ha) (by decide)) (.inl (hlow a ha))
  · exact e.reg h.ok ha ▸ h.mild a

theorem captureTime (h : MildlyChanged s₀ s) {v : Nat} : MildlyChanged s₀ (s.setWide FE_TIME 4 v) :=
  (((h.low (a := FE_TIME)).low (a := FE_TIME + 1)).low (a := FE_TIME + 2)).low (a := FE_TIME + 3)

theorem start (h : MildlyChanged s₀ s) {k : Timer} : MildlyChanged s₀ (s.start k) := h.same

theorem stop (h : MildlyChanged s₀ s) {k : Timer} : MildlyChanged s₀ (s.stop k) := h.same

theorem clearCount (h : MildlyChanged s₀ s) {k : Count} : MildlyChanged s₀ (s.clearCount k) := h.same

theorem alert (h : MildlyChanged s₀ s) {n : Nat} : MildlyChanged s₀ (s.alert n) := (h.low (a := HOST_ALERT)).same

/-! ### The safe states (R353) -/

theorem gateDown (h : MildlyChanged s₀ s) {g : Nat} (hg : g < 256) : MildlyChanged s₀ (s.gateDown g) := by
  have hoff : MildlyChanged s₀ (s.setFld (GCH_STS + g) 1 0 0) := by
    by_cases h16 : g < 16
    · exact h.setReg (Mild.gate_off g h16 _)
    · exact h.low (a := GCH_STS + g) (by simp only [GCH_STS]; omega) (.inr (by omega))
  have hends (m : State) (hm : MildlyChanged s₀ m) : MildlyChanged s₀ (m.holdsEnd g) := by
    unfold State.holdsEnd
    split
    · exact hm.same
    · exact hm
  exact .ite h (hends _ hoff.same)

theorem gateDownOf (h : MildlyChanged s₀ s) {c : Nat} : MildlyChanged s₀ (s.gateDownOf c) := by
  unfold State.gateDownOf
  split
  · next g hg => exact h.gateDown (channelOf_lt h.bytes hg)
  · exact h

theorem clearLive (h : MildlyChanged s₀ s) {c : Nat} : MildlyChanged s₀ (s.clearLive c) := by
  unfold State.clearLive
  split
  · exact h.setC (c := c) (k := BR_LIVE)
  · exact h.setC (c := c) (k := BAT_PSTS)
  · exact h

theorem groupStop (h : MildlyChanged s₀ s) {r : CtxRec} {lv : Level} : MildlyChanged s₀ (s.groupStop r lv) := by
  unfold State.groupStop
  extract_lets s1 s2 s3
  have h1 : MildlyChanged s₀ s1 := h.forEach fun p hp m hm => by
    have hp' := phases_lt hp
    exact .same (hm.low (a := PH_STS + p) (by simp only [PH_STS]; omega) (.inl (by simp only [PH_STS, GCH_STS]; omega)))
  have h2 : MildlyChanged s₀ s2 := h1.same
  have h3 : MildlyChanged s₀ s3 := ((h2.setC (c := r.ctx) (k := GRP_NACT)).setC (c := r.ctx) (k := GRP_FMEAS)).stop
  exact h3.stop.stop.stop.stop.clearCount.clearCount

theorem drivePin (h : MildlyChanged s₀ s) {i : Nat} : MildlyChanged s₀ (s.drivePin i) := .ite h h.same

theorem throttle (h : MildlyChanged s₀ s) {k : Nat} (hk : k < 16) : MildlyChanged s₀ (s.throttle k) := by
  have h1 : MildlyChanged s₀ (s.stop (.thrRel k)) := h.same
  refine .ite h (.ite h1 (.start (((h1.drivePin.low (a := THR_LIVE)).low (a := THR_STS)).low (a := THR_CNT + k) ?_ (.inr ?_))))
  · simp only [THR_CNT]
    omega
  · simp only [THR_CNT, GCH_STS]
    omega

theorem queueCmd (h : MildlyChanged s₀ s) {c code data : Nat} {safe : Bool} : MildlyChanged s₀ (s.queueCmd c code data safe) := by
  rw [queueCmd_rest]
  exact h.same

theorem railFall (h : MildlyChanged s₀ s) {c : Nat} : MildlyChanged s₀ (s.railFall c) := h.setCode.same

theorem dischargeOn (h : MildlyChanged s₀ s) {c : Nat} : MildlyChanged s₀ (s.dischargeOn c) := .ite (h.start.sts (b := 10)) h

theorem enterSafe (h : MildlyChanged s₀ s) {r : CtxRec} : MildlyChanged s₀ (s.enterSafe r) := by
  dsimp only [State.enterSafe]
  have h0 : MildlyChanged s₀ (s.setSafe r.ctx true) := h.setSafe
  split
  · exact .ite (h0.gateDownOf.setCode.sts (b := stsFeedLatch)) h0
  · have h1 : MildlyChanged s₀ ((s.setSafe r.ctx true).setFlag (ctxAddr r.ctx RECT_CTL) 0 false) := h0.setReg (Mild.control_clear r.ctx _)
    exact .ite (.drivePin h1.same) h1
  · exact .ite (h0.gateDownOf.clearLive.setCode.sts (b := stsDhLatch)).stop (.ite (h0.setC (k := BAT_IDPERM)).setC (h0.setC (k := CHG_ICREQ)))
  · have h1 {lv : Level} : MildlyChanged s₀ (((((s.setSafe r.ctx true).groupStop r lv).setCode r.ctx 7).sts r.ctx stsGroupLatch).setHeld r.ctx false) := (h0.groupStop.setCode.sts (b := stsGroupLatch)).setHeld
    exact .ite h0 (.ite h1.start h1)
  · have h1 : MildlyChanged s₀ (((((s.setSafe r.ctx true).gateDownOf r.ctx).clearLive r.ctx).setCode r.ctx 5).stop (.cool r.ctx)) := h0.gateDownOf.clearLive.setCode.stop
    have h2 := (h1.setC (c := r.ctx) (k := BR_COOLREM) (w := 0)).sts (c := r.ctx) (b := stsBranchLatch)
    split
    · next hk => exact h2.throttle hk.2
    · exact h2
  · exact .ite h0.queueCmd h0.queueCmd
  · split
    · exact .same (.onlyIf (.ite h0.railFall (.ite h0.setCode.stop h0)) fun _ h => h.dischargeOn)
    · exact .onlyIf (.ite h0.railFall (.ite h0.setCode.stop h0)) fun _ h => h.dischargeOn
  · exact h0
  · exact h0

theorem safeOne (h : MildlyChanged s₀ s) {r : CtxRec} : MildlyChanged s₀ (s.safeOne r) := by
  dsimp only [State.safeOne]
  split
  · exact .ite (.forEach h.setSafe (fun _ _ _ h => .ite h h.enterSafe)) h.setSafe
  · exact h
  · exact .ite h h.enterSafe

theorem applySafe (h : MildlyChanged s₀ s) {c : Nat} : MildlyChanged s₀ (s.applySafe c) := by
  dsimp only [State.applySafe]
  split
  · exact h
  · exact .ite (.forEach (.ite (.forEach h.setSafe (fun k hk _ h => h.throttle (List.mem_range.mp hk))) h.setSafe) (fun _ _ _ h => h.safeOne)) h.safeOne

/-! ### The raise -/

theorem capture (h : MildlyChanged s₀ s) {r : Raise} {c e : Nat} {esc : Bool} : MildlyChanged s₀ (s.capture r c e esc) :=
  .ite h (((h.low (a := FE_INFO)).low (a := FE_SRC)).low (a := FE_ADDR)).captureTime

theorem raiseCount (h : MildlyChanged s₀ s) {r : Raise} {c e sev : Nat} : MildlyChanged s₀ (s.raiseCount r c e sev) := by
  unfold State.raiseCount
  extract_lets pend s1 flt s2
  have h1 : MildlyChanged s₀ s1 := (h.low (a := FLT_CNT)).onlyIf fun _ h => h.low (a := FLT_ESCCNT)
  have h2 : MildlyChanged s₀ s2 := h1.same
  exact ((h2.sts (b := 0)).setC (k := CTX_SEV)).capture

theorem raiseLog (h : MildlyChanged s₀ s) {x : LogEntry} : MildlyChanged s₀ (s.raiseLog x) := by
  have h1 : MildlyChanged s₀ (s.recordEntry x).1 := by
    unfold State.recordEntry
    split
    · exact h.recorder (writeLane_only s _)
    · exact h
  exact .ite h1.same (h.low (a := FLT_LOGOVF))

theorem unconfirm (h : MildlyChanged s₀ s) : MildlyChanged s₀ s.unconfirm := by
  unfold State.unconfirm
  split
  · exact .ite (.same ((((h.low (a := UPD_STS)).low (a := UPD_STS)).low (a := LRN_STS)).low (a := UPD_ARB))) h
  · exact h

theorem raiseBook (h : MildlyChanged s₀ s) {r : Raise} {c : Nat} : MildlyChanged s₀ (s.raiseBook r c) :=
  have h1 : MildlyChanged s₀ (if r.lane then { s with flt := { s.flt with laneRaises := s.flt.laneRaises ++ [(c, r.cls, r.site, s.epoch)] } } else s) := .ite h.same h
  .ite h1.unconfirm.same h1

theorem raiseSnap (h : MildlyChanged s₀ s) {cls c : Nat} : MildlyChanged s₀ (s.raiseSnap cls c) := .ite h.same h

theorem raisePins (h : MildlyChanged s₀ s) {react : Nat} : MildlyChanged s₀ (s.raisePins react) :=
  have h1 : MildlyChanged s₀ (if react.testBit 1 then { s with flt := { s.flt with pulse := true } }.start .fltPulse else s) := .ite h.same h
  .ite h1.alert h1

theorem raiseAct (h : MildlyChanged s₀ s) {c : Nat} {force due : Bool} : MildlyChanged s₀ (s.raiseAct c force due) := .ite h.applySafe (.ite h.same h)

theorem raise (h : MildlyChanged s₀ s) {r : Raise} : MildlyChanged s₀ (s.raise r) := .ite h.same h.raiseCount.raiseLog.raiseBook.raiseSnap.raisePins.raiseAct

theorem laneRaise (h : MildlyChanged s₀ s) {cls c : Nat} {sev : Option Nat} {site : Nat} : MildlyChanged s₀ (s.laneRaise cls c sev site) := h.raise

end Steps

section Readings

variable {s n : State} (h : MildlyChanged s n)

include h

theorem status {c b : Nat} (hb : s.flag (ctxAddr c CTX_STS) b = true) : n.flag (ctxAddr c CTX_STS) b = true := (h.mild _).status c b rfl hb

theorem enable {c : Nat} (hb : bit (s.cw c FEED_CTL) 0 = false) : bit (n.cw c FEED_CTL) 0 = false := (h.mild _).control c rfl hb

theorem channelFlag {g b : Nat} (hg : g < 16) (hb : 2 ≤ b) : n.flag (GCH_STS + g) b = s.flag (GCH_STS + g) b := ((h.mild _).channel g hg rfl).1 b hb

theorem off {g : Nat} (hg : g < 16) (hz : s.drive g = 0) : n.drive g = 0 := ((h.mild _).channel g hg rfl).2 hz

end Readings

end MildlyChanged

/-! ### A raise against a context that owns a gate -/

/-- The timers and the measured gates of a state, which a raise leaves before its safe state. -/
def timersAndChannels (s : State) : List (Timer × Nat) × List (Nat × ChanVar) := (s.timers, s.channels)

theorem setWide_timersAndChannels (s : State) (a n v : Nat) : timersAndChannels (State.setWide s a n v) = timersAndChannels s := by
  induction n generalizing s a v with
  | zero => rfl
  | succ n ih => exact ih _ _ _

theorem raiseCount_timersAndChannels (s : State) (r : Raise) (c e sev : Nat) : timersAndChannels (s.raiseCount r c e sev) = timersAndChannels s := by
  have hcap (m : State) (esc : Bool) : timersAndChannels (m.capture r c e esc) = timersAndChannels m := by
    unfold State.capture
    split
    · rfl
    · exact setWide_timersAndChannels _ _ _ _
  unfold State.raiseCount
  extract_lets pend s1 flt s2
  have h1 : timersAndChannels s1 = timersAndChannels s := by
    simp only [s1, State.onlyIf]
    split <;> rfl
  exact (hcap _ _).trans h1

theorem raiseLog_timersAndChannels (s : State) (x : LogEntry) : timersAndChannels (s.raiseLog x) = timersAndChannels s := by
  have hrec : timersAndChannels (s.recordEntry x).1 = timersAndChannels s := by
    unfold State.recordEntry
    split
    · exact (writeLane_only s _).field timersAndChannels fun _ _ _ => rfl
    · rfl
  unfold State.raiseLog
  split
  · exact hrec
  · rfl

theorem raiseBook_timersAndChannels (s : State) {r : Raise} (hr : r.cls < 13) (c : Nat) : timersAndChannels (s.raiseBook r c) = timersAndChannels s := by
  unfold State.raiseBook
  rw [if_neg (by omega)]
  split <;> rfl

theorem raiseSnap_timersAndChannels (s : State) (cls c : Nat) : timersAndChannels (s.raiseSnap cls c) = timersAndChannels s := by
  unfold State.raiseSnap
  split <;> rfl

theorem raisePins_channels (s : State) (react : Nat) : (s.raisePins react).channels = s.channels := by
  have hpulse : (if react.testBit 1 then { s with flt := { s.flt with pulse := true } }.start .fltPulse else s).channels = s.channels := by
    split <;> rfl
  unfold State.raisePins
  dsimp only
  split <;> exact hpulse

theorem raisePins_running (s : State) (react : Nat) {k : Timer} (hk : k ≠ .fltPulse) : (s.raisePins react).running k = s.running k := by
  have hpulse : (if react.testBit 1 then { s with flt := { s.flt with pulse := true } }.start .fltPulse else s).running k = s.running k := by
    split
    · exact running_start_other _ hk
    · rfl
  unfold State.raisePins
  dsimp only
  split <;> exact hpulse

/-- What a raise leaves, before its safe state, of what that rests on: the image, the state code of its context, the measured gates, and every timer but that of FLT_N. -/
structure RaiseReady (c : Nat) (s m : State) : Prop where
  ok : RegsOk m
  image : m.image = s.image
  code : m.code c = s.code c
  channels : m.channels = s.channels
  running : ∀ k, k ≠ .fltPulse → m.running k = s.running k

/-- A raise of a class below 13 ends with the safe state at once, or with nothing outside the collector (R351, R352). -/
theorem raise_acts {s : State} (h : RegsOk s) {r : Raise} (hcls : r.cls < 13) (hx : (s.ctx? r.ctx).isSome = true) :
    ∃ (m : State) (x : Collector), RaiseReady r.ctx s m ∧ (s.raise r = { m with flt := x } ∨ s.raise r = m.applySafe r.ctx) := by
  unfold State.raise
  extract_lets c _ j e due force entry
  have hc : c = r.ctx := if_pos hx
  clear_value c
  subst hc
  split
  · exact ⟨s, _, ⟨h, rfl, rfl, rfl, fun _ _ => rfl⟩, .inl rfl⟩
  · have hcalm : Calm r.ctx s (((((s.raiseCount r r.ctx e j.1).raiseLog entry).raiseBook r r.ctx).raiseSnap r.cls r.ctx).raisePins j.2) :=
      ((((Calm.refl s).raiseCount).raiseLog.raiseBook hcls).raiseSnap).raisePins
    have himg : (((((s.raiseCount r r.ctx e j.1).raiseLog entry).raiseBook r r.ctx).raiseSnap r.cls r.ctx).raisePins j.2).image = s.image :=
      OnlyFault.image (raisePins_fault (raiseSnap_fault (raiseBook_fault (raiseLog_fault (raiseCount_fault (onlyFault_refl s) _ _ _ _) _) _ _) _ _) _)
    have hgates : timersAndChannels ((((s.raiseCount r r.ctx e j.1).raiseLog entry).raiseBook r r.ctx).raiseSnap r.cls r.ctx) = timersAndChannels s :=
      (raiseSnap_timersAndChannels _ _ _).trans ((raiseBook_timersAndChannels _ hcls _).trans ((raiseLog_timersAndChannels _ _).trans (raiseCount_timersAndChannels _ _ _ _ _)))
    simp only [timersAndChannels, Prod.mk.injEq] at hgates
    obtain ⟨htimers, hchannels⟩ := hgates
    have hchan := (raisePins_channels ((((s.raiseCount r r.ctx e j.1).raiseLog entry).raiseBook r r.ctx).raiseSnap r.cls r.ctx) j.2).trans hchannels
    have hrun (k : Timer) (hk : k ≠ .fltPulse) : (((((s.raiseCount r r.ctx e j.1).raiseLog entry).raiseBook r r.ctx).raiseSnap r.cls r.ctx).raisePins j.2).running k = s.running k := by
      rw [raisePins_running _ _ hk]
      simp only [State.running, htimers]
    generalize ((((s.raiseCount r r.ctx e j.1).raiseLog entry).raiseBook r r.ctx).raiseSnap r.cls r.ctx).raisePins j.2 = m at hcalm himg hchan hrun ⊢
    obtain ⟨hok, -, hcode, -⟩ := hcalm h
    unfold State.raiseAct
    split
    · exact ⟨m, m.flt, ⟨hok, himg, hcode, hchan, hrun⟩, .inr rfl⟩
    · split
      · exact ⟨m, _, ⟨hok, himg, hcode, hchan, hrun⟩, .inl rfl⟩
      · exact ⟨m, m.flt, ⟨hok, himg, hcode, hchan, hrun⟩, .inl rfl⟩

/-- The state code in which a context with a gate is latched (R187, R201, R216). -/
def latchedCode : CtxType → Nat
  | .feed => 7
  | _ => 5

/-- A context that may own a gate channel. -/
def ownsGate (r : CtxRec) : Prop := r.typ = .feed ∨ r.typ = .branch ∨ r.typ = .string

theorem applySafe_own {s : State} {c : Nat} {r : CtxRec} (hx : s.ctx? c = some r) (ht : ownsGate r) : s.applySafe c = if s.safe c then s else s.enterSafe r := by
  have hc := ctx_number hx
  unfold State.applySafe State.safeOne
  rcases ht with ht | ht | ht <;> simp only [hx, ht, reduceCtorEq, if_false, hc]

theorem code_throttle {s : State} (h : RegsOk s) (k c : Nat) (hk : k < 16) : (s.throttle k).code c = s.code c := by
  have hn : ∀ a < 0x1000, ctxAddr c CTX_STATE ≠ a := fun a ha => ctxAddr_ne_global c CTX_STATE ha
  unfold State.throttle
  split
  · rfl
  · extract_lets s1
    split
    · rfl
    · have hpin : ((s.stop (.thrRel k)).drivePin (0x30 + k)).regs = s.regs := by
        unfold State.drivePin
        split <;> rfl
      have hw := ((((Words.refl h).same hpin).setFlag THR_LIVE k true).setFlag THR_STS k true).inc (THR_CNT + k)
      refine (hw.code c).trans ?_
      rw [altered_other _ _ (hn _ (by simp only [THR_CNT]; omega)), altered_other _ _ (hn _ (by decide)), altered_other _ _ (hn _ (by decide))]
      rfl

/-- The safe state of a latched feed, branch or string leaves it latched (R353). -/
theorem enterSafe_latched {s : State} (h : RegsOk s) {r : CtxRec} (ht : ownsGate r) (hv : s.code r.ctx = latchedCode r.typ) : (s.enterSafe r).code r.ctx = latchedCode r.typ := by
  have h0 : RegsOk (s.setSafe r.ctx true) := setReg_regsOk h _ _
  have hsafe : (s.setSafe r.ctx true).code r.ctx = latchedCode r.typ := (code_setSafe h r.ctx true).trans hv
  have hdown : RegsOk ((s.setSafe r.ctx true).gateDownOf r.ctx) := (gateDownOf_outputs (onlyOutputs_refl _) r.ctx).2 h0
  have hlive : RegsOk (((s.setSafe r.ctx true).gateDownOf r.ctx).clearLive r.ctx) := (clearLive_outputs (onlyOutputs_refl _) r.ctx).2 hdown
  unfold State.enterSafe
  rcases ht with ht | ht | ht <;> simp only [ht, latchedCode] at hsafe ⊢
  case inl =>
    split
    · exact (code_sts (setReg_regsOk hdown _ _) _ _ _ (by simp)).trans (code_setCode hdown _ (by decide))
    · exact hsafe
  case inr.inl =>
    have hw := ((((Words.refl hlive).setCode r.ctx 5).stop (.cool r.ctx)).setC r.ctx BR_COOLREM 0).sts r.ctx stsBranchLatch
    have h5 := (hw.code r.ctx).trans (by simp [altered, bits_putBits_same] : _ = 5)
    split
    · next hk => exact (code_throttle hw.ok _ _ hk.2).trans h5
    · exact h5
  case inr.inr =>
    split
    · exact (code_sts (setReg_regsOk hlive _ _) _ _ _ (by simp)).trans (code_setCode hlive _ (by decide))
    · have hrest {m : State} (hm : RegsOk m) {k : Nat} (hk : CTX_STATE ≠ k) : (m.setC r.ctx k 0).code r.ctx = m.code r.ctx := congrArg (fun w => bits w 7 0) (cw_setC_other hm r.ctx 0 hk)
      split
      · exact (hrest (setReg_regsOk h0 _ _) (by decide)).trans ((hrest h0 (by decide)).trans hsafe)
      · exact (hrest h0 (by decide)).trans hsafe

theorem applySafe_latched {s : State} (h : RegsOk s) {c : Nat} {r : CtxRec} (hx : s.ctx? c = some r) (ht : ownsGate r) (hv : s.code c = latchedCode r.typ) : (s.applySafe c).code c = latchedCode r.typ := by
  have hn := ctx_number hx
  rw [applySafe_own hx ht]
  split
  · exact hv
  · exact hn ▸ enterSafe_latched h ht (hn.symm ▸ hv)

/-- What a lane's raise against a latched feed, branch or string leaves: it is still latched, the class stands unacknowledged unless the outgoing lane had raised it (R358), and the words have changed as a raise may change them. -/
structure LatchRaised (c cls : Nat) (r : CtxRec) (m n : State) : Prop where
  code : n.code c = latchedCode r.typ
  faulted : m.flt.matches_ = [] → Faulted n c cls
  mild : MildlyChanged m n
  only : OnlyFault m n

section Latched

variable {m : State} (h : RegsOk m) (hb : ∀ im, m.image = some im → ByteImage im) {c : Nat} {r : CtxRec} (hx : m.ctx? c = some r) (ht : ownsGate r) (hv : m.code c = latchedCode r.typ) {cls : Nat} (hcls : cls < 13) (site : Nat)

include h hb hx ht hv hcls

theorem laneRaise_latched : LatchRaised c cls r m (m.laneRaise cls c none site) := by
  have hsome : (m.ctx? c).isSome = true := Option.isSome_iff_exists.mpr ⟨r, hx⟩
  refine ⟨?_, laneRaise_faulted m cls c none site hsome, (MildlyChanged.refl h hb).laneRaise, laneRaise_fault (onlyFault_refl m) cls c none site⟩
  obtain ⟨k, x, ⟨hok, himg, hcode, -, -⟩, hk⟩ := raise_acts h (r := { cls := cls, ctx := c, sev := none, site := site, init := m.laneOrigin, lane := true }) hcls hsome
  have hlatched : k.code c = latchedCode r.typ := hcode.trans hv
  unfold State.laneRaise
  rcases hk with hk | hk
  · rw [hk]
    exact hlatched
  · rw [hk]
    exact applySafe_latched hok ((ctx_of_image himg c).trans hx) ht hlatched

/-- The same after the safe state of the context, which its latch enters (R201, R216). -/
theorem safe_laneRaise_latched : LatchRaised c cls r m ((m.applySafe c).laneRaise cls c none site) := by
  have hsafe := (MildlyChanged.refl h hb).applySafe (c := c)
  have hcode := applySafe_latched h hx ht hv
  have hflt := applySafe_flt m c
  have hout := (applySafe_outputs (onlyOutputs_refl m) c).fault
  obtain ⟨hcode', hfaulted, -, hraise⟩ := laneRaise_latched hsafe.ok hsafe.bytes ((ctx_of_image hsafe.image c).trans hx) ht hcode hcls site
  exact ⟨hcode', fun hf => hfaulted (hflt.symm ▸ hf), hsafe.laneRaise, onlyFault_trans hout hraise⟩

end Latched

end Sys2Proof
end
-- ==== Sys2Proof/Proofs/Channels/Branches.lean ====
section
/-! O30: a branch starts, reaches On, limits, drops its power-good, ends its Cool-down and stops (R198 to R202, R205). -/

namespace Sys2Proof

open Machine

variable {s : State}

/-! ### Inrush begins (R201) -/

theorem Words.brInrush {f : Nat → Word} (h : Words s f) (r : CtxRec) :
    Words (s.brInrush r) (altered (altered f (GCH_STS + r.a0) (putBits · 1 0 1)) (ctxAddr r.ctx CTX_STATE) (putBits · 7 0 1)) :=
  ((h.gateSource r.a0 true).setCode r.ctx 1).stop (.cool r.ctx)

theorem brInrush_rest (s : State) (r : CtxRec) :
    (s.brInrush r).running (.inrush r.a0) = true ∧ (s.brInrush r).age (.inrush r.a0) = 0 ∧ (s.brInrush r).running (.cool r.ctx) = false ∧ ((s.brInrush r).chan r.a0).attempt = 0 ∧
      (s.brInrush r).mram = s.mram := by
  obtain ⟨hrun, hage⟩ := gateSource_inrush s r.a0
  have hne : Timer.inrush r.a0 ≠ .cool r.ctx := nofun
  exact ⟨(running_stop_other _ hne).trans hrun, (age_stop_other _ hne).trans hage, running_stop_same _ _, gateSource_attempt s r.a0 true, gateSource_mram s r.a0 true⟩

/-- EN 1 in Off begins with no retry counted and the safe state left (R202, R354). -/
theorem Words.brFresh (h : RegsOk s) (c : Nat) :
    Words ((s.setC c BR_RETRYCNT 0).setSafe c false) (altered (altered s.reg (ctxAddr c BR_RETRYCNT) fun _ => 0) (ctxAddr c CTX_STATE) (putBit · 10 false)) :=
  ((Words.refl h).setC c BR_RETRYCNT 0).setSafe c false

/-- Whether the FET is cool does not rest on those words. -/
theorem brCool_fresh (h : RegsOk s) (c : Nat) : ((s.setC c BR_RETRYCNT 0).setSafe c false).brCool c = s.brCool c := by
  have hw := Words.brFresh h c
  have hmeas : ((s.setC c BR_RETRYCNT 0).setSafe c false).cw c CTX_TMEAS = s.cw c CTX_TMEAS := (hw.cw _ _).trans (by simp [altered, State.cw])
  have hgoal : ((s.setC c BR_RETRYCNT 0).setSafe c false).cw c BR_TJRESTART = s.cw c BR_TJRESTART := (hw.cw _ _).trans (by simp [altered, State.cw])
  unfold State.brCool
  rw [hmeas, hgoal]

theorem brTurnOn_cool (h : RegsOk s) {r : CtxRec} (hcool : s.brCool r.ctx = true) : s.brTurnOn r = ((s.setC r.ctx BR_RETRYCNT 0).setSafe r.ctx false).brInrush r :=
  if_pos ((brCool_fresh h r.ctx).trans hcool)

theorem brTurnOn_hot (h : RegsOk s) {r : CtxRec} (hcool : s.brCool r.ctx = false) :
    s.brTurnOn r = (((s.setC r.ctx BR_RETRYCNT 0).setSafe r.ctx false).setCode r.ctx 4).start (.cool r.ctx) :=
  if_neg (Bool.eq_false_iff.mp ((brCool_fresh h r.ctx).trans hcool))

/-! ### BRANCH_ENABLE (R201, R202) -/

/-- In Off with EN 1 the instruction is the branch's start. -/
theorem branchEnable_exec {c t : Nat} {r : CtxRec} (hw : s.works = true) (hb : s.branch? c = some r) (hen : s.brEn c = true) (hc : s.code c = 0) :
    exec (.branchEnable c t) s = finish (s.at t) ((s.at t).brTurnOn r) := by
  have hb' : (s.at t).branch? c = some r := hb
  have hen' : (s.at t).brEn c = true := hen
  simp [exec, execBranchEnable, hw, hb', hen', hc]

theorem branch_starts (c t : Nat) (r : CtxRec) (s : State) (hr : RegsOk s) (hw : s.works = true) (hb : s.branch? c = some r) (ha : r.a0 < 16) (hen : s.brEn c = true) (hc : s.code c = 0) (hcool : s.brCool c = true) :
    ∃ n, exec (.branchEnable c t) s = .next n ∧ n.code c = 1 ∧ n.cw c BR_RETRYCNT = 0 ∧ n.safe c = false ∧ n.drive r.a0 = 1 ∧ n.running (.inrush r.a0) = true ∧ n.age (.inrush r.a0) = 0 ∧
      (n.chan r.a0).attempt = 0 ∧ Kept s n [ctxAddr c BR_RETRYCNT, ctxAddr c CTX_STATE, ctxAddr c BR_LIVE, GCH_STS + r.a0] ∧ n.mram = s.mram := by
  have e := branchEnable_exec (t := t) hw hb hen hc
  obtain rfl := ctx_number (branch_ctx hb).1
  rw [brTurnOn_cool (s := s.at t) hr hcool] at e
  have hwords := (Words.brFresh (s := s.at t) hr r.ctx).brInrush r
  obtain ⟨hrun, hage, -, hatt, hmram⟩ := brInrush_rest (((s.at t).setC r.ctx BR_RETRYCNT 0).setSafe r.ctx false) r
  have hch (k : Nat) := ctxAddr_ne_channel r.ctx k ha
  have hch' (k : Nat) := channel_ne_ctxAddr r.ctx k ha
  refine ⟨_, e, (hwords.code _).trans ?_, (hwords.cw _ _).trans ?_, (hwords.safe _).trans ?_, (hwords.drive _).trans ?_, hrun, hage, hatt, hwords.kept fun a hl => ?_, hmram⟩
  · simp [altered, bits_putBits_same]
  · simp [altered, hch]
  · simp [altered, hch, bit_putBits_other]
  · simp [altered, hch', bits_putBits_same]
  · simp_all [altered]

theorem branch_cools_first (c t : Nat) (r : CtxRec) (s : State) (hr : RegsOk s) (hw : s.works = true) (hb : s.branch? c = some r) (hen : s.brEn c = true) (hc : s.code c = 0) (hcool : s.brCool c = false) :
    ∃ n, exec (.branchEnable c t) s = .next n ∧ n.code c = 4 ∧ n.cw c BR_RETRYCNT = 0 ∧ n.running (.cool c) = true ∧ n.age (.cool c) = 0 ∧ Kept s n [ctxAddr c BR_RETRYCNT, ctxAddr c CTX_STATE] ∧ n.mram = s.mram := by
  have e := branchEnable_exec (t := t) hw hb hen hc
  obtain rfl := ctx_number (branch_ctx hb).1
  rw [brTurnOn_hot (s := s.at t) hr hcool] at e
  have hwords := ((Words.brFresh (s := s.at t) hr r.ctx).setCode r.ctx 4).start (.cool r.ctx)
  refine ⟨_, e, (hwords.code _).trans ?_, (hwords.cw _ _).trans ?_, running_start_same _ _, age_start _ _, hwords.kept fun a hl => ?_, rfl⟩
  · simp [altered, bits_putBits_same]
  · simp [altered]
  · simp_all [altered]

/-! ### BRANCH_DISABLE (R201, R205) -/

/-- A branch switched off has its gate down, its limit bit and its remaining Cool-down cleared, and is Off. -/
theorem Words.brTurnOff {f : Nat → Word} (h : Words s f) {r : CtxRec} (hx : s.ctx? r.ctx = some r) (ht : r.typ = .branch) :
    Words (s.brTurnOff r) (altered (altered (altered (altered f (GCH_STS + r.a0) (putBits · 1 0 0)) (ctxAddr r.ctx BR_LIVE) (putBit · 2 false)) (ctxAddr r.ctx CTX_STATE) (putBits · 7 0 0)) (ctxAddr r.ctx BR_COOLREM) fun _ => 0) := by
  unfold State.brTurnOff
  dsimp only
  rw [clearLive_branch ((ctx_of_image (gateDown_image s r.a0) r.ctx).trans hx) ht]
  exact ((((h.gateDown r.a0).setFlag (ctxAddr r.ctx BR_LIVE) 2 false).setCode r.ctx 0).stop (.cool r.ctx)).setC r.ctx BR_COOLREM 0

theorem brTurnOff_mram (s : State) (r : CtxRec) : (s.brTurnOff r).mram = s.mram := (clearLive_outputs (gateDown_outputs (onlyOutputs_refl s) r.a0) r.ctx).mram

theorem branch_stops (c t : Nat) (r : CtxRec) (s : State) (hr : RegsOk s) (hw : s.works = true) (hb : s.branch? c = some r) (ha : r.a0 < 16) (hen : s.brEn c = false) (hc : s.code c ≠ 0) :
    ∃ n, exec (.branchDisable c t) s = .next n ∧ n.code c = 0 ∧ n.drive r.a0 = 0 ∧ n.flag (ctxAddr c BR_LIVE) 2 = false ∧ n.cw c BR_COOLREM = 0 ∧ n.running (.cool c) = false ∧
      n.cw c BR_RETRYCNT = s.cw c BR_RETRYCNT ∧ n.cw c CTX_STS = s.cw c CTX_STS ∧
      Kept s n [ctxAddr c BR_LIVE, ctxAddr c CTX_STATE, ctxAddr c BR_COOLREM, GCH_STS + r.a0] ∧ n.mram = s.mram := by
  obtain ⟨hx, ht⟩ := branch_ctx hb
  have hb' : (s.at t).branch? c = some r := hb
  have hen' : (s.at t).brEn c = false := hen
  have e : exec (.branchDisable c t) s = finish (s.at t) ((s.at t).brTurnOff r) := by
    simp [exec, execBranchDisable, hw, hb', hen', hc]
  obtain rfl := ctx_number hx
  have hwords := (Words.refl (s := s.at t) hr).brTurnOff hx ht
  have hch (k : Nat) := ctxAddr_ne_channel r.ctx k ha
  have hch' (k : Nat) := channel_ne_ctxAddr r.ctx k ha
  refine ⟨_, e, (hwords.code _).trans ?_, (hwords.drive _).trans ?_, (hwords.flag _ _).trans ?_, (hwords.cw _ _).trans ?_, running_stop_same _ _, (hwords.cw _ _).trans ?_, (hwords.cw _ _).trans ?_,
    hwords.kept fun a hl => ?_, brTurnOff_mram _ r⟩
  · simp [altered, bits_putBits_same]
  · simp [altered, hch', bits_putBits_same]
  · simp [altered, hch]
  · simp [altered]
  · simp [altered, hch, State.cw]
  · simp [altered, hch, State.cw]
  · simp_all [altered]

/-! ### BRANCH_COOLDOWN_END and BR_COOLREM_UPDATE (R198, R201) -/

theorem branch_restarts (c t : Nat) (r : CtxRec) (s : State) (hr : RegsOk s) (hw : s.works = true) (hb : s.branch? c = some r) (ha : r.a0 < 16) (hc : s.code c = 4) (hen : s.brEn c = true)
    (he : (s.at t).expired (.cool c) (s.cw c BR_COOLMIN) = true) (hcool : s.brCool c = true) :
    ∃ n, exec (.branchCooldownEnd c t) s = .next n ∧ n.code c = 1 ∧ n.drive r.a0 = 1 ∧ n.cw c BR_COOLREM = 0 ∧ n.running (.cool c) = false ∧ n.running (.inrush r.a0) = true ∧ n.cw c BR_RETRYCNT = s.cw c BR_RETRYCNT ∧
      Kept s n [ctxAddr c CTX_STATE, ctxAddr c BR_COOLREM, ctxAddr c BR_LIVE, GCH_STS + r.a0] ∧ n.mram = s.mram := by
  have hb' : (s.at t).branch? c = some r := hb
  have hen' : (s.at t).brEn c = true := hen
  have hcool' : (s.at t).brCool c = true := hcool
  have e : exec (.branchCooldownEnd c t) s = finish (s.at t) (((s.at t).brInrush r).setC c BR_COOLREM 0) := by
    simp [exec, execBranchCooldownEnd, hw, hb', hen', hc, he, hcool']
  obtain rfl := ctx_number (branch_ctx hb).1
  have hwords := ((Words.refl (s := s.at t) hr).brInrush r).setC r.ctx BR_COOLREM 0
  obtain ⟨hrun, -, hcoolOff, -, hmram⟩ := brInrush_rest (s.at t) r
  have hch (k : Nat) := ctxAddr_ne_channel r.ctx k ha
  have hch' (k : Nat) := channel_ne_ctxAddr r.ctx k ha
  refine ⟨_, e, (hwords.code _).trans ?_, (hwords.drive _).trans ?_, (hwords.cw _ _).trans ?_, hcoolOff, hrun, (hwords.cw _ _).trans ?_, hwords.kept fun a hl => ?_, hmram⟩
  · simp [altered, bits_putBits_same]
  · simp [altered, hch', bits_putBits_same]
  · simp [altered]
  · simp [altered, hch, State.cw]
  · simp_all [altered]

theorem coolrem_updated (c t : Nat) (r : CtxRec) (s : State) (hr : RegsOk s) (hw : s.works = true) (hb : s.branch? c = some r) :
    ∃ n, exec (.brCoolremUpdate c t) s = .next n ∧ n.cw c BR_COOLREM = (if s.code c = 4 then (s.at t).coolRem r else 0) ∧ Kept s n [ctxAddr c BR_COOLREM] ∧ OnlyRegs (s.at t) n := by
  have h0 : RegsOk (s.at t) := hr
  have hb' : (s.at t).branch? c = some r := hb
  have e : exec (.brCoolremUpdate c t) s = finish (s.at t) ((s.at t).setC c BR_COOLREM (if s.code c = 4 then (s.at t).coolRem r else 0)) := by
    simp [exec, execBrCoolremUpdate, hw, hb']
  exact ⟨_, e, cw_setC_same h0 c BR_COOLREM _, kept_setReg h0 _ (by simp), rfl⟩

/-! ### BRANCH_POWER_GOOD and BRANCH_POWER_GOOD_DROP (R200, R201) -/

theorem branch_reaches_on (c t : Nat) (r : CtxRec) (s : State) (hr : RegsOk s) (hb : s.branch? c = some r) (hen : s.enhanced r.a0 = true) (hd : s.drive r.a0 ≠ 0) (hup : 8 ≤ s.count (.brPg c)) (hc : s.code c = 1)
    (_hpg : s.flag (ctxAddr c BR_LIVE) 0 = false) :
    ∃ n, exec (.branchPowerGood c t) s = .next n ∧ n.flag (ctxAddr c BR_LIVE) 0 = true ∧ n.code c = 2 ∧ n.cw c BR_EATT = toEF (s.chan r.a0).attempt ∧ n.running (.inrush r.a0) = false ∧ n.running (.brPgHeld c) = true ∧
      n.age (.brPgHeld c) = 0 ∧ Kept s n [ctxAddr c BR_LIVE, ctxAddr c CTX_STATE, ctxAddr c BR_EATT] ∧ n.mram = s.mram := by
  have hb' : (s.at t).branch? c = some r := hb
  have hgood := ((Words.refl (s := s.at t) hr).setFlag (ctxAddr c BR_LIVE) 0 true).start (.brPgHeld c)
  have hc' : ((((s.at t).setFlag (ctxAddr c BR_LIVE) 0 true).start (.brPgHeld c))).code c = 1 := (hgood.code c).trans ((by simp [altered, State.code, State.cw] : _ = s.code c).trans hc)
  have e : exec (.branchPowerGood c t) s = finish (s.at t) ((((((s.at t).setFlag (ctxAddr c BR_LIVE) 0 true).start (.brPgHeld c)).setCode c 2).recordAttempt r).stop (.inrush r.a0)) := by
    simp [exec, execBranchPowerGood, hb', hen, hd, hup, hc, hc', brLive]
  obtain rfl := ctx_number (branch_ctx hb).1
  have hwords := ((hgood.setCode r.ctx 2).setC r.ctx BR_EATT (toEF (s.chan r.a0).attempt)).stop (.inrush r.a0)
  have hne : Timer.brPgHeld r.ctx ≠ .inrush r.a0 := nofun
  refine ⟨_, e, (hwords.flag _ _).trans ?_, (hwords.code _).trans ?_, (hwords.cw _ _).trans ?_, running_stop_same _ _, (running_stop_other _ hne).trans (running_start_same _ _), (age_stop_other _ hne).trans (age_start _ _),
    hwords.kept fun a hl => ?_, rfl⟩
  · simp [altered]
  · simp [altered, bits_putBits_same]
  · simp [altered]
  · simp_all [altered]

/-- What the drop of power-good leaves. -/
structure PgDropped (r : CtxRec) (s n : State) : Prop where
  ok : RegsOk n
  good : n.flag (ctxAddr r.ctx BR_LIVE) 0 = false
  held : n.running (.brPgHeld r.ctx) = false
  status : s.code r.ctx = 2 ∨ s.code r.ctx = 3 → n.flag (ctxAddr r.ctx CTX_STS) 5 = true
  kept : Kept s n ([ctxAddr r.ctx BR_LIVE, ctxAddr r.ctx CTX_STS] ++ recordWords)
  mram : n.mram = s.mram

theorem pgDrop_drops (h : RegsOk s) (r : CtxRec) : PgDropped r s (s.pgDrop r) := by
  have hw := ((Words.refl h).setFlag (ctxAddr r.ctx BR_LIVE) 0 false).stop (.brPgHeld r.ctx)
  have hcode : ((s.setFlag (ctxAddr r.ctx BR_LIVE) 0 false).stop (.brPgHeld r.ctx)).code r.ctx = s.code r.ctx := (hw.code _).trans (by simp [altered, State.code, State.cw])
  have hgood : ((s.setFlag (ctxAddr r.ctx BR_LIVE) 0 false).stop (.brPgHeld r.ctx)).flag (ctxAddr r.ctx BR_LIVE) 0 = false := (hw.flag _ _).trans (by simp [altered])
  have hheld : ((s.setFlag (ctxAddr r.ctx BR_LIVE) 0 false).stop (.brPgHeld r.ctx)).running (.brPgHeld r.ctx) = false := running_stop_same _ _
  have hkept : Kept s ((s.setFlag (ctxAddr r.ctx BR_LIVE) 0 false).stop (.brPgHeld r.ctx)) ([ctxAddr r.ctx BR_LIVE, ctxAddr r.ctx CTX_STS] ++ recordWords) := hw.kept fun a hl => by simp_all [altered]
  have hmram : ((s.setFlag (ctxAddr r.ctx BR_LIVE) 0 false).stop (.brPgHeld r.ctx)).mram = s.mram := rfl
  unfold State.pgDrop
  generalize (s.setFlag (ctxAddr r.ctx BR_LIVE) 0 false).stop (.brPgHeld r.ctx) = m at hw hcode hgood hheld hkept hmram ⊢
  dsimp only
  split
  · have hoffer := stsOffer_kept hw.ok r.ctx 5
    exact ⟨stsOffer_regsOk hw.ok _ _, (hoffer.flag 0 (by simp [ctxAddr_not_recordWord])).trans hgood, (stsOffer_field m r.ctx 5 (fun z => z.running (.brPgHeld r.ctx)) fun _ _ _ => rfl).trans hheld,
      fun _ => flag_stsOffer hw.ok r.ctx (by decide), kept_trans hkept (kept_mono hoffer (by simp +contextual)), (stsOffer_field m r.ctx 5 State.mram fun _ _ _ => rfl).trans hmram⟩
  · next hn => exact ⟨hw.ok, hgood, hheld, fun hc => absurd (hcode.symm ▸ hc) hn, hkept, hmram⟩

theorem branch_power_drops (c t : Nat) (r : CtxRec) (s : State) (hr : RegsOk s) (hb : s.branch? c = some r) (hpg : s.flag (ctxAddr c BR_LIVE) 0 = true) (hlow : s.enhanced r.a0 = false ∨ 8 ≤ s.count (.brPgLow c)) :
    ∃ n, exec (.branchPowerGoodDrop c t) s = .next n ∧ n.flag (ctxAddr c BR_LIVE) 0 = false ∧ n.running (.brPgHeld c) = false ∧ (s.code c = 2 ∨ s.code c = 3 → n.flag (ctxAddr c CTX_STS) 5 = true) ∧
      Kept s n ([ctxAddr c BR_LIVE, ctxAddr c CTX_STS] ++ recordWords) ∧ n.mram = s.mram := by
  have hb' : (s.at t).branch? c = some r := hb
  have e : exec (.branchPowerGoodDrop c t) s = finish (s.at t) ((s.at t).pgDrop r) := by
    simp [exec, execBranchPowerGoodDrop, hb', hpg, hlow]
  obtain rfl := ctx_number (branch_ctx hb).1
  obtain ⟨-, hgood, hheld, hsts, hkept, hmram⟩ := pgDrop_drops (s := s.at t) hr r
  exact ⟨_, e, hgood, hheld, hsts, hkept, hmram⟩

/-! ### BRANCH_LIMIT_START, BRANCH_LIMIT_END and BRANCH_RETRYCNT_CLEAR (R181, R201, R202) -/

theorem branch_limits (c t : Nat) (r : CtxRec) (s : State) (hr : RegsOk s) (hb : s.branch? c = some r) (ha : r.a0 < 16) (hd : s.drive r.a0 ≠ 0) (hc : s.code c = 2) :
    ∃ n, exec (.branchLimitStart c t) s = .next n ∧ n.code c = 3 ∧ n.drive r.a0 = 2 ∧ n.running (.limit r.a0) = true ∧ n.flag (ctxAddr c CTX_STS) 13 = true ∧
      Kept s n [GCH_STS + r.a0, ctxAddr c CTX_STATE, ctxAddr c CTX_STS] ∧ n.mram = s.mram := by
  have hb' : (s.at t).branch? c = some r := hb
  have e : exec (.branchLimitStart c t) s = finish (s.at t) (((((s.at t).setCode c 3).setFld (GCH_STS + r.a0) 1 0 2).startOnce (.limit r.a0)).sts c 13) := by
    simp [exec, execBranchLimitStart, hb', hd, hc]
  have hwords := ((((Words.refl (s := s.at t) hr).setCode c 3).setFld (GCH_STS + r.a0) 1 0 2).startOnce (.limit r.a0)).sts c 13
  have hch (k : Nat) := ctxAddr_ne_channel c k ha
  have hch' (k : Nat) := channel_ne_ctxAddr c k ha
  refine ⟨_, e, (hwords.code _).trans ?_, (hwords.drive _).trans ?_, running_startOnce_same _ _, (hwords.flag _ _).trans ?_, hwords.kept fun a hl => ?_, startOnce_mram _ _⟩
  · simp [altered, hch, bits_putBits_same]
  · simp [altered, hch', bits_putBits_same]
  · simp [altered]
  · simp_all [altered]

theorem branch_limit_ends (c t : Nat) (r : CtxRec) (s : State) (hr : RegsOk s) (hb : s.branch? c = some r) (ha : r.a0 < 16) (hd : s.drive r.a0 ≠ 0) (hc : s.code c = 3) (hoff : 8 ≤ s.count (.limOff r.a0)) :
    ∃ n, exec (.branchLimitEnd c t) s = .next n ∧ n.code c = 2 ∧ n.drive r.a0 = 3 ∧ n.running (.limit r.a0) = false ∧ Kept s n [GCH_STS + r.a0, ctxAddr c CTX_STATE] ∧ n.mram = s.mram := by
  have hb' : (s.at t).branch? c = some r := hb
  have e : exec (.branchLimitEnd c t) s = finish (s.at t) ((((s.at t).setCode c 2).setFld (GCH_STS + r.a0) 1 0 3).stop (.limit r.a0)) := by
    simp [exec, execBranchLimitEnd, hb', hd, hc, hoff]
  have hwords := (((Words.refl (s := s.at t) hr).setCode c 2).setFld (GCH_STS + r.a0) 1 0 3).stop (.limit r.a0)
  have hch (k : Nat) := ctxAddr_ne_channel c k ha
  have hch' (k : Nat) := channel_ne_ctxAddr c k ha
  refine ⟨_, e, (hwords.code _).trans ?_, (hwords.drive _).trans ?_, running_stop_same _ _, hwords.kept fun a hl => ?_, rfl⟩
  · simp [altered, hch, bits_putBits_same]
  · simp [altered, hch', bits_putBits_same]
  · simp_all [altered]

theorem branch_retries_cleared (c t : Nat) (s : State) (hr : RegsOk s) (hw : s.works = true) (ht : s.isType c .branch = true) (hpg : s.flag (ctxAddr c BR_LIVE) 0 = true)
    (he : (s.at t).expiredTicks (.brPgHeld c) ticksPerSecond = true) :
    ∃ n, exec (.branchRetrycntClear c t) s = .next n ∧ n.cw c BR_RETRYCNT = 0 ∧ Kept s n [ctxAddr c BR_RETRYCNT] ∧ OnlyRegs (s.at t) n := by
  have h0 : RegsOk (s.at t) := hr
  have e : exec (.branchRetrycntClear c t) s = finish (s.at t) ((s.at t).setC c BR_RETRYCNT 0) := by
    simp [exec, execBranchRetrycntClear, hw, ht, hpg, he]
  exact ⟨_, e, cw_setC_same h0 c BR_RETRYCNT 0, kept_setReg h0 _ (by simp), rfl⟩

/-- Settles O30, instruction by instruction: every clause is the meaning of one instruction on a branch (R198 to R202, R205). -/
theorem branchesStartReachOnAndStop : Obligations.BranchesStartReachOnAndStop :=
  ⟨fun c t r s hr hw hb ha _ => branch_starts c t r s hr hw hb ha, branch_cools_first, branch_stops, fun c t r s hr hw hb ha _ => branch_restarts c t r s hr hw hb ha, coolrem_updated, branch_reaches_on, branch_power_drops,
    branch_limits, branch_limit_ends, branch_retries_cleared⟩

end Sys2Proof
end
-- ==== Sys2Proof/Proofs/Channels/Attempts.lean ====
section
/-! O27: what ends an attempt of a branch, and what the frame or an incoming lane then enters (R180, R181, R201, R203, R205). -/

namespace Sys2Proof

open Machine

variable {s : State}

/-! ### The causes flagged (R205) -/

/-- A later state in which of a context only the status word has changed, with one bit standing. -/
structure StatusSet (c b : Nat) (s n : State) : Prop where
  ok : RegsOk n
  kept : Kept s n [ctxAddr c CTX_STS]
  flag : n.flag (ctxAddr c CTX_STS) b = true
  rest : n = { s with regs := n.regs }

theorem StatusSet.sts (h : RegsOk s) (c : Nat) {b : Nat} (hb : b < 18) : StatusSet c b s (s.sts c b) :=
  ⟨setReg_regsOk h _ _, kept_setReg h _ (by simp), flag_sts_same h c hb, rfl⟩

/-- A further bit of the same word. -/
theorem StatusSet.onlyIf {c b : Nat} {n : State} (h : StatusSet c b s n) (x : Bool) {k : Nat} (hk : k < 18) : StatusSet c b s (n.onlyIf x fun m => m.sts c k) := by
  unfold State.onlyIf
  split
  · refine ⟨setReg_regsOk h.ok _ _, kept_trans h.kept (kept_setReg h.ok _ (by simp)), ?_, ?_⟩
    · by_cases e : b = k
      · exact e.symm ▸ flag_sts_same h.ok c hk
      · exact (flag_setFlag_apart h.ok _ true hk e).trans h.flag
    · obtain ⟨-, -, -, hrest⟩ := h
      rw [hrest]
      rfl
  · exact h

theorem flagCauses_sets (h : RegsOk s) (r : CtxRec) {b : Nat} (hb : b < 18) : StatusSet r.ctx b s (s.flagCauses r b) :=
  (((StatusSet.sts h r.ctx hb).onlyIf (s.brLate r) (by decide)).onlyIf (s.brLong r) (by decide)).onlyIf (s.brHot r) (by decide)

/-! ### An attempt ends (R203, R205) -/

/-- What the end of a branch's attempt leaves: its gate going down, its cause flagged, its state as it was. -/
structure AttemptEnded (r : CtxRec) (b : Nat) (s n : State) : Prop where
  off : n.drive r.a0 = 0
  channel : ∀ k, 2 ≤ k → n.flag (GCH_STS + r.a0) k = s.flag (GCH_STS + r.a0) k
  status : n.flag (ctxAddr r.ctx CTX_STS) b = true
  code : n.code r.ctx = s.code r.ctx
  gateOff : n.running (.gateOff r.a0) = true
  age : n.age (.gateOff r.a0) = 0
  inrush : n.running (.inrush r.a0) = false
  kept : Kept s n [GCH_STS + r.a0, ctxAddr r.ctx CTX_STS]
  only : OnlyOutputs s n

theorem attemptFails_ends (h : RegsOk s) {r : CtxRec} (ha : r.a0 < 16) (hd : s.drive r.a0 ≠ 0) {b : Nat} (hb : b < 18) : AttemptEnded r b s (s.attemptFails r b) := by
  have hset := flagCauses_sets h r hb
  have hout : OnlyOutputs s (s.flagCauses r b) := by
    obtain ⟨hok, -, -, hrest⟩ := hset
    refine ⟨?_, fun _ => hok⟩
    rw [hrest]
  unfold State.attemptFails
  generalize s.flagCauses r b = m at hset hout ⊢
  obtain ⟨hok, hkept, hflag, -⟩ := hset
  have hword : m.reg (GCH_STS + r.a0) = s.reg (GCH_STS + r.a0) := hkept _ (by simp [channel_ne_ctxAddr _ _ ha])
  have hdm : m.drive r.a0 ≠ 0 := fun hz => hd ((congrArg (fun w => bits w 1 0) hword).symm.trans hz)
  have hw := (Words.refl hok).gateDown r.a0
  obtain ⟨hoff, hage, hin⟩ := gateDown_timers m r.a0 hdm
  have hch (k : Nat) := ctxAddr_ne_channel r.ctx k ha
  have hdown : Kept m (m.gateDown r.a0) [GCH_STS + r.a0] := hw.kept fun a hl => altered_other _ _ (by simpa using hl)
  refine ⟨(hw.drive _).trans ?_, fun k hk => (hw.flag _ _).trans ?_, (hdown.flag b (by simp [hch])).trans hflag, (hdown.code (by simp [hch])).trans (hkept.code (by simp)), hoff, hage, hin,
    kept_trans (kept_mono hkept (by simp)) (kept_mono hdown (by simp)), gateDown_outputs hout r.a0⟩
  · rw [altered_same]
    exact bits_putBits_same (by decide) (by decide)
  · rw [altered_same, bit_putBits_other (by decide) (by decide) (.inr (by omega)), hword]
    rfl

/-! ### ATTEMPT_TIMER_EXPIRY, GATE_TRIP and BRANCH_OVERTEMP (R180, R181, R201) -/

theorem branch_times_out (ch t : Nat) (r : CtxRec) (s : State) (hr : RegsOk s) (hlt : ch < 16) (ho : s.ownerRec ch = some r) (ha : r.a0 = ch) (ht : r.typ = .branch) (hd : s.drive ch ≠ 0) (hc : brLive (s.code r.ctx) = true)
    (he : (s.at t).expired (.inrush ch) (s.cw r.ctx BR_ITO) = true) (hup : s.count (.enhUp ch) < 8) :
    ∃ n, exec (.attemptTimerExpiry ch t) s = .next n ∧ n.drive ch = 0 ∧ n.flag (GCH_STS + ch) 5 = true ∧ n.flag (ctxAddr r.ctx CTX_STS) 8 = true ∧ n.code r.ctx = s.code r.ctx ∧
      n.running (.gateOff ch) = true ∧ n.age (.gateOff ch) = 0 ∧ n.running (.inrush ch) = false ∧ Kept s n [GCH_STS + ch, ctxAddr r.ctx CTX_STS] ∧ n.mram = s.mram := by
  subst ha
  have h0 : RegsOk (s.at t) := hr
  have h1 : RegsOk ((s.at t).setFlag (GCH_STS + r.a0) 5 true) := setReg_regsOk h0 _ _
  have hflag : Kept (s.at t) ((s.at t).setFlag (GCH_STS + r.a0) 5 true) [GCH_STS + r.a0] := kept_setReg h0 _ (by simp)
  have hcode : ((s.at t).setFlag (GCH_STS + r.a0) 5 true).code r.ctx = s.code r.ctx := hflag.code (by simp [ctxAddr_ne_channel _ _ hlt])
  have hdrive : ((s.at t).setFlag (GCH_STS + r.a0) 5 true).drive r.a0 ≠ 0 := fun hz => hd ((fld_setFlag_apart h0 (GCH_STS + r.a0) (hi := 1) (lo := 0) true (by decide) (.inl (by decide))).symm.trans hz)
  have e : exec (.attemptTimerExpiry r.a0 t) s = finish (s.at t) (((s.at t).setFlag (GCH_STS + r.a0) 5 true).attemptFails r 8) := by
    have ho' : (s.at t).ownerRec r.a0 = some r := ho
    simp [exec, execAttemptTimerExpiry, ho', CtxRec.limited, ht, hd, State.attemptTimes, he, hup, State.attemptOver, hcode, hc]
  obtain ⟨hoff, hchan, hsts, hstate, hdown, hage, hin, hkept, hout⟩ := attemptFails_ends h1 hlt hdrive (b := 8) (by decide)
  exact ⟨_, e, hoff, (hchan 5 (by decide)).trans (flag_setFlag_same h0 _ true (by decide)), hsts, hstate.trans hcode, hdown, hage, hin, kept_trans (kept_mono hflag (by simp)) hkept, hout.mram⟩

/-- Outside Dormant, and with no entry waiting that its activity would abort, a wake source changes nothing (R27, R29). -/
theorem wakeEvent_awake (hs : s.sys ≠ sysDormant) (hw : s.arb.entryWait = false) (src : Nat) : s.wakeEvent src = s := by
  have habort : s.abortEntry src = s := by
    unfold State.abortEntry
    rw [hw]
    simp only [Bool.false_eq_true, if_false, hs, false_and]
    split
    · rfl
    · split <;> rfl
  have hwake : s.wakeBy src = s := if_neg fun hx => hs hx.1
  unfold State.wakeEvent
  rw [habort, hwake, ite_self]

theorem branch_trips (ch t : Nat) (nv : Int) (r : CtxRec) (s : State) (hr : RegsOk s) (hlt : ch < 16) (ho : s.ownerRec ch = some r) (ha : r.a0 = ch) (hx : s.crossing r nv = some false) (ht : r.typ = .branch) (hd : s.drive ch ≠ 0)
    (hc : brLive (s.code r.ctx) = true) (hs : s.sys ≠ sysDormant) (hw : s.arb.entryWait = false) :
    ∃ n, exec (.gateTrip ch nv t) s = .next n ∧ n.drive ch = 0 ∧ n.flag (GCH_STS + ch) 3 = true ∧ n.flag (ctxAddr r.ctx CTX_STS) 6 = true ∧ n.code r.ctx = s.code r.ctx ∧
      Kept s n [GCH_STS + ch, ctxAddr r.ctx CTX_STS] ∧ n.mram = s.mram := by
  subst ha
  have h0 : RegsOk (s.at t) := hr
  have hwords := ((Words.refl h0).setFlag (GCH_STS + r.a0) 3 true).same (m := ((s.at t).setFlag (GCH_STS + r.a0) 3 true).setChan r.a0 fun v => { v with tripAt := some (s.at t).now })
  have hflag : (((s.at t).setFlag (GCH_STS + r.a0) 3 true).setChan r.a0 fun v => { v with tripAt := some (s.at t).now }).flag (GCH_STS + r.a0) 3 = true := flag_setFlag_same h0 _ true (by decide)
  have hbefore : OnlyOutputs (s.at t) (((s.at t).setFlag (GCH_STS + r.a0) 3 true).setChan r.a0 fun v => { v with tripAt := some (s.at t).now }) := setChan_outputs (setFlag_outputs (onlyOutputs_refl _) _ _ _) _ _
  have htrip : (s.at t).gateTrip r.a0 false = (((s.at t).setFlag (GCH_STS + r.a0) 3 true).setChan r.a0 fun v => { v with tripAt := some (s.at t).now }).tripBranch r false := by
    have ho' : (s.at t).ownerRec r.a0 = some r := ho
    have hd' : (s.at t).drive r.a0 ≠ 0 := hd
    simp only [State.gateTrip, ho', if_neg hd', ht, Bool.false_eq_true, if_false]
  generalize ((s.at t).setFlag (GCH_STS + r.a0) 3 true).setChan r.a0 (fun v => { v with tripAt := some (s.at t).now }) = m at hwords hflag hbefore htrip
  have hkept : Kept (s.at t) m [GCH_STS + r.a0] := hwords.kept fun a hl => altered_other _ _ (by simpa using hl)
  have hcode : m.code r.ctx = s.code r.ctx := hkept.code (by simp [ctxAddr_ne_channel _ _ hlt])
  have hdrive : m.drive r.a0 ≠ 0 := by
    rw [hwords.drive, altered_same]
    exact fun hz => hd ((bits_putBit_other true (by decide) (.inl (by decide))).symm.trans hz)
  obtain ⟨hoff, hchan, hsts, hstate, -, -, -, hended, hout⟩ := attemptFails_ends hwords.ok hlt hdrive (b := 6) (by decide)
  have htotal : Kept s (m.attemptFails r 6) [GCH_STS + r.a0, ctxAddr r.ctx CTX_STS] := kept_trans (kept_mono hkept (by simp)) hended
  have hawake : (m.attemptFails r 6).wakeEvent 6 = m.attemptFails r 6 := by
    refine wakeEvent_awake (fun hz => hs ?_) ?_ 6
    · have hsys : (m.attemptFails r 6).reg SYS_STATE = s.reg SYS_STATE := htotal _ (by simp only [List.mem_cons, List.not_mem_nil, or_false, SYS_STATE, GCH_STS, ctxAddr, CTX_STS]; omega)
      exact (congrArg (fun w => bits w 2 0) hsys).symm.trans hz
    · exact (congrArg Arbiter.entryWait ((onlyOutputs_trans hbefore hout).field State.arb fun _ _ => rfl)).trans hw
  have e : exec (.gateTrip r.a0 nv t) s = finish (s.at t) (m.attemptFails r 6) := by
    have ho' : (s.at t).ownerRec r.a0 = some r := ho
    have hx' : (s.at t).crossing r nv = some false := hx
    simp only [exec, execGateTrip, ho', Option.bind_some, hx', htrip, State.tripBranch, hcode, hc, Bool.not_true, Bool.false_eq_true, if_false, State.onlyIf, drive_at]
    rw [if_pos (by simpa using hd), hawake]
  exact ⟨_, e, hoff, (hchan 3 (by decide)).trans hflag, hsts, hstate.trans hcode, htotal, hout.mram.trans hbefore.mram⟩

theorem branch_overheats (c t : Nat) (r : CtxRec) (s : State) (hr : RegsOk s) (hb : s.branch? c = some r) (ha : r.a0 < 16) (hm : r.a1 = 0xFE) (hl : s.laneRuns = true) (hd : s.drive r.a0 ≠ 0) (hc : brLive (s.code c) = true)
    (hhot : temp (s.cw c BR_TJMAX) ≤ temp (s.cw c CTX_TMEAS)) :
    ∃ n, exec (.branchOvertemp c t) s = .next n ∧ n.drive r.a0 = 0 ∧ n.flag (ctxAddr c CTX_STS) 10 = true ∧ n.code c = s.code c ∧ Kept s n [GCH_STS + r.a0, ctxAddr c CTX_STS] ∧ n.mram = s.mram := by
  have hb' : (s.at t).branch? c = some r := hb
  obtain rfl := ctx_number (branch_ctx hb).1
  have hhot' : (s.at t).brHot r = true := by simp [State.brHot, hm, hl, hhot]
  have e : exec (.branchOvertemp r.ctx t) s = finish (s.at t) ((s.at t).attemptFails r 10) := by
    simp [exec, execBranchOvertemp, hb', hhot', hc, hd]
  obtain ⟨hoff, -, hsts, hstate, -, -, -, hkept, hout⟩ := attemptFails_ends (s := s.at t) hr ha hd (b := 10) (by decide)
  exact ⟨_, e, hoff, hsts, hstate, hkept, hout.mram⟩

/-! ### What is entered of a branch whose gate was pulled down (R201, R203, R205) -/

/-- A failed attempt with EN 1 is entered by failBranch. -/
theorem enterFailed_enabled {r : CtxRec} (hd : s.drive r.a0 = 0) (hc : brLive (s.code r.ctx) = true) (hen : s.brEn r.ctx = true) : s.enterFailed r = s.failBranch r := by
  simp [State.enterFailed, hd, hc, hen]

/-- The part of a failed attempt's entry that does not depend on the retries: its energy recorded, its limit bit cleared, its power-good counts at zero (R196, R200). -/
def attemptEntered (s : State) (r : CtxRec) : State := (((s.recordAttempt r).setFlag (ctxAddr r.ctx BR_LIVE) 2 false).clearCount (.brPg r.ctx)).clearCount (.brPgLow r.ctx)

theorem Words.attemptEntered (h : RegsOk s) (r : CtxRec) :
    Words (Sys2Proof.attemptEntered s r) (altered (altered s.reg (ctxAddr r.ctx BR_EATT) fun _ => toEF (s.chan r.a0).attempt) (ctxAddr r.ctx BR_LIVE) (putBit · 2 false)) :=
  ((((Words.refl h).setC r.ctx BR_EATT (toEF (s.chan r.a0).attempt)).setFlag (ctxAddr r.ctx BR_LIVE) 2 false).clearCount (.brPg r.ctx)).clearCount (.brPgLow r.ctx)

theorem failBranch_cases (h : RegsOk s) {r : CtxRec} (hx : s.ctx? r.ctx = some r) (ht : r.typ = .branch) (hd : s.drive r.a0 = 0) :
    s.failBranch r = if (s.cw r.ctx BR_RETRYCNT).toNat < (s.cw r.ctx BR_RETRY).toNat then
        ((((attemptEntered s r).setCode r.ctx 4).inc (ctxAddr r.ctx BR_RETRYCNT)).startAt (.cool r.ctx) ((s.chan r.a0).downAt.getD s.now)).stsOffer r.ctx 11
      else ((((attemptEntered s r).setCode r.ctx 5).sts r.ctx stsBranchLatch).applySafe r.ctx).laneRaise 5 r.ctx none 501 := by
  have hw := Words.attemptEntered h r
  have hcount : (attemptEntered s r).cw r.ctx BR_RETRYCNT = s.cw r.ctx BR_RETRYCNT := (hw.cw _ _).trans (by simp [altered, State.cw])
  have hmost : (attemptEntered s r).cw r.ctx BR_RETRY = s.cw r.ctx BR_RETRY := (hw.cw _ _).trans (by simp [altered, State.cw])
  have hsame : ((((s.gateDown r.a0).recordAttempt r).clearLive r.ctx).clearCount (.brPg r.ctx)).clearCount (.brPgLow r.ctx) = attemptEntered s r := by
    rw [gateDown_off hd, clearLive_branch (s := s.recordAttempt r) hx ht]
    rfl
  unfold State.failBranch
  dsimp only
  rw [hsame, hcount, hmost]
  rfl

theorem failed_attempt_cools (r : CtxRec) (s : State) (hr : RegsOk s) (hx : s.ctx? r.ctx = some r) (ht : r.typ = .branch) (hd : s.drive r.a0 = 0) (hc : brLive (s.code r.ctx) = true) (hen : s.brEn r.ctx = true)
    (hlt : (s.cw r.ctx BR_RETRYCNT).toNat < (s.cw r.ctx BR_RETRY).toNat) (hdown : (s.chan r.a0).downAt = some s.now) :
    let n := s.enterFailed r
    n.code r.ctx = 4 ∧ n.cw r.ctx BR_RETRYCNT = satInc (s.cw r.ctx BR_RETRYCNT) ∧ n.cw r.ctx BR_EATT = toEF (s.chan r.a0).attempt ∧ n.flag (ctxAddr r.ctx CTX_STS) 11 = true ∧ n.running (.cool r.ctx) = true ∧ n.age (.cool r.ctx) = 0 ∧
      Kept s n ([ctxAddr r.ctx CTX_STATE, ctxAddr r.ctx CTX_STS, ctxAddr r.ctx BR_EATT, ctxAddr r.ctx BR_LIVE, ctxAddr r.ctx BR_RETRYCNT] ++ recordWords) ∧ n.mram = s.mram := by
  dsimp only
  have hw := (((Words.attemptEntered hr r).setCode r.ctx 4).inc (ctxAddr r.ctx BR_RETRYCNT)).same (m := (((attemptEntered s r).setCode r.ctx 4).inc (ctxAddr r.ctx BR_RETRYCNT)).start (.cool r.ctx))
  have hrun : ((((attemptEntered s r).setCode r.ctx 4).inc (ctxAddr r.ctx BR_RETRYCNT)).start (.cool r.ctx)).running (.cool r.ctx) = true := running_start_same _ _
  have hage : ((((attemptEntered s r).setCode r.ctx 4).inc (ctxAddr r.ctx BR_RETRYCNT)).start (.cool r.ctx)).age (.cool r.ctx) = 0 := age_start _ _
  have hmram : ((((attemptEntered s r).setCode r.ctx 4).inc (ctxAddr r.ctx BR_RETRYCNT)).start (.cool r.ctx)).mram = s.mram := rfl
  have e : s.enterFailed r = ((((attemptEntered s r).setCode r.ctx 4).inc (ctxAddr r.ctx BR_RETRYCNT)).start (.cool r.ctx)).stsOffer r.ctx 11 := by
    rw [enterFailed_enabled hd hc hen, failBranch_cases hr hx ht hd, if_pos hlt, hdown]
    rfl
  rw [e]
  generalize (((attemptEntered s r).setCode r.ctx 4).inc (ctxAddr r.ctx BR_RETRYCNT)).start (.cool r.ctx) = m at hw hrun hage hmram ⊢
  have hoffer := stsOffer_kept hw.ok r.ctx 11
  have hrec (k : Nat) := ctxAddr_not_recordWord r.ctx k
  refine ⟨(hoffer.code (by simp [hrec])).trans ((hw.code _).trans ?_), (hoffer.cw (by simp [hrec])).trans ((hw.cw _ _).trans ?_), (hoffer.cw (by simp [hrec])).trans ((hw.cw _ _).trans ?_), flag_stsOffer hw.ok r.ctx (by decide),
    (stsOffer_field m r.ctx 11 (fun z => z.running (.cool r.ctx)) fun _ _ _ => rfl).trans hrun, (stsOffer_field m r.ctx 11 (fun z => z.age (.cool r.ctx)) fun _ _ _ => rfl).trans hage,
    kept_trans (m := m) (hw.kept fun a hl => ?_) (kept_mono hoffer (by simp +contextual)), (stsOffer_field m r.ctx 11 State.mram fun _ _ _ => rfl).trans hmram⟩
  · simp [altered, bits_putBits_same]
  · simp [altered, State.cw]
  · simp [altered]
  · simp_all [altered]

theorem failed_attempt_latches (r : CtxRec) (s : State) (hr : RegsOk s) (him : ImagesFit s) (hx : s.ctx? r.ctx = some r) (ht : r.typ = .branch) (_ha : r.a0 < 16) (hd : s.drive r.a0 = 0) (hc : brLive (s.code r.ctx) = true) (hen : s.brEn r.ctx = true)
    (hle : (s.cw r.ctx BR_RETRY).toNat ≤ (s.cw r.ctx BR_RETRYCNT).toNat) (hf : s.flt.matches_ = []) (_hs : s.sys ≠ sysDormant) :
    (s.enterFailed r).code r.ctx = 5 ∧ (s.enterFailed r).flag (ctxAddr r.ctx CTX_STS) 12 = true ∧ Faulted (s.enterFailed r) r.ctx 5 ∧ (s.enterFailed r).mram = s.mram := by
  rw [enterFailed_enabled hd hc hen, failBranch_cases hr hx ht hd, if_neg (Nat.not_lt.mpr hle)]
  have hw := ((Words.attemptEntered hr r).setCode r.ctx 5).sts r.ctx stsBranchLatch
  have hcode : (((attemptEntered s r).setCode r.ctx 5).sts r.ctx stsBranchLatch).code r.ctx = latchedCode r.typ := (hw.code r.ctx).trans (by simp [altered, bits_putBits_same, ht, latchedCode])
  have hflag : (((attemptEntered s r).setCode r.ctx 5).sts r.ctx stsBranchLatch).flag (ctxAddr r.ctx CTX_STS) 12 = true := flag_sts_same ((Words.attemptEntered hr r).setCode r.ctx 5).ok r.ctx (by decide)
  obtain ⟨hlatched, hfaulted, hmild, honly⟩ := safe_laneRaise_latched hw.ok him.1 hx (.inr (.inl ht)) hcode (cls := 5) (by decide) 501
  exact ⟨hlatched.trans (by rw [ht]; rfl), hmild.status hflag, hfaulted hf, honly.mram⟩

theorem failed_attempt_disabled (r : CtxRec) (s : State) (hr : RegsOk s) (hx : s.ctx? r.ctx = some r) (ht : r.typ = .branch) (hd : s.drive r.a0 = 0) (hc : brLive (s.code r.ctx) = true) (hen : s.brEn r.ctx = false) :
    (s.enterFailed r).code r.ctx = 0 ∧ (s.enterFailed r).cw r.ctx BR_COOLREM = 0 ∧ Kept s (s.enterFailed r) [ctxAddr r.ctx CTX_STATE, ctxAddr r.ctx BR_LIVE, ctxAddr r.ctx BR_COOLREM] ∧ (s.enterFailed r).mram = s.mram := by
  have e : s.enterFailed r = s.brTurnOff r := by simp [State.enterFailed, hd, hc, hen]
  have hoff : s.brTurnOff r = (((s.setFlag (ctxAddr r.ctx BR_LIVE) 2 false).setCode r.ctx 0).stop (.cool r.ctx)).setC r.ctx BR_COOLREM 0 := by
    unfold State.brTurnOff
    dsimp only
    rw [gateDown_off hd, clearLive_branch hx ht]
  have hw := ((((Words.refl hr).setFlag (ctxAddr r.ctx BR_LIVE) 2 false).setCode r.ctx 0).stop (.cool r.ctx)).setC r.ctx BR_COOLREM 0
  rw [e, hoff]
  refine ⟨(hw.code _).trans ?_, (hw.cw _ _).trans ?_, hw.kept fun a hl => ?_, rfl⟩
  · simp [altered, bits_putBits_same]
  · simp [altered]
  · simp_all [altered]

/-- Settles O27: three events end an attempt at the gate, and the branch state that is entered for it then follows EN and the retries left. -/
theorem failedAttemptsRetryOrLatch : Obligations.FailedAttemptsRetryOrLatch :=
  ⟨branch_times_out, branch_trips, branch_overheats, failed_attempt_cools, failed_attempt_latches, failed_attempt_disabled⟩

end Sys2Proof
end
-- ==== Sys2Proof/Proofs/Channels/Strings.lean ====
section
/-! O31: strings connect, limit, retry and disconnect (R181, R213, R216, R237). -/

namespace Sys2Proof

open Machine

variable {s : State}

/-! ### A direct-hang string connects (R216) -/

theorem Words.clearCut {f : Nat → Word} (h : Words s f) (c : Nat) : Words (s.clearCut c) (altered f (ctxAddr c BAT_PSTS) (putBit · 2 false)) := by
  unfold State.clearCut State.onlyIf
  split
  · exact (h.setFlag (ctxAddr c BAT_PSTS) 2 false).same
  · exact h.setFlag (ctxAddr c BAT_PSTS) 2 false

/-- Beside the word that shows it the end of a cut-off touches only what the lane keeps of the string. -/
theorem clearCut_rest (s : State) (c : Nat) : s.clearCut c = { s with regs := (s.clearCut c).regs, lane := (s.clearCut c).lane } := by
  unfold State.clearCut State.onlyIf
  split <;> rfl

theorem clearCut_image (s : State) (c : Nat) : (s.clearCut c).image = s.image := by
  rw [clearCut_rest]

theorem clearCut_mram (s : State) (c : Nat) : (s.clearCut c).mram = s.mram := by
  rw [clearCut_rest]

theorem Words.dhConnect {f : Nat → Word} (h : Words s f) (r : CtxRec) :
    Words (s.dhConnect r) (altered (altered (altered f (GCH_STS + r.a0) (putBits · 1 0 1)) (ctxAddr r.ctx CTX_STATE) (putBits · 7 0 1)) (ctxAddr r.ctx BAT_PSTS) (putBit · 2 false)) :=
  (((h.gateSource r.a0 true).setCode r.ctx 1).clearCut r.ctx).stop (.cool r.ctx)

theorem dhConnect_rest (s : State) (r : CtxRec) : (s.dhConnect r).running (.inrush r.a0) = true ∧ (s.dhConnect r).running (.cool r.ctx) = false ∧ (s.dhConnect r).mram = s.mram := by
  have hne : Timer.inrush r.a0 ≠ .cool r.ctx := nofun
  have hcut : (((s.gateSource r.a0 true).setCode r.ctx 1).clearCut r.ctx).running (.inrush r.a0) = true := by
    rw [clearCut_rest]
    exact (gateSource_inrush s r.a0).1
  refine ⟨(running_stop_other _ hne).trans hcut, running_stop_same _ _, ?_⟩
  change (((s.gateSource r.a0 true).setCode r.ctx 1).clearCut r.ctx).mram = s.mram
  rw [clearCut_rest]
  exact gateSource_mram s r.a0 true

/-- Whether a string stands at its cut-off voltage rests on two words. -/
theorem belowCut_congr {n : State} {c : Nat} (hv : n.cw c CTX_VMEAS = s.cw c CTX_VMEAS) (hc : n.cw c BAT_VCUT = s.cw c BAT_VCUT) : n.belowCut c = s.belowCut c := by
  unfold State.belowCut
  rw [hv, hc]

/-! ### STRING_ENABLE (R213, R216) -/

theorem stringEnable_exec {c t : Nat} {r : CtxRec} (hw : s.works = true) (hs : s.string? c = some r) (hen : s.batEn c = true) (hc : s.code c = 0) :
    exec (.stringEnable c t) s = finish (s.at t) ((s.at t).stringOn r) := by
  have hs' : (s.at t).string? c = some r := hs
  have hen' : (s.at t).batEn c = true := hen
  simp [exec, execStringEnable, hw, hs', hen', hc]

theorem string_connects (c t : Nat) (r : CtxRec) (s : State) (hr : RegsOk s) (hw : s.works = true) (hs : s.string? c = some r) (hen : s.batEn c = true) (hc : s.code c = 0) (hdh : r.directHang = true) (ha : r.a0 < 16)
    (hcut : s.belowCut c = false) :
    ∃ n, exec (.stringEnable c t) s = .next n ∧ n.code c = 1 ∧ n.safe c = false ∧ n.cw c BAT_DHRETRYCNT = 0 ∧ n.drive r.a0 = 1 ∧ n.running (.inrush r.a0) = true ∧
      Kept s n [ctxAddr c CTX_STATE, ctxAddr c BAT_DHRETRYCNT, ctxAddr c BAT_PSTS, GCH_STS + r.a0] ∧ n.mram = s.mram := by
  have e := stringEnable_exec (t := t) hw hs hen hc
  obtain rfl := ctx_number (string_ctx hs).1
  have hbefore := (((Words.refl (s := s.at t) hr).setSafe r.ctx false).clearCount (.cutLow r.ctx)).setC r.ctx BAT_DHRETRYCNT 0
  have habove : ((((s.at t).setSafe r.ctx false).clearCount (.cutLow r.ctx)).setC r.ctx BAT_DHRETRYCNT 0).belowCut r.ctx = false :=
    (belowCut_congr ((hbefore.cw _ _).trans (by simp [altered, State.cw])) ((hbefore.cw _ _).trans (by simp [altered, State.cw]))).trans hcut
  have hon : (s.at t).stringOn r = ((((s.at t).setSafe r.ctx false).clearCount (.cutLow r.ctx)).setC r.ctx BAT_DHRETRYCNT 0).dhConnect r := by
    unfold State.stringOn
    simp only [hdh, habove, Bool.false_eq_true, if_false]
  rw [hon] at e
  obtain ⟨hrun, -, hmram⟩ := dhConnect_rest ((((s.at t).setSafe r.ctx false).clearCount (.cutLow r.ctx)).setC r.ctx BAT_DHRETRYCNT 0) r
  have hwords := hbefore.dhConnect r
  have hch (k : Nat) := ctxAddr_ne_channel r.ctx k ha
  have hch' (k : Nat) := channel_ne_ctxAddr r.ctx k ha
  refine ⟨_, e, (hwords.code _).trans ?_, (hwords.safe _).trans ?_, (hwords.cw _ _).trans ?_, (hwords.drive _).trans ?_, hrun, hwords.kept fun a hl => ?_, hmram⟩
  · simp [altered, bits_putBits_same]
  · simp [altered, hch, bit_putBits_other]
  · simp [altered, hch]
  · simp [altered, hch', bits_putBits_same]
  · simp_all [altered]

theorem string_available (c t : Nat) (r g : CtxRec) (s : State) (hr : RegsOk s) (hw : s.works = true) (hs : s.string? c = some r) (hen : s.batEn c = true) (hc : s.code c = 0) (hdh : r.directHang = false)
    (hg : s.servedBy r = some g) (hcut : s.belowCut c = false) :
    ∃ n, exec (.stringEnable c t) s = .next n ∧ n.code c = 7 ∧ n.safe c = false ∧ Kept s n [ctxAddr c CTX_STATE] ∧ n.mram = s.mram := by
  have e := stringEnable_exec (t := t) hw hs hen hc
  obtain rfl := ctx_number (string_ctx hs).1
  have hbefore := ((Words.refl (s := s.at t) hr).setSafe r.ctx false).clearCount (.cutLow r.ctx)
  have habove : (((s.at t).setSafe r.ctx false).clearCount (.cutLow r.ctx)).belowCut r.ctx = false :=
    (belowCut_congr ((hbefore.cw _ _).trans (by simp [altered, State.cw])) ((hbefore.cw _ _).trans (by simp [altered, State.cw]))).trans hcut
  have hserved : (((s.at t).setSafe r.ctx false).clearCount (.cutLow r.ctx)).servedBy r = some g := hg
  have hon : (s.at t).stringOn r = (((s.at t).setSafe r.ctx false).clearCount (.cutLow r.ctx)).setCode r.ctx 7 := by
    unfold State.stringOn
    simp only [hdh, hserved, habove, Bool.false_eq_true, if_false]
  rw [hon] at e
  have hwords := hbefore.setCode r.ctx 7
  refine ⟨_, e, (hwords.code _).trans ?_, (hwords.safe _).trans ?_, hwords.kept fun a hl => ?_, rfl⟩
  · simp [altered, bits_putBits_same]
  · simp [altered, bit_putBits_other]
  · simp_all [altered]

/-! ### STRING_DISABLE (R213, R216, R237) -/

/-- What a string that is switched off leaves. -/
structure StringOut (r : CtxRec) (s n : State) : Prop where
  code : n.code r.ctx = 0
  cut : n.isCut r.ctx = false
  charge : (s.servedBy r).isSome = true → n.chgPhase r.ctx = 0 ∧ n.cw r.ctx CHG_ICREQ = 0
  off : r.directHang = true → n.drive r.a0 = 0
  kept : Kept s n [ctxAddr r.ctx CTX_STATE, ctxAddr r.ctx BAT_PSTS, ctxAddr r.ctx CHG_STATE, ctxAddr r.ctx CHG_ICREQ, ctxAddr r.ctx EST_STS, GCH_STS + r.a0]
  mram : n.mram = s.mram

/-- The gate of a string that is switched off: down where it has one. -/
theorem stringGate_down (h : RegsOk s) (r : CtxRec) :
    let m := if r.directHang then s.gateDown r.a0 else s
    RegsOk m ∧ Kept s m [GCH_STS + r.a0] ∧ (r.directHang = true → m.drive r.a0 = 0) ∧ m.image = s.image ∧ m.mram = s.mram := by
  dsimp only
  split
  · have hw := (Words.refl h).gateDown r.a0
    refine ⟨hw.ok, hw.kept fun a hl => altered_other _ _ (by simpa using hl), fun _ => (hw.drive _).trans ?_, gateDown_image s r.a0, gateDown_mram s r.a0⟩
    rw [altered_same]
    exact bits_putBits_same (by decide) (by decide)
  · next hn => exact ⟨h, kept_refl s _, fun hdh => absurd hdh hn, rfl, rfl⟩

/-- A string with no gate to close and no cut-off, Off and without its learning (R213, R269). -/
def stringRest (m : State) (c : Nat) : State := (((((((m.setFld (ctxAddr c BAT_PSTS) 5 4 0).clearCut c).setCode c 0).stop (.cool c)).clearCount (.cutLow c)).clearCount (.cutHigh c)).disarm c)

theorem Words.stringRest {f : Nat → Word} (h : Words s f) (c : Nat) :
    Words (Sys2Proof.stringRest s c) (altered (altered (altered (altered f (ctxAddr c BAT_PSTS) (putBits · 5 4 0)) (ctxAddr c BAT_PSTS) (putBit · 2 false)) (ctxAddr c CTX_STATE) (putBits · 7 0 0)) (ctxAddr c EST_STS) (putBit · 2 false)) :=
  ((((((h.setFld (ctxAddr c BAT_PSTS) 5 4 0).clearCut c).setCode c 0).stop (.cool c)).clearCount (.cutLow c)).clearCount (.cutHigh c)).setFlag (ctxAddr c EST_STS) 2 false

theorem stringRest_rest (m : State) (c : Nat) : (stringRest m c).image = m.image ∧ (stringRest m c).mram = m.mram := by
  exact ⟨clearCut_image (m.setFld (ctxAddr c BAT_PSTS) 5 4 0) c, clearCut_mram (m.setFld (ctxAddr c BAT_PSTS) 5 4 0) c⟩

theorem Words.chargeRest {f : Nat → Word} (h : Words s f) (c : Nat) :
    Words (s.chargeRest c) (altered (altered (altered (altered f (ctxAddr c CHG_STATE) (putBits · 2 0 0)) (ctxAddr c CHG_STATE) (putBit · 4 false)) (ctxAddr c CHG_STATE) (putBits · 10 8 0)) (ctxAddr c CHG_ICREQ) fun _ => 0) :=
  ((((h.setFld (ctxAddr c CHG_STATE) 2 0 0).setFlag (ctxAddr c CHG_STATE) 4 false).setFld (ctxAddr c CHG_STATE) 10 8 0).setC c CHG_ICREQ 0).same

theorem cutLeft_rest (s : State) (r : CtxRec) : s.cutLeft r = { s with groups := (s.cutLeft r).groups } := by
  unfold State.cutLeft
  split <;> rfl

theorem stringOff_out (h : RegsOk s) {r : CtxRec} (hx : s.ctx? r.ctx = some r) (ht : r.typ = .string) (ha : r.directHang = true → r.a0 < 16) : StringOut r s (s.stringOff r) := by
  obtain ⟨hok, hkept, hoff, himg, hmram⟩ := stringGate_down h r
  unfold State.stringOff
  generalize (if r.directHang then s.gateDown r.a0 else s) = m at hok hkept hoff himg hmram ⊢
  have hrest : ((((((m.clearLive r.ctx).clearCut r.ctx).setCode r.ctx 0).stop (.cool r.ctx)).clearCount (.cutLow r.ctx)).clearCount (.cutHigh r.ctx)).disarm r.ctx = stringRest m r.ctx := by
    rw [clearLive_string ((ctx_of_image himg r.ctx).trans hx) ht]
    rfl
  have hw := (Words.refl hok).stringRest r.ctx
  obtain ⟨himg', hmram'⟩ := stringRest_rest m r.ctx
  dsimp only
  rw [hrest]
  generalize stringRest m r.ctx = k at hw himg' hmram' ⊢
  have hserved : k.servedBy r = s.servedBy r := by simp only [State.servedBy, himg'.trans himg]
  have hword {a : Nat} (hl : a ≠ GCH_STS + r.a0) : m.reg a = s.reg a := hkept a (by simpa using hl)
  have hgate (hdh : r.directHang = true) : bits (m.reg (GCH_STS + r.a0)) 1 0 = 0 := hoff hdh
  have hch (hdh : r.directHang = true) (j : Nat) := channel_ne_ctxAddr r.ctx j (ha hdh)
  rw [hserved]
  split
  · next hs =>
    have hwords := (hw.chargeRest r.ctx).same (m := (k.chargeRest r.ctx).cutLeft r) (by rw [cutLeft_rest])
    refine ⟨(hwords.code _).trans ?_, (hwords.flag (ctxAddr r.ctx BAT_PSTS) 2).trans ?_, fun _ => ⟨(hwords.fld (ctxAddr r.ctx CHG_STATE) 2 0).trans ?_, (hwords.cw _ _).trans ?_⟩, fun hdh => (hwords.drive _).trans ?_, hwords.kept fun a hl => ?_, ?_⟩
    · simp [altered, bits_putBits_same]
    · simp [altered]
    · simp [altered, bits_putBits_other, bits_putBit_other, bits_putBits_same]
    · simp [altered]
    · simp [altered, hch hdh, hgate hdh]
    · simp_all [altered]
    · rw [cutLeft_rest]
      exact hmram'.trans hmram
  · next hs =>
    refine ⟨(hw.code _).trans ?_, (hw.flag (ctxAddr r.ctx BAT_PSTS) 2).trans ?_, fun hg => absurd hg hs, fun hdh => (hw.drive _).trans ?_, hw.kept fun a hl => ?_, hmram'.trans hmram⟩
    · simp [altered, bits_putBits_same]
    · simp [altered]
    · simp [altered, hch hdh, hgate hdh]
    · simp_all [altered]

theorem string_disconnects (c t : Nat) (r : CtxRec) (s : State) (hr : RegsOk s) (hw : s.works = true) (hs : s.string? c = some r) (hen : s.batEn c = false) (hc : s.code c ≠ 0) (ha : r.directHang = true → r.a0 < 16) :
    ∃ n, exec (.stringDisable c t) s = .next n ∧ n.code c = 0 ∧ n.isCut c = false ∧ ((s.servedBy r).isSome = true → n.chgPhase c = 0 ∧ n.cw c CHG_ICREQ = 0) ∧ (r.directHang = true → n.drive r.a0 = 0) ∧
      Kept s n [ctxAddr c CTX_STATE, ctxAddr c BAT_PSTS, ctxAddr c CHG_STATE, ctxAddr c CHG_ICREQ, ctxAddr c EST_STS, GCH_STS + r.a0] ∧ n.mram = s.mram := by
  obtain ⟨hx, ht⟩ := string_ctx hs
  have hs' : (s.at t).string? c = some r := hs
  have hen' : (s.at t).batEn c = false := hen
  have e : exec (.stringDisable c t) s = finish (s.at t) ((s.at t).stringOff r) := by
    simp [exec, execStringDisable, hw, hs', hen', hc]
  obtain rfl := ctx_number hx
  obtain ⟨hcode, hcut, hcharge, hoff, hkept, hmram⟩ := stringOff_out (s := s.at t) hr hx ht ha
  exact ⟨_, e, hcode, hcut, hcharge, hoff, hkept, hmram⟩

/-! ### DH_COOLDOWN_END, DH_LIMIT_START, DH_LIMIT_END and DH_RETRYCNT_CLEAR (R181, R216) -/

theorem string_reconnects (c t : Nat) (r : CtxRec) (s : State) (hr : RegsOk s) (hw : s.works = true) (hs : s.string? c = some r) (hdh : r.directHang = true) (ha : r.a0 < 16) (hc : s.code c = 4) (hen : s.batEn c = true)
    (he : (s.at t).expired (.cool c) (s.cw c BAT_DHCOOL) = true) :
    ∃ n, exec (.dhCooldownEnd c t) s = .next n ∧ n.code c = 1 ∧ n.drive r.a0 = 1 ∧ n.running (.cool c) = false ∧ n.running (.inrush r.a0) = true ∧ n.cw c BAT_DHRETRYCNT = s.cw c BAT_DHRETRYCNT ∧
      Kept s n [ctxAddr c CTX_STATE, ctxAddr c BAT_PSTS, GCH_STS + r.a0] ∧ n.mram = s.mram := by
  have hs' : (s.at t).string? c = some r := hs
  have hen' : (s.at t).batEn c = true := hen
  have e : exec (.dhCooldownEnd c t) s = finish (s.at t) ((s.at t).dhConnect r) := by
    simp [exec, execDhCooldownEnd, hw, hs', hdh, hen', hc, he]
  obtain rfl := ctx_number (string_ctx hs).1
  obtain ⟨hrun, hcool, hmram⟩ := dhConnect_rest (s.at t) r
  have hwords := (Words.refl (s := s.at t) hr).dhConnect r
  have hch (k : Nat) := ctxAddr_ne_channel r.ctx k ha
  have hch' (k : Nat) := channel_ne_ctxAddr r.ctx k ha
  refine ⟨_, e, (hwords.code _).trans ?_, (hwords.drive _).trans ?_, hcool, hrun, (hwords.cw _ _).trans ?_, hwords.kept fun a hl => ?_, hmram⟩
  · simp [altered, bits_putBits_same]
  · simp [altered, hch', bits_putBits_same]
  · simp [altered, hch, State.cw]
  · simp_all [altered]

theorem string_limits (c t : Nat) (charge : Bool) (r : CtxRec) (s : State) (hr : RegsOk s) (hs : s.string? c = some r) (hdh : r.directHang = true) (ha : r.a0 < 16) (hd : s.drive r.a0 ≠ 0) (hc : s.code c = 2) :
    ∃ n, exec (.dhLimitStart c charge t) s = .next n ∧ n.code c = 3 ∧ n.drive r.a0 = 2 ∧ n.running (.limit r.a0) = true ∧ n.flag (ctxAddr c BAT_PSTS) 4 = true ∧ n.flag (ctxAddr c BAT_PSTS) 5 = charge ∧
      Kept s n [ctxAddr c CTX_STATE, ctxAddr c BAT_PSTS, GCH_STS + r.a0] ∧ n.mram = s.mram := by
  have hs' : (s.at t).string? c = some r := hs
  have e : exec (.dhLimitStart c charge t) s =
      finish (s.at t) ((((((s.at t).setCode c 3).setFld (GCH_STS + r.a0) 1 0 2).startOnce (.limit r.a0)).setFlag (ctxAddr c BAT_PSTS) 4 true).setFlag (ctxAddr c BAT_PSTS) 5 charge) := by
    simp [exec, execDhLimitStart, hs', hdh, hd, hc]
  have hwords := (((((Words.refl (s := s.at t) hr).setCode c 3).setFld (GCH_STS + r.a0) 1 0 2).startOnce (.limit r.a0)).setFlag (ctxAddr c BAT_PSTS) 4 true).setFlag (ctxAddr c BAT_PSTS) 5 charge
  have hch (k : Nat) := ctxAddr_ne_channel c k ha
  have hch' (k : Nat) := channel_ne_ctxAddr c k ha
  refine ⟨_, e, (hwords.code _).trans ?_, (hwords.drive _).trans ?_, running_startOnce_same _ _, (hwords.flag _ _).trans ?_, (hwords.flag _ _).trans ?_, hwords.kept fun a hl => ?_, startOnce_mram _ _⟩
  · simp [altered, hch, bits_putBits_same]
  · simp [altered, hch', bits_putBits_same]
  · simp [altered, bit_putBit_other]
  · simp [altered]
  · simp_all [altered]

theorem string_limit_ends (c t : Nat) (r : CtxRec) (s : State) (hr : RegsOk s) (hs : s.string? c = some r) (hdh : r.directHang = true) (ha : r.a0 < 16) (hd : s.drive r.a0 ≠ 0) (hc : s.code c = 3) (hoff : 8 ≤ s.count (.limOff r.a0)) :
    ∃ n, exec (.dhLimitEnd c t) s = .next n ∧ n.code c = 2 ∧ n.drive r.a0 = 3 ∧ n.running (.limit r.a0) = false ∧ n.fld (ctxAddr c BAT_PSTS) 5 4 = 0 ∧ Kept s n [ctxAddr c CTX_STATE, ctxAddr c BAT_PSTS, GCH_STS + r.a0] ∧
      n.mram = s.mram := by
  have hs' : (s.at t).string? c = some r := hs
  have e : exec (.dhLimitEnd c t) s = finish (s.at t) (((((s.at t).setCode c 2).setFld (GCH_STS + r.a0) 1 0 3).stop (.limit r.a0)).setFld (ctxAddr c BAT_PSTS) 5 4 0) := by
    simp [exec, execDhLimitEnd, hs', hdh, hd, hc, hoff]
  have hwords := ((((Words.refl (s := s.at t) hr).setCode c 2).setFld (GCH_STS + r.a0) 1 0 3).stop (.limit r.a0)).setFld (ctxAddr c BAT_PSTS) 5 4 0
  have hch (k : Nat) := ctxAddr_ne_channel c k ha
  have hch' (k : Nat) := channel_ne_ctxAddr c k ha
  refine ⟨_, e, (hwords.code _).trans ?_, (hwords.drive _).trans ?_, running_stop_same _ _, (hwords.fld _ _ _).trans ?_, hwords.kept fun a hl => ?_, rfl⟩
  · simp [altered, hch, bits_putBits_same]
  · simp [altered, hch', bits_putBits_same]
  · simp [altered, bits_putBits_same]
  · simp_all [altered]

theorem string_retries_cleared (c t : Nat) (s : State) (hr : RegsOk s) (hw : s.works = true) (ht : s.isType c .string = true) (hen : s.flag (ctxAddr c BAT_PSTS) 3 = true)
    (he : (s.at t).expiredTicks (.dhHeld c) ticksPerSecond = true) :
    ∃ n, exec (.dhRetrycntClear c t) s = .next n ∧ n.cw c BAT_DHRETRYCNT = 0 ∧ Kept s n [ctxAddr c BAT_DHRETRYCNT] ∧ OnlyRegs (s.at t) n := by
  have h0 : RegsOk (s.at t) := hr
  have hen' : bit (s.cw c BAT_PSTS) 3 = true := hen
  have e : exec (.dhRetrycntClear c t) s = finish (s.at t) ((s.at t).setC c BAT_DHRETRYCNT 0) := by
    simp [exec, execDhRetrycntClear, hw, ht, hen', he]
  exact ⟨_, e, cw_setC_same h0 c BAT_DHRETRYCNT 0, kept_setReg h0 _ (by simp), rfl⟩

/-! ### A failed attempt (R181, R216) -/

/-- What the core does at once for an attempt whose inrush timeout has run out: the timeout flagged in the channel, the gate down, the cause flagged, the limit bits cleared (R181, R216). -/
def dhTimedOut (s : State) (r : CtxRec) : State := (((s.setFlag (GCH_STS + r.a0) 5 true).gateDown r.a0).sts r.ctx 8).setFld (ctxAddr r.ctx BAT_PSTS) 5 4 0

theorem Words.dhTimedOut (h : RegsOk s) (r : CtxRec) :
    Words (Sys2Proof.dhTimedOut s r) (altered (altered (altered (altered s.reg (GCH_STS + r.a0) (putBit · 5 true)) (GCH_STS + r.a0) (putBits · 1 0 0)) (ctxAddr r.ctx CTX_STS) (putBit · 8 true)) (ctxAddr r.ctx BAT_PSTS) (putBits · 5 4 0)) :=
  ((((Words.refl h).setFlag (GCH_STS + r.a0) 5 true).gateDown r.a0).sts r.ctx 8).setFld (ctxAddr r.ctx BAT_PSTS) 5 4 0

theorem dhTimedOut_outputs (s : State) (r : CtxRec) : OnlyOutputs s (dhTimedOut s r) :=
  setFld_outputs (sts_outputs (gateDown_outputs (setFlag_outputs (onlyOutputs_refl s) _ _ _) _) _ _) _ _ _ _

/-- With a lane the attempt is entered at once (R203, R216). -/
theorem dhFails_cases (h : RegsOk s) {r : CtxRec} (hx : s.ctx? r.ctx = some r) (hdh : r.directHang = true) (ha : r.a0 < 16) (hl : s.laneRuns = true) :
    (s.setFlag (GCH_STS + r.a0) 5 true).dhFails r 8 = if (s.cw r.ctx BAT_DHRETRYCNT).toNat < (s.cw r.ctx BAT_DHRETRY).toNat then
        ((((dhTimedOut s r).setCode r.ctx 4).inc (ctxAddr r.ctx BAT_DHRETRYCNT)).start (.cool r.ctx)).sts r.ctx 10
      else ((((dhTimedOut s r).setCode r.ctx 5).sts r.ctx stsDhLatch).applySafe r.ctx).laneRaise 6 r.ctx none 601 := by
  have hw := Words.dhTimedOut h r
  have hch (k : Nat) := ctxAddr_ne_channel r.ctx k ha
  have hch' (k : Nat) := channel_ne_ctxAddr r.ctx k ha
  have hcount : (dhTimedOut s r).cw r.ctx BAT_DHRETRYCNT = s.cw r.ctx BAT_DHRETRYCNT := (hw.cw _ _).trans (by simp [altered, hch, State.cw])
  have hmost : (dhTimedOut s r).cw r.ctx BAT_DHRETRY = s.cw r.ctx BAT_DHRETRY := (hw.cw _ _).trans (by simp [altered, hch, State.cw])
  have hdown := (((Words.refl h).setFlag (GCH_STS + r.a0) 5 true).gateDown r.a0).sts r.ctx 8
  have hoff : (((s.setFlag (GCH_STS + r.a0) 5 true).gateDown r.a0).sts r.ctx 8).drive r.a0 = 0 := (hdown.drive _).trans (by simp [altered, hch', bits_putBits_same])
  have himg : (((s.setFlag (GCH_STS + r.a0) 5 true).gateDown r.a0).sts r.ctx 8).image = s.image := gateDown_image (s.setFlag (GCH_STS + r.a0) 5 true) r.a0
  have hsame : ((((s.setFlag (GCH_STS + r.a0) 5 true).gateDown r.a0).sts r.ctx 8).gateDown r.a0).clearLive r.ctx = dhTimedOut s r := by
    rw [gateDown_off hoff, clearLive_string ((ctx_of_image himg r.ctx).trans hx) (directHang_string hdh)]
    rfl
  have hruns : (((s.setFlag (GCH_STS + r.a0) 5 true).gateDown r.a0).sts r.ctx 8).laneRuns = true := by
    have hauth : (((s.setFlag (GCH_STS + r.a0) 5 true).gateDown r.a0).sts r.ctx 8).reg LANE_AUTH = s.reg LANE_AUTH := by
      have h1 : LANE_AUTH ≠ GCH_STS + r.a0 := by
        simp only [LANE_AUTH, GCH_STS]
        omega
      rw [hdown.reg, altered_other _ _ (global_ne_ctxAddr r.ctx CTX_STS (by decide)), altered_other _ _ h1, altered_other _ _ h1]
    have harb : (((s.setFlag (GCH_STS + r.a0) 5 true).gateDown r.a0).sts r.ctx 8).arb = s.arb :=
      (gateDown_outputs (setFlag_outputs (onlyOutputs_refl s) (GCH_STS + r.a0) 5 true) r.a0).field State.arb fun _ _ => rfl
    simpa only [State.laneRuns, State.laneHeld, State.holder, State.fld, hauth, harb] using hl
  unfold State.dhFails
  dsimp only
  rw [hruns, if_pos rfl]
  unfold State.failDh
  dsimp only
  rw [hsame, hcount, hmost]

theorem string_times_out (ch t : Nat) (r : CtxRec) (s : State) (hr : RegsOk s) (him : ImagesFit s) (hlt : ch < 16) (ho : s.ownerRec ch = some r) (ha : r.a0 = ch) (hdh : r.directHang = true) (hl : s.laneRuns = true)
    (hd : s.drive ch ≠ 0) (hc : dhLive (s.code r.ctx) = true) (he : (s.at t).expired (.inrush ch) (s.cw r.ctx BAT_DHITO) = true) (hup : s.count (.enhUp ch) < 8) :
    ∃ n, exec (.attemptTimerExpiry ch t) s = .next n ∧ n.drive ch = 0 ∧ n.flag (GCH_STS + ch) 5 = true ∧ n.flag (ctxAddr r.ctx CTX_STS) 8 = true ∧
      ((s.cw r.ctx BAT_DHRETRYCNT).toNat < (s.cw r.ctx BAT_DHRETRY).toNat → n.code r.ctx = 4 ∧ n.cw r.ctx BAT_DHRETRYCNT = satInc (s.cw r.ctx BAT_DHRETRYCNT) ∧ n.running (.cool r.ctx) = true) ∧
      ((s.cw r.ctx BAT_DHRETRY).toNat ≤ (s.cw r.ctx BAT_DHRETRYCNT).toNat → s.flt.matches_ = [] → n.code r.ctx = 5 ∧ Faulted n r.ctx 6) ∧ n.mram = s.mram := by
  subst ha
  have h0 : RegsOk (s.at t) := hr
  have hx : (s.at t).ctx? r.ctx = some r := owner_ctx ho
  have ht := directHang_string hdh
  have e : exec (.attemptTimerExpiry r.a0 t) s = finish (s.at t) (((s.at t).setFlag (GCH_STS + r.a0) 5 true).dhFails r 8) := by
    have ho' : (s.at t).ownerRec r.a0 = some r := ho
    have hcode : ((s.at t).setFlag (GCH_STS + r.a0) 5 true).code r.ctx = s.code r.ctx := (kept_setReg h0 _ (List.mem_singleton.mpr rfl)).code (by simp [ctxAddr_ne_channel _ _ hlt])
    simp [exec, execAttemptTimerExpiry, ho', CtxRec.limited, ht, hdh, hd, State.attemptTimes, he, hup, State.attemptOver, hcode, hc]
  rw [dhFails_cases h0 hx hdh hlt hl, cw_at, cw_at] at e
  have hw := Words.dhTimedOut h0 r
  have hch (k : Nat) := ctxAddr_ne_channel r.ctx k hlt
  have hch' (k : Nat) := channel_ne_ctxAddr r.ctx k hlt
  have hmram := (dhTimedOut_outputs (s.at t) r).mram
  by_cases hretry : (s.cw r.ctx BAT_DHRETRYCNT).toNat < (s.cw r.ctx BAT_DHRETRY).toNat
  · rw [if_pos hretry] at e
    have hwords := (((hw.setCode r.ctx 4).inc (ctxAddr r.ctx BAT_DHRETRYCNT)).start (.cool r.ctx)).sts r.ctx 10
    refine ⟨_, e, (hwords.drive _).trans ?_, (hwords.flag _ _).trans ?_, (hwords.flag _ _).trans ?_, fun _ => ⟨(hwords.code _).trans ?_, (hwords.cw _ _).trans ?_, running_start_same _ _⟩, fun hle => absurd hretry (Nat.not_lt.mpr hle), hmram⟩
    · simp [altered, hch', bits_putBits_same]
    · simp [altered, hch', bit_putBits_other]
    · simp [altered, hch, bit_putBit_other]
    · simp [altered, hch, bits_putBits_same]
    · simp [altered, hch, State.cw]
  · rw [if_neg hretry] at e
    have hwords := (hw.setCode r.ctx 5).sts r.ctx stsDhLatch
    have hcode : (((dhTimedOut (s.at t) r).setCode r.ctx 5).sts r.ctx stsDhLatch).code r.ctx = latchedCode r.typ := (hwords.code _).trans (by simp [altered, bits_putBits_same, ht, latchedCode])
    have hoff : (((dhTimedOut (s.at t) r).setCode r.ctx 5).sts r.ctx stsDhLatch).drive r.a0 = 0 := (hwords.drive _).trans (by simp [altered, hch', bits_putBits_same])
    have hlate : (((dhTimedOut (s.at t) r).setCode r.ctx 5).sts r.ctx stsDhLatch).flag (GCH_STS + r.a0) 5 = true := (hwords.flag _ _).trans (by simp [altered, hch', bit_putBits_other])
    have hcause : (((dhTimedOut (s.at t) r).setCode r.ctx 5).sts r.ctx stsDhLatch).flag (ctxAddr r.ctx CTX_STS) 8 = true := (hwords.flag _ _).trans (by simp [altered, hch, bit_putBit_other, stsDhLatch])
    have himg : (((dhTimedOut (s.at t) r).setCode r.ctx 5).sts r.ctx stsDhLatch).image = s.image := (dhTimedOut_outputs (s.at t) r).image
    have hflt : (((dhTimedOut (s.at t) r).setCode r.ctx 5).sts r.ctx stsDhLatch).flt = s.flt := (dhTimedOut_outputs (s.at t) r).flt
    obtain ⟨hlatched, hfaulted, hmild, honly⟩ := safe_laneRaise_latched hwords.ok (himg.symm ▸ him.1) ((ctx_of_image himg r.ctx).trans hx) (.inr (.inr ht)) hcode (cls := 6) (by decide) 601
    exact ⟨_, e, hmild.off hlt hoff, (hmild.channelFlag hlt (by decide)).trans hlate, hmild.status hcause, fun hlt' => absurd hlt' hretry, fun _ hf => ⟨hlatched.trans (by rw [ht]; rfl), hfaulted (hflt.symm ▸ hf)⟩, honly.mram.trans hmram⟩

/-- Settles O31, instruction by instruction: a string connects, stops, comes back from Cool-down, limits and clears its retries, and a failed attempt counts one or latches it. -/
theorem stringsConnectLimitAndRetry : Obligations.StringsConnectLimitAndRetry :=
  ⟨fun c t r s hr hw hs hen hc hdh ha _ => string_connects c t r s hr hw hs hen hc hdh ha, string_available, string_disconnects, fun c t r s hr hw hs hdh ha _ => string_reconnects c t r s hr hw hs hdh ha, string_limits, string_limit_ends,
    string_retries_cleared, string_times_out⟩

end Sys2Proof
end
-- ==== Sys2Proof/Proofs/Channels/Selector.lean ====
section
/-! SUPPORT. What the operations of the native selector leave: the gates of the feeds it opens, their state codes, their qualification, and what stands beside the words (R186 to R193). -/

namespace Sys2Proof

open Machine

/-! ### Beside the words -/

/-- A later state of the selector's: its words have changed as a raise may change them, and the host targets and the MRAM not at all. -/
structure SelectorLeaves (s₀ s : State) : Prop where
  words : MildlyChanged s₀ s
  beside : (s.tw, s.spi, s.mram) = (s₀.tw, s₀.spi, s₀.mram)

namespace SelectorLeaves

section Steps

variable {s₀ s : State}

theorem refl (hr : RegsOk s) (hb : ∀ im, s.image = some im → ByteImage im) : SelectorLeaves s s := ⟨MildlyChanged.refl hr hb, rfl⟩

/-- A step known by what it does to the words. -/
theorem step (h : SelectorLeaves s₀ s) {n : State} (hw : MildlyChanged s₀ n) (hb : (n.tw, n.spi, n.mram) = (s.tw, s.spi, s.mram) := by rfl) : SelectorLeaves s₀ n := ⟨hw, hb.trans h.beside⟩

theorem trans {s₁ : State} (h : SelectorLeaves s₀ s₁) (h' : SelectorLeaves s₁ s) : SelectorLeaves s₀ s :=
  ⟨⟨h'.words.ok, h'.words.image.trans h.words.image, h'.words.bytes, fun a => (h.words.mild a).trans (h'.words.mild a)⟩, h'.beside.trans h.beside⟩

theorem ite {a b : State} {p : Prop} {d : Decidable p} (ha : SelectorLeaves s₀ a) (hb : SelectorLeaves s₀ b) : SelectorLeaves s₀ (if p then a else b) := by
  split <;> assumption

theorem start (h : SelectorLeaves s₀ s) {k : Timer} : SelectorLeaves s₀ (s.start k) := h.step h.words.start

theorem stop (h : SelectorLeaves s₀ s) {k : Timer} : SelectorLeaves s₀ (s.stop k) := h.step h.words.stop

theorem sts (h : SelectorLeaves s₀ s) {c b : Nat} (hb : b < 18 := by decide) : SelectorLeaves s₀ (s.sts c b) := h.step (h.words.sts hb)

theorem setCode (h : SelectorLeaves s₀ s) {c v : Nat} : SelectorLeaves s₀ (s.setCode c v) := h.step h.words.setCode

theorem setQualified (h : SelectorLeaves s₀ s) {c : Nat} {b : Bool} : SelectorLeaves s₀ (s.setQualified c b) := h.step h.words.same

theorem setChange (h : SelectorLeaves s₀ s) {ch : Option Change} : SelectorLeaves s₀ (s.setChange ch) := h.step (h.words.low (a := FSEL_ACTIVE)).same

/-- A flag or a field of the selector's status. -/
theorem status (h : SelectorLeaves s₀ s) {w : Word} : SelectorLeaves s₀ (s.setReg FSEL_STS w) := h.step h.words.low

theorem active (h : SelectorLeaves s₀ s) {w : Word} : SelectorLeaves s₀ (s.setReg FSEL_ACTIVE w) := h.step h.words.low

theorem noFeed (h : SelectorLeaves s₀ s) : SelectorLeaves s₀ s.noFeed := h.status.setChange

theorem showOpen (h : SelectorLeaves s₀ s) {c : Nat} : SelectorLeaves s₀ (s.showOpen c) := .ite h.setCode h

theorem gateDownOf (h : SelectorLeaves s₀ s) {c : Nat} : SelectorLeaves s₀ (s.gateDownOf c) :=
  h.step h.words.gateDownOf ((gateDownOf_outputs (onlyOutputs_refl s) c).field (fun m => (m.tw, m.spi, m.mram)) fun _ _ => rfl)

theorem laneRaise (h : SelectorLeaves s₀ s) {cls c : Nat} {sev : Option Nat} {site : Nat} : SelectorLeaves s₀ (s.laneRaise cls c sev site) := by
  have hf := laneRaise_fault (onlyFault_refl s) cls c sev site
  exact h.step h.words.laneRaise (by rw [hf.tw, hf.spi, hf.mram])

theorem openFeed (h : SelectorLeaves s₀ s) {c v : Nat} : SelectorLeaves s₀ (s.openFeed c v) := .ite h.gateDownOf.setCode.active h.gateDownOf.setCode

theorem nextCandidate (h : SelectorLeaves s₀ s) {ch : Change} {c : Nat} : SelectorLeaves s₀ (s.nextCandidate ch c) := by
  unfold State.nextCandidate State.onlyIf
  split
  · exact .setChange (.ite h.start h)
  · exact h.noFeed

end Steps

section Readings

variable {s n : State} (h : SelectorLeaves s n)

include h

theorem mram : n.mram = s.mram := congrArg (·.2.2) h.beside

theorem iface (p : Port) : n.iface p = s.iface p := by
  cases p
  · exact congrArg (·.1) h.beside
  · exact congrArg (·.2.1) h.beside

end Readings

end SelectorLeaves

/-! ### A feed is opened (R189) -/

variable {s : State} {c : Nat}

/-- The channel of a feed is that of its record (R73). -/
theorem feed_channel {r : CtxRec} (hx : s.ctx? c = some r) (ht : r.typ = .feed) : s.channelOf c = some r.a0 := by simp [State.channelOf, hx, ht]

theorem altered_id (f : Nat → Word) (a : Nat) : altered f a id = f := by
  funext b
  exact ite_self _

/-- An opened feed: its gate is down and its state code set, and FSEL.ACTIVE may have changed. -/
theorem Words.openFeed {f : Nat → Word} (h : Words s f) {g : Nat} (hg : s.channelOf c = some g) (v : Nat) :
    ∃ φ, Words (s.openFeed c v) (altered (altered (altered f (GCH_STS + g) (putBits · 1 0 0)) (ctxAddr c CTX_STATE) (putBits · 7 0 v)) FSEL_ACTIVE φ) := by
  have hw := (h.gateDown g).setCode c v
  simp only [State.openFeed, State.gateDownOf, hg]
  split
  · exact ⟨_, hw.setFld FSEL_ACTIVE 3 0 8⟩
  · exact ⟨id, (altered_id _ FSEL_ACTIVE).symm ▸ hw⟩

/-- FSEL.ACTIVE is no word of a gate channel. -/
theorem channel_ne_active {g : Nat} (h : g < 16) : GCH_STS + g ≠ FSEL_ACTIVE := by
  simp only [GCH_STS, FSEL_ACTIVE]
  omega

theorem openFeed_drive (h : RegsOk s) {g : Nat} (hg : s.channelOf c = some g) (hlt : g < 16) (v : Nat) : (s.openFeed c v).drive g = 0 := by
  obtain ⟨φ, hw⟩ := (Words.refl h).openFeed hg v
  rw [hw.drive, altered_other _ _ (channel_ne_active hlt), altered_other _ _ (channel_ne_ctxAddr c _ hlt), altered_same]
  exact bits_putBits_same (by decide) (by decide)

theorem openFeed_outputs (s : State) (c v : Nat) : OnlyOutputs s (s.openFeed c v) :=
  onlyOutputs_ite (setFld_outputs (setCode_outputs (gateDownOf_outputs (onlyOutputs_refl s) c) c v) _ _ _ _) (setCode_outputs (gateDownOf_outputs (onlyOutputs_refl s) c) c v)

/-! ### Qualification (R186) -/

/-- A feed that is not among the qualified ones is not qualified. -/
theorem qualified_of_feedQual {n : State} (h : n.lane.feedQual = s.lane.feedQual) (hc : s.lane.feedQual.contains c = false) : n.qualified c = false := by
  unfold State.qualified
  rw [h, hc, Bool.false_and]

theorem setQualified_true (h : s.code c ≠ 7) : (s.setQualified c true).qualified c = true := by
  have hin : (s.setQualified c true).lane.feedQual.contains c = true := by simp [State.setQualified]
  unfold State.qualified
  rw [hin, Bool.true_and]
  exact bne_iff_ne.mpr h

theorem openCode_le (s : State) (c : Nat) : s.openCode c ≤ 2 := by
  unfold State.openCode
  split
  · decide
  · split <;> decide

/-- An open feed shows its qualification; another keeps its state code (R187). -/
theorem code_showOpen (h : RegsOk s) (c : Nat) : (s.showOpen c).code c = if s.code c ≤ 2 then s.openCode c else s.code c := by
  unfold State.showOpen
  split
  · exact code_setCode h c (Nat.lt_of_le_of_lt (openCode_le s c) (by decide))
  · rfl

theorem showOpen_regs (s : State) (c : Nat) : s.showOpen c = { s with regs := (s.showOpen c).regs } := by
  unfold State.showOpen
  split <;> rfl

theorem showOpen_kept (h : RegsOk s) (c : Nat) : Kept s (s.showOpen c) [ctxAddr c CTX_STATE] := by
  unfold State.showOpen
  split
  · exact kept_setReg h _ (by simp)
  · exact kept_refl s _

/-- Showing its qualification leaves a feed as qualified as it was. -/
theorem qualified_showOpen (h : RegsOk s) (c : Nat) : (s.showOpen c).qualified c = s.qualified c := by
  have hle := openCode_le s c
  have hlane : (s.showOpen c).lane = s.lane := by rw [showOpen_regs]
  unfold State.qualified
  rw [hlane, code_showOpen h]
  split
  · next hc =>
    have h7 : ((s.openCode c != 7) = true) ∧ ((s.code c != 7) = true) := by
      simp only [bne_iff_ne]
      omega
    rw [h7.1, h7.2]
  · rfl

/-! ### A feed loses qualification (R186, R193) -/

/-- A feed taken out of the qualified ones, before what a change of feed makes of it. -/
def unqualified (s : State) (c : Nat) : State := ((((s.setQualified c false).stop (.disqualify c)).stop (.qualify c)).sts c 5).onlyIf (s.lane.stableFor = some c) fun s => s.stop .stable

theorem Words.unqualified {f : Nat → Word} (h : Words s f) (c : Nat) : Words (Sys2Proof.unqualified s c) (altered f (ctxAddr c CTX_STS) (putBit · 5 true)) := by
  have hw := ((((h.same (m := s.setQualified c false)).stop (.disqualify c)).stop (.qualify c)).sts c 5)
  unfold Sys2Proof.unqualified State.onlyIf
  split
  · exact hw.stop .stable
  · exact hw

theorem unqualified_rest (s : State) (c : Nat) : unqualified s c = { s.setQualified c false with regs := (unqualified s c).regs, timers := (unqualified s c).timers } := by
  unfold unqualified State.onlyIf
  split <;> rfl

theorem unqualified_stops (s : State) (c : Nat) : (unqualified s c).running (.qualify c) = false := by
  have h : (((s.setQualified c false).stop (.disqualify c)).stop (.qualify c)).running (.qualify c) = false := running_stop_same _ _
  have hne : Timer.qualify c ≠ .stable := nofun
  unfold unqualified State.onlyIf
  split
  · exact (running_stop_other ((((s.setQualified c false).stop (.disqualify c)).stop (.qualify c)).sts c 5) hne).trans h
  · exact h

/-- What a change of feed makes of a feed that loses qualification: it shows it; or the change goes on to another target, or ends, with the feed's gate as it was; or the feed was being closed and is opened first. -/
theorem loseQualification_cases (s : State) (c : Nat) :
    s.loseQualification c = (unqualified s c).showOpen c ∨ (∃ ch, s.loseQualification c = (unqualified s c).setChange ch) ∨ (∃ ch, s.loseQualification c = ((unqualified s c).stop .dead).setChange ch) ∨
      (∃ ch, s.loseQualification c = (((unqualified s c).openFeed c 0).stop .slowOn).setChange ch) ∨ ∃ ch, s.loseQualification c = (((unqualified s c).openFeed c 0).stop .slowOn).nextCandidate ch c := by
  unfold State.loseQualification
  dsimp only
  rw [← unqualified]
  split
  · split
    · split
      · split
        · exact .inr (.inr (.inr (.inl ⟨_, rfl⟩)))
        · exact .inr (.inr (.inr (.inr ⟨_, rfl⟩)))
      · split
        · exact .inr (.inr (.inl ⟨_, rfl⟩))
        · split
          · exact .inr (.inl ⟨_, rfl⟩)
          · exact .inr (.inl ⟨_, rfl⟩)
    · exact .inl rfl
  · exact .inl rfl

/-- Without a change of feed it only shows it. -/
theorem loseQualification_idle (h : s.lane.change = none) (c : Nat) : s.loseQualification c = (unqualified s c).showOpen c := by
  have hnone : (unqualified s c).lane.change = none := by
    rw [unqualified_rest]
    exact h
  unfold State.loseQualification
  dsimp only
  rw [← unqualified, hnone]

end Sys2Proof
end
-- ==== Sys2Proof/Proofs/Channels/Feeds.lean ====
section
/-! O28: feeds are enabled, qualified and disqualified (R185 to R188, R193, R354). -/

namespace Sys2Proof

open Machine

variable {s : State} {c : Nat}

/-! ### FEED.CTL as a write leaves it (R185) -/

/-- The shape of a word of a feed's own (R510). -/
theorem shape_feed {r : CtxRec} (hc : c < 128) {k : Nat} (h10 : 0x10 ≤ k) (hk : k < 0x40) (hx : s.ctx? c = some r) (ht : r.typ = .feed) : s.shape? (ctxAddr c k) = descAt (typeDescs .feed) k := by
  unfold State.shape?
  rw [if_neg (Nat.not_lt.mpr (Nat.le_trans (by decide) (ctxAddr_ge c k))), if_pos (isCtxAddr_ctxAddr hc hk), ctxOf_ctxAddr hk]
  dsimp only
  rw [if_neg (Nat.not_lt.mpr h10), hx]
  dsimp only
  rw [ht]

theorem shape_feedCtl {r : CtxRec} (hc : c < 128) (hx : s.ctx? c = some r) (ht : r.typ = .feed) : s.shape? (ctxAddr c FEED_CTL) = some (.fields [⟨0, 0, .rw, .any⟩, ⟨4, 1, .rw, .any⟩]) :=
  (shape_feed hc (by decide) (by decide) hx ht).trans rfl

/-- The control word of a feed is there. -/
theorem feedCtl_there {r : CtxRec} (hc : c < 128) (hx : s.ctx? c = some r) (ht : r.typ = .feed) : s.implemented (ctxAddr c FEED_CTL) = true := by
  have hlow : ¬ ctxAddr c FEED_CTL < 0x480 := Nat.not_lt.mpr (Nat.le_trans (by decide) (ctxAddr_ge c FEED_CTL))
  obtain ⟨im, hi, -⟩ := Option.bind_eq_some_iff.mp hx
  unfold State.implemented
  rw [if_neg hlow, if_pos (isCtxAddr_ctxAddr hc (by decide)), ctxOf_ctxAddr (by decide), hi, hx, shape_feedCtl hc hx ht]
  simp only [wordThere, ht]
  rfl

/-- No rule beside the range makes another value of what is written to a feed's control word. -/
theorem legal_feedCtl {r : CtxRec} (hc : c < 128) (hx : s.ctx? c = some r) (ht : r.typ = .feed) (w : Word) : s.legal (ctxAddr c FEED_CTL) w = (w, false) := by
  have hge := ctxAddr_ge c FEED_CTL
  have h1 : ctxAddr c FEED_CTL ≠ LANE_ARTIME := by
    simp only [LANE_ARTIME]
    omega
  have h2 : ¬ (ctxAddr c FEED_CTL = THR_HARDEN ∨ ctxAddr c FEED_CTL = THR_FORCE) := by
    simp only [THR_HARDEN, THR_FORCE]
    omega
  unfold State.legal
  simp only [if_neg h1, if_neg h2, isCtxAddr_ctxAddr hc (by decide : FEED_CTL < 0x40), ctxOf_ctxAddr (by decide : FEED_CTL < 0x40), if_true, hx, ht]
  rfl

/-- A write of FEED.CTL stores EN as it is written. -/
theorem written_enable {r : CtxRec} (hc : c < 128) (hx : s.ctx? c = some r) (ht : r.typ = .feed) (w : Word) : bit (Written s (ctxAddr c FEED_CTL) w) 0 = bit w 0 := by
  unfold Written State.clampWord
  rw [legal_feedCtl hc hx ht, shape_feedCtl hc hx ht]
  simp only [List.foldl_cons, List.foldl_nil, applyField, FieldRule.apply]
  rw [bit_putBits_other (by decide) (by decide) (.inl (by decide)), bit_of_low_field _ (Nat.le_refl 0), bit_of_low_field w (Nat.le_refl 0), bits_putBits_same (by decide) (by decide)]
  simp [bits]

/-- What stands when a write of FEED.CTL has stored its word, before the feed follows it. -/
structure FeedCtlStored (p : Port) (c : Nat) (w : Word) (s m : State) : Prop where
  ok : RegsOk m
  word : m.cw c FEED_CTL = Written s (ctxAddr c FEED_CTL) w
  acked : (m.iface p).acked = true
  kept : Kept s m [ctxAddr c FEED_CTL, ctxAddr c CTX_STS]
  rest : m.image = s.image ∧ m.lane = s.lane ∧ m.mram = s.mram

/-- A write that may have begun CTX.GOV.VALID anew after what it stored (R61). -/
structure GovFollows (c : Nat) (m n : State) : Prop where
  kept : RegsOk m → Kept m n [ctxAddr c CTX_GOV]
  rest : n = { m with regs := n.regs }

/-- A write of FEED.CTL that is not turned away stores its word, and the feed follows EN (R185). -/
theorem feedEnableWrite_exec {p : Port} {t : Nat} {w : Word} {r : CtxRec} (hr : RegsOk s) (hv : ServesAll p (s.at t)) (hc : c < 128) (hx : s.ctx? c = some r) (ht : r.typ = .feed)
    (hf : s.routeRefused r FEED_CTL w = false) :
    ∃ m n, FeedCtlStored p c w s m ∧ exec (.feedEnableWrite p c w t) s = finish s n ∧ GovFollows c (m.feedEnable c (s.feedEn c)) n := by
  obtain rfl := ctx_number hx
  have htype : (s.at t).isType r.ctx .feed = true := by simp [State.isType, hx, ht]
  have hthere := feedCtl_there (s := s.at t) hc hx ht
  have e : exec (.feedEnableWrite p r.ctx w t) s = finish s ((accepted (s.at t) p (ctxAddr r.ctx FEED_CTL) w).writeCtx r FEED_CTL w) := by
    change finish s ((s.at t).ctxRow p .feed r.ctx FEED_CTL w) = _
    rw [State.ctxRow, if_pos htype, hostOp_context hv hc (by decide) hx hthere]
  have hvalue := putValue_accepted s t p (ctxAddr r.ctx FEED_CTL) (ctxAddr r.ctx FEED_CTL) w w
  obtain ⟨hregs, hlane, hmram, -, -, -, hack⟩ := accepted_fields (s.at t) p (ctxAddr r.ctx FEED_CTL) w
  have hok : RegsOk (accepted (s.at t) p (ctxAddr r.ctx FEED_CTL) w) := (regsOk_of_regs hregs).mpr hr
  have hx' := (accepted_ctx (s.at t) p (ctxAddr r.ctx FEED_CTL) w r.ctx).trans hx
  have hthere' := (accepted_implemented (s.at t) p (ctxAddr r.ctx FEED_CTL) w (ctxAddr r.ctx FEED_CTL)).trans hthere
  have hf' := (accepted_routeRefused (s.at t) p (ctxAddr r.ctx FEED_CTL) w r FEED_CTL w).trans hf
  have himage := accepted_image (s.at t) p (ctxAddr r.ctx FEED_CTL) w
  have hen : (accepted (s.at t) p (ctxAddr r.ctx FEED_CTL) w).feedEn r.ctx = s.feedEn r.ctx := congrArg (bit · 0) (reg_of_regs hregs _)
  generalize accepted (s.at t) p (ctxAddr r.ctx FEED_CTL) w = k at e hvalue hregs hlane hmram hack hok hx' hthere' hf' himage hen
  have hshape := shape_feedCtl hc hx' ht
  have hput := put_writable hthere' (by rw [hshape]; nofun) (by rw [hshape]; nofun) w
  rw [hvalue] at hput
  obtain ⟨hword, hkept, hrest⟩ := storeAs_word hok (k := FEED_CTL) hc (by decide) (by decide) (putValue s (ctxAddr r.ctx FEED_CTL) w)
  have hown : k.writeOwn r FEED_CTL w = (k.storeAs (ctxAddr r.ctx FEED_CTL) (putValue s (ctxAddr r.ctx FEED_CTL) w)).feedEnable r.ctx (s.feedEn r.ctx) := by
    simp only [State.writeOwn, ht, if_true, hput, hen]
  refine ⟨_, _, ⟨storeAs_regsOk hok _ _, hword, ?_, kept_trans (kept_of_regs hregs) hkept, ?_⟩, e, ?_⟩
  · rw [hrest]
    cases p <;> exact hack
  · rw [hrest]
    exact ⟨himage, hlane, hmram⟩
  · rw [← hown]
    rcases writeCtx_own hf' with h | h <;> rw [h]
    · exact ⟨fun _ => kept_refl _ _, rfl⟩
    · exact ⟨fun ho => kept_setReg ho _ (by simp), rfl⟩

/-! ### EN written 1 (R185, R354) -/

theorem feed_enabled (p : Port) (c t : Nat) (w : Word) (r : CtxRec) (s : State) (hr : RegsOk s) (hv : ServesAll p (s.at t)) (hc : c < 128) (hx : s.ctx? c = some r) (ht : r.typ = .feed) (hen : s.feedEn c = false)
    (hw : bit w 0 = true) (href : s.reenableRefused c = false) :
    ∃ n, exec (.feedEnableWrite p c w t) s = .next n ∧ n.cw c FEED_CTL = Written s (ctxAddr c FEED_CTL) w ∧ n.feedEn c = true ∧ n.safe c = false ∧ n.code c = s.code c ∧ (n.iface p).acked = true ∧
      Kept s n [ctxAddr c FEED_CTL, ctxAddr c CTX_STATE, ctxAddr c CTX_STS, ctxAddr c CTX_GOV] ∧ n.mram = s.mram := by
  have hf : s.routeRefused r FEED_CTL w = false := by simp [State.routeRefused, ctx_number hx, href]
  obtain ⟨m, n, ⟨hok, hword, hack, hkept, -, -, hmram⟩, e, hgov, hrest⟩ := feedEnableWrite_exec hr hv hc hx ht hf
  have hon : m.feedEn c = true := by
    simp only [State.feedEn, hword, written_enable hc hx ht, hw]
  have hleaves : m.feedEnable c (s.feedEn c) = m.setSafe c false := by simp [State.feedEnable, hon, hen]
  rw [hleaves] at hgov hrest
  have hsafe := (Words.refl hok).setSafe c false
  have hlate := hgov hsafe.ok
  have hctl : n.cw c FEED_CTL = m.cw c FEED_CTL := (hlate.cw (by simp)).trans ((hsafe.cw _ _).trans (by simp [altered, State.cw]))
  refine ⟨_, e, hctl.trans hword, (congrArg (bit · 0) hctl).trans hon, (hlate.flag (a := ctxAddr c CTX_STATE) 10 (by simp)).trans ((hsafe.safe c).trans ?_), (hlate.code (by simp)).trans (((hsafe.code c).trans ?_).trans (hkept.code (by simp))), ?_,
    kept_trans (kept_mono hkept (by simp)) (kept_trans (hsafe.kept fun a hl => ?_) (kept_mono hlate (by simp))), ?_⟩
  · simp [altered]
  · simp [altered, bits_putBit_other, State.code, State.cw]
  · rw [hrest]
    cases p <;> exact hack
  · exact altered_other _ _ fun h => hl (by simp [h])
  · rw [hrest]
    exact hmram

/-! ### Qualification (R186, R187) -/

theorem feed_qualified (c t : Nat) (s : State) (hr : RegsOk s) (hw : s.works = true) (ht : s.isType c .feed = true) (hok : s.feedOk c = true) (he : (s.at t).expired (.qualify c) (s.cw c FEED_TQUAL) = true) :
    ∃ n, exec (.feedQualified c t) s = .next n ∧ n.qualified c = true ∧ n.running (.qualify c) = false ∧ (s.code c ≤ 2 → n.code c = 2) ∧ Kept s n [ctxAddr c CTX_STATE] ∧ n.mram = s.mram := by
  have e : exec (.feedQualified c t) s = finish (s.at t) ((((s.at t).setQualified c true).stop (.qualify c)).showOpen c) := by
    have ht' : (s.at t).isType c .feed = true := ht
    have hok' : (s.at t).feedOk c = true := hok
    simp [exec, execFeedQualified, hw, ht', hok', he]
  have hcode : s.code c ≠ 7 := by
    simp only [State.feedOk, Bool.and_eq_true, bne_iff_ne] at hok
    exact hok.2
  have hq : (((s.at t).setQualified c true).stop (.qualify c)).qualified c = true := setQualified_true (s := s.at t) hcode
  have hregs : RegsOk (((s.at t).setQualified c true).stop (.qualify c)) := hr
  have hnow : (((s.at t).setQualified c true).stop (.qualify c)).code c = s.code c := rfl
  have hrun := running_stop_same ((s.at t).setQualified c true) (.qualify c)
  have hbase : Kept s (((s.at t).setQualified c true).stop (.qualify c)) [ctxAddr c CTX_STATE] := fun _ _ => rfl
  have hbeside : (((s.at t).setQualified c true).stop (.qualify c)).mram = s.mram := rfl
  generalize ((s.at t).setQualified c true).stop (.qualify c) = m at e hq hregs hnow hrun hbase hbeside
  have hshown := code_showOpen hregs c
  have hopen : m.openCode c = 2 := if_pos hq
  rw [hopen, hnow] at hshown
  have hrest := showOpen_regs m c
  exact ⟨_, e, (qualified_showOpen hregs c).trans hq, (congrArg (State.running · (.qualify c)) hrest).trans hrun, fun hle => hshown.trans (if_pos hle), kept_trans hbase (showOpen_kept hregs c), (congrArg State.mram hrest).trans hbeside⟩

theorem feed_disqualified (c t : Nat) (s : State) (hr : RegsOk s) (hw : s.works = true) (ht : s.isType c .feed = true) (hq : s.qualified c = true) (hlost : s.acOk c = false ∨ (s.at t).expired (.disqualify c) (s.cw c FEED_TDQ) = true)
    (hch : s.lane.change = none) :
    ∃ n, exec (.feedQualificationLost c t) s = .next n ∧ n.qualified c = false ∧ n.flag (ctxAddr c CTX_STS) 5 = true ∧ (s.code c ≤ 2 → n.code c = 0) ∧ Kept s n [ctxAddr c CTX_STATE, ctxAddr c CTX_STS] ∧ n.mram = s.mram := by
  have e : exec (.feedQualificationLost c t) s = finish (s.at t) ((s.at t).loseQualification c) := by
    have ht' : (s.at t).isType c .feed = true := ht
    have hq' : (s.at t).qualified c = true := hq
    have hac : (s.at t).acOk c = s.acOk c := rfl
    rcases hlost with h | h <;> simp [exec, execFeedQualificationLost, hw, ht', hq', hac, h]
  rw [loseQualification_idle (s := s.at t) hch] at e
  have hwords := (Words.refl (s := s.at t) hr).unqualified c
  have hout : (unqualified (s.at t) c).qualified c = false := qualified_of_feedQual (s := (s.at t).setQualified c false) (by rw [unqualified_rest]) (by simp [State.setQualified])
  have hstopped := unqualified_stops (s.at t) c
  have hnow : (unqualified (s.at t) c).code c = s.code c := (hwords.code c).trans (by simp [altered, State.code, State.cw])
  have hsts : (unqualified (s.at t) c).flag (ctxAddr c CTX_STS) 5 = true := (hwords.flag _ _).trans (by simp [altered])
  have hkept : Kept s (unqualified (s.at t) c) [ctxAddr c CTX_STATE, ctxAddr c CTX_STS] := hwords.kept fun a hl => altered_other _ _ fun h => hl (by simp [h])
  have hbeside : (unqualified (s.at t) c).mram = s.mram := by
    rw [unqualified_rest]
    rfl
  have hregs := hwords.ok
  generalize unqualified (s.at t) c = m at e hout hstopped hnow hsts hkept hbeside hregs
  have hshown := code_showOpen hregs c
  have hopen : m.openCode c = 0 := by simp [State.openCode, hout, hstopped]
  rw [hopen, hnow] at hshown
  have hshow := showOpen_kept hregs c
  exact ⟨_, e, (qualified_showOpen hregs c).trans hout, (hshow.flag 5 (by simp)).trans hsts, fun hle => hshown.trans (if_pos hle), kept_trans hkept (kept_mono hshow (by simp)), (congrArg State.mram (showOpen_regs m c)).trans hbeside⟩

/-! ### A change of feed starts (R189, R190) -/

theorem SelectorLeaves.startChange {s₀ : State} (h : SelectorLeaves s₀ s) {forced : Bool} {old : Nat} {target : Option Nat} : SelectorLeaves s₀ (s.startChange forced old target) := by
  unfold State.startChange
  extract_lets s1 on s2 off ch s3
  have h1 : SelectorLeaves s₀ s1 := .ite h.status.laneRaise h
  have h2 : SelectorLeaves s₀ s2 := .ite h1.openFeed h1.active
  exact .ite h2.setChange.start h2.setChange

/-- The old gate is down once a change has started. -/
theorem startChange_off (hr : RegsOk s) (hb : ∀ im, s.image = some im → ByteImage im) {g : Nat} (hg : s.channelOf c = some g) (hlt : g < 16) (forced : Bool) (target : Option Nat) : (s.startChange forced c target).drive g = 0 := by
  unfold State.startChange
  extract_lets s1 on s2 off ch s3
  have h1 : SelectorLeaves s s1 := .ite (SelectorLeaves.refl hr hb).status.laneRaise (.refl hr hb)
  have hg1 : s1.channelOf c = some g := (channelOf_of_image h1.words.image c).trans hg
  have hs : SelectorLeaves s1 s1 := .refl h1.words.ok h1.words.bytes
  have h2 : SelectorLeaves s1 s2 := .ite hs.openFeed hs.active
  have hoff : s2.drive g = 0 := by
    by_cases hz : s1.drive g = 0
    · exact h2.words.off hlt hz
    · have hon : on = true := by simp [on, hg1, hz]
      have hopen : s2 = s1.openFeed c 5 := if_pos hon
      rw [hopen]
      exact openFeed_drive h1.words.ok hg1 hlt 5
  have hs2 : SelectorLeaves s2 s2 := .refl h2.words.ok h2.words.bytes
  have h3 : SelectorLeaves s2 (if ch.phase = .dead then s3.start .dead else s3) := .ite hs2.setChange.start hs2.setChange
  exact h3.words.off hlt hoff

theorem startChange_feedQual (s : State) (forced : Bool) (old : Nat) (target : Option Nat) : (s.startChange forced old target).lane.feedQual = s.lane.feedQual := by
  unfold State.startChange
  extract_lets s1 on s2 off ch s3
  have h1 : s1.lane = s.lane := by
    unfold s1
    split
    · exact (laneRaise_fault (onlyFault_refl _) 4 0 none 401).lane
    · rfl
  have h2 : s2.lane = s1.lane := by
    unfold s2
    split
    · exact (openFeed_outputs s1 old 5).lane
    · rfl
  have h3 : s2.lane.feedQual = s.lane.feedQual := congrArg LaneVars.feedQual (h2.trans h1)
  split <;> exact h3

/-! ### EN written 0 (R185, R188, R193) -/

theorem SelectorLeaves.unqualified {s₀ : State} (h : SelectorLeaves s₀ s) : SelectorLeaves s₀ (Sys2Proof.unqualified s c) := by
  have h1 := (h.setQualified (c := c) (b := false)).stop (k := .disqualify c) |>.stop (k := .qualify c) |>.sts (c := c) (b := 5)
  exact .ite h1.stop h1

theorem SelectorLeaves.loseQualification {s₀ : State} (h : SelectorLeaves s₀ s) : SelectorLeaves s₀ (s.loseQualification c) := by
  have h1 := h.unqualified (c := c)
  rcases loseQualification_cases s c with e | ⟨ch, e⟩ | ⟨ch, e⟩ | ⟨ch, e⟩ | ⟨ch, e⟩ <;> rw [e]
  · exact h1.showOpen
  · exact h1.setChange
  · exact h1.stop.setChange
  · exact h1.openFeed.stop.setChange
  · exact h1.openFeed.stop.nextCandidate

/-- A closing or closed feed that loses qualification keeps its state code, unless the change opens it. -/
theorem loseQualification_opens (hr : RegsOk s) (hb : ∀ im, s.image = some im → ByteImage im) {g : Nat} (hg : s.channelOf c = some g) (hlt : g < 16) (hc : s.code c = 3 ∨ s.code c = 4) :
    (s.loseQualification c).drive g = 0 ∨ (s.loseQualification c).code c = s.code c := by
  have hw := (Words.refl hr).unqualified c
  have h1 := (SelectorLeaves.refl hr hb).unqualified (c := c)
  have hcode : (unqualified s c).code c = s.code c := (hw.code c).trans (by simp [altered, State.code, State.cw])
  have hg1 : (unqualified s c).channelOf c = some g := (channelOf_of_image h1.words.image c).trans hg
  have hok := h1.words.ok
  have hopened : ((unqualified s c).openFeed c 0).drive g = 0 := openFeed_drive hok hg1 hlt 0
  have h2 := h1.openFeed (c := c) (v := 0)
  have hs : SelectorLeaves ((unqualified s c).openFeed c 0) ((unqualified s c).openFeed c 0) := .refl h2.words.ok h2.words.bytes
  have hchange (m : State) (hm : RegsOk m) (ch : Option Change) : (m.setChange ch).code c = m.code c := (kept_setReg hm (l := [FSEL_ACTIVE]) _ (by simp)).code (by simp [ctxAddr_ne_global c CTX_STATE (by decide : FSEL_ACTIVE < 0x1000)])
  rcases loseQualification_cases s c with e | ⟨ch, e⟩ | ⟨ch, e⟩ | ⟨ch, e⟩ | ⟨ch, e⟩ <;> rw [e]
  · have hshown := code_showOpen hok c
    rw [if_neg (by omega), hcode] at hshown
    exact .inr hshown
  · exact .inr ((hchange _ hok ch).trans hcode)
  · exact .inr ((hchange ((unqualified s c).stop .dead) hok ch).trans hcode)
  · exact .inl (hs.stop.setChange.words.off hlt hopened)
  · exact .inl (hs.stop.nextCandidate.words.off hlt hopened)

/-- What a feed that is switched off leaves. -/
structure FeedOut (c g : Nat) (s n : State) : Prop where
  leaves : SelectorLeaves s n
  unqualified : n.qualified c = false
  latched : n.code c ≠ 7
  inhibited : n.code c ≠ 6
  off : s.code c = 3 ∨ s.code c = 4 → n.drive g = 0

theorem feedEnable_out (hr : RegsOk s) (hb : ∀ im, s.image = some im → ByteImage im) {g : Nat} (hg : s.channelOf c = some g) (hlt : g < 16) (hen : s.feedEn c = false) (was : Bool) : FeedOut c g s (s.feedEnable c was) := by
  unfold State.feedEnable
  rw [if_neg (by simp [hen])]
  extract_lets s1 s2 s3
  have hs : SelectorLeaves s s := .refl hr hb
  have h1 : SelectorLeaves s s1 := .setQualified (.ite hs.loseQualification hs)
  have hs1 : SelectorLeaves s1 s1 := .refl h1.words.ok h1.words.bytes
  have hg1 : s1.channelOf c = some g := (channelOf_of_image h1.words.image c).trans hg
  have hout : s1.lane.feedQual.contains c = false := by simp [s1, State.setQualified]
  have hforced : s1.forcedChange c = s1.startChange true c (if s1.selectorFree then s1.candidate.map CtxRec.ctx else none) := by
    have hq : s1.qualified c = false := qualified_of_feedQual rfl hout
    simp [State.forcedChange, hq]
  have h2 : SelectorLeaves s1 s2 := .ite (hforced ▸ hs1.startChange) (.ite hs1.openFeed hs1)
  have hqual : s2.lane.feedQual = s1.lane.feedQual := by
    unfold s2
    split
    · exact hforced ▸ startChange_feedQual s1 _ _ _
    · split
      · exact congrArg LaneVars.feedQual (openFeed_outputs s1 c 5).lane
      · rfl
  have hs2 : SelectorLeaves s2 s2 := .refl h2.words.ok h2.words.bytes
  have h3 : SelectorLeaves s2 s3 := .ite hs2.setCode hs2
  have hqual3 : s3.lane.feedQual = s2.lane.feedQual := by
    unfold s3
    split <;> rfl
  have hcode : s3.code c ≠ 7 ∧ s3.code c ≠ 6 := by
    unfold s3
    split
    · rw [code_setCode h2.words.ok c (by decide)]
      decide
    · next h => exact not_or.mp h
  have hs3 : SelectorLeaves s3 s3 := .refl h3.words.ok h3.words.bytes
  have h4 := (hs3.stop (k := .qualify c)).showOpen (c := c)
  have hshown := code_showOpen (s := s3.stop (.qualify c)) h3.words.ok c
  have hle := openCode_le (s3.stop (.qualify c)) c
  have hnow : (s3.stop (.qualify c)).code c = s3.code c := rfl
  rw [hnow] at hshown
  refine ⟨((h1.trans h2).trans h3).trans h4, ?_, ?_, ?_, fun hlive => ?_⟩
  · exact (qualified_showOpen (s := s3.stop (.qualify c)) h3.words.ok c).trans (qualified_of_feedQual (s := s1) (hqual3.trans hqual) hout)
  · rw [hshown]
    split <;> omega
  · rw [hshown]
    split <;> omega
  · have hfirst : s1.drive g = 0 ∨ s1.code c = s.code c := by
      unfold s1
      split
      · exact loseQualification_opens hr hb hg hlt hlive
      · exact .inr rfl
    have hoff : s2.drive g = 0 := by
      rcases hfirst with hz | hk
      · exact h2.words.off hlt hz
      · unfold s2
        split
        · exact hforced ▸ startChange_off h1.words.ok h1.words.bytes hg1 hlt _ _
        · split
          · exact openFeed_drive h1.words.ok hg1 hlt 5
          · next h => exact absurd (hk ▸ hlive) h
    exact (h3.trans h4).words.off hlt hoff

theorem feed_disabled (p : Port) (c t : Nat) (w : Word) (r : CtxRec) (s : State) (hr : RegsOk s) (him : ImagesFit s) (hv : ServesAll p (s.at t)) (hc : c < 128) (hx : s.ctx? c = some r) (ht : r.typ = .feed) (ha : r.a0 < 16) (hw : bit w 0 = false) :
    ∃ n, exec (.feedEnableWrite p c w t) s = .next n ∧ n.feedEn c = false ∧ n.qualified c = false ∧ n.code c ≠ 7 ∧ n.code c ≠ 6 ∧ (s.code c = 3 ∨ s.code c = 4 → n.drive r.a0 = 0) ∧ (n.iface p).acked = true ∧ n.mram = s.mram := by
  have hf : s.routeRefused r FEED_CTL w = false := by simp [State.routeRefused, hw]
  obtain ⟨m, n, ⟨hok, hword, hack, hkept, himage, -, hmram⟩, e, hgov, hrest⟩ := feedEnableWrite_exec hr hv hc hx ht hf
  have hoff : m.feedEn c = false := by
    simp only [State.feedEn, hword, written_enable hc hx ht, hw]
  have hg : m.channelOf c = some r.a0 := (channelOf_of_image himage c).trans (feed_channel hx ht)
  have hb : ∀ im, m.image = some im → ByteImage im := himage.symm ▸ him.1
  obtain ⟨hleaves, hqual, hlatched, hinhibited, hdown⟩ := feedEnable_out hok hb hg ha hoff (s.feedEn c)
  have hcode : m.code c = s.code c := hkept.code (by simp)
  generalize m.feedEnable c (s.feedEn c) = k at hgov hrest hleaves hqual hlatched hinhibited hdown
  have hlate := hgov hleaves.words.ok
  have hsame : n.code c = k.code c := hlate.code (by simp)
  have hlane : n.lane = k.lane := by rw [hrest]
  have hout : n.qualified c = k.qualified c := by simp only [State.qualified, hlane, hsame]
  have hiface : n.iface p = k.iface p := by
    rw [hrest]
    cases p <;> rfl
  have hctl : n.cw c FEED_CTL = k.cw c FEED_CTL := hlate.cw (by simp)
  have hbeside : n.mram = k.mram := by rw [hrest]
  refine ⟨_, e, (congrArg (bit · 0) hctl).trans (hleaves.words.enable hoff), hout.trans hqual, hsame ▸ hlatched, hsame ▸ hinhibited, fun hl => (congrArg (bits · 1 0) (hlate _ ?_)).trans (hdown (hcode.symm ▸ hl)), ?_, (hbeside.trans hleaves.mram).trans hmram⟩
  · simp [channel_ne_ctxAddr c CTX_GOV ha]
  · exact (congrArg Iface.acked (hiface.trans (hleaves.iface p))).trans hack

/-- Settles O28, instruction by instruction: EN written 1 and 0, a feed that qualifies, and one that does not qualify any more. -/
theorem feedsQualifyAndAreEnabled : Obligations.FeedsQualifyAndAreEnabled :=
  ⟨feed_enabled, fun p c t w r s hr him hv _ => feed_disabled p c t w r s hr him hv, feed_qualified, feed_disqualified⟩

end Sys2Proof
end
-- ==== Sys2Proof/Proofs/Channels/FeedChanges.lean ====
section
/-! O29: a feed change breaks before it makes; slow gates and ideal diodes (R189, R190, R194). -/

namespace Sys2Proof

open Machine

variable {s : State} {c : Nat}

/-! ### The candidate (R188) -/

theorem minBy_mem {α : Type} {key : α → Int} {l : List α} {x : α} (h : minBy key l = some x) : x ∈ l := by
  cases l with
  | nil => exact absurd h nofun
  | cons y l =>
    have hfold : ∀ (l : List α) (y : α), l.foldl (fun m z => if key z < key m then z else m) y ∈ y :: l := by
      intro l
      induction l with
      | nil => exact fun y => List.mem_singleton.mpr rfl
      | cons z l ih =>
        intro y
        have hstep : ∀ m, m ∈ (if key z < key y then z else y) :: l → m ∈ y :: z :: l := by
          intro m hm
          rcases List.mem_cons.mp hm with rfl | hm
          · split <;> simp
          · exact List.mem_cons_of_mem _ (List.mem_cons_of_mem _ hm)
        exact hstep _ (ih _)
    exact Option.some.inj h ▸ hfold l y

theorem candidate_qualified {r : CtxRec} (h : s.candidate = some r) : s.qualified r.ctx = true := (List.mem_filter.mp (minBy_mem h)).2

/-- There is no candidate where no native feed is qualified. -/
theorem candidate_none : s.candidate = none ↔ ∀ r ∈ s.nativeFeeds, s.qualified r.ctx = false := by
  have hmin {α : Type} (key : α → Int) (l : List α) : minBy key l = none ↔ l = [] := by cases l <;> simp [minBy]
  rw [State.candidate, hmin, List.filter_eq_nil_iff]
  simp only [Bool.not_eq_true]

/-! ### FEED_OLD_GATE_OFF (R187, R189, R190) -/

/-- The feed whose gate is found off, shown as it is qualified. -/
def oldGateOff (s : State) (o : Nat) : State := (if s.code o = 5 then s.setCode o (s.openCode o) else s).stop (.gateOff ((s.channelOf o).getD 0))

theorem oldGateOff_rest (s : State) (o : Nat) : oldGateOff s o = { s with regs := (oldGateOff s o).regs, timers := (oldGateOff s o).timers } := by
  unfold oldGateOff
  split <;> rfl

/-- The state in which a change is found to have its old gate off: without an old feed it stands. -/
def oldGatesOff (s : State) (old : Option Nat) : State := (old.map (oldGateOff s)).getD s

theorem oldGatesOff_rest (s : State) (old : Option Nat) : oldGatesOff s old = { s with regs := (oldGatesOff s old).regs, timers := (oldGatesOff s old).timers } := by
  cases old with
  | none => rfl
  | some o => exact oldGateOff_rest s o

theorem oldGateOff_words (h : RegsOk s) (o : Nat) : RegsOk (oldGateOff s o) ∧ Kept s (oldGateOff s o) [ctxAddr o CTX_STATE] ∧ (oldGateOff s o).code o = if s.code o = 5 then s.openCode o else s.code o := by
  unfold oldGateOff
  split
  · exact ⟨setReg_regsOk h _ _, kept_setReg h _ (by simp), code_setCode h o (Nat.lt_of_le_of_lt (openCode_le s o) (by decide))⟩
  · exact ⟨h, kept_refl s _, rfl⟩

theorem oldGatesOff_regsOk (h : RegsOk s) (old : Option Nat) : RegsOk (oldGatesOff s old) := by
  cases old with
  | none => exact h
  | some o => exact (oldGateOff_words h o).1

/-- A feed on its way off that shows its qualification is as qualified as before. -/
theorem qualified_oldGatesOff (h : RegsOk s) (old : Option Nat) (c : Nat) : (oldGatesOff s old).qualified c = s.qualified c := by
  cases old with
  | none => rfl
  | some o =>
    obtain ⟨-, hkept, hcode⟩ := oldGateOff_words h o
    have hlane : (oldGateOff s o).lane = s.lane := by rw [oldGateOff_rest]
    change (oldGateOff s o).qualified c = s.qualified c
    unfold State.qualified
    rw [hlane]
    by_cases hc : c = o
    · subst hc
      rw [hcode]
      split
      · next h5 =>
        have hle := openCode_le s c
        have h7 : ((s.openCode c != 7) = true) ∧ ((s.code c != 7) = true) := by
          simp only [bne_iff_ne]
          omega
        rw [h7.1, h7.2]
      · rfl
    · have hne : ctxAddr c CTX_STATE ≠ ctxAddr o CTX_STATE := by
        simp only [ctxAddr, CTX_STATE]
        omega
      rw [hkept.code (by simpa using hne)]

theorem feedOldGateOff_exec {t : Nat} {ch : Change} (hw : s.works = true) (hl : s.lane.change = some ch) (hp : ch.phase = .opening) :
    exec (.feedOldGateOff t) s = finish (s.at t) (if ch.target.isNone && (oldGatesOff (s.at t) ch.old).candidate.isNone then (oldGatesOff (s.at t) ch.old).noFeed
      else ((oldGatesOff (s.at t) ch.old).start .dead).setChange (some { ch with phase := .dead })) := by
  have hw' : (s.at t).works = true := hw
  have hl' : (s.at t).lane.change = some ch := hl
  simp only [exec, execFeedOldGateOff, hw', hl', hp, if_true]
  cases ho : ch.old <;> rfl

theorem change_waits (t x : Nat) (ch : Change) (s : State) (hr : RegsOk s) (hw : s.works = true) (hl : s.lane.change = some ch) (hp : ch.phase = .opening) (ht : ch.target = some x) :
    ∃ n, exec (.feedOldGateOff t) s = .next n ∧ n.lane.change = some { ch with phase := .dead } ∧ n.running .dead = true ∧ n.age .dead = 0 ∧ n.flag FSEL_ACTIVE 4 = true ∧
      (∀ o, ch.old = some o → s.code o = 5 → n.code o = s.openCode o) ∧ (∀ a, a ≠ FSEL_ACTIVE → (∀ o, ch.old = some o → a ≠ ctxAddr o CTX_STATE) → n.reg a = s.reg a) ∧ n.mram = s.mram := by
  have e := feedOldGateOff_exec (t := t) hw hl hp
  rw [if_neg (by simp [ht])] at e
  have h0 : RegsOk (s.at t) := hr
  have hok := oldGatesOff_regsOk h0 ch.old
  have hmram : (oldGatesOff (s.at t) ch.old).mram = s.mram := by
    rw [oldGatesOff_rest]
    rfl
  have hlast : Kept (oldGatesOff (s.at t) ch.old) (((oldGatesOff (s.at t) ch.old).start .dead).setChange (some { ch with phase := .dead })) [FSEL_ACTIVE] :=
    kept_setReg (s := (oldGatesOff (s.at t) ch.old).start .dead) hok _ (by simp)
  refine ⟨_, e, rfl, running_start_same _ _, age_start _ _, flag_setFlag_same (s := (oldGatesOff (s.at t) ch.old).start .dead) hok FSEL_ACTIVE (n := 4) true (by decide), fun o ho h5 => ?_, fun a ha hold => ?_, hmram⟩
  · obtain ⟨-, -, hcode⟩ := oldGateOff_words h0 o
    refine (hlast.code (by simp [ctxAddr_ne_global o CTX_STATE (by decide : FSEL_ACTIVE < 0x1000)])).trans ?_
    rw [ho]
    exact hcode.trans (if_pos h5)
  · refine (hlast a (by simpa using ha)).trans ?_
    cases ho : ch.old with
    | none => rfl
    | some o => exact (oldGateOff_words h0 o).2.1 a (by simpa using hold o ho)

theorem change_finds_no_feed (t : Nat) (ch : Change) (s : State) (hr : RegsOk s) (hw : s.works = true) (hl : s.lane.change = some ch) (hp : ch.phase = .opening) (ht : ch.target = none) (hnone : s.candidate = none) :
    ∃ n, exec (.feedOldGateOff t) s = .next n ∧ n.lane.change = none ∧ n.flag FSEL_STS 2 = true ∧ n.flag FSEL_ACTIVE 4 = false ∧ n.mram = s.mram := by
  have h0 : RegsOk (s.at t) := hr
  have hok := oldGatesOff_regsOk h0 ch.old
  have himg : (oldGatesOff (s.at t) ch.old).image = s.image := by
    rw [oldGatesOff_rest]
    rfl
  have hmram : (oldGatesOff (s.at t) ch.old).mram = s.mram := by
    rw [oldGatesOff_rest]
    rfl
  have hnone' : (oldGatesOff (s.at t) ch.old).candidate = none := by
    have hnative : (oldGatesOff (s.at t) ch.old).nativeFeeds = s.nativeFeeds := by simp only [State.nativeFeeds, State.ofType, himg]
    rw [candidate_none, hnative]
    exact fun r hm => (qualified_oldGatesOff h0 ch.old r.ctx).trans (candidate_none.mp hnone r hm)
  have e := feedOldGateOff_exec (t := t) hw hl hp
  rw [if_pos (by simp [ht, hnone'])] at e
  have hwords := ((Words.refl hok).setFlag FSEL_STS 2 true).setFlag FSEL_ACTIVE 4 false
  refine ⟨_, e, rfl, (hwords.flag FSEL_STS 2).trans ?_, (hwords.flag FSEL_ACTIVE 4).trans ?_, hmram⟩
  · rw [altered_other _ _ (by decide), altered_same]
    exact bit_putBit_same true (by decide)
  · rw [altered_same]
    exact bit_putBit_same false (by decide)

/-! ### FEED_DEAD_TIME_END (R189) -/

theorem target_closes (t c g : Nat) (ch : Change) (s : State) (hr : RegsOk s) (hw : s.works = true) (he : (s.at t).expired .dead (s.reg FSEL_DEAD) = true) (hl : s.lane.change = some ch) (hp : ch.phase = .dead) (ht : ch.target = some c)
    (hq : s.qualified c = true) (hg : s.channelOf c = some g) (hlt : g < 16) (hoff : s.drive g = 0) :
    ∃ n, exec (.feedDeadTimeEnd t) s = .next n ∧ n.lane.change = some { ch with phase := .closing } ∧ n.drive g = 1 ∧ n.code c = 3 ∧ n.running .slowOn = true ∧ n.running .dead = false ∧
      Kept s n [GCH_STS + g, ctxAddr c CTX_STATE, FSEL_ACTIVE] ∧ n.mram = s.mram := by
  have hsame : { ch with target := some c, phase := .closing } = { ch with phase := .closing } := by rw [← ht]
  have e : exec (.feedDeadTimeEnd t) s = finish (s.at t) ((((((s.at t).stop .dead).gateSource g false).setCode c 3).start .slowOn).setChange (some { ch with phase := .closing })) := by
    have hw' : (s.at t).works = true := hw
    have he' : (s.at t).expired .dead ((s.at t).reg FSEL_DEAD) = true := he
    have hl' : (s.at t).lane.change = some ch := hl
    have hq' : ((s.at t).stop .dead).qualified c = true := hq
    have hclose : ((s.at t).stop .dead).closeTarget ch c = (((((s.at t).stop .dead).gateSource g false).setCode c 3).start .slowOn).setChange (some { ch with phase := .closing }) := by
      have hg' : ((s.at t).stop .dead).channelOf c = some g := hg
      have hoff' : ((s.at t).stop .dead).drive g = 0 := hoff
      simp only [State.closeTarget, hg', hoff', ne_eq, not_true_eq_false, and_false, if_false, hsame]
    simp only [exec, execFeedDeadTimeEnd, hw', he', Bool.and_true, hl', hp, if_true, ht, hq', hclose]
  have hwords := (((((Words.refl (s := s.at t) hr).stop .dead).gateSource g false).setCode c 3).start .slowOn).setFlag FSEL_ACTIVE 4 true
  have hch (k : Nat) := ctxAddr_ne_channel c k hlt
  have hch' (k : Nat) := channel_ne_ctxAddr c k hlt
  have hact := channel_ne_active hlt
  have hglob (k : Nat) : ctxAddr c k ≠ FSEL_ACTIVE := ctxAddr_ne_global c k (by decide)
  have hne : Timer.dead ≠ .slowOn := nofun
  refine ⟨_, e, rfl, (hwords.drive g).trans ?_, (hwords.code c).trans ?_, running_start_same _ _, ?_, hwords.kept fun a ha => ?_, gateSource_mram ((s.at t).stop .dead) g false⟩
  · simp [altered, hch', hact, bits_putBits_same]
  · simp [altered, hch, hglob, bits_putBits_same]
  · exact (running_start_other ((((s.at t).stop .dead).gateSource g false).setCode c 3) hne).trans ((gateSource_untimed_running _ g (k := .dead) nofun).trans (running_stop_same _ _))
  · simp_all [altered]

/-! ### FEED_SLOW_ON (R189) -/

/-- A raise against a feed leaves the timers that no pull-down of its gate touches, and the measured gate voltages. -/
theorem laneRaise_feed (h : RegsOk s) {r : CtxRec} (hx : s.ctx? c = some r) (ht : r.typ = .feed) {cls : Nat} (hcls : cls < 13) (site : Nat) :
    (∀ k, gateDownSpares r.a0 k → k ≠ .fltPulse → (s.laneRaise cls c none site).running k = s.running k) ∧ ∀ x, ((s.laneRaise cls c none site).chan x).vgs = (s.chan x).vgs := by
  obtain ⟨m, x, ⟨-, himg, -, hchannels, hrun⟩, hm⟩ := raise_acts h (r := { cls := cls, ctx := c, sev := none, site := site, init := s.laneOrigin, lane := true }) hcls (Option.isSome_iff_exists.mpr ⟨r, hx⟩)
  have hchan (x : Nat) : m.chan x = s.chan x := by simp only [State.chan, hchannels]
  have hsafe : m.applySafe c = m ∨ m.applySafe c = m.setSafe r.ctx true ∨ m.applySafe c = (((m.setSafe r.ctx true).gateDown r.a0).setCode r.ctx 7).sts r.ctx stsFeedLatch := by
    have hx' := (ctx_of_image himg c).trans hx
    have hg : (m.setSafe r.ctx true).channelOf r.ctx = some r.a0 := feed_channel (s := m.setSafe r.ctx true) ((ctx_number hx).symm ▸ hx') ht
    rw [applySafe_own hx' (.inl ht)]
    split
    · exact .inl rfl
    · unfold State.enterSafe
      simp only [ht, State.gateDownOf, hg]
      split
      · exact .inr (.inr rfl)
      · exact .inr (.inl rfl)
  unfold State.laneRaise
  rcases hm with hm | hm
  · rw [hm]
    exact ⟨fun k _ hk => hrun k hk, fun x => congrArg ChanVar.vgs (hchan x)⟩
  · rw [hm]
    dsimp only
    rcases hsafe with hs | hs | hs <;> rw [hs]
    · exact ⟨fun k _ hk => hrun k hk, fun x => congrArg ChanVar.vgs (hchan x)⟩
    · exact ⟨fun k _ hk => hrun k hk, fun x => congrArg ChanVar.vgs (hchan x)⟩
    · exact ⟨fun k hspare hk => (running_gateDown (m.setSafe r.ctx true) r.a0 hspare).trans (hrun k hk), fun x => (vgs_gateDown (m.setSafe r.ctx true) r.a0 x).trans (congrArg ChanVar.vgs (hchan x))⟩

theorem running_openFeed {g : Nat} (hg : s.channelOf c = some g) (v : Nat) {k : Timer} (hk : gateDownSpares g k) : (s.openFeed c v).running k = s.running k := by
  have h := running_gateDown s g hk
  simp only [State.openFeed, State.gateDownOf, hg]
  split <;> exact h

theorem vgs_openFeed {g : Nat} (hg : s.channelOf c = some g) (v x : Nat) : ((s.openFeed c v).chan x).vgs = (s.chan x).vgs := by
  have h := vgs_gateDown s g x
  simp only [State.openFeed, State.gateDownOf, hg]
  split <;> exact h

/-- A lane opens the feed it latches, and raises class 4 against it (R189, R193). -/
theorem latchFeed_lane (hl : s.laneRuns = true) (c site : Nat) :
    ∃ l, s.latchFeed c site true = ({ (s.openFeed c 7).sts c stsFeedLatch with lane := l }.stop (.qualify c)).laneRaise 4 c none site := by
  unfold State.latchFeed
  rw [if_pos hl]
  dsimp only
  rw [if_pos rfl]
  split <;> exact ⟨_, rfl⟩

/-- How a change goes on after its target failed: it starts again towards another feed, or there is none (R189, R193). -/
structure GoesOn (ch : Change) (failed : Nat) (s n : State) : Prop where
  kept : RegsOk s → Kept s n [FSEL_ACTIVE, FSEL_STS]
  flt : n.flt = s.flt
  mram : n.mram = s.mram
  running : ∀ k, k ≠ .dead → n.running k = s.running k
  change : ∀ x, n.lane.change = some x → x.phase = (if s.gateIsOff failed then .dead else .opening) ∧ x.old = some failed ∧ ∃ r, s.candidate = some r ∧ x.target = some r.ctx

theorem nextCandidate_goesOn (s : State) (ch : Change) (failed : Nat) : GoesOn ch failed s (s.nextCandidate ch failed) := by
  unfold State.nextCandidate
  split
  · next r hr =>
    have hstart {p : Bool} : (s.onlyIf p fun s => s.start .dead).regs = s.regs ∧ (s.onlyIf p fun s => s.start .dead).flt = s.flt ∧ (s.onlyIf p fun s => s.start .dead).mram = s.mram ∧
        ∀ k, k ≠ .dead → (s.onlyIf p fun s => s.start .dead).running k = s.running k := by
      unfold State.onlyIf
      split
      · exact ⟨rfl, rfl, rfl, fun k hk => running_start_other s hk⟩
      · exact ⟨rfl, rfl, rfl, fun k _ => rfl⟩
    extract_lets next
    obtain ⟨hregs, hflt, hmram, hrun⟩ := hstart (p := next.phase = .dead)
    refine ⟨fun h => kept_trans (kept_of_regs hregs) (kept_setReg ((regsOk_of_regs hregs).mpr h) _ (by simp)), hflt, hmram, hrun, fun x hx => ?_⟩
    obtain rfl : next = x := Option.some.inj hx
    exact ⟨rfl, rfl, r, hr, rfl⟩
  · refine ⟨fun h => ?_, rfl, rfl, fun _ _ => rfl, fun x hx => absurd hx nofun⟩
    have hsts : Kept s (s.setFlag FSEL_STS 2 true) [FSEL_ACTIVE, FSEL_STS] := kept_setReg h _ (by simp)
    exact kept_trans hsts (kept_setReg (setReg_regsOk h _ _) _ (by simp))

/-- A target that failed, opened and latched, before the raise against it. -/
structure TargetLatched (c g : Nat) (s m : State) : Prop where
  ok : RegsOk m
  beside : (m.image, m.flt, m.mram) = (s.image, s.flt, s.mram)
  code : m.code c = 7
  cause : m.flag (ctxAddr c CTX_STS) 10 = true
  off : m.drive g = 0
  stopped : m.running .slowOn = false
  vgs : ∀ x, (m.chan x).vgs = (s.chan x).vgs

theorem target_latched (hr : RegsOk s) {g : Nat} (hg : s.channelOf c = some g) (hlt : g < 16) (l : LaneVars) :
    TargetLatched c g s ({ (((s.stop .slowOn).sts c 10).openFeed c 7).sts c stsFeedLatch with lane := l }.stop (.qualify c)) := by
  have hg' : ((s.stop .slowOn).sts c 10).channelOf c = some g := hg
  obtain ⟨φ, hopen⟩ := (((Words.refl hr).stop .slowOn).sts c 10).openFeed hg' 7
  have hwords := ((hopen.sts c stsFeedLatch).same (m := { (((s.stop .slowOn).sts c 10).openFeed c 7).sts c stsFeedLatch with lane := l })).stop (.qualify c)
  have hch (k : Nat) := ctxAddr_ne_channel c k hlt
  have hch' (k : Nat) := channel_ne_ctxAddr c k hlt
  have hact := channel_ne_active hlt
  have hglob (k : Nat) : ctxAddr c k ≠ FSEL_ACTIVE := ctxAddr_ne_global c k (by decide)
  have hspare : gateDownSpares g .slowOn := ⟨nofun, nofun, nofun, nofun, nofun⟩
  have hne : Timer.slowOn ≠ .qualify c := nofun
  refine ⟨hwords.ok, ?_, (hwords.code c).trans ?_, (hwords.flag _ _).trans ?_, (hwords.drive g).trans ?_, ?_, vgs_openFeed hg' 7⟩
  · exact (openFeed_outputs ((s.stop .slowOn).sts c 10) c 7).field (fun x => (x.image, x.flt, x.mram)) fun _ _ => rfl
  · simp [altered, hch, hglob, bits_putBits_same]
  · simp [altered, hch, hglob, stsFeedLatch, bit_putBit_other]
  · simp [altered, hch', hact, bits_putBits_same]
  · exact (running_stop_other _ hne).trans ((running_openFeed hg' 7 hspare).trans (running_stop_same s .slowOn))

theorem target_fails (t c : Nat) (r : CtxRec) (ch : Change) (s : State) (hr : RegsOk s) (him : ImagesFit s) (hw : s.works = true) (he : (s.at t).expiredTicks .slowOn (ms 50) = true) (hl : s.lane.change = some ch) (hp : ch.phase = .closing)
    (htarget : ch.target = some c) (hx : s.ctx? c = some r) (ht : r.typ = .feed) (ha : r.a0 < 16) (hslow : s.drive r.a0 ≠ 3) (hf : s.flt.matches_ = []) :
    ∃ n, exec (.feedSlowOn t) s = .next n ∧ n.code c = 7 ∧ n.flag (ctxAddr c CTX_STS) 10 = true ∧ n.drive r.a0 = 0 ∧ n.qualified c = false ∧ Faulted n c 4 ∧ n.running .slowOn = false ∧
      (∀ x, n.lane.change = some x → x.phase = (if s.gateIsOff c then .dead else .opening) ∧ x.old = some c ∧ x.target ≠ some c) ∧ n.mram = s.mram := by
  have h0 : RegsOk (s.at t) := hr
  have hg : s.channelOf c = some r.a0 := feed_channel hx ht
  have hruns : s.laneRuns = true := by
    simp only [State.works, Bool.and_eq_true] at hw
    exact hw.1.1
  have hruns' : (((s.at t).stop .slowOn).sts c 10).laneRuns = true := by
    have hauth : (((s.at t).stop .slowOn).sts c 10).reg LANE_AUTH = s.reg LANE_AUTH := reg_setReg_other (s := (s.at t).stop .slowOn) h0 _ (global_ne_ctxAddr c CTX_STS (by decide))
    have harb : (((s.at t).stop .slowOn).sts c 10).arb = s.arb := rfl
    simpa only [State.laneRuns, State.laneHeld, State.holder, State.fld, hauth, harb] using hruns
  obtain ⟨l, hlatch⟩ := latchFeed_lane hruns' c 403
  have e : exec (.feedSlowOn t) s = finish (s.at t) (((((s.at t).stop .slowOn).sts c 10).latchFeed c 403 true).nextCandidate ch c) := by
    have hw' : (s.at t).works = true := hw
    simp [exec, execFeedSlowOn, hw', he, hl, hp, htarget, hg, hslow]
  rw [hlatch] at e
  obtain ⟨hok, hbeside, hcode, hcause, hoff, hstopped, hvgs⟩ := target_latched (s := s.at t) h0 hg ha l
  generalize { ((((s.at t).stop .slowOn).sts c 10).openFeed c 7).sts c stsFeedLatch with lane := l }.stop (.qualify c) = m at e hok hbeside hcode hcause hoff hstopped hvgs
  simp only [Prod.mk.injEq] at hbeside
  obtain ⟨himg, hflt, hmram⟩ : m.image = s.image ∧ m.flt = s.flt ∧ m.mram = s.mram := hbeside
  have hx' : m.ctx? c = some r := (ctx_of_image himg c).trans hx
  obtain ⟨hcode', hfaulted, hmild, honly⟩ := laneRaise_latched hok (himg.symm ▸ him.1) hx' (.inl ht) (hcode.trans (by rw [ht]; rfl)) (cls := 4) (by decide) 403
  obtain ⟨hrunning, hvgs'⟩ := laneRaise_feed hok hx' ht (cls := 4) (by decide) 403
  have hspare : gateDownSpares r.a0 .slowOn := ⟨nofun, nofun, nofun, nofun, nofun⟩
  have hcause' := hmild.status hcause
  have hoff' := hmild.off ha hoff
  have hstopped' := (hrunning .slowOn hspare nofun).trans hstopped
  have hfault := hfaulted (hflt.symm ▸ hf)
  have hgate : (m.laneRaise 4 c none 403).gateIsOff c = s.gateIsOff c := by
    have hchan := channelOf_of_image (hmild.image.trans himg) c
    simp only [State.gateIsOff, hchan, hvgs', hvgs]
    rfl
  have hmram' := honly.mram.trans hmram
  have hcode7 : (m.laneRaise 4 c none 403).code c = 7 := by rw [hcode', ht]; rfl
  have hokr := hmild.ok
  generalize m.laneRaise 4 c none 403 = k at e hcause' hoff' hstopped' hfault hgate hmram' hcode7 hokr
  have hout {n : State} (h7 : n.code c = 7) : n.qualified c = false := by simp [State.qualified, h7]
  obtain ⟨hkept, hfltn, hmramn, hrunn, hchange⟩ := nextCandidate_goesOn k ch c
  have hlate := hkept hokr
  have hglob (j : Nat) : ctxAddr c j ∉ [FSEL_ACTIVE, FSEL_STS] := by simp [ctxAddr_ne_global c j (by decide : FSEL_ACTIVE < 0x1000), ctxAddr_ne_global c j (by decide : FSEL_STS < 0x1000)]
  have hchannel : GCH_STS + r.a0 ∉ [FSEL_ACTIVE, FSEL_STS] := by
    simp only [GCH_STS, FSEL_ACTIVE, FSEL_STS, List.mem_cons, List.not_mem_nil, or_false]
    omega
  have hcoden := (hlate.code (hglob _)).trans hcode7
  refine ⟨_, e, hcoden, (hlate.flag 10 (hglob _)).trans hcause', (congrArg (bits · 1 0) (hlate _ hchannel)).trans hoff', hout hcoden, ?_, (hrunn .slowOn nofun).trans hstopped', fun x hx => ?_, hmramn.trans hmram'⟩
  · obtain ⟨q, hq, hqc⟩ := hfault
    exact ⟨q, hfltn.symm ▸ hq, hqc⟩
  · obtain ⟨hphase, hold, q, hcand, hto⟩ := hchange x hx
    refine ⟨hgate ▸ hphase, hold, fun hsame => ?_⟩
    obtain rfl : q.ctx = c := Option.some.inj (hto.symm.trans hsame)
    exact absurd ((hout hcode7).symm.trans (candidate_qualified hcand)) nofun

/-! ### FEED_SLOW_OFF (R189) -/

/-- The old gate that is not off in time: flagged in its channel and its feed, and no longer timed. -/
def lateGate (s : State) (r : CtxRec) : State := ((s.setFlag (GCH_STS + r.a0) 6 true).sts r.ctx 9).stop (.gateOff r.a0)

theorem gate_stays_on (t : Nat) (r : CtxRec) (s : State) (hr : RegsOk s) (him : ImagesFit s) (hw : s.works = true) (hx : s.ctx? r.ctx = some r) (ha : r.a0 < 16) (hf : s.flt.matches_ = [])
    (hlate : (s.ofType .feed).filter (fun q => (s.code q.ctx == 5 || s.sad == 1 || s.lane.change.any (fun ch => ch.old = some q.ctx && ch.phase = .opening)) && (s.at t).expiredTicks (.gateOff q.a0) (us 10) && !s.gateIsOff q.ctx) = [r]) :
    ∃ n, exec (.feedSlowOff t) s = .next n ∧ n.flag (GCH_STS + r.a0) 6 = true ∧ n.flag (ctxAddr r.ctx CTX_STS) 9 = true ∧ Faulted n r.ctx 4 ∧
      (∀ ch, s.lane.change = some ch → ch.old = some r.ctx → n.lane.change = none) ∧ n.mram = s.mram := by
  have h0 : RegsOk (s.at t) := hr
  have hwords : Words (lateGate (s.at t) r) _ := (((Words.refl h0).setFlag (GCH_STS + r.a0) 6 true).sts r.ctx 9).stop (.gateOff r.a0)
  have hch' (k : Nat) := channel_ne_ctxAddr r.ctx k ha
  have hch : (lateGate (s.at t) r).flag (GCH_STS + r.a0) 6 = true := (hwords.flag _ _).trans (by simp [altered, hch'])
  have hcause : (lateGate (s.at t) r).flag (ctxAddr r.ctx CTX_STS) 9 = true := (hwords.flag _ _).trans (by simp [altered])
  have e : exec (.feedSlowOff t) s = finish (s.at t)
      (if ((lateGate (s.at t) r).laneRaise 4 r.ctx none 402).lane.change.any (fun ch => ch.old = some r.ctx) then
        ((lateGate (s.at t) r).laneRaise 4 r.ctx none 402).setChange none
      else ((lateGate (s.at t) r).laneRaise 4 r.ctx none 402)) := by
    have hw' : (s.at t).works = true := hw
    change finish (s.at t) (if (s.at t).works then (s.at t).forEach ((s.ofType .feed).filter (fun q => (s.code q.ctx == 5 || s.sad == 1 || s.lane.change.any (fun ch => ch.old = some q.ctx && ch.phase = .opening)) && (s.at t).expiredTicks (.gateOff q.a0) (us 10) && !s.gateIsOff q.ctx)) _ else s.at t) = _
    rw [if_pos hw', hlate]
    rfl
  have hok := hwords.ok
  have hraise := laneRaise_fault (onlyFault_refl (lateGate (s.at t) r)) 4 r.ctx none 402
  have hfault := laneRaise_faulted (lateGate (s.at t) r) 4 r.ctx none 402 (Option.isSome_iff_exists.mpr ⟨r, hx⟩) hf
  have hmild := (MildlyChanged.refl (s := lateGate (s.at t) r) hok him.1).laneRaise (cls := 4) (c := r.ctx) (sev := none) (site := 402)
  have hslow := (hmild.channelFlag ha (by decide)).trans hch
  have hsts := hmild.status hcause
  have hlane : ((lateGate (s.at t) r).laneRaise 4 r.ctx none 402).lane = s.lane := hraise.lane
  have hmram : ((lateGate (s.at t) r).laneRaise 4 r.ctx none 402).mram = s.mram := hraise.mram
  have hokr := hmild.ok
  generalize (lateGate (s.at t) r).laneRaise 4 r.ctx none 402 = k at e hfault hslow hsts hlane hmram hokr
  split at e
  · have hend : Kept k (k.setChange none) [FSEL_ACTIVE] := kept_setReg hokr _ (by simp)
    exact ⟨_, e, (hend.flag 6 (by simp [channel_ne_active ha])).trans hslow, (hend.flag 9 (by simp [ctxAddr_ne_global r.ctx CTX_STS (by decide : FSEL_ACTIVE < 0x1000)])).trans hsts, hfault, fun _ _ _ => rfl, hmram⟩
  · next hnone =>
    refine ⟨_, e, hslow, hsts, hfault, fun ch hl hold => absurd ?_ hnone, hmram⟩
    simp [hlane, hl, hold]

/-! ### IDEAL_DIODE_TURN_ON (R194) -/

theorem diode_turns_on (c t : Nat) (r : CtxRec) (s : State) (hr : RegsOk s) (hx : s.ctx? c = some r) (ht : r.typ = .feed) (hdiode : r.a1 = 1) (ha : r.a0 < 16) (hen : s.feedEn c = true) (h7 : s.code c ≠ 7) (h4 : s.code c ≠ 4)
    (hin : s.inhibit.contains c = false) (hawake : s.sys ≠ sysDormant ∨ r.dormant = 1) (hup : 8 ≤ s.count (.diode c)) :
    ∃ n, exec (.idealDiodeTurnOn c t) s = .next n ∧ n.drive r.a0 = 1 ∧ n.code c = 4 ∧ n.flag (ctxAddr c CTX_STS) 8 = true ∧ Kept s n [GCH_STS + r.a0, ctxAddr c CTX_STATE, ctxAddr c CTX_STS] ∧ n.mram = s.mram := by
  have e : exec (.idealDiodeTurnOn c t) s = finish (s.at t) ((((s.at t).gateSource r.a0 false).setCode c 4).sts c 8) := by
    have hx' : (s.at t).ctx? c = some r := hx
    have hcond : r.typ = .feed ∧ r.a1 = 1 ∧ (s.at t).feedEn c ∧ (s.at t).code c ≠ 7 ∧ (s.at t).code c ≠ 4 ∧ ¬ (s.at t).inhibit.contains c ∧ ((s.at t).sys ≠ sysDormant ∨ r.dormant = 1) ∧ 8 ≤ (s.at t).count (.diode c) :=
      ⟨ht, hdiode, hen, h7, h4, by rw [show (s.at t).inhibit = s.inhibit from rfl, hin]; decide, hawake, hup⟩
    simp only [exec, execIdealDiodeTurnOn, hx', if_pos hcond]
  have hwords := (((Words.refl (s := s.at t) hr).gateSource r.a0 false).setCode c 4).sts c 8
  have hch (k : Nat) := ctxAddr_ne_channel c k ha
  have hch' (k : Nat) := channel_ne_ctxAddr c k ha
  refine ⟨_, e, (hwords.drive _).trans ?_, (hwords.code c).trans ?_, (hwords.flag _ _).trans ?_, hwords.kept fun a hl => ?_, gateSource_mram (s.at t) r.a0 false⟩
  · simp [altered, hch', bits_putBits_same]
  · simp [altered, hch, bits_putBits_same]
  · simp [altered]
  · simp_all [altered]

/-- Settles O29, instruction by instruction: the old gate off with a target and without, the dead time over, a target and an old gate that are too slow, and an ideal diode that turns on. -/
theorem feedChangesBreakBeforeMake : Obligations.FeedChangesBreakBeforeMake :=
  ⟨change_waits, change_finds_no_feed, fun t c g ch s hr hw he hl hp ht hq hg hlt hoff _ => target_closes t c g ch s hr hw he hl hp ht hq hg hlt hoff, target_fails, gate_stays_on,
    fun c t r s hr hx ht hdiode ha hen h7 h4 hin hawake hup _ => diode_turns_on c t r s hr hx ht hdiode ha hen h7 h4 hin hawake hup⟩

end Sys2Proof
end
